-- ==== Sys2Proof/Word.lean ====
section
/-! DEFINITION. The words of the FGM7416: bytes of packets and frames, 32-bit registers and point values. -/

namespace Sys2Proof

/-- One byte of a packet, a frame or the store (R6). -/
abbrev Byte := BitVec 8

/-- One direct-window register or one point value (R11, Table 05-9). -/
abbrev W32 := BitVec 32

/-- A byte string, lowest-addressed or first-transmitted byte first (R6). -/
abbrev Bytes := List Byte

/-- The value that means "no valid value" (R12). -/
def noVal : W32 := 0x80000000#32

end Sys2Proof
end

