-- ==== Sys2Proof/Syntax.lean ====
section
/-! DEFINITION. The commands and events of the block: one constructor of Instr per row of spec/opcode_table.json,
with what the outside brings to each (a packet, a frame, a converted value, a level), as plain data. -/

namespace Sys2Proof

/-- A frame on the Efdan line as the bus controller sees it (R335, R336); age is how many steps
of 100 ns the sample point of its start-of-frame bit lies before the quantum of the row (R350); dlc is the data length code of a
received classic frame where it lies above 8, else 0. [DESIGN CHOICE, log 88] -/
structure Frame where
  ide : Bool := true
  id : Nat := 0
  fdf : Bool := true
  brs : Bool := false
  esi : Bool := false
  remote : Bool := false
  data : Bytes := []
  age : Nat := 0
  dlc : Nat := 0
deriving DecidableEq, Repr

/-- A frame on the Minuet link (R376); crc is its CRC field, none for one that is as it should be; good is false when its code failed.
[DESIGN CHOICE, log 88] -/
structure LinkFrame where
  typ : Nat
  seq : Nat := 0
  payload : Bytes := []
  good : Bool := true
  crc : Option Nat := none
deriving DecidableEq, Repr

/-- How far a store write had come when it was cut without warning (R397, Table 18-2): whole groups written, then the
bytes the torn group is left with, how many of its bits disagree with its check byte, and which of its bytes are indeterminate; lands is
whether a record of the device reads whole all the same, all its bytes having come out new or old. [DESIGN CHOICE, log 7] -/
structure StoreCut where
  groupsDone : Nat
  torn : Bytes := []
  tornBits : Nat := 0
  unsteady : List Nat := []
  lands : Option Bool := none
deriving DecidableEq, Repr

/-- What the line measurement brings to a beat boundary: mean intake of the beat that ends [mW] (R63) and the smallest
own dip [10 mV] (R333); and the groups of the store that from this beat on do not verify when they are written (R393, R402).
[DESIGN CHOICE, log 100] -/
structure BeatObs where
  intakeMw : Nat := 0
  dipMin : Nat := 0
  worn : List Nat := []
deriving DecidableEq, Repr

/-- A finished bridge conversion (R140, R143, R151, R154): the unlimited code, or the results of phases A and B, of which the code is
half the difference; the side on which a pad left its window, and whether an excitation condition held. [DESIGN CHOICE, log 7]
[DESIGN CHOICE, log 87] -/
structure PtObs where
  code : Int
  phaseB : Option Int := none
  padOut : Option Bool := none
  excCond : Bool := false
deriving DecidableEq, Repr

/-- A finished capacitance conversion (R161): the unlimited code and whether the drive was at its current limit.
[DESIGN CHOICE, log 7] -/
structure HuObs where
  code : Int
  driveLimit : Bool := false
deriving DecidableEq, Repr

/-- A finished SAR conversion (R178, R179): the raw code, and some true (above) or some false (below) when the input
comparators found an overrange; edgeNear for a bank sample within 2 µs of a switching edge (R229); earlier when the sample
instant lay in the quantum before the end. [DESIGN CHOICE, log 7] [DESIGN CHOICE, log 87] -/
structure SarObs where
  raw : Int
  ovr : Option Bool := none
  edgeNear : Bool := false
  earlier : Bool := false
deriving DecidableEq, Repr

/-- The bytes of a window write after ADDR (R94), and the quanta that pass before the fourth byte of each register.
[DESIGN CHOICE, log 71] -/
structure WindowData where
  bytes : List Byte
  gaps : List Nat := []
deriving DecidableEq, Repr

/-- A transaction by its type byte (Table 05-1); of a window read also ADDR, the number of bytes clocked after the type byte, and the
quanta that pass before each register is sampled (R94). [DESIGN CHOICE, log 71] -/
structure Transaction where
  type : Byte
  addr : Nat := 0
  clocked : Nat := 0
  gaps : List Nat := []
deriving DecidableEq, Repr

/-- What CAL_SELF measured (R181). -/
structure CalObs where
  gainU : Nat
  ofsU : Int
  gainD : Nat
  ofsD : Int
  vanaOk : Bool := true
deriving DecidableEq, Repr

/-- A new level at the comparator of a field input (R250, R251): the pad voltage [mV], and the sample since which every one has
shown it. [DESIGN CHOICE, log 7] -/
structure DiObs where
  mv : Int
  t0 : Nat
deriving DecidableEq, Repr

/-- A change seen in DOZE (R250, R254): the input, and its pad voltage [mV]. [DESIGN CHOICE, log 7] -/
structure DiDozeObs where
  ch : Nat
  mv : Int
deriving DecidableEq, Repr

/-- One presence sample (R188, R189, R194, R195): the input in steps of 0.125 µV, the finest LSB, whether the converter overranged, the DC
level [mV], and whether the group's bias is at its current limit. [DESIGN CHOICE, log 7] -/
structure PrObs where
  input : Int
  ovr : Bool := false
  dcMv : Nat := 1000
  biasLimit : Bool := false
deriving DecidableEq, Repr

/-- The drive die's VACT measurement in the period of a regulation sample [mV] (R207). [DESIGN CHOICE, log 7]
[DESIGN CHOICE, log 87] -/
structure VlObs where
  vactMv : Nat
deriving DecidableEq, Repr

/-- The end of a phase of a coil test (R226): the VACT measurement, and whether the 20 ms of step 1 ran out. -/
structure DiagObs where
  vactMv : Nat
  timeout : Bool := false
deriving DecidableEq, Repr

/-- A falling tachometer edge (R240): 5 ns counts since the last accepted edge, width of the pulse [ns] and distance
to the nearest edge of the fan output [ns]. [DESIGN CHOICE, log 87] -/
structure TachObs where
  count : Nat
  widthNs : Nat
  fnEdgeNs : Nat
deriving DecidableEq, Repr

/-- A failed transmission attempt (R339, R355): of the vigil slot (0), the allotment slot (1) or the FIFO head (2);
err is 0 for lost arbitration, else the LASTERR code of R358; inData when the bit lay after the arbitration field and
before the CRC delimiter; tecInc is what ISO 11898-1 adds to TEC; tdc is the transmitter delay where the attempt came as far as its
measurement (R319). [DESIGN CHOICE, log 7] -/
structure TxFailObs where
  who : Nat
  err : Nat
  inData : Bool := false
  tecInc : Nat := 8
  tdc : Option Nat := none
deriving DecidableEq, Repr

/-- An error in a received frame (R353): the LASTERR code and what ISO 11898-1 adds to REC. -/
structure RxErrObs where
  err : Nat
  recInc : Nat := 1
deriving DecidableEq, Repr

/-- What the recall finds in the cells (R395, R398, R400, R404): whether an area's body CRC fails, whether a unit
record had a torn copy, the groups in error, corrected or uncorrectable; the journal records, by area and place, and the epoch marks, by
area and slot, whose CRC fails; the copies of unit records whose CRC fails, by record, the older copy for true; the areas whose header
CRC fails; and the groups whose bytes now read as others, reported or not.
[DESIGN CHOICE, log 7] [DESIGN CHOICE, log 85] -/
structure RecallObs where
  badA : Bool := false
  badB : Bool := false
  unitTorn : Bool := false
  corrected : List Nat := []
  uncorrectable : List Nat := []
  badRecords : List (Bool × Nat) := []
  badMarks : List (Bool × Nat) := []
  badUnits : List (Nat × Bool) := []
  badHdrs : List Bool := []
  changed : List (Nat × List Byte) := []
deriving DecidableEq, Repr

/-- The commands and events of the block, one per row of the table. A command row takes its packet's TAG and PARAMS
(R95, R96); an event row takes what its happening brings from outside the device. -/
inductive Instr where
  /-- EF_P to EF_N stays below 20.0 V for 500 µs, or VPRE stays below 9.5 V for 2 µs, and the device resets with cause BORLINE. (R58) -/
  | lineBrownOut (byVpre : Bool)
  /-- VIO, VCORE or VANA stays below its brown-out level for 2 µs and the device resets with cause BORRAIL. (R58) -/
  | railBrownOut (cut : Option StoreCut)
  /-- A low pulse on RESET_N that is taken causes a complete device reset recorded as PIN. (R58) -/
  | resetNAssert (widthNs : Nat) (taken : Bool) (cut : Option StoreCut)
  /-- The internal reset is released 100 µs after the later of power good and the end of every reset source, and RESET_DONE is raised. (R43) -/
  | resetRelease (straps : Nat) (tmode : Bool)
  /-- An enabled wake source fires in DOZE, which starts the RC oscillator and puts the device in NAP. (R57) -/
  | wakeFromDoze (src : Nat)
  /-- An allotment grant frame is received, checked against SERIAL and CLASS, and acted on as Table 03-3 gives. (R331) -/
  | allotGrantFrame (f : Frame)
  /-- Every 100 µs in NAP and RUN the line voltage is measured, the limiter limit is recomputed and PMLN is updated. (R46) -/
  | lineMeasure (line10mV : Nat)
  /-- VPRE falls below 10.8 V, so the backlight, display rails and field transfer stop and PFW is raised. (R59) -/
  | powerFailWarning (pagesDone : Nat)
  /-- At each beat boundary every staged write commits, measured points are latched and the epoch advances if anything committed. (R14) -/
  | beatBoundary (obs : BeatObs)
  /-- At each round boundary the calendar advances and the round work of zones, loops, rules and models starts. (R266) -/
  | roundBoundary (loopsDone : Nat)
  /-- A commit group open for 200 beats is lost and GROUP_LOST is raised. (R79) -/
  | groupExpiry (g : Nat)
  /-- A snapshot buffer with no SNAP_READ for 2 rounds is released and SNAP_EXPIRED is raised. (R81) -/
  | snapExpiry (h : Nat)
  /-- A command write transaction ends and the packet is checked for SYNC, length, CRC and mailbox room, then received. (R98) -/
  | commandWrite (packet : List Byte)
  /-- A reply read transaction shifts out the oldest readable reply and consumes it if read whole. (R93) -/
  | replyRead (clocked : Nat)
  /-- A transaction with an unlisted type byte is ignored, HLST.LERR is set and LINK_ERROR is raised. (R92) -/
  | unknownTransaction (x : Transaction)
  /-- A window write writes each complete register in the quantum its fourth byte arrives, with the access code of each field. (R94) -/
  | windowWrite (addr : Nat) (data : WindowData)
  /-- A W1C write to EVST or EVOV clears event status bits, which may release an interrupt pad in the next quantum. (R123) -/
  | evstClear (k : Nat) (ovf : Bool) (bits : W32)
  /-- A read of TBLO returns TB[31:0] and copies TB[47:32] into TBHI in the same quantum. (R132) -/
  | tbloRead
  /-- A TXFPUSH write with PUSH copies the staging registers into a new FIFO entry, or fails with PFWHY. (R344) -/
  | txfPush (flushFirst : Bool)
  /-- A W1C write of VALID frees a key queue entry. (R442) -/
  | kqeFree (i : Nat)
  /-- An interrupt pulse of 2 µs and its following high time end, and any raises during them produce one further pulse. (R126) -/
  | irqPulseEnd (padB : Bool)
  /-- A command without a final reply 20 ms after receipt gets a DEFERRED reply with its REASON. (R107) -/
  | deferredTimeout (remote : Bool) (slot : Nat)
  /-- A deferred command not taken within 2 rounds of its DEFERRED reply is ended BUSY and CMD_EXPIRED is raised. (R109) -/
  | deferredExpiry (remote : Bool) (slot : Nat)
  /-- An FD frame with FUNC 0x04 and the node key enters the remote mailbox, or is discarded with RFULL when it is full. (R120) -/
  | remoteRecordArrival (f : Frame)
  /-- Returns the current epoch with no effect. (R111) -/
  | nop (tag : Byte) (params : List Byte)
  /-- Checks KEY and schedules a device reset after its reply. (R62) -/
  | devReset (tag : Byte) (params : List Byte)
  /-- Stages the allotment class and backlight line power, acted on as Table 03-3 gives. (R62) -/
  | pwrConfig (tag : Byte) (params : List Byte)
  /-- Returns power manager state, grant, line values, running units and reset cause. (R62) -/
  | pwrStatus (tag : Byte) (params : List Byte)
  /-- Starts the named units and the units they need in a Pavane at the apply quantum. (R53) -/
  | startGroup (tag : Byte) (params : List Byte)
  /-- Stops the named units in reverse order at the apply quantum unless a running unit needs them. (R52) -/
  | stopGroup (tag : Byte) (params : List Byte)
  /-- Loads a key slot with key, class mask and counter start, staged and persisted. (R115) -/
  | authKeyLoad (tag : Byte) (params : List Byte)
  /-- Empties a key slot, staged and persisted. (R115) -/
  | authKeyClear (tag : Byte) (params : List Byte)
  /-- Returns the state, mask, counter, failures and check value of a key slot. (R111) -/
  | authStatus (tag : Byte) (params : List Byte)
  /-- Sets the calendar, or arms or disarms the alarm, from the first round boundary after the apply quantum. (R136) -/
  | rtcSet (tag : Byte) (params : List Byte)
  /-- Returns the calendar, weekday, flags and the TB of the current second's boundary. (R135) -/
  | rtcGet (tag : Byte) (params : List Byte)
  /-- Returns the current, acknowledged and persisted epochs and the TB of the last commit. (R86) -/
  | epochGet (tag : Byte) (params : List Byte)
  /-- Checks and stages, or holds in a group, up to 40 point writes as one commit. (R74) -/
  | pointWrite (tag : Byte) (params : List Byte)
  /-- Stages or holds a write into an object body, conditional on IF_EPOCH at commit. (R77) -/
  | objWrite (tag : Byte) (params : List Byte)
  /-- Allocates a commit group number from 1 to 8. (R78) -/
  | groupOpen (tag : Byte) (params : List Byte)
  /-- Stages a group's held writes to commit together, or discards the group. (R78) -/
  | groupClose (tag : Byte) (params : List Byte)
  /-- Copies the named items of the current epoch into a snapshot buffer and returns its handle. (R81) -/
  | snapTake (tag : Byte) (params : List Byte)
  /-- Returns bytes of a snapshot buffer with the snapshot's epoch. (R81) -/
  | snapRead (tag : Byte) (params : List Byte)
  /-- Releases a snapshot buffer. (R81) -/
  | snapFree (tag : Byte) (params : List Byte)
  /-- Stages group or channel bridge configuration, restarting a running group's cycle at the apply quantum. (R157) -/
  | ptConfig (tag : Byte) (params : List Byte)
  /-- Starts the named excitation groups, adding their Pavane steps where needed. (R157) -/
  | ptStart (tag : Byte) (params : List Byte)
  /-- Stops the named groups with excitation off at the apply quantum. (R158) -/
  | ptStop (tag : Byte) (params : List Byte)
  /-- Starts a zero or full capture, computes and persists coefficients, discards captures or erases coefficients. (R146) -/
  | ptCal (tag : Byte) (params : List Byte)
  /-- Stages a channel's linearisation and its coefficients. (R149) -/
  | ptLinear (tag : Byte) (params : List Byte)
  /-- Returns a bridge channel's flags, result, calibration and capture status. (R164) -/
  | ptStatus (tag : Byte) (params : List Byte)
  /-- Stages capacitance converter timing or a channel's setup. (R160) -/
  | huConfig (tag : Byte) (params : List Byte)
  /-- Runs a capacitance calibration step as PT_CAL does. (R162) -/
  | huCal (tag : Byte) (params : List Byte)
  /-- Returns a capacitance channel's flags, result and calibration status. (R164) -/
  | huStatus (tag : Byte) (params : List Byte)
  /-- Stages the entry table of an integrator sequence. (R173) -/
  | sarSeq (tag : Byte) (params : List Byte)
  /-- Stages the trigger source, unit, delay, period and phase of a sequence. (R174) -/
  | sarTrig (tag : Byte) (params : List Byte)
  /-- Starts SAR self-calibration, holding integrator sequences while it runs. (R181) -/
  | calSelf (tag : Byte) (params : List Byte)
  /-- Starts the named sequences accepting triggers, or runs one instance under SRC 0. (R182) -/
  | sarStart (tag : Byte) (params : List Byte)
  /-- Stops the named sequences, discarding instances in progress. (R182) -/
  | sarStop (tag : Byte) (params : List Byte)
  /-- Stages presence mode or an input's detection setup, restarting the input where required. (R200) -/
  | prConfig (tag : Byte) (params : List Byte)
  /-- Stages an input's wake comparator enable, threshold and wake credit. (R197) -/
  | prWake (tag : Byte) (params : List Byte)
  /-- Returns an input's status or the summary latches, clearing the latches it reports. (R201) -/
  | prStatus (tag : Byte) (params : List Byte)
  /-- Stages a valve channel's currents, boost, chopping and pull-in settings, restarting it if energised. (R222) -/
  | vlConfig (tag : Byte) (params : List Byte)
  /-- Stages valve setpoints on, off or restart, acted on at the apply quantum per Table 10-5. (R221) -/
  | vlSet (tag : Byte) (params : List Byte)
  /-- Stages the decay modes per phase and MIXPCT of a channel. (R215) -/
  | vlDecay (tag : Byte) (params : List Byte)
  /-- Stages a duty window and limit, restarting the series of windows. (R224) -/
  | vlDuty (tag : Byte) (params : List Byte)
  /-- Stages a bank's mode, current budget and stagger. (R216) -/
  | vlBank (tag : Byte) (params : List Byte)
  /-- Queues a coil test of an off channel for the bank's boost slot. (R226) -/
  | vlDiag (tag : Byte) (params : List Byte)
  /-- Returns a valve channel's or bank's status. (R232) -/
  | vlStatus (tag : Byte) (params : List Byte)
  /-- Clears latched channel and bank faults at the apply quantum. (R228) -/
  | vlClear (tag : Byte) (params : List Byte)
  /-- Stages an analog output's enable, slew rate and mismatch tolerance. (R235) -/
  | aoConfig (tag : Byte) (params : List Byte)
  /-- Returns an analog output's or floating drive's status. (R247) -/
  | aoStatus (tag : Byte) (params : List Byte)
  /-- Stages a fan channel's PWM, tachometer and stall settings. (R238) -/
  | fnConfig (tag : Byte) (params : List Byte)
  /-- Returns a fan channel's duty, period, speed and stall status. (R247) -/
  | fnStatus (tag : Byte) (params : List Byte)
  /-- Stages a floating drive's members, target point, stroke and dead band. (R242) -/
  | floatConfig (tag : Byte) (params : List Byte)
  /-- Stages a field input's type, filter, wire break and wake settings, restarting its filter. (R263) -/
  | diConfig (tag : Byte) (params : List Byte)
  /-- Stages a field output's enable, retry and LOSS state. (R263) -/
  | doConfig (tag : Byte) (params : List Byte)
  /-- Returns the field input and output status and link state. (R263) -/
  | fioStatus (tag : Byte) (params : List Byte)
  /-- Clears latched SHORT on the named outputs at the apply quantum. (R257) -/
  | fioClear (tag : Byte) (params : List Byte)
  /-- Stages a zone's MODESEL. (R295) -/
  | zoneMode (tag : Byte) (params : List Byte)
  /-- Stages a timed override mode and end for a zone, or cancels it. (R295) -/
  | zoneOverride (tag : Byte) (params : List Byte)
  /-- Stages SUSPEND of the named loops. (R295) -/
  | loopRun (tag : Byte) (params : List Byte)
  /-- Returns run and skip counters, clearing them with CLEAR 1. (R289) -/
  | loopStats (tag : Byte) (params : List Byte)
  /-- Restores a zone's thermal model to its initial values and covariance. (R290) -/
  | modelReset (tag : Byte) (params : List Byte)
  /-- Stages which zones and points are published and how often. (R293) -/
  | pubConfig (tag : Byte) (params : List Byte)
  /-- Stages SUSPEND of the named schedules. (R275) -/
  | schedRun (tag : Byte) (params : List Byte)
  /-- Returns a zone's scheduled mode at a given time and its next switch. (R279) -/
  | schedResolve (tag : Byte) (params : List Byte)
  /-- Stages the time-zone offsets and daylight-time rules. (R277) -/
  | tzConfig (tag : Byte) (params : List Byte)
  /-- Stages SUSPEND of the named rules. (R308) -/
  | ruleRun (tag : Byte) (params : List Byte)
  /-- Returns a rule's state and values from the last step 4, or the summary maps. (R312) -/
  | ruleStatus (tag : Byte) (params : List Byte)
  /-- Stages an interlock table entry, acting on its trip and latch state at the apply quantum. (R299) -/
  | ilkWrite (tag : Byte) (params : List Byte)
  /-- Returns an interlock entry and its state. (R312) -/
  | ilkRead (tag : Byte) (params : List Byte)
  /-- Arms or disarms the interlock table and places pending clears on latched entries. (R299) -/
  | ilkArm (tag : Byte) (params : List Byte)
  /-- Returns the tripped, latched and gated outputs of the interlock table. (R312) -/
  | ilkStatus (tag : Byte) (params : List Byte)
  /-- Stages the safe-state mode and level of a set of outputs. (R304) -/
  | safeSet (tag : Byte) (params : List Byte)
  /-- Stages bus rates, sample points, mode, recovery and node identity. (R351) -/
  | busConfig (tag : Byte) (params : List Byte)
  /-- Makes the controller integrate, optionally after sending a wake pattern. (R351) -/
  | busStart (tag : Byte) (params : List Byte)
  /-- Puts the controller into bus sleep at the next bus-idle point, optionally flushing. (R351) -/
  | busSleep (tag : Byte) (params : List Byte)
  /-- Queues a frame in the transmit FIFO and returns its TXSEQ. (R340) -/
  | busSend (tag : Byte) (params : List Byte)
  /-- Returns the controller's error state and counters. (R357) -/
  | busStatus (tag : Byte) (params : List Byte)
  /-- Starts bus-off recovery and optionally flushes the FIFO. (R354) -/
  | busRecover (tag : Byte) (params : List Byte)
  /-- Returns the unit's role, mirror, leases, term and epochs. (R389) -/
  | pairStatus (tag : Byte) (params : List Byte)
  /-- Sets ACKTO, KEYFWD and the caller key on this unit alone. (R389) -/
  | pairConfig (tag : Byte) (params : List Byte)
  /-- Requests a planned handover by setting HANDOVER in the active's vigils and stopping staging. (R374) -/
  | pairHandover (tag : Byte) (params : List Byte)
  /-- Stages a caller slot's enable, unit serials and ELECTWAIT. (R389) -/
  | callerConfig (tag : Byte) (params : List Byte)
  /-- Returns a caller slot's election state, active unit and vigil ages. (R389) -/
  | callerStatus (tag : Byte) (params : List Byte)
  /-- Reads user-region bytes with their ECC outcome. (R417) -/
  | nvmRead (tag : Byte) (params : List Byte)
  /-- Writes and verifies bytes of the user region. (R417) -/
  | nvmWrite (tag : Byte) (params : List Byte)
  /-- Sets and persists the block-protect level. (R412) -/
  | nvmProtect (tag : Byte) (params : List Byte)
  /-- Defines and persists a ring, optionally clearing its area. (R405) -/
  | ringConfig (tag : Byte) (params : List Byte)
  /-- Appends or replaces a ring record, verifying each copy. (R407) -/
  | ringAppend (tag : Byte) (params : List Byte)
  /-- Reads a ring record, answering AMBIGUOUS when valid copies differ. (R408) -/
  | ringRead (tag : Byte) (params : List Byte)
  /-- Reads a device log as RING_READ reads a ring. (R410) -/
  | logRead (tag : Byte) (params : List Byte)
  /-- Writes patch bytes into the patch area, clearing the recorded digest at offset 0. (R414) -/
  | patchLoad (tag : Byte) (params : List Byte)
  /-- Verifies and records a patch digest, or clears it, for the next reset. (R414) -/
  | patchActivate (tag : Byte) (params : List Byte)
  /-- Returns recall, image, ECC and patch status and re-arms NVM_ECC. (R417) -/
  | nvmStatus (tag : Byte) (params : List Byte)
  /-- Stages the display mode, segment map, bands, rails and recovery settings. (R419) -/
  | dspConfig (tag : Byte) (params : List Byte)
  /-- Stages the page to be shown, or blank. (R422) -/
  | dspShow (tag : Byte) (params : List Byte)
  /-- Stages a row of the LCD or bistable overdrive table. (R423) -/
  | dspOverdrive (tag : Byte) (params : List Byte)
  /-- Stages a bistable figure definition for a band. (R427) -/
  | dspFigure (tag : Byte) (params : List Byte)
  /-- Stages backlight levels and fade time. (R434) -/
  | dspBacklight (tag : Byte) (params : List Byte)
  /-- Returns display state, pages, band, rails and backlight. (R435) -/
  | dspStatus (tag : Byte) (params : List Byte)
  /-- Stages the key matrix and debounce settings, or a key's action. (R446) -/
  | keyConfig (tag : Byte) (params : List Byte)
  /-- Stages an encoder's detent, direction and point action, clearing its accumulator. (R440) -/
  | encConfig (tag : Byte) (params : List Byte)
  /-- Stages the key lock, unlock sequence and autolock interval. (R444) -/
  | keyLock (tag : Byte) (params : List Byte)
  /-- Returns lock, pressed and withheld keys, counters and encoder positions. (R446) -/
  | keyStatus (tag : Byte) (params : List Byte)
  /-- Returns thermal state, diode and rail readings and re-arm time. (R459) -/
  | hkStatus (tag : Byte) (params : List Byte)
  /-- Stages thermal warning and shutdown thresholds. (R459) -/
  | thermConfig (tag : Byte) (params : List Byte)
  /-- Clears the thermal latch and its stamps, re-arming under R455. (R456) -/
  | thermClear (tag : Byte) (params : List Byte)
  /-- Reads a thermal record. (R459) -/
  | thermLog (tag : Byte) (params : List Byte)
  /-- Returns the first capability record. (R89) -/
  | capFirst (tag : Byte) (params : List Byte)
  /-- Returns the capability record at an offset. (R89) -/
  | capNext (tag : Byte) (params : List Byte)
  /-- Returns the host link, deferral and remote counters. (R111) -/
  | linkStats (tag : Byte) (params : List Byte)
  /-- Clears the host link, deferral and remote counters. (R111) -/
  | linkClear (tag : Byte) (params : List Byte)
  /-- 1 ms after a group's excitation starts, its first cycle begins. (R157) -/
  | ptGroupFirstCycle (g : Nat)
  /-- A bridge conversion ends and its result record posts to the mirror with its flags. (R140) -/
  | ptResultPost (ch : Nat) (obs : PtObs)
  /-- A group's excitation limit is met or Vref falls below 50 mV, so every result carries EFAULT. (R154) -/
  | excitationFault (g : Nat)
  /-- A capacitance conversion ends and its result posts with humidity and flags. (R161) -/
  | huResultPost (ch : Nat) (obs : HuObs)
  /-- A SAR conversion ends, its result posts and the next conversion is chosen by port priority. (R170) -/
  | sarConversionEnd (obs : SarObs)
  /-- A valve regulation sample falls due, preempting an acquisition from another port. (R171) -/
  | regulationRequestDue (unit : Nat) (inPhase : Bool)
  /-- A regulation request not begun 2 µs after its due instant is dropped and counted. (R171) -/
  | regulationRequestDrop (unit : Nat)
  /-- A sequence's trigger instant arrives and its instance starts, or the trigger is dropped as a miss. (R174) -/
  | sarTrigger (k : Nat)
  /-- Self-calibration completes after 42 ms, loading and persisting factors or failing. (R181) -/
  | calSelfDone (obs : CalObs)
  /-- The housekeeping reading posts, HK points and checks are evaluated and HK_ROUND is raised. (R449) -/
  | hkReadingPost (why : Nat)
  /-- When the SAR starts at Pavane step 2, a start reading of the diode and checks posts. (R449) -/
  | hkStartReading (why : Nat)
  /-- Every millisecond each sampled presence input is converted and band-passed, and excursions and motion pulses are judged. (R188) -/
  | prSample (ch : Nat) (obs : PrObs)
  /-- A count window ends before PC excursions qualified, and its count is discarded. (R192) -/
  | prCountWindowEnd (ch : Nat)
  /-- The hold-off after a motion pulse ends and excursions count again. (R192) -/
  | prHoldoffEnd (ch : Nat)
  /-- An input becomes armed once 1 s after its first sample and WARMUP after bias-on have passed. (R190) -/
  | prArmed (ch : Nat)
  /-- 500 ms after the last overranging sample, counting resumes. (R194) -/
  | prBlankEnd (ch : Nat)
  /-- After 1 s within its conditions a faulted input clears and re-arms. (R195) -/
  | prFaultClear (ch : Nat)
  /-- A wake comparator finds two samples beyond WTH, raises PR_WAKE and may give a wake credit. (R197) -/
  | prWakeComparator (ch : Nat)
  /-- A valve channel's chopping period starts, taking any new phase, IHOLD or decay mode. (R210) -/
  | vlCarrierStart (ch : Nat)
  /-- A coil current sample posts and the channel's phase progress and next duty are computed. (R212) -/
  | vlRegulationSample (ch : Nat) (obs : VlObs)
  /-- The head of a bank's queue is admitted to boost once stagger, shared mode and limit allow. (R218) -/
  | vlBoostAdmit (bank : Nat)
  /-- TBOOST expires, ending the boost and acting on a missing pull-in by NPACT. (R209) -/
  | vlTboostExpiry (ch : Nat)
  /-- PIEXT after the pull-in point the boost ends and the channel enters FALL. (R206) -/
  | vlPiextEnd (ch : Nat)
  /-- 10 ms in FALL pass and the channel enters HOLD. (R206) -/
  | vlFallTimeout (ch : Nat)
  /-- 2 ms into a boost the current is below 20 mA and fault 1 latches. (R227) -/
  | vlOpenCheck (ch : Nat)
  /-- After 10 ms with one channel energised and none waiting, the bank returns to single mode. (R216) -/
  | vlBankSingleReturn (bank : Nat)
  /-- At the end of each 100 ms bank window, BANK_LIMIT is judged and may clear. (R219) -/
  | vlBankWindow (bank : Nat)
  /-- A new duty window begins, clearing DUTYLIM and readmitting an on channel. (R224) -/
  | vlDutyWindowStart (ch : Nat)
  /-- A channel's on-quanta reach LIMIT in its window and it turns off or warns by ACTION. (R224) -/
  | vlDutyLimitReached (ch : Nat)
  /-- A channel comparator exceeds 3.0 A and the channel latches a short or overcurrent. (R227) -/
  | vlComparatorTrip (ch : Nat)
  /-- A clamp overheats or VL exceeds 52 V and fault 5 latches. (R227) -/
  | vlClampFault (ch : Nat)
  /-- The HS comparator exceeds 6.0 A and the bank latches BFAULT. (R229) -/
  | bankComparatorTrip (bank : Nat)
  /-- A coil test reaches ITEST, ends its 20 ms regulation or times out, and its results load. (R226) -/
  | vlDiagPhaseEnd (ch : Nat) (obs : DiagObs)
  /-- Every 10 µs a slewing analog output steps along its line. (R235) -/
  | aoSlewStep (ch : Nat)
  /-- An AO readback converts and is compared with the applied or gated level. (R236) -/
  | aoReadback (ch : Nat) (obs : SarObs)
  /-- An output at its current limit for 10 ms latches FAULT and takes its Reset state. (R237) -/
  | aoCurrentLimit (ch : Nat)
  /-- At the first round boundary 10 s after a fault the output is retried. (R237) -/
  | aoRetry (ch : Nat)
  /-- A fan PWM period starts, taking any new DUTY or FREQ. (R238) -/
  | fnPeriodStart (ch : Nat)
  /-- An accepted tachometer falling edge updates the fan speed. (R240) -/
  | ftEdge (ch : Nat) (obs : TachObs)
  /-- No edge accepted for 2 s makes RPM read 0. (R240) -/
  | ftTimeout (ch : Nat)
  /-- No edge since start at SPINUP plus STALLT sets TACHLOST. (R241) -/
  | fnTachLost (ch : Nat)
  /-- RPM below STALLRPM for STALLT sets STALL and may stop the fan. (R241) -/
  | fnStall (ch : Nat)
  /-- 10 s after a stall stop the fan restarts at its applied duty with SPINUP. (R241) -/
  | fnStallRestart (ch : Nat)
  /-- A floating drive run ends, updating P and starting another run or raising FLOAT_DONE. (R243) -/
  | floatRunEnd (fd : Nat)
  /-- The 200 ms pause before a reversal ends and the drive runs the other way. (R243) -/
  | floatReversalEnd (fd : Nat)
  /-- An unsure drive ends its CLOSE run, sets P to 0 and follows its target. (R244) -/
  | floatHomingEnd (fd : Nat)
  /-- L+ has stayed above 16.0 V for 10 ms and is reported present. (R248) -/
  | lplusPresent (l10mV : Nat)
  /-- L+ has stayed below 15.0 V for 100 µs and is reported lost. (R248) -/
  | lplusLost (l10mV : Nat)
  /-- 8 failed frames or 8 µs without a frame mark inputs invalid and put outputs in LOSS. (R249) -/
  | fieldLinkFault (failed : Nat)
  /-- An input's level has held for its filter time and its filtered level changes. (R251) -/
  | diFilteredChange (ch : Nat) (obs : DiObs)
  /-- Each millisecond the field die produces an input's mean current for wire-break classification. (R252) -/
  | diCurrentMean (ch : Nat) (ua : Nat) (v10mV : Nat)
  /-- Means below 0.35 mA for WBTIME declare wire break. (R252) -/
  | diWireBreakDeclare (ch : Nat)
  /-- Means at or above 0.40 mA for WBTIME clear wire break. (R252) -/
  | diWireBreakClear (ch : Nat)
  /-- In DOZE an input's comparator shows the other level through its filtering and raises DI_CHANGE. (R254) -/
  | diDozeChange (obs : DiDozeObs)
  /-- An output in current limit for 2 ms turns off and latches SHORT. (R257) -/
  | doShort (ch : Nat)
  /-- With RETRY 1, a shorted output is retried at a round boundary 10 s later. (R257) -/
  | doRetry (ch : Nat)
  /-- An output's junction exceeds 160 °C and it turns off with OVT. (R258) -/
  | doOvertemp (ch : Nat)
  /-- The junction falls below 140 °C and the output returns to its command. (R258) -/
  | doOvertempEnd (ch : Nat)
  /-- An output on for 100 ms below 3 mA sets OPEN. (R259) -/
  | doOpen (ch : Nat)
  /-- 100 ms at or above 5 mA clears OPEN. (R259) -/
  | doOpenClear (ch : Nat)
  /-- An interlock entry's condition has held for TON and it trips, gating its outputs. (R299) -/
  | ilkTrip (i : Nat)
  /-- An unlatched entry's condition has been false for TOFF, or a pending clear meets a false condition, and it releases. (R299) -/
  | ilkRelease (i : Nat)
  /-- A valid frame is withheld, passed to the pairing unit or offered to the filters and posted to a buffer. (R346) -/
  | frameReceived (f : Frame)
  /-- A frame becomes valid for the transmitter and its entry leaves with outcome SENT. (R342) -/
  | txFrameSent (k : Nat) (tdc : Nat) (age : Nat)
  /-- A transmission loses arbitration or meets an error and the frame is offered again or leaves as ONESHOT_FAIL. (R339) -/
  | txAttemptFail (obs : TxFailObs)
  /-- The tracked resting level has been out of range for 10 ms. (R332) -/
  | lineFaultRange (vrest10mV : Nat)
  /-- 32 own dominant bits end with the sink at its limit and a dip under 6.0 V. (R332) -/
  | lineFaultWeak (dip10mV : Nat)
  /-- A line fault's ending condition of Table 15-6 is met and its live bit clears. (R332) -/
  | lineFaultEnd (which : Nat)
  /-- A pair unit accepts a verdict, taking its term and renewing its caller lease or changing role. (R364) -/
  | verdictFrame (f : Frame)
  /-- The caller receives a vigil and updates the sender's alive state and reported epoch. (R367) -/
  | vigilAtCaller (f : Frame)
  /-- At each caller beat boundary, or on any change, a verdict is loaded. (R366) -/
  | callerVerdictLoad (onChange : Bool)
  /-- 30 ms after a unit's last vigil it stops being alive. (R367) -/
  | unitAliveTimeout (slot : Nat) (unitB : Bool)
  /-- An active whose vigils show STATE 0 or 2 for 30 ms fails. (R367) -/
  | activeStateTimeout (slot : Nat)
  /-- ELECTWAIT after electing began, a slot with one alive unit elects it. (R368) -/
  | electwaitExpiry (slot : Nat)
  /-- A LINK frame is received, bringing the link up after 3 with complementary straps. (R377) -/
  | minuetLinkFrame (lf : LinkFrame)
  /-- A LEASE frame from the standby renews the active's partner lease. (R361) -/
  | leaseFrame (lf : LinkFrame)
  /-- A TAKEOVER frame with a newer term makes the active release the role. (R371) -/
  | takeoverFrame (lf : LinkFrame)
  /-- A DHEAD, DBLOCK or DTRAIL frame arrives and a complete delta is applied, persisted and acknowledged. (R379) -/
  | deltaFrame (lf : LinkFrame)
  /-- A CHEAD, CBLOCK or CTRAIL frame arrives and a complete copy makes its area current and is acknowledged. (R381) -/
  | copyFrame (lf : LinkFrame)
  /-- An ACK of an epoch makes waiting replies readable. (R380) -/
  | ackFrame (lf : LinkFrame)
  /-- A SYNCREQ makes the active resend deltas or send a full copy. (R382) -/
  | syncreqFrame (lf : LinkFrame)
  /-- A forwarded key or encoder event arrives at the active and is acted on as its own. (R445) -/
  | keyevtFrame (lf : LinkFrame)
  /-- The store recall and scan complete, STEPOCH takes the persisted epoch and NVM_READY is raised. (R398) -/
  | nvmRecallDone (obs : RecallObs)
  /-- A segment's figure ends and the segment goes to 0 V. (R429) -/
  | dspFigureEnd (seg : Nat)
  /-- A column slot ends, the rows are sampled and debounce and ghosting are judged. (R437) -/
  | keyColumnScan (col : Nat) (rows : BitVec 8)
  /-- Every 50 µs encoder lines are sampled and quarter steps and detents are taken. (R440) -/
  | encSample (lines : BitVec 8)
  /-- A key press in DOZE pulls a row low and raises KEY_WAKE. (R441) -/
  | keyWake (code : Nat)
  /-- An encoder edge in DOZE raises ENC_WAKE. (R441) -/
  | encWake (enc : Nat)
  /-- RPM has stayed at or above STALLRPM for STALLT, and STALL clears. (R241) -/
  | fnStallClear (ch : Nat)
  /-- After reset, after L+ becomes present or after the field link returns, an input becomes valid at the end of its first full filter interval. (R261) -/
  | diInputValid (ch : Nat) (mv : Int)
  /-- The bus controller detects an error in a frame it is receiving, raises REC under ISO 11898-1, and may raise BUS_ERR_WARNING or enter error-passive. (R353) -/
  | busReceiveError (obs : RxErrObs)
  /-- The line has stayed at or above 26.0 V for 1 ms while the device is unpowered, so a power-on begins with intake held at class A. (R43) -/
  | powerOn
  /-- The line has again held 26.0 V for 1 ms and VPRE is back in range, which ends a brown-out during which VIO stayed up. (R43) -/
  | lineBrownOutEnd
  /-- Device reset by DEV_RESET begins once its reply has been read, or 10 ms after the reply became readable. (R62) -/
  | devResetBegin
  /-- The PLL locks, which puts the device in RUN and counts as the start of Pavane step 1. (R22) -/
  | pllLock
  /-- The next step of a cold or warm Pavane that is called for starts at its spacing after the previous one. (R50) -/
  | pavaneStep
  /-- The always-on domain raises the wake 4 crystal periods before scheduled work falls due. (R23) -/
  | scheduledWake
  /-- No grant has arrived 200 ms after a request, so the device stays at class A and raises ALLOT_NONE once per series. (R45) -/
  | allotGrantTimeout
  /-- The request is repeated after a doubling interval of 1 s up to 64 s. (R45) -/
  | allotRequestRepeat
  /-- 10 ms after a grant with LOWER is received, the limit takes the new lower class. (R45) -/
  | allotLowerApply
  /-- The limiter has held the intake at its limit for 1 ms, so LIMIT is raised and the backlight is set to 0. (R48) -/
  | limiterHold
  /-- The limiter is still at its limit 20 ms later, so OVERLOAD is raised and further Pavane steps are held. (R48) -/
  | limiterOverload
  /-- After 10 ms with the limiter released, Pavane steps may continue. (R48) -/
  | limiterRelease
  /-- VPRE returns above 11.2 V without a brown-out, so PFW clears and the three units restart in a warm Pavane. (R59) -/
  | powerFailWarningClear
  /-- VACT leaves its window, so every drive-die output is turned off and bias and banks stop. (R49) -/
  | vactLow
  /-- VACT has stayed in its window for 10 ms, so drive-die bias and banks restart in a warm Pavane. (R49) -/
  | vactOk
  /-- The crystal has not become stable within 350 ms or has stopped, so XTALOK clears and TB runs from the RC or PLL. (R56) -/
  | xtalFail
  /-- The crystal has run 4096 periods within tolerance and XTALOK becomes 1. (R56) -/
  | xtalStable
  /-- WAKE rises and WAKE_PIN is raised, which wakes the device from DOZE when routed. (R128) -/
  | wakePinRise
  /-- The management watchdog has not been serviced for 5 beats and restarts the management complex. (R60) -/
  | mgmtWatchdogExpiry
  /-- The lockstep cores disagree and the management complex alone is restarted. (R18) -/
  | lockstepMismatch
  /-- A restart series ends with the management complex running again, and MGMT_RESTART is raised once. (R60) -/
  | mgmtRestartEnd
  /-- A restart series has not ended within 2 rounds of its first restart, so every output takes its SAFE_SET level. (R304) -/
  | safeStateEntry
  /-- 200 µs after a beat boundary, every data-plane setpoint committed in that epoch takes effect together. (R14) -/
  | applyQuantum
  /-- At the boundary that opens beat 50, due loops not yet staged are skipped and counted. (R268) -/
  | roundWorkOverrun
  /-- After the round's groups have committed, or at beat 50, the round's publication frames are queued together or dropped whole. (R294) -/
  | zonePublication
  /-- A TXFPUSH write with FLUSH makes every entry not in transmission leave FLUSHED. (R342) -/
  | txfFlush
  /-- The management processor takes the next command from the mailbox and checks it in the order of Table 05-4. (R105) -/
  | commandTake
  /-- A reply unread for 10 rounds expires, is discarded and frees its slot if final. (R104) -/
  | replyExpiry
  /-- A remote record is taken from the remote mailbox and checked for length, slot, MAC and counter before its command runs. (R117) -/
  | remoteRecordTake
  /-- A capacitance sweep starts at its PERIOD boundary or back to back. (R160) -/
  | huSweepStart
  /-- The 1 µs recovery gap after an overrange ends and the next acquisition begins. (R180) -/
  | sarRecoveryGapEnd
  /-- At each housekeeping-round boundary the housekeeping conversions are issued. (R449) -/
  | hkRoundStart
  /-- After 60 s of valid cool readings an unlatched shutdown re-arms and drive-die units restart. (R455) -/
  | thermRearm
  /-- Within 2 beats of a shutdown, re-arm, latch or clear, a record is appended to LOG 0. (R458) -/
  | thermalRecordAppend
  /-- In MODE 1 the AWAKE period lapses without motion and sampling stops. (R196) -/
  | prAwakeLapse
  /-- Every millisecond each channel posts the mean of its samples as its point result. (R214) -/
  | vlMeanPost
  /-- After 100 good frames the field link has returned. (R249) -/
  | fieldLinkReturn
  /-- The controller has read 11 recessive bits and integration is complete. (R351) -/
  | busIntegrated
  /-- A committed BUS_CONFIG takes effect at the end of the frame in progress and the controller integrates again. (R351) -/
  | busConfigEffect
  /-- At the next bus-idle point the controller stops and arms the wake detector. (R351) -/
  | busSleepEnter
  /-- At the first bus-idle point the controller sends the wake pattern, then integrates. (R327) -/
  | wakePatternSend
  /-- A held frame's idle-bit count is reached and it may be offered again. (R355) -/
  | collisionHoldEnd
  /-- An entry's LIFE window ends before its start of frame and it leaves EXPIRED. (R341) -/
  | txLifeExpiry
  /-- AUTOREC × 10 ms after bus-off, recovery starts. (R354) -/
  | busAutorecStart
  /-- 128 recessive sequences complete recovery, counters clear and BUS_ON is raised. (R354) -/
  | busRecoveryDone
  /-- The bus timestamp counter wraps and BTS_WRAP is raised. (R350) -/
  | btsWrap
  /-- 100 µs after each beat boundary the vigil slot loads the unit's vigil or a FAULT vigil. (R363) -/
  | vigilLoad
  /-- Own dominant drive has lasted 2.5 ms, so the line stage releases and blocks the line. (R332) -/
  | lineFaultDomto
  /-- The receiver has read dominant for 2.5 ms without own drive. (R332) -/
  | lineFaultStuck
  /-- The bus wake detector recognises a complete wake pattern and raises BUS_WAKE. (R328) -/
  | busWakeDetect
  /-- A wake sequence not complete within 64 crystal periods is discarded. (R328) -/
  | busWakeSequenceTimeout
  /-- 30 ms after integration the caller ends listening and slots without an active start electing. (R366) -/
  | callerListenEnd
  /-- Neither lease is valid, so the unit stops acting and becomes CANDIDATE. (R361) -/
  | leaseLapse
  /-- 100 µs after a verdict naming it active the unit takes the role and drives its outputs. (R370) -/
  | takeoverQuantum
  /-- 100 µs after a newer verdict or TAKEOVER naming the partner, the active becomes STANDBY. (R371) -/
  | roleRelease
  /-- A handover not passed within 200 ms clears HANDOVER and staging resumes. (R374) -/
  | handoverTimeout
  /-- Every 1 ms each unit sends a LINK frame. (R376) -/
  | minuetLinkSend
  /-- 3 ms without a valid frame take the link down. (R377) -/
  | minuetLinkDown
  /-- An epoch unacknowledged ACKTO after commit breaks the mirror and the active goes SOLO. (R380) -/
  | ackTimeout
  /-- Every 2 592 000 rounds in NAP or RUN each unit record is rewritten into its older copy. (R404) -/
  | unitAreaRotation
  /-- An LCD frame starts, taking the shown page and overdrive for the whole frame. (R421) -/
  | lcdFrameStart
  /-- The STATE 1 marker of an update is verified and the rails are raised. (R429) -/
  | dspMarkerVerified
  /-- The display rails reach regulation. (R432) -/
  | dspRailUp
  /-- At the first whole millisecond with rails up the update latches its band and starts all figures. (R429) -/
  | dspUpdateStart
  /-- The longest figure ends, a STATE 2 marker is appended and FIGURE_DONE is raised. (R429) -/
  | dspUpdateEnd
  /-- On a MODE 2 start with an unknown panel, a recovery with RECFIG starts. (R431) -/
  | dspRecoveryStart
  /-- The recovery figure ends, levels are set to RECLVL and FIGURE_DONE is raised. (R431) -/
  | dspRecoveryEnd
  /-- A rail fails to regulate or leaves regulation and the rails stop. (R433) -/
  | dspRailFault
  /-- At the next display commit or a round boundary 10 s later the rails are retried. (R433) -/
  | dspRailRetry
  /-- RAILHOLD after an update ends and the rails go down. (R429) -/
  | railholdEnd
  /-- AUTOLOCK seconds after the last press or detent the lock is set. (R444) -/
  | autolockExpiry
  /-- VIO falls below 1.8 V, so the device becomes unpowered and the always-on domain loses TB, the calendar, PMRC and every value it holds. (R43) -/
  | deviceUnpowered
deriving DecidableEq, Repr

end Sys2Proof
end

