-- ==== Sys2Proof/Decode.lean ====
section
/-! DEFINITION. Reading a command from a word of the table's bits. The table gives no row any bits: commands travel in
packets (Table 05-2) and events are happenings, so no word spells a row. -/

namespace Sys2Proof

/-- The command that a word of the opcode table's bits spells: none, since no row has bits. [DESIGN CHOICE, log 1] -/
def decodeTableWord (_nbits _w : Nat) : Option Instr := none

end Sys2Proof
end

