-- ==== Sys2Proof/Machine/Cfg.lean ====
section
/-! DEFINITION. The configuration of the device: what its staged commands set and its store keeps (R62, R164, R184,
R201, R232, R247, R263, R295, R312, R357, R389, R435, R446, R459). Every field's initial value is the one the spec
gives for "before any configuration", or the one an assumption-log row names. -/

namespace Sys2Proof.Machine

/-- PWR_CONFIG (Table 03-9): class C is requested until PWR_CONFIG sets another (R44). -/
structure PwrCfg where
  cls : Nat := 2
  blmw : Nat := 0
deriving DecidableEq, Repr

/-- PT_CONFIG SCOPE 0: one excitation group (Table 07-8). -/
structure PtGroupCfg where
  rate : Nat := 0
  excMode : Nat := 0
  excLvl : Nat := 0
  settle : Nat := 5
deriving DecidableEq, Repr

/-- PT_CONFIG SCOPE 1: one bridge channel (Table 07-8). -/
structure PtChCfg where
  en : Bool := false
  topo : Nat := 0
  gain : Nat := 0
  rref : Nat := 0
  rlead : Nat := 0
  rmin : Nat := 0
  rmax : Nat := 0
deriving DecidableEq, Repr

/-- PT_LINEAR: linearisation and its binary32 coefficients (R149, R150). -/
structure PtLin where
  lin : Nat
  c1 : W32
  c2 : W32
  c3 : W32
  c4 : W32
deriving DecidableEq, Repr

/-- HU_CONFIG SCOPE 1: one capacitance channel (Table 07-8). -/
structure HuChCfg where
  en : Bool := false
  tpt : Nat := 0xFF
  c0 : Int := 0
  sens : Nat := 1
  tk : Int := 0
deriving DecidableEq, Repr

/-- Configuration of the precision measurement unit; running is the saved set of running groups (R157). -/
structure PtCfg where
  groups : Vector PtGroupCfg 4 := Vector.replicate 4 {}
  chans : Vector PtChCfg 16 := Vector.replicate 16 {}
  lins : Vector (Option PtLin) 16 := Vector.replicate 16 none
  running : BitVec 4 := 0
  tconv : Nat := 2
  period : Nat := 3
  hu : Vector HuChCfg 16 := Vector.replicate 16 {}
deriving DecidableEq, Repr

/-- SAR_TRIG (Table 08-2). -/
structure SarTrig where
  src : Nat := 0
  unit : Nat := 0
  delay : Nat := 0
  period : Nat := 0
  phase : Nat := 0
deriving DecidableEq, Repr

/-- Integrator sequences (R173, R174): entries as (CH, OPT); empty means no committed SAR_SEQ. -/
structure SarCfg where
  seqs : Vector (List (Nat × Nat)) 8 := Vector.replicate 8 []
  trigs : Vector SarTrig 8 := Vector.replicate 8 {}
  started : BitVec 8 := 0
deriving DecidableEq, Repr

/-- PR_CONFIG SCOPE 1 and PR_WAKE (Table 09-2). -/
structure PrChCfg where
  en : Bool := false
  zone : Nat := 0xFF
  load : Nat := 0
  gain : Nat := 0
  th : Nat := 1
  minw : Nat := 1
  pc : Nat := 1
  pcwin : Nat := 100
  holdoff : Nat := 0
  wen : Bool := false
  wth : Nat := 1
  wcredit : Bool := false
deriving DecidableEq, Repr

/-- Presence front end (R190, R196); WARMUP defaults to 30 s (R190). -/
structure PrCfg where
  mode : Nat := 0
  awake : Nat := 5
  warmup : Nat := 30
  chans : Vector PrChCfg 16 := Vector.replicate 16 {}
deriving DecidableEq, Repr

/-- VL_CONFIG with the values a channel has before its first VL_CONFIG (R232); configured is EN 1. -/
structure VlChCfg where
  en : Bool := false
  ipeak : Nat := 100
  ihold : Nat := 60
  tboost : Nat := 500
  fchop : Nat := 4
  pimode : Nat := 0
  piblank : Nat := 10
  piemf : Nat := 15
  piext : Nat := 20
  npact : Nat := 0
deriving DecidableEq, Repr

/-- VL_DECAY with its defaults 0, 1, 0, 1, 50 (Table 10-7). -/
structure VlDecay where
  boost : Nat := 0
  fall : Nat := 1
  hold : Nat := 0
  off : Nat := 1
  mixpct : Nat := 50
deriving DecidableEq, Repr

/-- VL_DUTY (R224); WIN 0 means no limit. -/
structure VlDuty where
  win : Nat := 0
  limit : Nat := 100
  action : Nat := 0
deriving DecidableEq, Repr

/-- VL_BANK with its defaults 0, 100, 60, 10 (Table 10-7). -/
structure VlBankCfg where
  bmode : Nat := 0
  bpeak : Nat := 100
  bcont : Nat := 60
  bstag : Nat := 10
deriving DecidableEq, Repr

/-- Valve configuration and committed setpoints (R221, R232). -/
structure VlCfg where
  chans : Vector VlChCfg 16 := Vector.replicate 16 {}
  decay : Vector VlDecay 16 := Vector.replicate 16 {}
  duty : Vector VlDuty 16 := Vector.replicate 16 {}
  banks : Vector VlBankCfg 4 := Vector.replicate 4 {}
  setp : BitVec 16 := 0
deriving DecidableEq, Repr

/-- AO_CONFIG (Table 11-1). -/
structure AoCfg where
  en : Bool := false
  slew : Nat := 0
  mistol : Nat := 5
deriving DecidableEq, Repr

/-- FN_CONFIG (Table 11-1). -/
structure FnCfg where
  en : Bool := false
  freq : Nat := 20
  inv : Bool := false
  minduty : Nat := 0
  ppr : Nat := 0
  spinup : Nat := 0
  stallt : Nat := 5
  stallrpm : Nat := 0
  stallact : Nat := 0
deriving DecidableEq, Repr

/-- FLOAT_CONFIG (R242). -/
structure FloatCfg where
  en : Bool := false
  kind : Nat := 0
  opn : Nat := 0
  cls : Nat := 1
  cmdvp : Nat := 0x100
  stroke : Nat := 10
  minpulse : Nat := 5
  deadb : Nat := 10
deriving DecidableEq, Repr

/-- DI_CONFIG with the values before any DI_CONFIG (R263). -/
structure DiCfg where
  en : Bool := false
  typ : Nat := 1
  filt : Nat := 3
  wben : Bool := false
  wbtime : Nat := 5
  wake : Bool := false
deriving DecidableEq, Repr

/-- DO_CONFIG with the values before any DO_CONFIG (R263). -/
structure DoCfg where
  en : Bool := false
  retry : Bool := false
  loss : Bool := false
deriving DecidableEq, Repr

/-- One end of daylight time (R277). -/
structure DstRule where
  month : Nat := 1
  week : Nat := 1
  wday : Nat := 0
  min : Nat := 0
deriving DecidableEq, Repr

/-- TZ_CONFIG: UTC with no daylight time until it commits (R277). -/
structure TzCfg where
  stdofs : Int := 0
  dstofs : Nat := 0
  start : DstRule := {}
  stop : DstRule := {}
deriving DecidableEq, Repr

/-- PUB_CONFIG (R293). -/
structure PubCfg where
  zones : BitVec 16 := 0
  zper : Nat := 0
  chg : Bool := false
  delta : Nat := 1
  pper : Nat := 0
  points : List Nat := []
deriving DecidableEq, Repr

/-- One term of an interlock entry (Table 14-1). -/
structure IlkTerm where
  src : Nat := 0
  pol : Bool := false
  inv : Nat := 0
deriving DecidableEq, Repr

/-- One interlock entry (Table 14-1). An entry never written has every byte zero (Table 14-6, ILK_READ). -/
structure IlkEntry where
  en : Bool := false
  combOr : Bool := false
  nt : Nat := 0
  terms : List IlkTerm := [{}, {}, {}, {}]
  ton : Nat := 0
  toff : Nat := 0
  latch : Bool := false
  vlMask : BitVec 16 := 0
  aoMask : BitVec 16 := 0
  fnMask : BitVec 8 := 0
  doMask : BitVec 8 := 0
  vlLvl : Bool := false
  aoLvl : Nat := 0
  fnLvl : Nat := 0
  doLvl : Bool := false
deriving DecidableEq, Repr

/-- The safe-state setting of one output (SAFE_SET, R304): hold, or a level; the default is off. -/
structure SafeOut where
  hold : Bool := false
  level : Nat := 0
deriving DecidableEq, Repr

/-- The interlock table, armed on a device with no persisted interlock configuration (R296), and the safe states. -/
structure IlkCfg where
  entries : Vector IlkEntry 32 := Vector.replicate 32 {}
  armed : Bool := true
  safeVl : Vector SafeOut 16 := Vector.replicate 16 {}
  safeAo : Vector SafeOut 16 := Vector.replicate 16 {}
  safeFn : Vector SafeOut 8 := Vector.replicate 8 {}
  safeDo : Vector SafeOut 8 := Vector.replicate 8 {}
deriving DecidableEq, Repr

/-- BUS_CONFIG; without one the device integrates at arbitration code 1 with no data phase (R321). TSEG1 and SJW 0
stand for the defaults of Table 15-2. -/
structure BusCfg where
  arate : Nat := 1
  atseg1 : Nat := 0
  asjw : Nat := 0
  drate : Nat := 0xFF
  dtseg1 : Nat := 0
  dsjw : Nat := 0
  listen : Bool := false
  autorec : Nat := 0
  nidsrc : Nat := 0
  nodeid : Nat := 0
deriving DecidableEq, Repr

/-- CALLER_CONFIG of one slot; ELECTWAIT defaults to 11 (Table 17-9). -/
structure CallerSlotCfg where
  en : Bool := false
  serA : Nat := 0
  serB : Nat := 0
  electwait : Nat := 11
deriving DecidableEq, Repr

/-- DSP_CONFIG (Table 19-5). -/
structure DspCfg where
  mode : Nat := 0
  fr : Nat := 60
  keycols : Bool := false
  ovfr : Nat := 0
  segen : BitVec 96 := 0
  bandpt : Nat := 0xFFFF
  bandt : List Int := [0, 1, 2, 3, 4, 5, 6]
  hyst : Nat := 0
  vlcdb : List Nat := [100, 100, 100, 100, 100, 100, 100, 100]
  recfig : Nat := 1
  reclvl : Nat := 0
  railhold : Nat := 0
deriving DecidableEq, Repr

/-- The display state that is committed (R419): configuration, shown page (0xFF blank), overdrive tables with
OD[p][n] = n for the LCD (R423) and figure 0 for bistable (R428), figures by band, backlight. -/
structure DisplayCfg where
  conf : DspCfg := {}
  page : Nat := 0xFF
  odLcd : Vector (Vector Nat 16) 16 := Vector.replicate 16 (Vector.ofFn fun n => n.val)
  odBi : Vector (Vector Nat 4) 4 := Vector.replicate 4 (Vector.replicate 4 0)
  figures : List ((Nat × Nat) × List (Nat × Nat)) := []
  lvl : Vector Nat 4 := Vector.replicate 4 0
  fade : Nat := 0
deriving DecidableEq, Repr

/-- KEY_CONFIG SCOPE 1: the action of one key (R443); VP 0xFFFF none. -/
structure KeyAct where
  act : Nat := 0
  vp : Nat := 0xFFFF
  val : W32 := 0
deriving DecidableEq, Repr

/-- ENC_CONFIG of one encoder (Table 20-1). -/
structure EncCfg where
  en : Bool := false
  detent : Nat := 1
  inv : Bool := false
  vp : Nat := 0xFFFF
  step : Int := 0
  min : Int := 0
  max : Int := 1
deriving DecidableEq, Repr

/-- Keys, encoders and the key lock, which is state (R444). -/
structure KeyCfg where
  en : Bool := false
  mask : BitVec 64 := 0
  pdeb : Nat := 2
  rdeb : Nat := 2
  ghostchk : Bool := false
  acts : Vector KeyAct 64 := Vector.replicate 64 {}
  enc : Vector EncCfg 4 := Vector.replicate 4 {}
  locked : Bool := false
  codes : List Nat := []
  autolock : Nat := 0
deriving DecidableEq, Repr

/-- THERM_CONFIG with the defaults of Table 21-2, in 0.1 °C and 0.1 °C/s. -/
structure ThermCfg where
  twarn : Nat := 1150
  tshut : Nat := 1350
  rwarn : Nat := 10
  rshut : Nat := 30
deriving DecidableEq, Repr

/-- The whole configuration: what the committed state holds, and what the data plane has in force (R13, R14).
[DESIGN CHOICE, log 10] -/
structure Cfg where
  pwr : PwrCfg := {}
  pt : PtCfg := {}
  sar : SarCfg := {}
  pr : PrCfg := {}
  vl : VlCfg := {}
  ao : Vector AoCfg 16 := Vector.replicate 16 {}
  fn : Vector FnCfg 8 := Vector.replicate 8 {}
  fd : Vector FloatCfg 8 := Vector.replicate 8 {}
  di : Vector DiCfg 16 := Vector.replicate 16 {}
  dout : Vector DoCfg 8 := Vector.replicate 8 {}
  tz : TzCfg := {}
  pub : PubCfg := {}
  ilk : IlkCfg := {}
  bus : BusCfg := {}
  caller : Vector CallerSlotCfg 4 := Vector.replicate 4 {}
  dsp : DisplayCfg := {}
  key : KeyCfg := {}
  therm : ThermCfg := {}
deriving DecidableEq, Repr, Inhabited

/-- SAR factors of both front ends with their source and stamp (R181, R185). [DESIGN CHOICE, log 11] -/
structure SarFactors where
  gainU : Nat := 0x40000000
  ofsU : Int := 0
  gainD : Nat := 0x40000000
  ofsD : Int := 0
  src : Bool := false
  ts : W32 := 0
deriving DecidableEq, Repr

end Sys2Proof.Machine
end

