-- ==== Sys2Proof/Machine/Units.lean ====
section
/-! DEFINITION. The running state of each unit of the device: registers, counters, queues, timers and pins. Times are
TB quanta; a field named …At holds the quantum of a happening, …Due the quantum at which one falls due. -/

namespace Sys2Proof.Machine

/-- Which reset, power and processor condition the device is in (R2, R37, R43, Table 01-5). -/
inductive Phase where
  | unpowered   -- VIO below 1.8 V
  | reset       -- a reset source holds the device, or its release is awaited
  | held        -- stays in reset: reserved strap or TMODE high
  | doze
  | nap
  | run
deriving DecidableEq, Repr

/-- Allotment exchange with the line supply (Table 03-3). lowers are the classes that grants with LOWER have named and the quanta
at which the limit takes them, oldest first. -/
structure Allot where
  held : Nat := 0
  granted : Bool := false
  outstanding : Bool := false
  reqAt : Nat := 0
  interval : Nat := 1
  noneRaised : Bool := false
  stopAsking : Bool := false
  lowers : List (Nat × Nat) := []
  reason : Nat := 0
deriving DecidableEq, Repr

/-- A Pavane in progress (R50 to R53): the PMUN bits it is to take whether called for or not, the last step started
(Table 03-4), the quantum before which the next may not start, the units of the Pavane to follow, and the units that a
STOP_GROUP has taken out. -/
structure Pavane where
  cold : Bool := false
  todo : BitVec 14 := 0
  last : Nat := 0
  due : Nat := 0
  next : BitVec 14 := 0
  skip : BitVec 14 := 0
deriving DecidableEq, Repr

/-- Power manager (PMST, PMLN, PMUN, R46 to R60). PMRC stands in State.pmrc. limitUa is the intake limit, at first that of class A
at 26.0 V (R43, R44); limAt and relAt are the quanta in which the limiter last came to and left its limit (R48, R63); driveOff
while drive-die bias is off by R49 or R454; vact is whether VACT was last known in its window, whatever the device did then (R31); pmEver holds the units that have started since the reset (R112). barUnits are units asked for while a
failing supply or a thermal shutdown holds them stopped; halted are units that a STOP_GROUP has stopped while a RUN condition called for
them (R21, R62); ovAt is the quantum of the OVERLOAD of the hold in progress (R48). [DESIGN CHOICE, log 10] -/
structure Power where
  strap : Nat := 0
  tmode : Bool := false
  lineBo : Bool := false
  vpreBo : Bool := false
  allot : Allot := {}
  vline : Nat := 0
  pline : Nat := 0
  limitUa : Nat := 23076
  limAt : Option Nat := none
  relAt : Option Nat := none
  ovAt : Option Nat := none
  limit : Bool := false
  overload : Bool := false
  pfw : Bool := false
  barUnits : BitVec 14 := 0
  halted : BitVec 14 := 0
  vactOk : Bool := false
  driveOff : Bool := false
  vact : Bool := false
  rctrim : Bool := false
  pmun : BitVec 14 := 0
  pmEver : BitVec 14 := 0
  pav : Option Pavane := none
  coldDone : Bool := false
  pllStart : Bool := false
  wakePin : Bool := false
  devReset : Option Nat := none
  devResetCmd : Option Nat := none
deriving DecidableEq, Repr

/-- Management processor complex: watchdog and restart series (R18, R60, R304); vigilFault is the beat of a lockstep
mismatch until the vigil of the beat after it has been loaded (R18). -/
structure Mgmt where
  wdogAt : Nat := 0
  restarting : Bool := false
  seriesAt : Option Nat := none
  vigilFault : Option Nat := none
deriving DecidableEq, Repr

/-- One interrupt pad in pulse mode (R126): when the low time ends, when the high time ends, raises waiting. -/
structure PadPulse where
  lowUntil : Option Nat := none
  highUntil : Option Nat := none
  again : Bool := false
deriving DecidableEq, Repr

/-- Event fabric (R122 to R129, R137). raisedNow, ovNow and clearedNow are the sources raised, the EVOV bits set and the
EVST bits cleared in quantum raisedAt (R7, R123); heldWake are the sources
detected in DOZE and not yet raised, firstWake the first of them that may wake the device, with its stamp (R129); dozeA and
dozeB whether the interrupt pads were low on entry to DOZE, where they stay so (R127); lowA and lowB whether they are low in quantum lowAt,
whatever changes in it (R474). -/
structure Events where
  st : BitVec 128 := 0
  ov : BitVec 128 := 0
  routeA : BitVec 128 := 0
  routeB : BitVec 128 := 0
  wken : BitVec 7 := 1
  enA : Bool := true
  enB : Bool := true
  pulseA : Bool := false
  pulseB : Bool := false
  padA : PadPulse := {}
  padB : PadPulse := {}
  dozeA : Bool := false
  dozeB : Bool := false
  lowAt : Option Nat := none
  lowA : Bool := false
  lowB : Bool := false
  raisedNow : BitVec 128 := 0
  ovNow : BitVec 128 := 0
  clearedNow : BitVec 128 := 0
  raisedAt : Nat := 0
  heldWake : BitVec 128 := 0
  tbhi : BitVec 16 := 0
  wakeValid : Bool := false
  wakeSrc : Nat := 0xFF
  firstWake : Option (Nat × Nat) := none
  wakeTs : W32 := 0
deriving DecidableEq, Repr

/-- What a committed RTC_SET does at the next round boundary (R135, R136). -/
inductive RtcAct where
  | set (secs : Nat)
  | arm (secs : Nat)
  | disarm
deriving DecidableEq, Repr, Inhabited

/-- The real-time calendar, in seconds since 2000-01-01 00:00:00 UTC (R135, R136). carried are the last epoch that held
RTC_SETs and what they do, for the standby. [DESIGN CHOICE, log 44] -/
structure Calendar where
  secs : Nat := 0
  isSet : Bool := false
  ended : Bool := false
  alarm : Option Nat := none
  pending : List RtcAct := []
  carried : Nat × List RtcAct := (0, [])
  tbs : Nat := 0
deriving DecidableEq, Repr

/-- Where a command came from and where its reply goes (R101, R117, R120): a host-link mailbox slot, or a remote
mailbox place, each by the number given at receipt. -/
inductive Origin where
  | host (id : Nat)
  | remote (id : Nat)
deriving DecidableEq, Repr

/-- A command that holds a mailbox slot (R101). wait is the REASON a DEFERRED reply would carry (R107). -/
structure MboxCmd where
  id : Nat
  tag : Byte
  opc : Nat
  params : Bytes
  recvAt : Nat
  taken : Bool := false
  done : Bool := false
  wait : Nat := 1
  deferAt : Option Nat := none
deriving DecidableEq, Repr

/-- A reply on the host link (Table 05-3); slot is none for a reply of the link logic (R98). -/
structure Reply where
  slot : Option Nat
  tag : Byte
  status : Nat
  epoch : Nat
  results : Bytes
  final : Bool
  readAt : Nat
deriving DecidableEq, Repr

/-- Host link: mailbox, replies in posting order, status bits and counters (R91 to R105, R114). hmiso holds the bytes
that the last transaction shifted out. -/
structure Link where
  mbox : List MboxCmd := []
  replies : List Reply := []
  nextId : Nat := 0
  refused : Bool := false
  lerr : Bool := false
  syncErr : Nat := 0
  crcErr : Nat := 0
  refusedCnt : Nat := 0
  expired : Nat := 0
  defers : Nat := 0
  busyEnd : Nat := 0
  hmiso : Bytes := []
deriving DecidableEq, Repr

/-- A record that holds a place in the remote mailbox (R117, R120): data is its frame's data field, key the slot's key
once its MAC has been checked; out are its replies not yet in the transmit FIFO, each with whether it is final. -/
structure RemoteCmd where
  id : Nat
  data : Bytes
  classic : Bool
  recvAt : Nat
  key : Bytes := []
  taken : Bool := false
  done : Bool := false
  wait : Nat := 1
  deferAt : Option Nat := none
  out : List (Bytes × Bool) := []
deriving DecidableEq, Repr

/-- Remote mailbox and its counters (RMCNT). -/
structure Remote where
  box : List RemoteCmd := []
  nextId : Nat := 0
  authFail : Nat := 0
  replay : Nat := 0
  rfull : Nat := 0
deriving DecidableEq, Repr

/-- A zone's thermal-model estimator (R290): covariance and count of kept updates; it starts at diag(10⁻⁴, 10⁻²). -/
structure Model where
  p11 : Rat := 1 / 10000
  p12 : Rat := 0
  p21 : Rat := 0
  p22 : Rat := 1 / 100
  kept : Nat := 0
deriving DecidableEq, Repr, Inhabited

/-- A write that the management processor stages (R73), a host item write or a service write. -/
inductive Write where
  | point (pt : Nat) (v : W32)
  | obj (kind idx ifEpoch off : Nat) (data : Bytes)
  | status (kind idx off : Nat) (data : Bytes)
  | cmd (opc : Nat) (params : Bytes)
  | model (zone : Nat) (m : Model)
deriving DecidableEq, Repr

/-- One staged write: uid names the command or group that must commit whole (R74, R79), at_ the quantum of staging (R73); by
service or by host; rank 0 for the host link, 1 for a bus command, 2 for a key or encoder (R73, R443). -/
structure Staged where
  uid : Nat
  at_ : Nat := 0
  service : Bool := false
  rank : Nat := 0
  w : Write
deriving DecidableEq, Repr

/-- A reply that waits for its epoch (R75, R380). -/
structure Waiting where
  uid : Nat
  org : Origin
  tag : Byte
  epoch : Option Nat := none
  neverSolo : Bool := false
  fault : Bool := false
  results : Bytes := []
deriving DecidableEq, Repr

/-- An open commit group (R78, R79). -/
structure Group where
  openAt : Nat
  held : List Write
deriving DecidableEq, Repr

/-- A held snapshot buffer (R81). -/
structure Snap where
  epoch : Nat
  data : Bytes
  usedAt : Nat
deriving DecidableEq, Repr

/-- The stored coefficients of a bridge or capacitance channel with the configuration they record (R147). -/
structure Coeff where
  cgain : Nat
  cofs : Int
  gain : Nat := 0
  topo : Nat := 0
  excMode : Nat := 0
  excLvl : Nat := 0
deriving DecidableEq, Repr

/-- A finished calibration capture (R145, R147): mean [1/256 code], span, the reference input, and the configuration in force at
it. -/
structure Capture where
  avg : Int
  span : Nat
  ref : Int
  conf : Coeff := { cgain := 0, cofs := 0 }
deriving DecidableEq, Repr

/-- A calibration capture in progress (R145). -/
structure CapRun where
  full : Bool
  ncal : Nat
  ref : Int
  conf : Coeff := { cgain := 0, cofs := 0 }
  n : Nat := 0
  sum : Int := 0
  min : Int := 0
  max : Int := 0
deriving DecidableEq, Repr

/-- Calibration state of a channel: captures, last failure (Table 07-8), coefficients in
force and waiting for an apply quantum. -/
structure CalState where
  zero : Option Capture := none
  full : Option Capture := none
  run : Option CapRun := none
  failed : Bool := false
  why : Nat := 0
  inForce : Option Coeff := none
  applyDue : Bool := false
deriving DecidableEq, Repr

/-- A bridge channel: its mirror record (R165) and its recovery state (R151 to R155); probeAt is the round boundary since which
a suspended channel is to convert once (R153). -/
structure PtChan where
  seq : BitVec 16 := 0
  gain : Nat := 0
  ovr : Bool := false
  sfault : Bool := false
  efault : Bool := false
  recov : Bool := false
  uncal : Bool := false
  linerr : Bool := false
  susp : Bool := false
  valid : Bool := false
  raw : W32 := 0
  ratio : W32 := 0
  val : W32 := 0x80000000
  res : W32 := 0
  stamp : W32 := 0
  newest : W32 := 0x80000000
  clean : Option Int := none
  lastOvr : Bool := false
  lastSf : Bool := false
  probeAt : Option Nat := none
  ovrcnt : Nat := 0
  cal : CalState := {}
deriving DecidableEq, Repr

/-- An excitation group (R140, R154, R157): state 0 stopped, 1 starting, 2 running; startAt is the quantum in which its first slot
began, slots the number of slots that have ended since. -/
structure PtGroup where
  state : Nat := 0
  startDue : Nat := 0
  startAt : Nat := 0
  slots : Nat := 0
  efault : Bool := false
  cycleCond : Bool := false
  recov : Nat := 0
deriving DecidableEq, Repr

/-- A capacitance channel: its mirror record and calibration (R161 to R165). owesSf is set where another channel of its group met
the drive at its current limit, so that its next result carries SFAULT (R161). [DEDUCED, log 94] -/
structure HuChan where
  seq : BitVec 16 := 0
  ovr : Bool := false
  sfault : Bool := false
  tcomp : Bool := false
  uncal : Bool := false
  linerr : Bool := false
  valid : Bool := false
  raw : W32 := 0
  cap : W32 := 0
  val : W32 := 0x80000000
  newest : W32 := 0x80000000
  lastOvr : Bool := false
  owesSf : Bool := false
  cal : CalState := {}
deriving DecidableEq, Repr

/-- Precision measurement unit (PRM registers). While a sweep runs, the lowest enabled channel from huCur on converts, in a slot
that began at huAt (R160); huLimit are the groups whose drive was at its limit in their last conversion (R161).
[DEDUCED, log 94] -/
structure Prm where
  groups : Vector PtGroup 4 := Vector.replicate 4 {}
  ch : Vector PtChan 16 := Vector.replicate 16 {}
  hu : Vector HuChan 16 := Vector.replicate 16 {}
  sweep : Bool := false
  huCur : Nat := 0
  huAt : Nat := 0
  new : W32 := 0
  watch : W32 := 0
  ovrl : W32 := 0
  sfl : W32 := 0
  huLimit : BitVec 4 := 0
deriving DecidableEq, Repr

/-- SAR_TRIG_MISS as it stood before a trigger missed in a quantum raised it, with the interrupt pads' pulses (R123, R126); stays while
something else of the quantum has raised it too. -/
structure SarMiss where
  at_ : Nat
  stays : Bool
  now : Bool
  st : Bool
  ov : Bool
  ovNow : Bool
  padA : PadPulse
  padB : PadPulse
deriving DecidableEq, Repr

/-- A result record of an integrator sequence and the instance in progress (R173 to R183): entries finished, conversions
of the entry in progress, their corrected sum and first overrange code; soft holds the due quanta of the
software triggers to come (R174); missAt is the last trigger that found the instance running (R175). -/
structure SarSeq where
  seq : BitVec 16 := 0
  cnt : Nat := 0
  ovrmap : BitVec 8 := 0
  stamp : W32 := 0
  res : Vector W32 8 := Vector.replicate 8 0
  pend : Bool := false
  idx : Nat := 0
  acc : Rat := 0
  nconv : Nat := 0
  ovrCode : Option Int := none
  got : List (W32 × Bool) := []
  firstTs : Option W32 := none
  lastOvr : BitVec 8 := 0
  soft : List Nat := []
  trigAt : Option Nat := none
  missAt : Option SarMiss := none
deriving DecidableEq, Repr

/-- A single-register sample of the regulation or housekeeping port (R183, R185); fresh until the valve drive has
computed with it. -/
structure SarSample where
  code : Int := 0
  seq : BitVec 8 := 0
  miss : Bool := false
  ovr : Bool := false
  fresh : Bool := false
deriving DecidableEq, Repr

/-- The conversion in progress by the port it serves (R170). -/
inductive SarCur where
  | reg (unit : Nat)
  | hk (ch : Nat)
  | cal
  | seq (k : Nat)
deriving DecidableEq, Repr

/-- SAR converter and sequencer. cur is the conversion in progress, gap whether a recovery gap runs and gapAt when it began.
Regulation requests wait oldest first as (unit, due quantum, 5 ns step in it): unit 0 to 15 is ICOILn, 16 to 19 IBANKb. calEnd is the quantum in which the last CAL_SELF ended and
oldF the factors before it (R181). hkq are the housekeeping port's conversions by input number. -/
structure Sar where
  seqs : Vector SarSeq 8 := Vector.replicate 8 {}
  vl : Vector SarSample 16 := Vector.replicate 16 {}
  bk : Vector SarSample 4 := Vector.replicate 4 {}
  hk : Vector SarSample 10 := Vector.replicate 10 {}
  regq : List (Nat × Nat × Nat) := []
  hkq : List Nat := []
  cur : Option SarCur := none
  calRun : Bool := false
  calDue : Nat := 0
  calEnd : Option Nat := none
  oldF : SarFactors := {}
  calFail : Bool := false
  calWhy : Nat := 0
  new : BitVec 8 := 0
  regmiss : BitVec 16 := 0
  trgmiss : BitVec 16 := 0
  recgaps : BitVec 16 := 0
  gap : Bool := false
  gapAt : Nat := 0
deriving DecidableEq, Repr

/-- Detection of one sign of a presence input (R191): consecutive samples beyond TH, whether they have qualified, and whether |s| must
fall below TH / 2 before a new excursion. -/
structure Excursion where
  run : Nat := 0
  done : Bool := false
  spent : Bool := false
deriving DecidableEq, Repr

/-- The band-pass of a presence input (R189): the last input and output of its high-pass, the two samples before of its low-pass's
input and output. -/
structure Band where
  x1 : Rat := 0
  hp : Rat := 0
  h1 : Rat := 0
  h2 : Rat := 0
  y1 : Rat := 0
  y2 : Rat := 0
deriving DecidableEq, Repr

/-- A presence input (R188 to R198). tick is the quantum of its last sample, rbefore the round count before its last motion pulse
(R193). -/
structure PrChan where
  biasAt : Option Nat := none
  firstAt : Option Nat := none
  tick : Option Nat := none
  band : Band := {}
  armed : Bool := false
  pos : Excursion := {}
  neg : Excursion := {}
  winAt : Option Nat := none
  winLen : Nat := 0
  winCnt : Nat := 0
  holdAt : Option Nat := none
  holdLen : Nat := 0
  ovrNow : Bool := false
  blankAt : Option Nat := none
  badRun : Nat := 0
  fault : Bool := false
  goodAt : Option Nat := none
  rcnt : Nat := 0
  rbefore : Nat := 0
  lcnt : Nat := 0
  total : W32 := 0
  lastAt : Nat := 0
  lsrc : Nat := 0
  peak : Nat := 0
  dclvl : Nat := 0
  newest : W32 := 0x80000000
  wkAt : Option Nat := none
deriving DecidableEq, Repr

/-- Presence front end; awakeAt is the last motion pulse, credit or start that keeps MODE 1 sampling (R196); owed while a wake credit of
DOZE has still to raise PR_MOTION (R198). -/
structure Presence where
  ch : Vector PrChan 16 := Vector.replicate 16 {}
  sampling : Bool := false
  awakeAt : Option Nat := none
  owed : Bool := false
  mot : BitVec 16 := 0
  ovl : BitVec 16 := 0
  wkf : BitVec 16 := 0
deriving DecidableEq, Repr

/-- Valve phases (Table 10-2). -/
inductive VPhase where
  | off | wait | rise | peak | fall | hold | diag
deriving DecidableEq, Repr

/-- What a channel was as a commit, a gate or a limit turned it off, for a fault of the same quantum (R223): its phase, since when, its
duty, SAT, and whether a coil test regulated. -/
structure VlCut where
  at_ : Nat
  phase : VPhase
  from_ : Nat
  duty : Rat
  sat : Bool
  reg : Bool
deriving DecidableEq, Repr

/-- A valve channel (R204 to R228). Currents are in 0.1 mA, L in H, R in Ω. rest and lest are the values last fitted, rnow
the R_est that regulation uses (R212); samples are the rise samples of the fit as current, its change and VACT;
duty is that of the present period and dnext of the next; offMode is the decay of OFF: 0 to 2 of Table 10-4, 3 by the
clamp alone, offFixed where a fault has set it. carrier is the phase of its carriers, carrierNext one still to be taken, period the
carrier period in force; inPeriod once a carrier has started since the channel left OFF or WAIT, reqDone once the period's sample has been
requested (R210, R211). cut is what the last turn-off cut short (R223), lsOffAt the quantum in which LSn last turned off as a decay ended (R204); parked while the stop of its bank
keeps the channel in OFF (R225). used counts on-quanta of the window before usedFrom. diagReq is a VL_DIAG accepted and not yet queued,
diag the ITEST of a test queued or running. late holds samples of a quantum whose results have not yet posted. -/
structure VlChan where
  phase : VPhase := .off
  decaying : Bool := false
  offMode : Nat := 1
  offFixed : Bool := false
  fault : Nat := 0
  rstpend : Bool := false
  dutylim : Bool := false
  sat : Bool := false
  piok : Bool := false
  nopi : Bool := false
  imean : Int := 0
  duty : Rat := 0
  dnext : Rat := 0
  pitime : Nat := 0xFFFF
  boostt : Nat := 0
  rest : Option Rat := none
  lest : Option Rat := none
  rnow : Option Rat := none
  u : Rat := 0
  carry : Rat := 0
  samples : List (Rat × Rat × Rat) := []
  nsamp : Nat := 0
  fitDone : Bool := false
  noSeek : Bool := false
  prevI : Int := 0
  motion : Bool := false
  pullAt : Option Nat := none
  phaseAt : Nat := 0
  boostAt : Nat := 0
  leftWait : Option Nat := none
  satRun : Nat := 0
  hiRun : Nat := 0
  missRun : Nat := 0
  msSum : Int := 0
  msCnt : Nat := 0
  late : List Int := []
  lateAt : Nat := 0
  newest : W32 := 0x80000000
  boosts : W32 := 0
  nopicnt : Nat := 0
  used : Nat := 0
  usedFrom : Option Nat := none
  winDue : Option Nat := none
  inWin : Bool := false
  limitHit : Bool := false
  diagReq : Option Nat := none
  diagArmed : Bool := false
  diag : Option Nat := none
  diagReg : Bool := false
  vdSum : Rat := 0
  iSum : Rat := 0
  quAt : Nat := 0
  carrierAt : Nat := 0
  carrier : Nat := 0
  carrierNext : Option Nat := none
  period : Nat := 50
  inPeriod : Bool := false
  reqDone : Bool := false
  cut : Option VlCut := none
  lsOffAt : Option Nat := none
  parked : Bool := false
  ihold : Nat := 60
  decay : VlDecay := {}
deriving DecidableEq, Repr

/-- A valve bank (R216 to R219, R229): reqAt is the due quantum of its last sample, queue of channels that wait for the boost slot, in order; slot the channel that
holds it. sum, n and max are of the samples of the window in progress, in 0.25 mA. -/
structure VlBank where
  reqAt : Nat := 0
  queue : List Nat := []
  slot : Option Nat := none
  slotFreeAt : Option Nat := none
  shared : Bool := false
  singleAt : Option Nat := none
  limit : Bool := false
  bfault : Bool := false
  sum : Int := 0
  n : Nat := 0
  max : Int := 0
  late : List Int := []
  lateAt : Nat := 0
  winAt : Nat := 0
  imean : Int := 0
  imax : Int := 0
  waitlast : W32 := 0
  badRun : Nat := 0
deriving DecidableEq, Repr

/-- Valve drive; meanAt is the quantum of the last posting of R214; clamp are the coils that conducted when a reset took their switches
off, and decay through the clamp (R31). [DESIGN CHOICE, log 99] -/
structure Valves where
  ch : Vector VlChan 16 := Vector.replicate 16 {}
  bank : Vector VlBank 4 := Vector.replicate 4 {}
  pinew : BitVec 16 := 0
  diagnew : BitVec 16 := 0
  meanAt : Nat := 0
  clamp : BitVec 16 := 0
deriving DecidableEq, Repr

/-- An analog output (R235 to R237): applied point value in mV, present level in µV, target in mV; slewAt is the quantum of
the last step of a slew, slewEnd the last quantum at which one took place. -/
structure AoChan where
  applied : Nat := 0
  lvl : Nat := 0
  target : Nat := 0
  slewing : Bool := false
  pending : Bool := false
  slewAt : Nat := 0
  slewEnd : Option Nat := none
  fault : Bool := false
  faultAt : Nat := 0
  mismatch : Bool := false
  badRun : Nat := 0
  goodRun : Nat := 0
  fb : Nat := 0
  faults : Nat := 0
deriving DecidableEq, Repr

/-- A fan channel (R238 to R241): applied point value, duty of the present period, period and high time in 5 ns counts.
intervals are the last edge intervals in 5 ns counts, newest first; spinAt is when the channel last left duty 0, lowAt
and highAt since when RPM has been below or at STALLRPM; told and toldLost whether a stall or a lost tachometer has been declared
since the last start or the last clear (R241); edgeAt is the quantum of its last change of duty. -/
structure FnChan where
  applied : Nat := 0
  cur : Nat := 0
  edgeAt : Option Nat := none
  per : Nat := 0
  high : Nat := 0
  rpm : Nat := 0
  intervals : List Nat := []
  edgeSeen : Bool := false
  lastEdgeAt : Option Nat := none
  spinAt : Option Nat := none
  lowAt : Option Nat := none
  highAt : Option Nat := none
  stall : Bool := false
  told : Bool := false
  toldLost : Bool := false
  tachlost : Bool := false
  stalloffAt : Option Nat := none
  stalls : Nat := 0
deriving DecidableEq, Repr

/-- Direction in which a floating drive holds its outputs (R243). -/
inductive FDir where
  | still | opening | closing | pause
deriving DecidableEq, Repr

/-- A floating drive (R242 to R244): estimated position P in 0.01 %, the target followed, the direction now, the
one last run, and the one in which a member has been on since runAt; a run or pause from runAt until runDue. held is set while a member is gated; wait while the drive has something to
do that needs drive-die bias. [DEDUCED, log 53] -/
structure FloatRun where
  unsure : Bool := false
  homing : Bool := false
  held : Bool := false
  wait : Bool := false
  dir : FDir := .still
  last : FDir := .still
  on : FDir := .still
  p : Rat := 0
  target : Option Nat := none
  runAt : Nat := 0
  runDue : Nat := 0
deriving DecidableEq, Repr

/-- Modulating outputs. [DESIGN CHOICE, log 10] -/
structure Outs where
  ao : Vector AoChan 16 := Vector.replicate 16 {}
  fn : Vector FnChan 8 := Vector.replicate 8 {}
  fd : Vector FloatRun 8 := Vector.replicate 8 {}
deriving DecidableEq, Repr

/-- A field input (R250 to R254, R261). countFrom is the quantum since which its filter counts (R251); lowT1 and highT1 are those of the
first mean of a declaring or clearing run, tick that of the last mean; wbDie is the wire break as the field die has it, wb as it has
crossed the lane (R252); entry and entryOk are its level, and whether it was valid, on entry to DOZE (R254). -/
structure DiChan where
  countFrom : Nat := 0
  tick : Option Nat := none
  wbDie : Bool := false
  level : Bool := false
  valid : Bool := false
  wb : Bool := false
  lowT1 : Option Nat := none
  highT1 : Option Nat := none
  vin : Nat := 0
  iin : Nat := 0
  entry : Bool := false
  entryOk : Bool := false
deriving DecidableEq, Repr

/-- A field output (R256 to R259): applied command, the last command that crossed the lane, the LOSS state of a link fault (R249), switch
on at the field die, when it last went on and off. -/
structure DoChan where
  cmd : Bool := false
  sent : Bool := false
  lossCmd : Bool := false
  pad : Bool := false
  openl : Bool := false
  short : Bool := false
  shortAt : Nat := 0
  ovt : Bool := false
  shorts : Nat := 0
  onAt : Nat := 0
  offAt : Option Nat := none
deriving DecidableEq, Repr

/-- Isolated field I/O (FIST registers); lpAt is the quantum in which L+ was last reported, framesAt
the one since which the couplers carry frames. [DESIGN CHOICE, log 10] [DESIGN CHOICE, log 102] -/
structure Field where
  lplus : Nat := 0
  lpAt : Option Nat := none
  lpres : Bool := false
  linkok : Bool := false
  frameerr : BitVec 8 := 0
  framesAt : Option Nat := none
  fullAt : Option Nat := none
  di : Vector DiChan 16 := Vector.replicate 16 {}
  dout : Vector DoChan 8 := Vector.replicate 8 {}
  wbl : BitVec 16 := 0
  rise : BitVec 16 := 0
  fall : BitVec 16 := 0
  ovtl : BitVec 8 := 0
deriving DecidableEq, Repr

/-- State of one interlock entry (R298, R299). trueAt and falseAt are t0 and t1; was are a quantum and the two as they stood before it. -/
structure IlkRun where
  tripped : Bool := false
  latched : Bool := false
  pendClear : Bool := false
  trueAt : Option Nat := none
  falseAt : Option Nat := none
  was : Option (Nat × Option Nat × Option Nat) := none
deriving DecidableEq, Repr

/-- Interlock evaluator and safe state (R296 to R304). diSeen is the last valid level of each field input (R298); still are a quantum and
the outputs as they stand in it, where a trip, a release or the safe state changes them in the next. [DEDUCED, log 47] -/
structure Ilk where
  run : Vector IlkRun 32 := Vector.replicate 32 {}
  running : Bool := false
  trips : Nat := 0
  last : Nat := 0xFF
  lastAt : Nat := 0
  safe : Bool := false
  gVl : BitVec 16 := 0
  gAo : BitVec 16 := 0
  gFn : BitVec 8 := 0
  gDo : BitVec 8 := 0
  diSeen : Vector (Option Bool) 16 := Vector.replicate 16 none
  still : Option (Nat × Valves × Outs × Field) := none
deriving DecidableEq, Repr

/-- What a loop keeps between rounds beside its object: its counters (R289), whether its last due run was skipped, since
which round its process value has been invalid (Table 13-7), and the valve cycle in progress as start and on-time (R288). -/
structure LoopStat where
  runs : Nat := 0
  skips : Nat := 0
  consec : Nat := 0
  maxconsec : Nat := 0
  lastskip : Nat := 0
  skipped : Bool := false
  badAt : Option Nat := none
  cycle : Option (Nat × Nat) := none
deriving DecidableEq, Repr

/-- What a zone keeps between rounds beside its object: the last boundary with evidence and OCC as last decided, whatever of it was
staged, none until this service has resolved the zone (R281), the COMFORT start of a
prestart (R292), TEMP as last published and whether EMODE, OCC or FLAGS changed in this round (R293), the sums of the model's
minute, the last round that gave to them, how many in succession were valid and not gated, the means formed and not yet used, whether an
update by them is made, and the means before (R290). -/
structure ZoneRun where
  evidAt : Option Nat := none
  occ : Option Nat := none
  preTc : Option Int := none
  pubTemp : W32 := 0x80000000
  changed : Bool := false
  sumT : Int := 0
  sumTo : Int := 0
  sumU : Int := 0
  n : Nat := 0
  lastR : Option Nat := none
  okRun : Nat := 0
  okMade : Bool := false
  mean : Option (Rat × Rat × Rat) := none
  prevMean : Option (Rat × Rat × Rat) := none
deriving DecidableEq, Repr

/-- Zone services: the last round boundary, due loops of the round not staged, the round's staged groups, whether its
publication is to come, counters (R266 to R268, R289), the time zone in force and the one that follows (R277).
[DESIGN CHOICE, log 10] -/
structure Services where
  roundAt : Nat := 0
  left : List Nat := []
  workUids : List Nat := []
  pubDue : Bool := false
  zone : Vector ZoneRun 16 := Vector.replicate 16 {}
  loop : Vector LoopStat 32 := Vector.replicate 32 {}
  prRuns : Vector Nat 4 := Vector.replicate 4 0
  prSkips : Vector Nat 4 := Vector.replicate 4 0
  overruns : Nat := 0
  pubskip : Nat := 0
  tz : TzCfg := {}
  tzNext : Option TzCfg := none
deriving DecidableEq, Repr

/-- An entry of the transmit FIFO (R340, R341); remote is the record a reply belongs to and whether it is final, window that it was
pushed through the window, asker the BUS_SEND that entered it. -/
structure TxEntry where
  txseq : BitVec 16
  f : Frame
  life : Nat := 0
  oneshot : Bool := false
  at_ : Nat := 0
  remote : Option (Nat × Bool) := none
  window : Bool := false
  asker : Option Origin := none
deriving DecidableEq, Repr

/-- A receive buffer (R348, R358). -/
structure RxBuf where
  seq : BitVec 16 := 0
  new : Bool := false
  ovw : Bool := false
  esi : Bool := false
  brs : Bool := false
  fdf : Bool := false
  ide : Bool := false
  id : Nat := 0
  filt : Nat := 0
  data : Bytes := []
  dlc : Nat := 0
  stamp : W32 := 0
  at_ : Nat := 0
deriving DecidableEq, Repr

/-- Counters and position of one filter (R348). -/
structure FltRun where
  matched : BitVec 16 := 0
  lost : BitVec 16 := 0
  lastBuf : Option Nat := none
deriving DecidableEq, Repr

/-- Bus controller states (BUSST.STATE). -/
inductive BusPhase where
  | stopped | sleep | integrating | active | passive | busOff | recovering
deriving DecidableEq, Repr

/-- The consecutive suspected collisions of one frame (R355, R356): how many, whether it is held and may not be offered, and
when the last was. -/
structure Collision where
  k : Nat := 0
  held : Bool := false
  at_ : Nat := 0
deriving DecidableEq, Repr

/-- Bus controller and line interface (R332, R358, PMEFL, PMEFC). The slots hold the frame loaded, if any;
filters are the filter objects in force (R347). sent is the last frame sent, as it was on the line (R335); joined that the controller
has integrated since it started, vigilOn that a beat boundary has come since (R363); wakePat since when a wake pattern is being sent
(R327); askReason an allotment request that waits for listen-only mode to end (R352); vrest is the resting level that the last RANGE
fault came with and vrestAt its quantum, stuckAt that of the last STUCK fault. -/
structure Bus where
  phase : BusPhase := .stopped
  fifo : List TxEntry := []
  lastSeq : BitVec 16 := 0
  vigil : Option Frame := none
  allot : Option Frame := none
  begun : List Nat := []
  sent : Option Frame := none
  joined : Bool := false
  vigilOn : Bool := false
  wakePat : Option Nat := none
  askReason : Option Nat := none
  txfid : W32 := 0
  txfctl : W32 := 0
  txfdat : Vector W32 16 := Vector.replicate 16 0
  pfwhy : Nat := 0
  pushfail : Bool := false
  viglate : Bool := false
  lastOutSeq : BitVec 16 := 0
  lastOut : Nat := 0
  lastTs : W32 := 0
  tec : Nat := 0
  rxec : Nat := 0
  lasterr : Nat := 0
  buf : Vector RxBuf 48 := Vector.replicate 48 {}
  flt : Vector FltRun 32 := Vector.replicate 32 {}
  filters : List (Nat × Bytes) := []
  unmatched : W32 := 0
  txok : W32 := 0
  rxok : W32 := 0
  errs : W32 := 0
  busoffs : Nat := 0
  idcols : Nat := 0
  remotes : Nat := 0
  tdc : Nat := 0
  colId : W32 := 0
  cols : Vector Collision 3 := Vector.replicate 3 {}
  cfgNext : Option BusCfg := none
  sleepReq : Bool := false
  sleepFlush : Bool := false
  wakeReq : Bool := false
  boAt : Nat := 0
  wakes : BitVec 8 := 0
  vrest : Nat := 0
  vrestAt : Option Nat := none
  stuckAt : Option Nat := none
  dipmin : Nat := 0
  faultNow : BitVec 4 := 0
  faultLat : BitVec 4 := 0
  lfcnt : Nat := 0
deriving DecidableEq, Repr

/-- Roles of a pair unit (Table 17-1). -/
inductive Role where
  | candidate | active | standby | solo
deriving DecidableEq, Repr

/-- Assembly of a delta or a copy on the standby (R379, R381). -/
structure Assembly where
  epoch : Nat
  prev : Nat
  nblk : Nat
  bytes : Nat
  next : Nat := 0
  data : Bytes := []
deriving DecidableEq, Repr

/-- The delta of one of the last 8 epochs (R378): full where it is too long and a full copy takes its place. -/
structure Delta where
  epoch : Nat
  prev : Nat
  data : Bytes
  full : Bool := false
deriving DecidableEq, Repr

/-- Paired operation of one unit (R360 to R389). cLease and pLease are the ends of the leases held; mirror is 0 none, 1
copying, 2 synchronised, 3 broken; copyEpoch is the epoch of a copy sent and not acknowledged; lastCommit
is the epoch last committed here and its quantum, copyCommit the quantum of the commit of the copy's epoch, where it was here; unacked are the epochs sent
with the quantum of their commit; postedAt is when the vigil content was last posted; hdrEpoch is the newest epoch
named in a delta header; bump makes the next epoch follow R373; linkOut are the Minuet frames queued since the last LINK
frame, and those still waiting then, in the order of sending; linkEnd is when the last of them has left, in steps of 200 ns
(log 62). -/
structure Pair where
  role : Role := .candidate
  ckey : Nat := 0
  cLease : Option Nat := none
  pLease : Option Nat := none
  linkUp : Bool := false
  linkGood : Nat := 0
  linkAt : Nat := 0
  linkSeq : Nat := 0
  pserial : Nat := 0
  mirror : Nat := 0
  readyRaised : Bool := false
  copyReq : Bool := false
  copyEpoch : Option Nat := none
  lastCommit : Option (Nat × Nat) := none
  copyCommit : Option Nat := none
  deltas : List Delta := []
  unacked : List (Nat × Nat) := []
  acked : Nat := 0
  inDelta : Option Assembly := none
  inCopy : Option Assembly := none
  lost : Bool := false
  copied : Bool := false
  handoverAt : Option Nat := none
  handCmd : Option (Origin × Byte) := none
  takeDue : Option Nat := none
  releaseDue : Option Nat := none
  useq : Nat := 0
  postedAt : Nat := 0
  epochHi : Nat := 0
  hdrEpoch : Nat := 0
  bump : Bool := false
  heldTerm : Nat := 0
  takeovers : Nat := 0
  mirfaults : Nat := 0
  lastAck : Nat := 0
  linkOut : List LinkFrame := []
  linkEnd : Nat := 0
deriving DecidableEq, Repr

/-- What the caller knows of one unit of a slot (R367): its last vigil, since when its vigils have shown STATE 0 or 2,
how often it failed as the active. -/
structure CallUnit where
  alive : Bool := false
  seen : Bool := false
  at_ : Nat := 0
  st : Nat := 0
  term : Nat := 0
  epoch : Nat := 0
  synced : Bool := false
  handover : Bool := false
  badAt : Option Nat := none
  fails : Nat := 0
deriving DecidableEq, Repr

/-- What a slot of a caller is doing (R366 to R369). -/
inductive CallPhase where
  | disabled | listening | electing | elected
deriving DecidableEq, Repr

/-- One slot of a caller (R366 to R369). -/
structure CallSlot where
  phase : CallPhase := .disabled
  actB : Bool := false
  hand : Bool := false
  ua : CallUnit := {}
  ub : CallUnit := {}
  electAt : Nat := 0
  epochHi : Nat := 0
  switches : Nat := 0
  readyRaised : Bool := false
deriving DecidableEq, Repr

/-- The caller (R366). change is set when an entry's FLAGS or TERM changed and no verdict has been loaded since. -/
structure Caller where
  listening : Bool := false
  listened : Bool := false
  listenAt : Nat := 0
  slots : Vector CallSlot 4 := Vector.replicate 4 {}
  cseq : Nat := 0
  change : Bool := false
deriving DecidableEq, Repr

/-- A page change of a segment under LCD overdrive (R423): level coming from, level heading for, frames left. -/
structure LcdSeg where
  p : Nat := 0
  n : Nat := 0
  left : Nat := 0
deriving DecidableEq, Repr

/-- What the bistable engine is doing (R429, R431). -/
inductive DspJob where
  | none | update | recovery
deriving DecidableEq, Repr

/-- A backlight sink: its level moves from one value to another, in 0.01 %, over a time that begins at an apply quantum
(R434). -/
structure BlSink where
  from_ : Nat := 0
  to_ : Nat := 0
  at_ : Nat := 0
  fade : Nat := 0
deriving DecidableEq, Repr

/-- Display engine (R419 to R434, DSP_STATUS). started since its last start; inReg while the rails are in regulation; goal
is the body of the page shown and pages are those that exist, as last applied; levels stand on the bistable panel, none while unknown, and target is what
an update or recovery leads to; figs are the segments with a figure in progress with its phases, begun at figAt and done
by updEnd. LCD frames: frameConf and frameOd are what the last was taken with (R422), frameAt its start, frameDue the next, neg its polarity. railAt is when the rails last started, railOff
when they last stopped, with the mode they served (Table 19-4). [DESIGN CHOICE, log 10] -/
structure Display where
  started : Bool := false
  inReg : Bool := false
  fault : Bool := false
  faultAt : Nat := 0
  shown : Nat := 0xFF
  band : Nat := 7
  lband : Nat := 0xFF
  tband : W32 := 0x80000000
  vlcd : Nat := 0
  goal : Bytes := []
  pages : List (Nat × Bytes) := []
  levels : Option (List Nat) := none
  job : DspJob := .none
  verified : Bool := false
  target : List Nat := []
  updPage : Nat := 0xFF
  figs : List (Nat × List (Nat × Nat)) := []
  figAt : Nat := 0
  updEnd : Option Nat := none
  updates : W32 := 0
  recovs : Nat := 0
  railflt : Nat := 0
  holdDue : Option Nat := none
  neg : Bool := false
  segs : List LcdSeg := []
  showDue : Bool := false
  frameAt : Nat := 0
  frameConf : DspCfg := {}
  frameOd : Vector (Vector Nat 16) 16 := Vector.replicate 16 (Vector.replicate 16 0)
  frameDue : Option Nat := none
  railAt : Nat := 0
  railOff : Option (Nat × Nat) := none
  cap : Nat := 0
  bl : Vector BlSink 4 := Vector.replicate 4 {}
deriving DecidableEq, Repr

/-- A key queue entry (KQE, KQET). -/
structure KqEntry where
  seq : BitVec 16 := 0
  valid : Bool := false
  fwd : Bool := false
  unlock : Bool := false
  locked : Bool := false
  enc : Bool := false
  press : Bool := false
  code : Nat := 0
  stamp : W32 := 0
deriving DecidableEq, Repr

/-- An encoder (R440): accepted pair, last sample, accumulator. -/
structure EncRun where
  pos : BitVec 16 := 0
  err : BitVec 8 := 0
  a : Bool := false
  b : Bool := false
  lastA : Bool := false
  lastB : Bool := false
  acc : Int := 0
deriving DecidableEq, Repr

/-- Keys and encoders (R437 to R445). since holds, by key code, the start t0 and the length of a debounce count in
progress; encAt is the last encoder sample, encWoke is set until the first one after DOZE. [DESIGN CHOICE, log 10] -/
structure Keys where
  reading : BitVec 64 := 0
  pressed : BitVec 64 := 0
  withheld : BitVec 64 := 0
  since : List (Nat × (Nat × Nat)) := []
  encWoke : Bool := false
  encAt : Nat := 0
  q : Vector KqEntry 32 := Vector.replicate 32 {}
  wridx : Nat := 0
  wseq : BitVec 16 := 0
  ovf : Bool := false
  lost : BitVec 16 := 0
  ghosts : BitVec 16 := 0
  lostSat : Nat := 0
  ghostSat : Nat := 0
  fails : Nat := 0
  actdrop : Nat := 0
  enc : Vector EncRun 4 := Vector.replicate 4 {}
  prog : Nat := 0
  progAt : Nat := 0
  lastPress : Option Nat := none
deriving DecidableEq, Repr

/-- The codes of a housekeeping reading, of the channels of Table 21-1: the means of the diode's two, then one of each rail and check. -/
structure HkCodes where
  v1 : Int
  v2 : Int
  rails : List Int := []
  refchk : Int
  zero : Int
deriving DecidableEq, Repr

/-- Housekeeping and thermal protection (R449 to R458). starting and reading are the start reading and the round's reading
in progress, conv their conversions that have ended, oldest first, as channel and corrected code; readAt is when the last reading posted; newest are the results of 0x030 to 0x039; hist holds the TDRV of the last ten rounds, newest first, of
consecutive rounds up to round lastRound; toLog are thermal records still to be appended. [DESIGN CHOICE, log 10] -/
structure Hk where
  starting : Bool := false
  reading : Bool := false
  conv : List (Nat × Rat) := []
  readAt : Nat := 0
  posted : Bool := false
  newest : Vector W32 10 := Vector.replicate 10 0x80000000
  tmax : W32 := 0x80000000
  v1 : Nat := 0
  v2 : Nat := 0
  vact : Nat := 0
  hist : List (Option Int) := []
  lastRound : Nat := 0
  badRun : Nat := 0
  diodeFault : Bool := false
  warn : Bool := false
  shut : Bool := false
  cause : Nat := 0
  shutAt : Nat := 0
  runAt : Option Nat := none
  rflags : BitVec 6 := 0
  railBad : Vector Nat 6 := Vector.replicate 6 0
  railGood : Vector Nat 6 := Vector.replicate 6 0
  toLog : List Bytes := []
deriving DecidableEq, Repr

end Sys2Proof.Machine
end

