-- ==== Sys2Proof/Machine/Com.lean ====
section
/-! DEFINITION. The committed state that the store persists and a pair mirrors (R71, R399), the unit area (R403), and
the state image areas (Table 18-4). -/

namespace Sys2Proof.Machine

/-- An object: EPOCH_W and its body (Table 04-2). -/
structure Obj where
  epochW : Nat
  body : Bytes
deriving DecidableEq, Repr

/-- A rule's service state (R306, R308). -/
structure RuleRun where
  state : Nat := 0
  comp : Bool := false
  cond : Bool := false
  result : Bool := false
  invalid : Bool := false
  cnt : Nat := 0
  a : W32 := 0
  b : W32 := 0
  lastchg : W32 := 0
  writes : W32 := 0
deriving DecidableEq, Repr

/-- The committed state without the measured points (R71): driven points, objects by key 65536 × KIND + INDEX in
rising order, configuration, service state, and the running counters of the key slots (R399). Virtual points are
listed by number in rising order; an unlisted one has never been written (R12). [DESIGN CHOICE, log 10] -/
structure Com where
  ao : Vector W32 16 := Vector.replicate 16 0x80000000
  fn : Vector W32 8 := Vector.replicate 8 0x80000000
  dout : Vector W32 8 := Vector.replicate 8 0x80000000
  vp : List (Nat × W32) := []
  objs : List (Nat × Obj) := []
  cfg : Cfg := {}
  rules : List (Nat × RuleRun) := []
  models : Vector Model 16 := Vector.replicate 16 {}
  keyCnt : Vector Nat 8 := Vector.replicate 8 0
deriving DecidableEq, Repr, Inhabited

/-- A loaded key slot (R115). -/
structure KeySlot where
  key : Bytes
  mask : BitVec 16
  cnt0 : Nat
  fails : Nat := 0
  exhausted : Bool := false
deriving DecidableEq, Repr

/-- A defined ring (R405). -/
structure RingDef where
  en : Bool
  copies : Nat
  base : Nat
  slots : Nat
  slotsz : Nat
deriving DecidableEq, Repr

/-- PAIR_CONFIG with its defaults (Table 17-9). -/
structure PairCfg where
  ackto : Nat := 5
  keyfwd : Bool := true
  ckey : Nat := 0
deriving DecidableEq, Repr

/-- The unit area's records (Table 18-5): what belongs to the unit and outlives power. nf is the diode's ideality factor, trims the die
trims, sarTest the SAR factors of the final test; rounds are those spent in NAP or RUN since the records were last rewritten (R404).
[DEDUCED, log 79]
[DESIGN CHOICE, log 11] [DESIGN CHOICE, log 85] -/
structure UnitArea where
  serial : BitVec 64 := 0x00A35C10000021F7
  crev : Nat := 2
  drev : Nat := 2
  frev : Nat := 2
  nf : Rat := 1008 / 1000
  trims : Bytes := []
  sarTest : SarFactors := {}
  pt : Vector (Option Coeff) 16 := Vector.replicate 16 none
  hu : Vector (Option Coeff) 16 := Vector.replicate 16 none
  sar : SarFactors := {}
  keys : Vector (Option KeySlot) 8 := Vector.replicate 8 none
  rings : Vector (Option RingDef) 64 := Vector.replicate 64 none
  bp : Nat := 0
  digest : Option Bytes := none
  patchHigh : Nat := 0
  pair : PairCfg := {}
  term : Nat := 0
  callTerms : Vector Nat 4 := Vector.replicate 4 0
  rounds : Nat := 0
deriving DecidableEq, Repr

/-- The SAR factors in force: those of the last CAL_SELF that passed, before one those of the final test (R181, R403). -/
def UnitArea.factors (u : UnitArea) : SarFactors := if u.sar.src then u.sar else u.sarTest

/-- One record of Table 18-5, counted from the factory record's 0, put from one picture of the area into another. -/
def UnitArea.put (r : Nat) (src dst : UnitArea) : UnitArea :=
  match r with
  | 0 => { dst with serial := src.serial, crev := src.crev, drev := src.drev, frev := src.frev, nf := src.nf, trims := src.trims
                    sarTest := src.sarTest }
  | 1 => { dst with pt := src.pt }
  | 2 => { dst with hu := src.hu }
  | 3 => { dst with sar := src.sar }
  | 4 => { dst with keys := src.keys }
  | 5 => { dst with rings := src.rings }
  | 6 => { dst with bp := src.bp, digest := src.digest, patchHigh := src.patchHigh }
  | _ => { dst with pair := src.pair, term := src.term, callTerms := src.callTerms }

/-- The two copies of a unit record: whether the second one is the newer, their sequence numbers and polarities, and whether the older
one fails its CRC (R404). [DESIGN CHOICE, log 100] -/
structure UnitRec where
  newB : Bool := false
  seqNew : Nat := 1
  seqOld : Nat := 0
  polNew : Bool := false
  polOld : Bool := false
  oldBad : Bool := false
deriving DecidableEq, Repr

/-- The unit area as it stands in the cells: what the newer copy of each record holds, what the older one holds, and how they stand (R404).
[DESIGN CHOICE, log 100] [DESIGN CHOICE, log 85] -/
structure UnitStore where
  newest : UnitArea := {}
  older : UnitArea := {}
  recs : Vector UnitRec 8 := Vector.replicate 8 {}
deriving DecidableEq, Repr

/-- A write of unit records, which a power failure or a reset in the same quantum may cut (R396, R397): when it began, the area and the
groups in error before it, the records in the order of writing, each with whether it is flipped, and how many of them a reply has told.
[DEDUCED, log 55] -/
structure UnitOp where
  at_ : Nat
  before : UnitStore
  recs : List (Nat × Bool)
  bad : List (Nat × Nat) := []
  told : Nat := 0
deriving DecidableEq, Repr

/-- The header of a state image area (R400): all bytes zero, valid, or neither. -/
inductive Header where
  | zero | valid | bad
deriving DecidableEq, Repr

/-- A journal record (Table 18-4): its epoch and GEN, its length, and the content that its change records lead to.
[DESIGN CHOICE, log 85] -/
structure JournalRec where
  epoch : Nat
  gen : Nat
  bytes : Nat
  com : Com
deriving DecidableEq, Repr

/-- A state image area (Table 18-4): generation, base epoch and its content, whether body and journal are stored complemented, the
journal in order, the marks by slot with their epoch and GEN, and the next mark slot. [DESIGN CHOICE, log 85] -/
structure ImageArea where
  hdr : Header := .zero
  gen : Nat := 0
  base : Nat := 0
  pol : Bool := false
  com : Com := {}
  journal : List JournalRec := []
  marks : List (Nat × Nat × Nat) := []
  markAt : Nat := 0
deriving DecidableEq, Repr

/-- The last write into the cells, which a power failure or a reset in the same quanta may cut (R396, R397): when it
began, the cells and the groups in error before it, the cells after it, its pieces as (address, length) in the order of writing, the
pages that stood new when a power-fail warning stopped it, and those that a reply has told. [DEDUCED, log 55] -/
structure StoreOp where
  at_ : Nat
  old : List Host.Cell
  new : List Host.Cell
  pieces : List (Nat × Nat)
  bad : List (Nat × Nat) := []
  stopped : Option Nat := none
  told : Nat := 0
deriving DecidableEq, Repr

/-- The last persistence of an epoch, which a reset may cut before it completes (R397, R399): when it began, the areas, the current one
the persisted epoch and the groups in error before it, the area an image switch writes, its pieces in the order of writing and the pages
of them done before; once a power-fail warning has stopped it, what it leads to (R396). [DEDUCED, log 55] -/
structure ImageOp where
  at_ : Nat
  a : ImageArea
  b : ImageArea
  cur : Option Bool
  pepoch : Nat
  switchTo : Option Bool
  pieces : List (Nat × Nat) := []
  bad : List (Nat × Nat) := []
  fromPages : Nat := 0
  stopped : Option (ImageArea × ImageArea × Option Bool × Nat) := none
deriving DecidableEq, Repr

/-- What the store starts only once a power-fail warning has cleared (R396): a record of a log, the scrub of a group, a unit record, with
the reply OK and its results that wait for it, the header that a full copy zeroes, the newest epoch persisted, by full copy, with an
ACK. [DESIGN CHOICE, log 100] -/
inductive StoreOwed where
  | record (log : Nat) (data : Bytes)
  | scrub (group : Nat)
  | unit (record : Nat) (flip : Bool) (reply : Option (Origin × Byte × Bytes))
  | copyHead
  | image (copy ack : Bool)
deriving DecidableEq, Repr

/-- A reply that waits for the end of a write (R107, R417). -/
structure Asked where
  org : Origin
  tag : Byte
  status : Nat
  results : Bytes
deriving DecidableEq, Repr

/-- Running state of the store unit (R392 to R404, NVM_STATUS). cur is the current image area (false A, true B), none
while the store is blank or its image is lost; seek are the rings whose head is to be found again (R405, R409); owed is what waits for
the end of a power-fail warning. switchOnly, switches and lastSwitch outlive a device reset (R399, R402, Table 18-8). -/
structure StoreRun where
  recalled : Bool := false
  cur : Option Bool := none
  inflight : Option StoreOp := none
  imgOp : Option ImageOp := none
  unitOp : Option UnitOp := none
  owed : List StoreOwed := []
  asked : Option Asked := none
  seek : List Nat := []
  fallback : Bool := false
  imglost : Bool := false
  unitfix : Bool := false
  ringfix : Bool := false
  corr : W32 := 0
  uncorr : W32 := 0
  wfail : Nat := 0
  switchOnly : Bool := false
  lastbad : Nat := 0
  scanunc : Nat := 0
  eccArmed : Bool := true
  pstate : Nat := 0
  patchwhy : Nat := 0
  patchVer : Nat := 0
  switches : W32 := 0
  pepoch : Nat := 0
  lastSwitch : Nat := 0
deriving DecidableEq, Repr

/-- What the always-on domain keeps through every reset source but power-on (R296, R456, HK_STATUS SHUTS). -/
structure AlwaysOn where
  ilkLatched : BitVec 32 := 0
  shutStamps : List Nat := []
  thermLatched : Bool := false
  shuts : Nat := 0
deriving DecidableEq, Repr

/-- The latched values of the measured points (R16); hk holds 0x030 to 0x039. -/
structure Latched where
  pt : Vector W32 16 := Vector.replicate 16 0x80000000
  hu : Vector W32 16 := Vector.replicate 16 0x80000000
  pr : Vector W32 16 := Vector.replicate 16 0x80000000
  hk : Vector W32 10 := Vector.replicate 10 0x80000000
  vl : Vector W32 16 := Vector.replicate 16 0x80000000
  di : Vector W32 16 := Vector.replicate 16 0x80000000
deriving DecidableEq, Repr, Inhabited

/-- What an epoch carries to a standby: the committed state, the measured points as latched, the key slots, and what the
RTC_SETs of the last epoch that held any do (R135, R378, R381, R385, R403); arms are the PARAMS of the ILK_ARMs that a delta brings
(R311). [DESIGN CHOICE, log 44] -/
structure Held where
  com : Com := {}
  latched : Latched := {}
  keys : Vector (Option KeySlot) 8 := Vector.replicate 8 none
  rtc : Nat × List RtcAct := (0, [])
  arms : List Bytes := []
deriving DecidableEq, Repr, Inhabited

end Sys2Proof.Machine
end

