-- ==== Sys2Proof/Config.lean ====
section
/-! DEFINITION. The values the spec leaves open. Each is an opaque constant with no body: no proof can see its value, so
a claim holds whatever it is. notes/assumptions says which rule leaves it open. -/

namespace Sys2Proof

/-- The n-th value that a choice the spec leaves to the device takes; State.free counts the choices made.
[DESIGN CHOICE, log 8] -/
opaque Config.freeNat : Nat → Nat

/-- The carrier phase that the device assigns to a channel at its k-th assignment (R210), of which the spec gives only that it
lets no window of 10 µs hold more than 10 requests. [DESIGN CHOICE, log 98] -/
opaque Config.carrierPhase : Nat → Nat → Nat

/-- The natural logarithm as the device computes it (R149, R291): its precision is not stated. [DESIGN CHOICE, log 12] -/
opaque Config.ln : Rat → Rat

/-- Whether a result within the tolerance of R150's Newton iteration rounds up (T < 0). [DESIGN CHOICE, log 12] -/
opaque Config.newtonOff : Rat → Int

/-- Whether an output of the presence band-pass that lies between two codes takes the upper one (R189). [DESIGN CHOICE, log 12] -/
opaque Config.bandUp : Rat → Bool

/-- Verification of an ECDSA P-256 signature against Oluano's key in mask ROM (R413): of digest and SIG.
[DESIGN CHOICE, log 12] -/
opaque Config.ecdsaOk : Bytes → Bytes → Bool

/-- The bytes of a whole configuration in a full copy (R381), whose layout is not given. [DESIGN CHOICE, log 13] -/
opaque Config.cfgBytes : Machine.Cfg → Bytes

/-- The configuration that such bytes carry. [DESIGN CHOICE, log 13] -/
opaque Config.cfgOf : Bytes → Machine.Cfg

/-- The bytes of a zone's thermal model in a record (R378), whose layout is not given. [DESIGN CHOICE, log 13] -/
opaque Config.modelBytes : Machine.Model → Bytes

/-- The thermal model that such bytes carry. [DESIGN CHOICE, log 13] -/
opaque Config.modelOf : Bytes → Machine.Model

/-- Where the record kinds that are no kinds of Table 04-1 begin (R378). [DESIGN CHOICE, log 13] -/
opaque Config.kindBase : Nat

/-- The length of the body of a state image (Table 18-4), whose layout is not given. [DESIGN CHOICE, log 13] -/
opaque Config.imageLen : Machine.Com → Nat

/-- Journal bytes that a change of the committed state takes (R399), whose layout is not given for configuration.
[DESIGN CHOICE, log 13] -/
opaque Config.journalBytes : Machine.Com → Machine.Com → Nat

/-- The groups that a copy of a unit record of Table 18-5 occupies, the first and the others; record r's copies are 2 r and 2 r + 1. Their
place in the unit area is not given (R404). [DESIGN CHOICE, log 100] -/
opaque Config.unitGroups : Nat → Nat × List Nat

/-- Whether the limiter is at its limit in a quantum for which no row tells it (R63): of State.free and TB.
[DESIGN CHOICE, log 23] -/
opaque Config.limiterNow : Nat → Nat → Bool

/-- Whether the line stage drives dominant, and the receiver reads dominant, in a quantum: of State.era and TB; no row tells it
(R333). [DESIGN CHOICE, log 101] -/
opaque Config.lineNow : Nat → Nat → Bool × Bool

/-- What a monitor shows in a quantum for which no row tells it: of the monitor, State.era and TB. 0: VACT present, if odd (R31). 1: L+ in
10 mV; 16 + k: load current of DOk (R264). 3: the line's resting level (R315). [DESIGN CHOICE, log 102] -/
opaque Config.sensed : Nat → Nat → Nat → Nat

/-- The quanta of an era in which a frame of the field link failed, beside those of a link fault (R249, R264). [DESIGN CHOICE, log 102] -/
opaque Config.failedFrames : Nat → List Nat

end Sys2Proof
end

