-- ==== Sys2Proof/Machine/State.lean ====
section
/-! DEFINITION. The state of the device as plain data, the reasons a step can stop, and the state right after reset. -/

namespace Sys2Proof.Machine

/-- Why a step stops with a fault. -/
inductive Fault where
  /-- Raised by the event rows that name a channel, bank, slot, segment or entry the part does not have (a channel 16
  of 16): no such happening exists. Safe: nothing is claimed of it. -/
  | noSuchUnit
deriving DecidableEq, Repr

/-- Why a step is refused. -/
inductive Refusal where
  /-- Raised by an arm of exec whose row has no meaning yet. Safe: nothing is claimed of that row. -/
  | notModelled (mnemonic : String)
deriving DecidableEq, Repr

/-- The state of the device. pending are the commands and events that wait, first in, first out. free is the model's
own counter of open choices made and era of the times the device lost power, no parts of the device. w1cNow are the flags of W1C registers that hardware raised in
quantum w1cAt, by register address (R7); beatAt is the quantum of the last beat boundary. appliedVp are the virtual points
as last applied, which the data plane steers by (R14, R242).
heldRes are the newest results before quantum heldAt, a beat boundary still to come, of points that post in it (R16).
cells are the bytes of patch, logs and user region, badGroups the groups of them whose check byte disagrees, with the
number of bits in error (R392), unsteady the bytes that a cut write left indeterminate (R397). unit is the unit area as the device uses it,
unitStore as the cells hold it (R404). -/
structure State where
  phase : Phase := .reset
  tb : Nat := 0
  tbFrac : Nat := 0
  free : Nat := 0
  era : Nat := 0
  pmrc : BitVec 7 := 1
  xtalOk : Bool := false
  ev : Events := {}
  cal : Calendar := {}
  pw : Power := {}
  mgmt : Mgmt := {}
  link : Link := {}
  rem : Remote := {}
  com : Com := {}
  epoch : Nat := 0
  tbc : Nat := 0
  beatAt : Nat := 0
  staged : List Staged := []
  nextUid : Nat := 0
  waits : List Waiting := []
  toApply : List Write := []
  applyDue : Option Nat := none
  groups : Vector (Option Group) 8 := Vector.replicate 8 none
  snaps : Vector (Option Snap) 4 := Vector.replicate 4 none
  applied : Cfg := {}
  appliedVp : List (Nat × W32) := []
  latched : Latched := {}
  prm : Prm := {}
  sar : Sar := {}
  pres : Presence := {}
  vl : Valves := {}
  out : Outs := {}
  fio : Field := {}
  ilk : Ilk := {}
  svc : Services := {}
  bus : Bus := {}
  pair : Pair := {}
  caller : Caller := {}
  unit : UnitArea := {}
  unitStore : UnitStore := {}
  areaA : ImageArea := {}
  areaB : ImageArea := {}
  cells : List Host.Cell := []
  badGroups : List (Nat × Nat) := []
  worn : List Nat := []
  unsteady : List Nat := []
  store : StoreRun := {}
  dsp : Display := {}
  keys : Keys := {}
  hk : Hk := {}
  aon : AlwaysOn := {}
  heldAt : Nat := 0
  heldRes : List (Nat × W32) := []
  w1cAt : Nat := 0
  w1cNow : List (Nat × W32) := []
  pending : List Instr := []
deriving DecidableEq, Repr

/-- The device held in reset after a power-on: every register at its Reset value, PMRC 0x00000001 (R9, R61), nothing in
the store, RESET_RELEASE still to come. [DESIGN CHOICE, log 1] [DESIGN CHOICE, log 10] -/
def State.reset : State := {}

end Sys2Proof.Machine
end

