-- ==== Sys2Proof/Machine/Ops.lean ====
section
/-! DEFINITION. The operations every unit shares: bits and bytes, sparse maps, byte memory, quanta of TB, raising an
event source, flags of W1C registers, free values. -/

namespace Sys2Proof.Machine

/-! ### Bits, bytes and numbers -/

/-- Bit i of b set to v. -/
def putBit {w : Nat} (b : BitVec w) (i : Nat) (v : Bool) : BitVec w :=
  if v then b ||| (1#w <<< i) else b &&& ~~~(1#w <<< i)

/-- The low n bits of x, then the rest: n little-endian bytes (R6). -/
def le : Nat → Nat → Bytes
  | 0, _ => []
  | n + 1, x => BitVec.ofNat 8 (x % 256) :: le n (x / 256)

/-- n little-endian bytes of a two's-complement integer (R11). -/
def leI (n : Nat) (x : Int) : Bytes := le n (x % (256 ^ n : Nat)).toNat

/-- The value of little-endian bytes (R6). -/
def leVal : Bytes → Nat
  | [] => 0
  | b :: bs => b.toNat + 256 * leVal bs

/-- n bytes of p from offset off; missing bytes are left out. -/
def slice (p : Bytes) (off n : Nat) : Bytes := (p.drop off).take n

/-- The unsigned n-byte field at offset off. -/
def un (p : Bytes) (off n : Nat) : Nat := leVal (slice p off n)

/-- One byte at an offset, 0 beyond the end. -/
def u8 (p : Bytes) (off : Nat) : Nat := (p[off]?.getD 0).toNat

/-- Two bytes at an offset. -/
def u16 (p : Bytes) (off : Nat) : Nat := un p off 2

/-- Four bytes at an offset. -/
def u32 (p : Bytes) (off : Nat) : Nat := un p off 4

/-- A two's-complement number of n bytes. -/
def signed (n x : Nat) : Int := if 2 * x ≥ 256 ^ n then (x : Int) - (256 ^ n : Nat) else x

/-- A signed two-byte field. -/
def s16 (p : Bytes) (off : Nat) : Int := signed 2 (u16 p off)

/-- A signed four-byte field. -/
def s32 (p : Bytes) (off : Nat) : Int := signed 4 (u32 p off)

/-- A signed one-byte field. -/
def s8 (p : Bytes) (off : Nat) : Int := signed 1 (u8 p off)

/-- A four-byte field as a word. -/
def w32 (p : Bytes) (off : Nat) : W32 := BitVec.ofNat 32 (u32 p off)

/-- The four bytes of a word (R6). -/
def wBytes (w : W32) : Bytes := le 4 w.toNat

/-- A value as a point holds it (R11). -/
def wI (x : Int) : W32 := BitVec.ofInt 32 x

/-- A natural number as a register word. -/
def wN (x : Nat) : W32 := BitVec.ofNat 32 x

/-- One bit as a number. -/
def b2n (b : Bool) : Nat := if b then 1 else 0

/-- Whether bit i of n is 1. -/
def bit (n i : Nat) : Bool := n.testBit i

/-- The low n bits of a Nat. -/
def low (x n : Nat) : Nat := x % 2 ^ n

/-- bs with data written from offset off; bytes between the end and off are 0 (R482). -/
def overlay (bs : Bytes) (off : Nat) (data : Bytes) : Bytes :=
  let b := bs ++ List.replicate (off - bs.length) 0
  b.take off ++ data ++ b.drop (off + data.length)

/-- bs cut or filled with 0 to n bytes. -/
def fit (n : Nat) (bs : Bytes) : Bytes := (bs ++ List.replicate (n - bs.length) 0).take n

/-- x held between lo and hi. -/
def clampI (lo hi x : Int) : Int := max lo (min hi x)

/-- A saturating count. -/
def satInc (n max : Nat) : Nat := if n < max then n + 1 else n

/-- Rounding to the nearest integer, halves away from zero. [DEDUCED, log 46] -/
def roundHalfAway (q : Rat) : Int :=
  if q < 0 then -((-q + 1 / 2).floor) else (q + 1 / 2).floor

/-! ### Fixed and sparse tables -/

/-- Entry i of a table, or d past its end. -/
def nth {α : Type} {n : Nat} (v : Vector α n) (i : Nat) (d : α) : α := v[i]?.getD d

/-- Entry i of a table changed by f; no change past its end. -/
def upd {α : Type} {n : Nat} (v : Vector α n) (i : Nat) (f : α → α) : Vector α n :=
  if h : i < n then v.set i (f v[i]) else v

/-- Every entry of a table changed by f, which is given its index. -/
def updAll {α : Type} {n : Nat} (v : Vector α n) (f : Nat → α → α) : Vector α n :=
  v.mapIdx f

/-- Look-up in a table kept in rising order of key. -/
def mget {α : Type} (m : List (Nat × α)) (k : Nat) : Option α :=
  (m.find? (fun e => e.1 == k)).map (·.2)

/-- Insertion or replacement, rising order kept. -/
def mset {α : Type} : List (Nat × α) → Nat → α → List (Nat × α)
  | [], k, v => [(k, v)]
  | (k', v') :: m, k, v =>
    if k < k' then (k, v) :: (k', v') :: m
    else if k = k' then (k, v) :: m
    else (k', v') :: mset m k v

/-- Removal. -/
def mdel {α : Type} (m : List (Nat × α)) (k : Nat) : List (Nat × α) := m.filter (fun e => e.1 != k)

/-! ### Byte memory of the store (Table 18-1): one canonical form -/

/-- What a byte of the store reads as where nothing has been written (DESIGN CHOICE, log 4). -/
def Memory.unlisted : Byte := 0x00

/-- Size of the store (R391, Table 18-1). -/
def Memory.size : Nat := 0x100000

/-- Addresses strictly rising, inside the store, no entry equal to what an unlisted byte reads as. -/
abbrev Memory.wf (m : List Host.Cell) : Prop :=
  m.Pairwise (fun a b => a.1 < b.1) ∧ ∀ c ∈ m, c.1 < Memory.size ∧ c.2 ≠ Memory.unlisted

/-- One byte. [DESIGN CHOICE, log 4] -/
def Memory.read : List Host.Cell → Nat → Byte
  | [], _ => Memory.unlisted
  | (a', b) :: m, a => if a' = a then b else Memory.read m a

/-- One byte written, canonical form kept; an address beyond the store is not written. -/
def Memory.put : List Host.Cell → Nat → Byte → List Host.Cell
  | [], a, b => if b = Memory.unlisted then [] else [(a, b)]
  | (a', b') :: m, a, b =>
    if a < a' then (if b = Memory.unlisted then (a', b') :: m else (a, b) :: (a', b') :: m)
    else if a = a' then (if b = Memory.unlisted then m else (a, b) :: m)
    else (a', b') :: Memory.put m a b

/-- One byte written inside the store. -/
def Memory.write (m : List Host.Cell) (a : Nat) (b : Byte) : List Host.Cell :=
  if a < Memory.size then Memory.put m a b else m

/-- n bytes from an address upwards. -/
def Memory.readN (m : List Host.Cell) (a : Nat) : Nat → Bytes
  | 0 => []
  | n + 1 => Memory.read m a :: Memory.readN m (a + 1) n

/-- Bytes written from an address upwards. -/
def Memory.writeN (m : List Host.Cell) (a : Nat) : Bytes → List Host.Cell
  | [] => m
  | b :: bs => Memory.writeN (Memory.write m a b) (a + 1) bs

/-! ### Quanta of TB (R130, R133) -/

/-- The modulus of TB: 281 474 976 000 000 (R130). -/
def tbMod : Nat := 281474976000000

/-- The quantum d after t. [DESIGN CHOICE, log 5] -/
def tbAdd (t d : Nat) : Nat := (t + d) % tbMod

/-- The quanta from b to a, modulo the wrap. -/
def tbSub (a b : Nat) : Nat := (a % tbMod + tbMod - b % tbMod) % tbMod

/-- Whether t lies in the window [start, start + d) (R133). -/
def inWindow (t start d : Nat) : Bool := tbSub t start < d

/-- The first multiple of n after t; n divides the modulus of TB. [DESIGN CHOICE, log 5] -/
def nextMultiple (n t : Nat) : Nat := ((t / n + 1) * n) % tbMod

/-- The quanta from t to a due quantum, 0 once it is past. -/
def timeLeft (due t : Nat) : Nat := if tbSub due t ≤ 2 ^ 40 then tbSub due t else 0

/-- n crystal periods of 15625/512 µs, as TB counts them in DOZE with its fraction kept (R24). -/
def State.crystal (n : Nat) (s : State) : State :=
  { s with tb := tbAdd s.tb ((s.tbFrac + 15625 * n) / 512), tbFrac := (s.tbFrac + 15625 * n) % 512 }

/-- TB moved forward to a quantum at which something falls due, in DOZE to the first crystal period at or after it; no window is
longer than 2^40 µs (R133), and TB never runs backwards (R24): a due quantum that lies behind is taken now.
[DESIGN CHOICE, log 5] -/
def State.jump (due : Nat) (s : State) : State :=
  if tbSub due s.tb ≤ 2 ^ 40 then
    if s.phase = .doze then s.crystal ((512 * tbSub due s.tb - s.tbFrac + 15624) / 15625) else { s with tb := due % tbMod }
  else s

/-- TB moved forward by d quanta. -/
def State.pass (d : Nat) (s : State) : State := { s with tb := tbAdd s.tb d }

/-! ### Free values -/

/-- The next free value, counted in State.free. [DESIGN CHOICE, log 8] -/
def State.draw (s : State) : Nat × State := (Config.freeNat s.free, { s with free := s.free + 1 })

/-- What a monitor shows in quantum t (R31, R264, R315). [DESIGN CHOICE, log 102] -/
def State.sense (k t : Nat) (s : State) : Nat := Config.sensed k s.era t

/-! ### Phases and personalities -/

/-- The three personalities (Table 00-1). -/
inductive Pers where
  | transport | service | caller
deriving DecidableEq, Repr

/-- The personality from the sampled straps (R1). A reserved value has none and runs nothing (R2).
[DESIGN CHOICE, log 88] -/
def State.pers (s : State) : Pers :=
  if s.pw.strap = 0 then .transport else if s.pw.strap = 4 then .caller else .service

/-- Paired unit A or B (Table 00-1). [DESIGN CHOICE, log 88] -/
def State.paired (s : State) : Bool := s.pw.strap == 2 || s.pw.strap == 3

/-- The device runs: NAP or RUN (Table 01-5). -/
def State.awake (s : State) : Bool := s.phase == .nap || s.phase == .run

/-- The device drives its outputs and takes changes: single, caller, or ACTIVE or SOLO in a pair (R360). -/
def State.acting (s : State) : Bool :=
  !s.paired || s.pair.role == .active || s.pair.role == .solo

/-- The unit of PMUN bit i runs. -/
def State.runs (s : State) (i : Nat) : Bool := s.pw.pmun.getLsbD i

/-! ### Event fabric -/

/-- The wake-capable sources, in the bit order of EVWKEN (R128). -/
def wakeSources : List Nat := [14, 63, 106, 119, 120, 53, 85]

/-- The end of a pulse and its following high time; raises during them give one further pulse, which begins there (R126).
[DEDUCED, log 15] -/
def PadPulse.finish (p : PadPulse) : PadPulse :=
  match p.highUntil with
  | none => p
  | some h => if p.again then { lowUntil := some (tbAdd h 2), highUntil := some (tbAdd h 4), again := false } else {}

/-- The pulse as it stands in quantum t: one whose high time has ended by then is over, and a further one has begun. -/
def PadPulse.upTo (p : PadPulse) (t : Nat) : PadPulse :=
  let ended := fun (p : PadPulse) => p.highUntil.any fun h => decide (tbSub t h ≤ 2 ^ 40)
  let q := if ended p then p.finish else p
  if ended q then q.finish else q

/-- A pad in pulse mode sees a raise routed to it in quantum t (R126): a pulse of 2 µs from the next quantum and 2 µs
high, or one further pulse after those in progress. [DEDUCED, log 15] -/
def PadPulse.hit (p : PadPulse) (t : Nat) : PadPulse :=
  let p := p.upTo t
  match p.lowUntil with
  | none => { lowUntil := some (tbAdd t 3), highUntil := some (tbAdd t 5), again := false }
  | some e => if tbAdd t 3 = e then p else { p with again := true }

/-- A pad in pulse mode is low in quantum t (R126). [DEDUCED, log 15] -/
def PadPulse.lowIn (p : PadPulse) (t : Nat) : Bool :=
  match (p.upTo t).lowUntil with
  | none => false
  | some e => 1 ≤ tbSub e t && tbSub e t ≤ 2

/-- A pad is low in quantum t by the fabric as it stood before it: by a routed source that is set, or by a pulse (R125, R126, R474). -/
def Events.low (e : Events) (padB : Bool) (t : Nat) : Bool :=
  let en := if padB then e.enB else e.enA
  if (if padB then e.pulseB else e.pulseA) then en && (if padB then e.padB else e.padA).lowIn t
  else en && (e.st &&& (if padB then e.routeB else e.routeA)) != 0

/-- Before the fabric changes in quantum t: the pads' levels in it, which no change in it moves (R474). -/
def Events.noteLow (e : Events) (t : Nat) : Events :=
  if e.lowAt = some t then e else { e with lowAt := some t, lowA := e.low false t, lowB := e.low true t }

/-- Source n raised in quantum t (R123). -/
def Events.raise (e : Events) (n t : Nat) : Events :=
  let e := e.noteLow t
  let e := if e.raisedAt = t then e else { e with raisedAt := t, raisedNow := 0, ovNow := 0, clearedNow := 0 }
  if e.raisedNow.getLsbD n then e
  else
    let was := e.st.getLsbD n || e.clearedNow.getLsbD n
    { e with
      st := putBit e.st n true
      ov := if was then putBit e.ov n true else e.ov
      raisedNow := putBit e.raisedNow n true
      ovNow := if was then putBit e.ovNow n true else e.ovNow
      padA := if e.pulseA && e.enA && e.routeA.getLsbD n then e.padA.hit t else e.padA
      padB := if e.pulseB && e.enB && e.routeB.getLsbD n then e.padB.hit t else e.padB }

/-- A source is raised (R123). In DOZE the fabric raises nothing, and a wake-capable source is held (R127, R129); in
reset nothing is raised. -/
def State.raise (n : Nat) (s : State) : State :=
  match s.phase with
  | .nap => { s with ev := s.ev.raise n s.tb }
  | .run => { s with ev := s.ev.raise n s.tb }
  | .doze =>
    match wakeSources.idxOf? n with
    | none => s
    | some i =>
      let first := if s.ev.wken.getLsbD i && s.ev.firstWake.isNone then some (n, s.tb) else s.ev.firstWake
      { s with ev := { s.ev with heldWake := putBit s.ev.heldWake n true, firstWake := first } }
  | .unpowered => s
  | .reset => s
  | .held => s

/-- IRQA_N or IRQB_N is driven low in the next quantum: in level mode by a routed source that is set, in pulse mode by a
pulse; in DOZE as on entry, in reset never (R125 to R127). [DEDUCED, log 15] -/
def State.irqLow (s : State) (padB : Bool) : Bool :=
  match s.phase with
  | .nap => s.ev.low padB (tbAdd s.tb 1)
  | .run => s.ev.low padB (tbAdd s.tb 1)
  | .doze => if padB then s.ev.dozeB else s.ev.dozeA
  | .unpowered => false
  | .reset => false
  | .held => false

/-- IRQA_N or IRQB_N is driven low in this quantum: a change of the fabric moves it from the next one on (R474).
[DEDUCED, log 15] [DESIGN CHOICE, log 84] -/
def State.irqNow (s : State) (padB : Bool) : Bool :=
  let held := if s.ev.lowAt = some s.tb then some (if padB then s.ev.lowB else s.ev.lowA) else none
  match s.phase with
  | .nap => held.getD (s.ev.low padB s.tb)
  | .run => held.getD (s.ev.low padB s.tb)
  | .doze => held.getD (if padB then s.ev.dozeB else s.ev.dozeA)
  | .unpowered => false
  | .reset => false
  | .held => false

/-- A source raised if a condition holds. -/
def State.raiseIf (c : Bool) (n : Nat) (s : State) : State := if c then s.raise n else s

/-! ### Flags of W1C registers -/

/-- Hardware raises flags of the W1C register at an address in this quantum (R7). [DEDUCED, log 14] -/
def State.flag (addr : Nat) (bits : W32) (s : State) : State :=
  let old := if s.w1cAt = s.tb then s.w1cNow else []
  { s with w1cAt := s.tb, w1cNow := (addr, bits) :: old }

/-- What a W1C write clears of a register: the bits written 1, but those hardware raised in this quantum (R7).
[DEDUCED, log 14] -/
def State.clearable (addr : Nat) (bits : W32) (s : State) : W32 :=
  if s.w1cAt = s.tb then
    s.w1cNow.foldl (fun b e => if e.1 = addr then b &&& ~~~e.2 else b) bits
  else bits

/-! ### Outcomes -/

/-- The outcome of a step of Sys2Proof. -/
abbrev Out := Host.Outcome State Fault Refusal

/-- An event row about a unit that exists, or the fault that it does not. [DESIGN CHOICE, log 2] -/
def unitEvent (exists_ : Bool) (s : State) : Out := if exists_ then .next s else .fault .noSuchUnit

end Sys2Proof.Machine
end

