-- ==== Sys2Proof/Machine/Codec.lean ====
section
/-! DEFINITION. The codes of packets, records and coefficients: CRC-16 (R95), CRC-32 of IEEE 802.3 (R376, Table 18-7),
SHA-256 and HMAC-SHA-256 (R116, R413), binary32 and binary64 (R150, R285). -/

namespace Sys2Proof.Machine

/-! ### CRC -/

/-- Eight shifts of the CRC-16 register. -/
def crc16Shift : Nat → BitVec 16 → BitVec 16
  | 0, c => c
  | n + 1, c => crc16Shift n (if c.getLsbD 15 then (c <<< 1) ^^^ 0x1021#16 else c <<< 1)

/-- CRC-16, polynomial 0x1021, initial value 0xFFFF, not reflected, no final XOR (R95). -/
def crc16 (bs : Bytes) : Nat :=
  (bs.foldl (fun (c : BitVec 16) (b : Byte) => crc16Shift 8 (c ^^^ (b.setWidth 16 <<< 8))) 0xFFFF#16).toNat

/-- Eight shifts of the reflected CRC-32 register. -/
def crc32Shift : Nat → W32 → W32
  | 0, c => c
  | n + 1, c => crc32Shift n (if c.getLsbD 0 then (c >>> 1) ^^^ 0xEDB88320#32 else c >>> 1)

/-- CRC-32 of IEEE 802.3. [PRESUMED, log 6] -/
def crc32 (bs : Bytes) : Nat :=
  (~~~(bs.foldl (fun (c : W32) (b : Byte) => crc32Shift 8 (c ^^^ b.setWidth 32)) 0xFFFFFFFF#32)).toNat

/-! ### SHA-256 and HMAC (PRESUMED: FIPS 180-4 and RFC 2104, log 6) -/

/-- The round constants. -/
def shaK : List W32 :=
  [0x428a2f98, 0x71374491, 0xb5c0fbcf, 0xe9b5dba5, 0x3956c25b, 0x59f111f1, 0x923f82a4, 0xab1c5ed5] ++
  [0xd807aa98, 0x12835b01, 0x243185be, 0x550c7dc3, 0x72be5d74, 0x80deb1fe, 0x9bdc06a7, 0xc19bf174] ++
  [0xe49b69c1, 0xefbe4786, 0x0fc19dc6, 0x240ca1cc, 0x2de92c6f, 0x4a7484aa, 0x5cb0a9dc, 0x76f988da] ++
  [0x983e5152, 0xa831c66d, 0xb00327c8, 0xbf597fc7, 0xc6e00bf3, 0xd5a79147, 0x06ca6351, 0x14292967] ++
  [0x27b70a85, 0x2e1b2138, 0x4d2c6dfc, 0x53380d13, 0x650a7354, 0x766a0abb, 0x81c2c92e, 0x92722c85] ++
  [0xa2bfe8a1, 0xa81a664b, 0xc24b8b70, 0xc76c51a3, 0xd192e819, 0xd6990624, 0xf40e3585, 0x106aa070] ++
  [0x19a4c116, 0x1e376c08, 0x2748774c, 0x34b0bcb5, 0x391c0cb3, 0x4ed8aa4a, 0x5b9cca4f, 0x682e6ff3] ++
  [0x748f82ee, 0x78a5636f, 0x84c87814, 0x8cc70208, 0x90befffa, 0xa4506ceb, 0xbef9a3f7, 0xc67178f2]

/-- The eight working words. -/
structure ShaSt where
  a : W32 := 0x6a09e667
  b : W32 := 0xbb67ae85
  c : W32 := 0x3c6ef372
  d : W32 := 0xa54ff53a
  e : W32 := 0x510e527f
  f : W32 := 0x9b05688c
  g : W32 := 0x1f83d9ab
  h : W32 := 0x5be0cd19
deriving DecidableEq, Repr

/-- The schedule extended by n words, newest first in w. -/
def shaExtend : Nat → List W32 → List W32
  | 0, w => w
  | n + 1, w =>
    let g : Nat → W32 := fun i => w[i]?.getD 0
    let x := g 14
    let y := g 1
    let s0 := x.rotateRight 7 ^^^ x.rotateRight 18 ^^^ (x >>> 3)
    let s1 := y.rotateRight 17 ^^^ y.rotateRight 19 ^^^ (y >>> 10)
    shaExtend n ((g 15 + s0 + g 6 + s1) :: w)

/-- One round. -/
def shaRound (s : ShaSt) (kw : W32 × W32) : ShaSt :=
  let s1 := s.e.rotateRight 6 ^^^ s.e.rotateRight 11 ^^^ s.e.rotateRight 25
  let ch := (s.e &&& s.f) ^^^ (~~~s.e &&& s.g)
  let t1 := s.h + s1 + ch + kw.1 + kw.2
  let s0 := s.a.rotateRight 2 ^^^ s.a.rotateRight 13 ^^^ s.a.rotateRight 22
  let maj := (s.a &&& s.b) ^^^ (s.a &&& s.c) ^^^ (s.b &&& s.c)
  { a := t1 + s0 + maj, b := s.a, c := s.b, d := s.c, e := s.d + t1, f := s.e, g := s.f, h := s.g }

/-- n big-endian bytes. -/
def be (n x : Nat) : Bytes := (le n x).reverse

/-- One block of 64 bytes. -/
def shaBlock (s : ShaSt) (blk : Bytes) : ShaSt :=
  let w0 := (List.range 16).map fun i => BitVec.ofNat 32 (leVal (slice blk (4 * i) 4).reverse)
  let w := (shaExtend 48 w0.reverse).reverse
  let r := (shaK.zip w).foldl shaRound s
  { a := s.a + r.a, b := s.b + r.b, c := s.c + r.c, d := s.d + r.d, e := s.e + r.e, f := s.f + r.f, g := s.g + r.g,
    h := s.h + r.h }

/-- SHA-256. [PRESUMED, log 6] -/
def sha256 (m : Bytes) : Bytes :=
  let zeros := (119 - m.length % 64) % 64
  let p := m ++ [0x80] ++ List.replicate zeros 0 ++ be 8 (8 * m.length)
  let s := (List.range (p.length / 64)).foldl (fun s i => shaBlock s (slice p (64 * i) 64)) ({} : ShaSt)
  [s.a, s.b, s.c, s.d, s.e, s.f, s.g, s.h].flatMap fun x => be 4 x.toNat

/-- HMAC-SHA-256 under a key of 32 bytes (R116). [PRESUMED, log 6] -/
def hmac (key m : Bytes) : Bytes :=
  let k := fit 64 key
  sha256 (k.map (· ^^^ 0x5c) ++ sha256 (k.map (· ^^^ 0x36) ++ m))

/-! ### binary32 (R150) -/

/-- 2 to an integer power. -/
def pow2 (e : Int) : Rat := if e ≥ 0 then ((2 ^ e.toNat : Nat) : Rat) else 1 / ((2 ^ (-e).toNat : Nat) : Rat)

/-- The value of a binary32, none when it is not finite. -/
def f32 (w : W32) : Option Rat :=
  let e : Nat := (w.toNat / 2 ^ 23) % 256
  let m : Nat := w.toNat % 2 ^ 23
  if e = 255 then none
  else
    let v : Rat := if e = 0 then (m : Rat) * pow2 (-149) else ((2 ^ 23 + m : Nat) : Rat) * pow2 ((e : Int) - 150)
    some (if w.getLsbD 31 then -v else v)

/-- Rounding to the nearest natural number, ties to even, of a rational that is not negative. [DEDUCED, log 46] -/
def roundEven (q : Rat) : Nat :=
  let f := q.floor.toNat
  let r := q - (f : Rat)
  if r > 1 / 2 then f + 1 else if r < 1 / 2 then f else if f % 2 = 0 then f else f + 1

/-- The binary32 nearest to a rational, ties to even; overflow gives infinity. [DEDUCED, log 46] [DEDUCED, log 67] -/
def toF32 (q : Rat) : W32 :=
  let sgn := if q < 0 then 2 ^ 31 else 0
  let a := if q < 0 then -q else q
  if a = 0 then 0
  else
    let e0 : Int := (Nat.log2 a.num.natAbs : Int) - (Nat.log2 a.den : Int)
    let e := if pow2 e0 ≤ a then e0 else e0 - 1
    let ex := max e (-126)
    let m := roundEven (a * pow2 (23 - ex))
    let (m, ex) := if m = 2 ^ 24 then (2 ^ 23, ex + 1) else (m, ex)
    if ex > 127 then wN (sgn + 255 * 2 ^ 23)
    else if m < 2 ^ 23 then wN (sgn + m)
    else wN (sgn + (ex + 127).toNat * 2 ^ 23 + (m - 2 ^ 23))

/-! ### binary64 (R150, R285) -/

/-- The binary64 nearest to a rational, ties to even (R150, R285). [DEDUCED, log 93] -/
def b64 (q : Rat) : Rat :=
  let a := if q < 0 then -q else q
  if a = 0 then 0
  else
    let e0 : Int := (Nat.log2 a.num.natAbs : Int) - (Nat.log2 a.den : Int)
    let e := if pow2 e0 ≤ a then e0 else e0 - 1
    let m := (roundEven (a * pow2 (52 - e)) : Rat) * pow2 (e - 52)
    if q < 0 then -m else m

/-- The largest n in [lo, lo + 2^k) for which a predicate true up to some point holds, lo assumed to hold. -/
def bisect (ok : Int → Bool) : Nat → Int → Int
  | 0, lo => lo
  | k + 1, lo => if ok (lo + 2 ^ k) then bisect ok k (lo + 2 ^ k) else bisect ok k lo

/-- The binary64 square root of a rational that is not negative: its integer part to at least 64 bits, an inexact one marked by a half of
the last of them, then rounded. [DEDUCED, log 93] -/
def b64Sqrt (q : Rat) : Rat :=
  if q ≤ 0 then 0
  else
    let k : Int := 64 - ((Nat.log2 q.num.natAbs : Int) - (Nat.log2 q.den : Int)) / 2
    let x := q * pow2 (2 * k)
    let r := bisect (fun n => decide (((n * n : Int) : Rat) ≤ x)) 67 0
    let half : Rat := if ((r * r : Int) : Rat) = x then 0 else 1 / 2
    b64 (((r : Rat) + half) * pow2 (-k))

end Sys2Proof.Machine
end

