-- ==== Sys2Proof/Machine/Reply.lean ====
section
/-! DEFINITION. Replies and the staging of writes: what becomes of a command that the management processor has taken
(R73 to R76, R96, R97, R101 to R109, R120). -/

namespace Sys2Proof.Machine

/-! ### Statuses (Table 05-5) -/

def stOk : Nat := 0x00
def stDeferred : Nat := 0x01
def stBusy : Nat := 0x02
def stNvmBusy : Nat := 0x03
def stSolo : Nat := 0x04
def stBadOpcode : Nat := 0x10
def stBadParam : Nat := 0x11
def stBadLength : Nat := 0x12
def stBadCrc : Nat := 0x13
def stWrongPers : Nat := 0x14
def stLocked : Nat := 0x15
def stNotActive : Nat := 0x16
def stConflict : Nat := 0x20
def stAmbiguous : Nat := 0x21
def stFault : Nat := 0x30

/-- OK, or SOLO where the pair partner is absent (R75, R360). -/
def State.okSolo (s : State) : Nat := if s.paired && s.pair.role == .solo then stSolo else stOk

/-! ### Serial numbers and node keys -/

/-- The serial number a remote peer addresses: unit A's in a pair (R116, R337); a unit uses its own until its partner's
is known. -/
def State.addressedSerial (s : State) : Nat :=
  if s.pw.strap = 3 && s.pair.pserial != 0 then s.pair.pserial else s.unit.serial.toNat

/-- The node key (R337). -/
def State.nodeKey (s : State) : Nat :=
  if s.applied.bus.nidsrc = 1 then s.applied.bus.nodeid else low s.addressedSerial 20

/-- The identifier of a frame the device composes (R336). -/
def frameId (func sub key : Nat) : Nat := func * 2 ^ 24 + sub * 2 ^ 20 + low key 20

/-! ### The transmit FIFO (R340) -/

/-- The smallest FD data length that holds n bytes (Table 16-1, R338). -/
def fdLen (n : Nat) : Nat :=
  if n ≤ 8 then n else if n ≤ 12 then 12 else if n ≤ 16 then 16 else if n ≤ 20 then 20 else if n ≤ 24 then 24
  else if n ≤ 32 then 32 else if n ≤ 48 then 48 else 64

/-- The FIFO takes entries: not stopped, asleep, bus-off, recovering or in listen-only mode (R344, R351, R352).
[DESIGN CHOICE, log 9] -/
def State.fifoOpen (s : State) : Bool :=
  (s.bus.phase == .integrating || s.bus.phase == .active || s.bus.phase == .passive) && !s.applied.bus.listen

/-- An entry at the back of the FIFO with the next TXSEQ (R340). [DESIGN CHOICE, log 9] -/
def State.txEnter (f : Frame) (life : Nat) (oneshot : Bool) (remote : Option (Nat × Bool)) (asker : Option Origin) (s : State) : State :=
  let seq := s.bus.lastSeq + 1
  { s with bus := { s.bus with lastSeq := seq, fifo := s.bus.fifo ++
      [{ txseq := seq, f := f, life := life, oneshot := oneshot, at_ := s.tb, remote := remote, asker := asker }] } }

/-- A frame the device composes: FD, with bit-rate switching when a data rate is configured (R337). -/
def State.ownFrame (s : State) (id : Nat) (data : Bytes) : Frame :=
  { ide := true, id := id, fdf := true, brs := s.applied.bus.drate != 0xFF, data := fit (fdLen data.length) data }

/-- Replies of remote records enter the FIFO while it has room, records in order of arrival (DESIGN CHOICE, log 9). -/
def remotePump : Nat → State → State
  | 0, s => s
  | n + 1, s =>
    if s.fifoOpen && s.bus.fifo.length < 32 then
      match s.rem.box.find? (fun c => !c.out.isEmpty) with
      | none => s
      | some c =>
        match c.out with
        | [] => s
        | (bs, fin) :: rest =>
          let box := s.rem.box.map fun d => if d.id = c.id then { d with out := rest } else d
          let s := { s with rem := { s.rem with box := box } }
          remotePump n (s.txEnter (s.ownFrame (frameId 5 0 s.nodeKey) bs) 0 false (some (c.id, fin)) none)
    else s

/-! ### Posting replies -/

/-- The mailbox command of an id changed. -/
def Link.onCmd (l : Link) (id : Nat) (f : MboxCmd → MboxCmd) : Link :=
  { l with mbox := l.mbox.map fun c => if c.id = id then f c else c }

/-- The remote record of an id changed. -/
def Remote.onCmd (r : Remote) (id : Nat) (f : RemoteCmd → RemoteCmd) : Remote :=
  { r with box := r.box.map fun c => if c.id = id then f c else c }

/-- A remote reply record (Table 05-11) with its MAC (R116). [DEDUCED, log 41] -/
def remoteReply (c : RemoteCmd) (serial : Nat) (status epoch : Nat) (results : Bytes) : Bytes :=
  let body := slice c.data 0 5 ++ le 1 results.length ++ slice c.data 6 1 ++ le 1 status ++ le 4 epoch ++ results
  body ++ (hmac c.key (le 8 serial ++ body)).take 8

/-- A reply posted for a command, with the epoch it reflects (R83, R96, R103). It is readable in the quantum of
posting, which raises CMD_REPLY; a remote reply goes towards the bus (R120). A record not yet taken is answered under
its slot's key; where that slot is empty nobody could check a reply, and a record so ended is discarded. -/
def State.postAt (org : Origin) (tag : Byte) (status epoch : Nat) (results : Bytes) (s : State) : State :=
  let fin := status != stDeferred
  match org with
  | .host id =>
    let l := s.link.onCmd id fun c =>
      if fin then { c with done := true } else { c with deferAt := some s.tb }
    let r : Reply := { slot := some id, tag := tag, status := status, epoch := epoch, results := results, final := fin,
                       readAt := s.tb }
    ({ s with link := { l with replies := l.replies ++ [r] } } : State).raise 19
  | .remote id =>
    let key := fun (c : RemoteCmd) =>
      if c.key.isEmpty then (nth s.unit.keys (u8 c.data 0) none).map KeySlot.key else some c.key
    let box := s.rem.box.filterMap fun c =>
      if c.id != id then some c
      else match key c with
        | none => if fin then none else some { c with deferAt := some s.tb }
        | some k =>
          some { c with out := c.out ++ [(remoteReply { c with key := k } s.addressedSerial status epoch results, fin)]
                        done := c.done || fin
                        deferAt := if fin then c.deferAt else some s.tb }
    remotePump 32 { s with rem := { s.rem with box := box } }

/-- A reply with the current epoch, also after a write of the same beat that has a newer one to come (R83). [DESIGN CHOICE, log 104] -/
def State.post (org : Origin) (tag : Byte) (status : Nat) (results : Bytes) (s : State) : State :=
  s.postAt org tag status s.epoch results

/-- The final reply goes out only once; a command whose reply was already final gets none. -/
def State.cmdOpen (s : State) (org : Origin) : Bool :=
  match org with
  | .host id => s.link.mbox.any fun c => c.id == id && !c.done
  | .remote id => s.rem.box.any fun c => c.id == id && !c.done

/-- A write that a unit of a pair takes in any role, and never answers SOLO: PAIR_CONFIG (R389). [DEDUCED, log 32] -/
def Write.anyRole (w : Write) : Bool :=
  match w with
  | .cmd opc _ => opc == 0xA1
  | _ => false

/-! ### What a taken command answers -/

/-- The answer of a command that passed the checks before its own: now with a status and results; now with the epoch of
a snapshot (R81); once the writes it stages have committed (R75), with results; or later, by an event, waiting for the
reason given (R107). -/
inductive Ans where
  | now (status : Nat) (results : Bytes)
  | nowAt (epoch : Nat) (results : Bytes)
  | commit (ws : List Write) (results : Bytes)
  | later (wait : Nat)
deriving DecidableEq, Repr

/-- BAD_PARAM with POS (R97). [DEDUCED, log 37] -/
def badParam (pos : Nat) : Ans := .now stBadParam (le 1 pos)

/-- A refusal without results. -/
def refused (status : Nat) : Ans := .now status []

/-- Checks in order: each a failed condition with its answer (R99). -/
abbrev Checks := List (Bool × Ans)

/-- One check. [DEDUCED, log 37] -/
def chk (c : Bool) (a : Ans) : Checks := [(c, a)]

/-- The first check of a list that fails (R99): each is a failed condition with its answer. [DEDUCED, log 37] -/
def firstFail : Checks → Option Ans
  | [] => none
  | (c, a) :: rest => if c then some a else firstFail rest

/-- A command: what it answers, and the state it leaves. -/
structure Ctx where
  org : Origin
  tag : Byte
  p : Bytes
deriving DecidableEq, Repr

/-- The management processor's work on one command once its opcode, class and length are right. -/
abbrev Handler := Ctx → State → State × Ans

/-- A command guarded by its checks in order; refused, it has no side effect (R99). -/
def guarded (checks : Checks) (s : State) (eff : State × Ans) : State × Ans :=
  match firstFail checks with
  | some a => (s, a)
  | none => eff

/-- A state change sent to a unit that is not the active unit of its pair (R99 check 7, R387). -/
def State.notActive (s : State) : Bool := !s.acting

/-- No room for n more staged writes in this beat (R76); whatever is staged counts, the services' writes among it.
[DEDUCED, log 91] -/
def State.stageFull (s : State) (n : Nat) : Bool := s.staged.length + n > 512

/-- Writes staged as one unit that commits whole or not at all, after those staged before (R73, R74). -/
def State.stage (service : Bool) (ws : List Write) (s : State) : State :=
  { s with staged := s.staged ++ ws.map fun w => { uid := s.nextUid, at_ := s.tb, service := service, w := w }
           nextUid := s.nextUid + 1 }

/-- A write staged in quantum t that ranks after r. -/
def Staged.after (t r : Nat) (w : Staged) : Bool := decide (w.rank > r) && w.at_ == t

/-- Writes staged as one unit in the order of one quantum: host link, bus commands, keys and encoders (R73, R443). -/
def State.stageRank (rank : Nat) (ws : List Write) (s : State) : State :=
  { s with
    staged := s.staged.filter (fun w => !w.after s.tb rank) ++
      (ws.map fun w => { uid := s.nextUid, at_ := s.tb, rank := rank, w := w }) ++ s.staged.filter (Staged.after s.tb rank)
    nextUid := s.nextUid + 1 }

/-- A command's writes staged (R73). -/
def State.stageFrom (org : Origin) (ws : List Write) (s : State) : State :=
  match org with
  | .host _ => s.stageRank 0 ws
  | .remote _ => s.stageRank 1 ws

/-- The commands that write the store and are answered once it has verified (R417). -/
def storeWrites (opc : Nat) : Bool := [0xB1, 0xB2, 0xB3, 0xB4, 0xB7, 0xB8].contains opc

/-- Such a command waits while a power-fail warning holds the store, which starts no page cycle, or while one before it is being written
(R107, R396). [DESIGN CHOICE, log 100] -/
def State.waitsStore (s : State) (opc : Nat) : Bool := (s.pw.pfw || s.store.asked.isSome) && storeWrites opc

/-- The reply of this command waits for the end of its write. -/
def State.asks (s : State) (org : Origin) : Bool := s.store.asked.any fun a => a.org == org

/-- A command that was taken and waits for the store goes on. [DESIGN CHOICE, log 100] -/
def State.goesOn (s : State) (org : Origin) (taken : Bool) (wait opc : Nat) : Bool :=
  taken && wait == 3 && storeWrites opc &&
    (if s.asks org then s.store.inflight.all fun op => op.stopped.isNone else !(s.pw.pfw || s.store.asked.isSome))

/-- The replies of epochs that have been applied: OK, SOLO in a pair without a synchronised mirror, FAULT where the epoch was not
persisted (R75, R380, R402). -/
def State.postApplied (s : State) : State :=
  let open_ := fun (w : Waiting) => w.epoch.isSome && (w.fault || !s.paired || w.neverSolo || s.pair.mirror != 2)
  let ws := s.waits.filter open_
  let s := { s with waits := s.waits.filter fun w => !open_ w }
  ws.foldl (fun s w =>
    if w.fault then s.post w.org w.tag stFault []
    else s.postAt w.org w.tag (if s.paired && !w.neverSolo then stSolo else stOk) (w.epoch.getD s.epoch) w.results) s

/-- The reason a taken command waits for (R107). -/
def State.waitFor (org : Origin) (why : Nat) (s : State) : State :=
  match org with
  | .host id => { s with link := s.link.onCmd id fun c => { c with wait := why } }
  | .remote id => { s with rem := s.rem.onCmd id fun c => { c with wait := why } }

/-- A handler's answer carried out: posted, or the writes staged with a reply that waits for their epoch (R75). -/
def finish (c : Ctx) (r : State × Ans) : State :=
  match r.2 with
  | .now st rs => r.1.post c.org c.tag st rs
  | .nowAt e rs => r.1.postAt c.org c.tag stOk e rs
  | .commit ws rs =>
    let w : Waiting := { uid := r.1.nextUid, org := c.org, tag := c.tag, results := rs, neverSolo := ws.any Write.anyRole }
    ((({ r.1 with waits := r.1.waits ++ [w] } : State).stageFrom c.org ws).waitFor c.org 4)
  | .later why => r.1.waitFor c.org why

/-- A configuration command (R99): its parameter checks, NOT_ACTIVE, its conflicts, room for one more staged write
(R76), its faults; then one staged write of its opcode and parameters. -/
def stagedCmd (opc : Nat) (params conflicts faults : Checks) (c : Ctx) (s : State) : State × Ans :=
  guarded (params ++ [(s.notActive, refused stNotActive)] ++ conflicts ++ [(s.stageFull 1, refused stBusy)] ++ faults) s
    (s, .commit [.cmd opc c.p] [])

end Sys2Proof.Machine
end

