-- ==== Sys2Proof/Machine/Store.lean ====
section
/-! DEFINITION. The ferroelectric store: its cells with their check bits, writes and what cuts them, rings and logs, the
state image and its persistence, patches, and the store commands (R391 to R418). -/

namespace Sys2Proof.Machine

/-! ### Epoch arithmetic -/

/-- a is newer than b (R69). -/
def newer (a b : Nat) : Bool :=
  let d := (a + 2 ^ 32 - b % 2 ^ 32) % 2 ^ 32
  1 ≤ d && d ≤ 0x7FFFFFFF

/-- The number after e, skipping 0 (R68, R407). -/
def epochSucc (e : Nat) : Nat := if e ≥ 0xFFFFFFFF then 1 else e + 1

/-! ### Rings and logs (R405 to R410) -/

/-- The device's own rings (Table 18-7). -/
def logDef (n : Nat) : RingDef :=
  if n = 0 then { en := true, copies := 2, base := 0x3C000, slots := 64, slotsz := 64 }
  else if n = 1 then { en := true, copies := 2, base := 0x3E000, slots := 4, slotsz := 64 }
  else { en := true, copies := 1, base := 0x3E200, slots := 64, slotsz := 32 }

/-- The address of copy 0 or 1 of slot k (R405). -/
def RingDef.addr (d : RingDef) (copy k : Nat) : Nat := d.base + (copy * d.slots + k) * d.slotsz

/-- The bytes a ring occupies. -/
def RingDef.size (d : RingDef) : Nat := d.slots * d.slotsz * d.copies

/-- A record as a slot holds it (Table 18-6). -/
def recordBytes (d : RingDef) (seq : Nat) (data : Bytes) : Bytes :=
  let body := fit (d.slotsz - 4) (le 4 seq ++ le 1 data.length ++ [0, 0, 0] ++ data)
  body ++ le 4 (crc32 body)

/-- The SEQ and data of a valid record (R406). -/
def parseRecord (d : RingDef) (bs : Bytes) : Option (Nat × Bytes) :=
  let seq := u32 bs 0
  let len := u8 bs 4
  let pad := slice bs (8 + len) (d.slotsz - 12 - len)
  if seq = 0 || len > d.slotsz - 12 || !pad.all (· == 0) || u32 bs (d.slotsz - 4) != crc32 (bs.take (d.slotsz - 4)) then none
  else some (seq, slice bs 8 len)

/-- A valid copy found in a ring; rsvd are its three reserved bytes. -/
structure RingHit where
  slot : Nat
  copy : Nat
  seq : Nat
  data : Bytes
  rsvd : Bytes := [0, 0, 0]
deriving DecidableEq, Repr

/-- Every valid copy, by ascending slot, then copy. -/
def ringHits (m : List Host.Cell) (d : RingDef) : List RingHit :=
  (List.range d.slots).flatMap fun k => (List.range d.copies).filterMap fun c =>
    let bs := Memory.readN m (d.addr c k) d.slotsz
    (parseRecord d bs).map fun r => { slot := k, copy := c, seq := r.1, data := r.2, rsvd := slice bs 5 3 }

/-- The copy whose SEQ is newest, the lower slot on a tie (R70, R407). -/
def ringNewest (hits : List RingHit) : Option RingHit :=
  hits.foldl (fun b h => match b with
    | none => some h
    | some x => if newer h.seq x.seq then some h else b) none

/-- The copy whose SEQ is oldest. -/
def ringOldest (hits : List RingHit) : Option RingHit :=
  hits.foldl (fun b h => match b with
    | none => some h
    | some x => if newer x.seq h.seq then some h else b) none

/-- The slot and SEQ an append takes (R407). -/
def ringNext (d : RingDef) (hits : List RingHit) : Nat × Nat :=
  match ringNewest hits with
  | none => (0, 1)
  | some h => ((h.slot + 1) % d.slots, epochSucc h.seq)

/-- What a record's write puts into a slot, copy 1 first (R407). -/
def ringPieces (d : RingDef) (slot seq : Nat) (data : Bytes) : List (Nat × Bytes) :=
  (List.range d.copies).map fun c => (d.addr c slot, recordBytes d seq data)

/-! ### Writing the cells -/

/-- The group addresses of a piece, ascending (R393). -/
def groupsOf (addr len : Nat) : List Nat :=
  if len = 0 then [] else (List.range ((addr + len - 1) / 8 - addr / 8 + 1)).map fun i => 8 * (addr / 8 + i)

/-- The page addresses of a piece, ascending. -/
def pagesOf (addr len : Nat) : List Nat :=
  if len = 0 then [] else (List.range ((addr + len - 1) / 64 - addr / 64 + 1)).map fun i => 64 * (addr / 64 + i)

/-- n bytes copied from one picture of the cells to another. -/
def copyCells (src : List Host.Cell) (dst : List Host.Cell) (addr n : Nat) : List Host.Cell :=
  Memory.writeN dst addr (Memory.readN src addr n)

/-- A group holds a byte of one of the pieces, each an address and a length. -/
def touches (ps : List (Nat × Nat)) (g : Nat) : Bool :=
  ps.any fun p => p.2 != 0 && decide (p.1 < g + 8) && decide (g < p.1 + p.2)

/-- The addresses and lengths of pieces. -/
def extents (ps : List (Nat × Bytes)) : List (Nat × Nat) := ps.map fun p => (p.1, p.2.length)

/-- The groups of a write that mismatch twice when they are read back: its verify failures (R393).
[DESIGN CHOICE, log 100] -/
def State.failing (ps : List (Nat × Nat)) (s : State) : List Nat := s.worn.filter (touches ps)

/-- Every group of the pieces verifies. -/
def State.verifies (ps : List (Nat × Nat)) (s : State) : Bool := (s.failing ps).isEmpty

/-- A group whose bytes State.cells holds: not of the unit area or an image area. -/
def keepsBytes (g : Nat) : Bool := g < 0x18000 || 0x3C000 ≤ g

/-- A group after a verify failure: its bytes and what its check byte reports are open, a free value. [DESIGN CHOICE, log 100]
[DESIGN CHOICE, log 8] -/
def State.garble (g : Nat) (s : State) : State :=
  let (f, s) := s.draw
  let ecc := f / 2 ^ 64 % 3
  { s with cells := if keepsBytes g then Memory.writeN s.cells g (le 8 f) else s.cells
           badGroups := if ecc = 0 then mdel s.badGroups g else mset s.badGroups g ecc }

/-- The page cycles of a number of pages, 160 ns each with read-back (R399), may still run. -/
def State.during (s : State) (at_ pages : Nat) : Bool := tbSub s.tb at_ ≤ pages * 160 / 1000

/-- What a write covers in each of its pages, in the order of writing (R393). -/
def partsOf (ps : List (Nat × Nat)) : List (Nat × Nat) :=
  ps.flatMap fun p => (pagesOf p.1 p.2).map fun a => (max a p.1, min (a + 64) (p.1 + p.2) - max a p.1)

/-- The groups of pieces, in the order of writing. -/
def cellGroups (ps : List (Nat × Nat)) : List Nat := ps.flatMap fun p => groupsOf p.1 p.2

/-- Groups written: a new check byte each, but for those that do not verify (R393). -/
def State.rewritten (hit : Nat → Bool) (s : State) : State :=
  (s.worn.filter hit).foldl (fun s g => s.garble g)
    { s with badGroups := s.badGroups.filter fun g => !hit g.1
             unsteady := s.unsteady.filter fun a => !hit (a / 8 * 8) }

/-- A write that may still run in this quantum. -/
def State.writing (s : State) : Option StoreOp :=
  s.store.inflight.filter fun op => op.stopped.isNone && s.during op.at_ (partsOf op.pieces).length

/-- The cells written at the pieces named; every group touched gets a new check byte, but one that does not verify (R393). A write begun
while another runs follows it. -/
def State.putCells (new : List Host.Cell) (ps : List (Nat × Nat)) (s : State) : State :=
  let op := s.writing.getD { at_ := s.tb, old := s.cells, new := s.cells, pieces := [], bad := s.badGroups }
  let s := ({ s with cells := new } : State).rewritten (touches ps)
  { s with store := { s.store with inflight := some { op with new := s.cells, pieces := op.pieces ++ ps } } }

/-- Pieces written in order. -/
def State.putBytes (pieces : List (Nat × Bytes)) (s : State) : State :=
  s.putCells (pieces.foldl (fun m p => Memory.writeN m p.1 p.2) s.cells) (extents pieces)

/-- A verify failure counted, with NVM_ECC (R395). -/
def State.countFail (g : Nat) (s : State) : State :=
  ({ s with store := { s.store with wfail := satInc s.store.wfail 65535, lastbad := g } } : State).raise 122

/-- What the store starts only after a power-fail warning (R396). -/
def State.owe (w : StoreOwed) (s : State) : State := { s with store := { s.store with owed := s.store.owed ++ [w] } }

/-- A record into the store error log. A verify failure of the log itself is not logged again. [DESIGN CHOICE, log 100] -/
def State.putError (data : Bytes) (s : State) : State :=
  let n := ringNext (logDef 2) (ringHits s.cells (logDef 2))
  let ps := ringPieces (logDef 2) n.1 n.2 data
  (s.failing (extents ps)).foldl (fun s g => s.countFail g) (s.putBytes ps)

/-- A record of the store error log (Table 18-7), begun only after a power-fail warning (R396). -/
def State.logError (typ addr : Nat) (s : State) : State :=
  let data := le 1 typ ++ [0] ++ le 4 addr ++ le 6 s.tb ++ le 4 s.epoch
  if s.pw.pfw then s.owe (.record 2 data) else s.putError data

/-- A verify failure counted and logged, with NVM_ECC (R395). -/
def State.noteFail (g : Nat) (s : State) : State := (s.countFail g).logError 3 g

/-- What follows the verification of a write that touched the pieces named. -/
def State.noteFails (bad : List Nat) (s : State) : State := bad.foldl (fun s g => s.noteFail g) s

/-- Pieces written and verified (R393, R395). -/
def State.writeCells (pieces : List (Nat × Bytes)) (s : State) : State :=
  (s.putBytes pieces).noteFails (s.failing (extents pieces))

/-- A stretch of cells written with 0x00 (R405). -/
def State.zeroCells (addr n : Nat) (s : State) : State :=
  (s.putCells (s.cells.filter fun c => !(addr ≤ c.1 && c.1 < addr + n)) [(addr, n)]).noteFails (s.failing [(addr, n)])

/-! ### Records written (R407, R410) -/

/-- One record written into every copy of a slot, copy 1 first; copy 2 only once copy 1 has verified (R407). [DESIGN CHOICE, log 100] -/
def State.ringWrite (d : RingDef) (slot seq : Nat) (data : Bytes) (s : State) : State :=
  let ps := ringPieces d slot seq data
  s.writeCells (if s.verifies (extents (ps.take 1)) then ps else ps.take 1)

/-- A record appended; the SEQ it took. -/
def State.ringAppend (d : RingDef) (data : Bytes) (s : State) : State × Nat :=
  let n := ringNext d (ringHits s.cells d)
  (s.ringWrite d n.1 n.2 data, n.2)

/-- A record appended to a log (R410), begun only after a power-fail warning (R396). -/
def State.logAppend (log : Nat) (data : Bytes) (s : State) : State :=
  if s.pw.pfw then s.owe (.record log data)
  else if log = 2 then s.putError data else (s.ringAppend (logDef log) data).1

/-! ### Checked reads (R392, R395) -/

/-- A corrected group rewritten, a write like another; begun only after a power-fail warning (R395, R396). -/
def State.scrub (g : Nat) (s : State) : State :=
  if s.pw.pfw then s.owe (.scrub g)
  else (s.putCells s.cells [(g, 8)]).noteFails (s.failing [(g, 8)])

/-- One bad group met by a read: corrected, scrubbed and counted, or counted as uncorrectable; both logged.
[DEDUCED, log 56] -/
def State.meetGroup (g : Nat × Nat) (s : State) : State :=
  if g.2 = 1 then
    let first := s.store.eccArmed
    let s := { s with store := { s.store with corr := s.store.corr + 1, lastbad := g.1, eccArmed := false } }
    ((s.logError 1 g.1).raiseIf first 122).scrub g.1
  else if g.2 = 2 then
    let s := { s with store := { s.store with uncorr := s.store.uncorr + 1, lastbad := g.1 } }
    (s.logError 2 g.1).raise 122
  else s

/-- The bad groups a read of n bytes touches. -/
def State.badIn (addr n : Nat) (s : State) : List (Nat × Nat) :=
  s.badGroups.filter fun g => (groupsOf addr n).contains g.1

/-- A read of the cells at the places named, each an address and a length: every group it touches is checked (R392).
[DEDUCED, log 56] -/
def State.readCheck (ps : List (Nat × Nat)) (s : State) : State :=
  (s.badGroups.filter fun g => touches ps g.1).foldl (fun s g => s.meetGroup g) s

/-- A group with indeterminate bytes read: what they read as, and what the check byte then reports, is open at each reading, a free value
(R397). [DESIGN CHOICE, log 100] [DESIGN CHOICE, log 8] -/
def State.reread (g : Nat) (s : State) : State :=
  let (f, s) := s.draw
  let ecc := f / 2 ^ 64 % 3
  let m := (s.unsteady.filter fun a => a / 8 * 8 == g).foldl (fun m a => Memory.writeN m a (le 1 (f / 256 ^ (a % 8)))) s.cells
  { s with cells := m, badGroups := if ecc = 0 then mdel s.badGroups g else mset s.badGroups g ecc }

/-- The places named, as a reading of them now finds them (R397). -/
def State.settled (ps : List (Nat × Nat)) (s : State) : State :=
  (((s.unsteady.map fun a => a / 8 * 8).eraseDups).filter (touches ps)).foldl (fun s g => s.reread g) s

/-- A read of the places named for the device itself (R392, R397). -/
def State.lookAt (ps : List (Nat × Nat)) (s : State) : State := (s.settled ps).readCheck ps

/-- The whole of a ring, which finding its head reads (R409). -/
def RingDef.whole (d : RingDef) : List (Nat × Nat) := [(d.base, d.size)]

/-- The newest record of a ring with one copy valid and the other not valid or older has that other copy rewritten from the valid one;
the head is found by reading the ring (R392, R409). [DEDUCED, log 56] -/
def State.ringRepair (d : RingDef) (s : State) : State :=
  let s := s.lookAt d.whole
  if d.copies < 2 then s
  else
    match ringNewest (ringHits s.cells d) with
    | none => s
    | some h =>
      let other := 1 - h.copy
      let again := match parseRecord d (Memory.readN s.cells (d.addr other h.slot) d.slotsz) with
        | none => true
        | some r => newer h.seq r.1
      if again then
        let s := s.writeCells [(d.addr other h.slot, Memory.readN s.cells (d.addr h.copy h.slot) d.slotsz)]
        { s with store := { s.store with ringfix := true } }
      else s

/-- A user ring before a command: its head is found again where its definition or an NVM_WRITE asks it (R405, R409).
[DEDUCED, log 56] -/
def State.seekRing (r : Nat) (d : RingDef) (s : State) : State :=
  if s.store.seek.contains r then
    let s := s.lookAt d.whole
    { s with store := { s.store with seek := s.store.seek.filter fun i => i != r } }
  else s

/-- The groups that a write of n bytes covers only in part, and which are read and merged (R393). [DEDUCED, log 56] -/
def mergedGroups (a n : Nat) : List (Nat × Nat) :=
  if n = 0 then []
  else (if a % 8 = 0 then [] else [(8 * (a / 8), 8)]) ++ (if (a + n) % 8 = 0 then [] else [(8 * ((a + n) / 8), 8)])

/-- Where a valid copy of a record stands. -/
def RingDef.place (d : RingDef) (h : RingHit) : Nat × Nat := (d.addr h.copy h.slot, d.slotsz)

/-- Where the copies of a ring's newest record stand. -/
def State.newestPlaces (d : RingDef) (s : State) : List (Nat × Nat) :=
  let hits := ringHits s.cells d
  match ringNewest hits with
  | none => []
  | some h => (hits.filter fun (x : RingHit) => x.seq == h.seq).map d.place

/-- The worst of the groups read, as NVM_READ gives it: 0 clean, 1 corrected, 2 uncorrectable. -/
def eccFlag (bad : List (Nat × Nat)) : Nat :=
  if bad.any (fun g => g.2 == 2) then 2 else if bad.any (fun g => g.2 == 1) then 1 else 0

/-! ### The state image (R399, R400) -/

/-- The current area. -/
def State.curArea (s : State) : Option ImageArea :=
  match s.store.cur with
  | none => none
  | some false => some s.areaA
  | some true => some s.areaB

/-- Journal bytes used. -/
def ImageArea.jused (a : ImageArea) : Nat := (a.journal.map JournalRec.bytes).sum

/-- Free journal bytes (Table 18-4), 0 while there is no current area. -/
def State.journalFree (s : State) : Nat :=
  match s.curArea with
  | none => 0
  | some a => 3008 - a.jused

/-- The current area changed. -/
def State.onCurArea (f : ImageArea → ImageArea) (s : State) : State :=
  match s.store.cur with
  | none => s
  | some false => { s with areaA := f s.areaA }
  | some true => { s with areaB := f s.areaB }

/-- One of the two areas. -/
def State.area (s : State) (isB : Bool) : ImageArea := if isB then s.areaB else s.areaA
def State.putArea (isB : Bool) (img : ImageArea) (s : State) : State := if isB then { s with areaB := img } else { s with areaA := img }

/-- The journal records that a replay takes: in order, up to the first whose CRC fails, as bad lists them, or whose GEN is not the
header's (R400). -/
def ImageArea.replay (a : ImageArea) (bad : List Nat) : List JournalRec :=
  (a.journal.take (bad.foldl min a.journal.length)).takeWhile fun r => r.gen == a.gen

/-- The content of an area after its replay. -/
def ImageArea.content (a : ImageArea) (bad : List Nat) : Com := ((a.replay bad).getLast?.map JournalRec.com).getD a.com

/-- The newest epoch an area persists: of its base, the last record replayed, and the newest valid mark of its GEN (R400). -/
def ImageArea.newest (a : ImageArea) (badRecs badMarks : List Nat) : Nat :=
  let e := ((a.replay badRecs).getLast?.map JournalRec.epoch).getD a.base
  (a.marks.filter fun m => m.2.2 == a.gen && !badMarks.contains m.1).foldl (fun e m => if newer m.2.1 e then m.2.1 else e) e

/-- The address of image area A or B (Table 18-1). -/
def areaBase (toB : Bool) : Nat := if toB then 0x2C000 else 0x1C000

/-- The pieces of an image switch: the zeroed header, the body, the first journal page, the header (R399). -/
def State.switchPieces (toB : Bool) (s : State) : List (Nat × Nat) :=
  let base := areaBase toB
  [(base, 64), (base + 0x440, min 61440 (Config.imageLen s.com)), (base + 0xF440, 64), (base, 64)]

/-- An image switch into an area: header zeroed, body, first journal page, header, body and journal complemented by bit 1 of the new GEN
(R399), and whether it verified; what it covers in part is read and merged (R393). One that does not verify leaves the area without a
valid header. [DESIGN CHOICE, log 100]
[DESIGN CHOICE, log 85] -/
def State.imageTo (toB : Bool) (epoch : Nat) (s : State) : State × Bool :=
  let gen := match s.curArea with
    | none => 1
    | some a => (a.gen + 1) % 2 ^ 32
  let ps := s.switchPieces toB
  let bad := s.failing ps
  let marks := (s.area toB).marks
  let s := (s.lookAt (ps.flatMap fun p => mergedGroups p.1 p.2)).rewritten (touches ps)
  if bad.isEmpty then
    let s := s.putArea toB { hdr := .valid, gen := gen, base := epoch, pol := bit gen 1, com := s.com, marks := marks }
    ({ s with store := { s.store with cur := some toB, switches := s.store.switches + 1, lastSwitch := s.tb } }, true)
  else
    ((s.putArea toB { hdr := if touches (ps.take 1) (bad.headD 0) then .bad else .zero, marks := marks }).noteFails bad, false)

/-- The area that the next image switch takes: the other area, or area A where there is no current one (R399, R400).
[DEDUCED, log 56] -/
def State.nextArea (s : State) : Bool := s.store.cur == some false

/-- The bytes of a journal record that leads from an area's content to the present one. -/
def State.journalLen (s : State) (a : ImageArea) : Nat := 12 + Config.journalBytes (a.content []) s.com

/-- The piece of a mark or a journal record (R399). -/
def State.recordPiece (s : State) : Nat × Nat :=
  let base := areaBase (s.store.cur == some true)
  match s.curArea with
  | none => (base, 0)
  | some a => if a.content [] = s.com then (base + 0x40 + 16 * a.markAt, 16) else (base + 0xF440 + a.jused, s.journalLen a)

/-- A mark or a journal record written into the current area, and whether it verified; what it covers in part is read and merged (R393). -/
def State.recordTo (f : ImageArea → ImageArea) (s : State) : State × Bool :=
  let p := s.recordPiece
  let bad := s.failing [p]
  let s := (s.lookAt (mergedGroups p.1 p.2)).rewritten (touches [p])
  if bad.isEmpty then (s.onCurArea f, true) else (s.noteFails bad, false)

/-- An epoch persisted by a mark, a journal record or an image switch (R399), and whether it verified.
[DESIGN CHOICE, log 85] -/
def State.tryPersist (epoch : Nat) (s : State) : State × Bool :=
  let aged := tbSub s.tb s.store.lastSwitch ≥ 604800000000
  match s.curArea with
  | none => s.imageTo s.nextArea epoch
  | some a =>
    let bytes := s.journalLen a
    if aged || s.store.switchOnly then s.imageTo s.nextArea epoch
    else if a.content [] = s.com then
      s.recordTo fun a =>
        { a with marks := mset a.marks a.markAt (epoch, a.gen), markAt := (a.markAt + 1) % 64 }
    else if bytes ≤ 3008 - a.jused then
      s.recordTo fun a =>
        { a with journal := a.journal ++ [{ epoch := epoch, gen := a.gen, bytes := bytes, com := s.com }] }
    else s.imageTo s.nextArea epoch

/-- The area that a switch takes after an attempt that did not verify: the one that is not current, or area B where there is no current
one (R402). [DESIGN CHOICE, log 100] -/
def State.retryArea (s : State) : Bool := s.store.cur != some true

/-- After an attempt that did not verify, the epoch is persisted by an image switch to the other area; if that fails too, every
later commit is persisted by image switch (R402). The start of the persistence stays known for a cut (R397).
[DESIGN CHOICE, log 100] -/
def State.persistBy (attempt : State × Bool) (epoch : Nat) (before : State) : State × Bool :=
  let r := if attempt.2 then attempt else attempt.1.imageTo attempt.1.retryArea epoch
  let s := r.1
  let to_ := if s.store.cur = before.store.cur then none else s.store.cur
  let op : ImageOp := { at_ := s.tb, a := before.areaA, b := before.areaB, cur := before.store.cur,
                        pepoch := before.store.pepoch
                        switchTo := to_, bad := before.badGroups
                        pieces := match to_ with
                          | some toB => before.switchPieces toB
                          | none => [before.recordPiece] }
  let ep := if r.2 then epoch else s.store.pepoch
  ({ s with store := { s.store with pepoch := ep, imgOp := some op, switchOnly := s.store.switchOnly || !r.2 } }, r.2)

/-- An epoch persisted before its apply quantum (R399, R402). [DESIGN CHOICE, log 85] -/
def State.persist (epoch : Nat) (s : State) : State × Bool := s.persistBy (s.tryPersist epoch) epoch

/-- A full copy persisted: an image switch into the area that does not hold the last complete epoch (R401). -/
def State.persistCopy (epoch : Nat) (s : State) : State × Bool := s.persistBy (s.imageTo s.nextArea epoch) epoch

/-- An epoch persisted, or owed while a power-fail warning lets nothing begin (R396); copy for a full copy, ack for a standby that then
acknowledges it. -/
def State.persistSoon (epoch : Nat) (copy ack : Bool) (s : State) : State × Bool :=
  if s.pw.pfw then (s.owe (.image copy ack), true)
  else if copy then s.persistCopy epoch else s.persist epoch

/-- A full copy begins: the area that will hold it has its header zeroed, and its body is written as blocks arrive (R401). -/
def State.beginCopy (s : State) : State :=
  if s.pw.pfw then s.owe .copyHead
  else (s.rewritten (touches [(areaBase s.nextArea, 64)])).putArea s.nextArea { hdr := .zero, marks := (s.area s.nextArea).marks }

/-- A persistence waits for the end of a power-fail warning: no epoch of it is answered yet (R71, R396). -/
def State.imageHeld (s : State) : Bool :=
  (match s.store.imgOp with
   | none => false
   | some op => op.stopped.isSome) ||
  s.store.owed.any fun w => match w with
    | .image _ _ => true
    | .record _ _ => false
    | .scrub _ => false
    | .copyHead => false
    | .unit _ _ _ => false

/-! ### The unit area in its two copies (R403, R404) -/

/-- The groups of a copy of a unit record. -/
def copyGroups (r : Nat) (second : Bool) : List Nat := (Config.unitGroups (2 * r + b2n second)).1 :: (Config.unitGroups (2 * r + b2n second)).2

/-- The pages of a copy of a unit record. -/
def copyPages (r : Nat) (second : Bool) : Nat := ((copyGroups r second).map (· / 64)).eraseDups.length

/-- How a unit record stands. -/
def State.unitRec (s : State) (r : Nat) : UnitRec := nth s.unitStore.recs r {}

/-- The groups of a unit record's next write, into its older copy, that do not verify. [DESIGN CHOICE, log 100] -/
def State.unitFailing (record : Nat) (s : State) : List Nat :=
  s.worn.filter fun g => (copyGroups record (!(s.unitRec record).newB)).contains g

/-- The older copy of a record written with what the device uses, in the other polarity where flip says so. -/
def UnitStore.write (r : Nat) (flip : Bool) (u : UnitArea) (x : UnitStore) : UnitStore :=
  { newest := u.put r x.newest, older := x.newest.put r x.older
    recs := upd x.recs r fun k =>
      { newB := !k.newB, seqNew := k.seqNew + 1, seqOld := k.seqNew, polNew := k.polOld ^^ flip, polOld := k.polNew } }

/-- The older copy of a record left with a CRC that fails. -/
def UnitStore.spoil (r : Nat) (x : UnitStore) : UnitStore := { x with recs := upd x.recs r fun k => { k with oldBad := true } }

/-- A unit write that may still run in this quantum. -/
def State.unitWriting (s : State) : Option UnitOp :=
  s.store.unitOp.filter fun op => s.during op.at_ ((op.recs.map fun r => copyPages r.1 false).sum)

/-- The groups of the copies that a write of unit records takes, in the order of writing. -/
def UnitOp.groups (op : UnitOp) (new : UnitStore) : List Nat := op.recs.flatMap fun r => copyGroups r.1 (nth new.recs r.1 {}).newB

/-- A record written from what the device uses (R404), with its verify failures noted; owed while a power-fail warning lets nothing begin
(R393, R395, R396). -/
def State.recordUnit (r : Nat) (flip : Bool) (s : State) : State × Bool :=
  if s.pw.pfw then (s.owe (.unit r flip none), true)
  else
    let bad := s.unitFailing r
    let op := s.unitWriting.getD { at_ := s.tb, before := s.unitStore, recs := [], bad := s.badGroups }
    let x := if bad.isEmpty then s.unitStore.write r flip s.unit else s.unitStore.spoil r
    let s := s.rewritten (copyGroups r (!(s.unitRec r).newB)).contains
    (({ s with unitStore := x, store := { s.store with unitOp := some { op with recs := op.recs ++ [(r, flip)] } } } : State).noteFails bad,
     bad.isEmpty)

/-- A record changed and written, in force whether it verifies or not. -/
def State.writeUnit (r : Nat) (u : UnitArea) (s : State) : State := (({ s with unit := u } : State).recordUnit r false).1

/-- The unit records written so far are told by a reply: a power-fail warning finds them done. [DEDUCED, log 55] -/
def State.tellUnits (s : State) : State :=
  { s with store := { s.store with unitOp := s.store.unitOp.map fun op => { op with told := op.recs.length } } }

/-- A record changed and written for a command that is answered by its verification; one that does not verify changes nothing (R417). -/
def State.tryUnit (r : Nat) (u : UnitArea) (s : State) : State × Bool :=
  let x := ({ s with unit := u } : State).recordUnit r false
  if x.2 then (x.1.tellUnits, true) else ({ x.1 with unit := s.unit }, false)

/-- A record changed and written for a calibration command, which is answered OK with its results once it is persisted (R146): with a
power-fail warning standing it is in force and its reply waits, with REASON 3. [DESIGN CHOICE, log 100] -/
def State.unitFor (c : Ctx) (r : Nat) (u : UnitArea) (results : Bytes) (s : State) : State × Ans :=
  if s.pw.pfw then (({ s with unit := u } : State).owe (.unit r false (some (c.org, c.tag, results))), .later 3)
  else
    let x := s.tryUnit r u
    (x.1, if x.2 then .now stOk results else .now stFault [])

/-- The counts that a key slot keeps beside what its command wrote: its MAC failures and its exhaustion. [DEDUCED, log 79] -/
def State.countKey (i : Nat) (f : KeySlot → KeySlot) (s : State) : State :=
  let g := fun (u : UnitArea) => { u with keys := upd u.keys i fun k => k.map f }
  { s with unit := g s.unit, unitStore := { s.unitStore with newest := g s.unitStore.newest } }

/-! ### What cuts a write (R396, R397) -/

/-- The groups named that were in error before a write and that it did not reach are so again. -/
def restoreBad (gs : List Nat) (old bad : List (Nat × Nat)) : List (Nat × Nat) :=
  (old.filter fun g => gs.contains g.1).foldl (fun m g => mset m g.1 g.2) bad

/-- The check bytes after a cut: old where it did not reach, open in the group in its cell cycle (Table 18-2).
[DEDUCED, log 55] -/
def State.tearBad (gs : List Nat) (c : StoreCut) (old : List (Nat × Nat)) (s : State) : State :=
  let b := restoreBad (gs.drop c.groupsDone) old s.badGroups
  { s with badGroups := match gs[c.groupsDone]? with
      | none => b
      | some g => if c.tornBits = 0 then mdel b g else mset b g c.tornBits }

/-- A record of n groups cut after done of them: all new, all old, or neither, with a CRC that fails (R397).
[DEDUCED, log 55] -/
def fateOf (c : StoreCut) (done n : Nat) : Option Bool :=
  if done ≥ n then some true
  else if c.lands = some true && done + 1 = n then some true
  else if c.lands = some false && done = 0 then some false
  else none

/-- The store after a write cut without warning: whole groups new, one group torn, the rest old (Table 18-2).
[DEDUCED, log 55] -/
def State.tearCells (c : StoreCut) (op : StoreOp) (s : State) : State :=
  let gs := cellGroups op.pieces
  let m := (gs.take c.groupsDone).foldl (fun m g => copyCells op.new m g 8) op.old
  let s := s.tearBad gs c op.bad
  match gs[c.groupsDone]? with
  | none => { s with cells := m }
  | some g =>
    { s with cells := Memory.writeN m g (c.torn.take 8)
             unsteady := s.unsteady ++ (c.unsteady.filter (· < 8)).map (g + ·) }

/-- What a cut image switch of so many groups leaves: the areas as they were, the area it was writing with the header named, or, with none,
the switch complete. -/
inductive SwitchCut where
  | before
  | header (h : Header)
  | complete
deriving DecidableEq, Repr

/-- The header is written twice, zeroed in the first 8 groups and valid in the last 8 (R397, R399). [DEDUCED, log 55] -/
def switchCut (c : StoreCut) (groups done : Nat) : SwitchCut :=
  if done < 8 then
    match fateOf c done 8 with
    | some false => .before
    | some true => .header .zero
    | none => .header .bad
  else if done + 8 < groups then .header .zero
  else
    match fateOf c (done + 8 - groups) 8 with
    | some false => .header .zero
    | some true => .complete
    | none => .header .bad

/-- A persistence of the state image cut before it ended: the epoch is not persisted, and an image switch leaves its
area without a valid header; a mark cut takes the one that its slot held with it; but one whose bytes all came out new or old reads
whole (R397, R399). [DEDUCED, log 55] -/
def State.tearImage (c : StoreCut) (op : ImageOp) (s : State) : State :=
  let gs := cellGroups op.pieces
  let done := (cellGroups ((partsOf op.pieces).take op.fromPages)).length + c.groupsDone
  let s := s.tearBad gs { c with groupsDone := done } op.bad
  let old : State := { s with areaA := op.a, areaB := op.b }
  match op.switchTo with
  | some isB =>
    (match switchCut c gs.length done with
     | .complete => s
     | .before => old
     | .header h => old.putArea isB { hdr := h, marks := (if isB then op.b else op.a).marks })
  | none =>
    match fateOf c done gs.length with
    | some true => s
    | some false => old
    | none =>
      let lost := fun (a b : ImageArea) => if a.markAt = b.markAt then b else { b with marks := mdel b.marks b.markAt }
      { s with areaA := lost s.areaA op.a, areaB := lost s.areaB op.b }

/-- One unit record as another picture of the area has it. -/
def UnitStore.like (new : UnitStore) (r : Nat) (x : UnitStore) : UnitStore :=
  { newest := new.newest.put r x.newest, older := new.older.put r x.older, recs := upd x.recs r fun _ => nth new.recs r {} }

/-- Unit records cut: those written whole stand, the one reached has a copy whose CRC fails, unless all its bytes came out new or old, the
rest are as before (R397, R404). [DESIGN CHOICE, log 100] [DEDUCED, log 55] -/
def tearUnits (c : StoreCut) (new : UnitStore) : List (Nat × Bool) → Nat → UnitStore → UnitStore
  | [], _, x => x
  | r :: rs, done, x =>
    let n := (copyGroups r.1 (nth new.recs r.1 {}).newB).length
    if n ≤ done then tearUnits c new rs (done - n) (new.like r.1 x)
    else
      match fateOf c done n with
      | some true => new.like r.1 x
      | some false => x
      | none => x.spoil r.1

/-- Unit records that a power-fail warning stops: those written whole stand, one reached in part fails its CRC until it is written whole,
and those not whole are still to be written (R396). [DEDUCED, log 55] [DESIGN CHOICE, log 100] -/
def stopUnitRecs (new : UnitStore) : List (Nat × Bool) → Nat → UnitStore → UnitStore × List (Nat × Bool)
  | [], _, x => (x, [])
  | r :: rs, done, x =>
    let n := copyPages r.1 (nth new.recs r.1 {}).newB
    if n ≤ done then stopUnitRecs new rs (done - n) (new.like r.1 x)
    else (if done = 0 then x else x.spoil r.1, r :: rs)

/-- A persistence that may still run (R399). -/
def State.imaging (s : State) : Option ImageOp := s.store.imgOp.filter fun op => op.stopped.isNone && decide (tbSub s.tb op.at_ < 190)

/-- What a reset that comes without warning leaves of a write in progress (R397). [DEDUCED, log 55] -/
def State.cutStore (cut : Option StoreCut) (s : State) : State :=
  match cut with
  | none => s
  | some c =>
    let s := match s.writing with
      | some op => s.tearCells c op
      | none => s
    let s := match s.imaging with
      | some op => s.tearImage c op
      | none => s
    match s.unitWriting with
    | some op =>
      let told := ({ op with recs := op.recs.take op.told }).groups s.unitStore
      let c := { c with groupsDone := max c.groupsDone told.length }
      { s.tearBad (op.groups s.unitStore) c op.bad with unitStore := tearUnits c s.unitStore op.recs c.groupsDone op.before }
    | none => s

/-- A supply that falls faster than the warning of R59 assumes: how far a write in progress had come, and what it left of the group in its
cell cycle, is a free value (R397). [DESIGN CHOICE, log 8] [DEDUCED, log 55] -/
def State.cutFreely (s : State) : State :=
  if s.writing.isNone && s.imaging.isNone && s.unitWriting.isNone then s
  else
    let (f, s) := s.draw
    s.cutStore (some { groupsDone := f % 8192, torn := le 8 (f / 2 ^ 13), tornBits := f / 2 ^ 77 % 3
                       unsteady := (List.range 8).filter fun i => bit (f / 2 ^ 79) i
                       lands := if f / 2 ^ 87 % 3 = 0 then none else some (f / 2 ^ 87 % 3 == 1) })

/-- A power-fail warning stops a persistence after the page cycle in progress: its epoch is not persisted yet (R396). -/
def State.stopImage (pagesDone : Nat) (s : State) : State :=
  match s.imaging with
  | none => s
  | some op =>
    let k := op.fromPages + pagesDone
    let ps := partsOf op.pieces
    if k ≥ ps.length then s
    else
      let after := (s.areaA, s.areaB, s.store.cur, s.store.pepoch)
      let s := { s with areaA := op.a, areaB := op.b, badGroups := restoreBad (cellGroups (ps.drop k)) op.bad s.badGroups
                        store := { s.store with cur := op.cur, pepoch := op.pepoch
                                                imgOp := some { op with stopped := some after, fromPages := k } } }
      match op.switchTo with
      | some isB => if k = 0 then s else s.putArea isB { hdr := .zero, marks := (s.area isB).marks }
      | none => s

/-- A power-fail warning stops a write of unit records, beyond those that a reply has told; what is left is owed (R396). -/
def State.stopUnitWrite (pagesDone : Nat) (s : State) : State :=
  match s.unitWriting with
  | none => s
  | some op =>
    let told := ((op.recs.take op.told).map fun r => copyPages r.1 (nth s.unitStore.recs r.1 {}).newB).sum
    let x := stopUnitRecs s.unitStore op.recs (max pagesDone told) op.before
    x.2.foldl (fun s r => s.owe (.unit r.1 r.2 none)) { s with unitStore := x.1, store := { s.store with unitOp := none } }

/-- A power-fail warning stops what the store does after the page cycle in progress, which pagesDone counts; what a reply has told is done
(R396). -/
def State.stopStore (pagesDone : Nat) (s : State) : State :=
  let s := (s.stopImage pagesDone).stopUnitWrite pagesDone
  match s.writing with
  | none => s
  | some op =>
    let ps := partsOf op.pieces
    let k := max pagesDone op.told
    if k ≥ ps.length then s
    else
      let m := (ps.take k).foldl (fun m p => copyCells op.new m p.1 p.2) op.old
      let left := (cellGroups (ps.drop k)).filter fun g => !touches (ps.take k) g
      { s with cells := m, badGroups := restoreBad left op.bad s.badGroups
               store := { s.store with inflight := some { op with stopped := some k } } }

/-- A stopped persistence resumed. -/
def State.resumeImage (s : State) : State :=
  match s.store.imgOp with
  | none => s
  | some op =>
    match op.stopped with
    | none => s
    | some (a, b, cur, ep) =>
      { s with areaA := a, areaB := b
               badGroups := s.badGroups.filter fun g => !touches op.pieces g.1 || (op.bad.all fun b => b != g)
               store := { s.store with cur := cur, pepoch := ep, imgOp := some { op with stopped := none, at_ := s.tb } } }

/-- The warning has cleared without a brown-out: the write resumes at its next page (R396). -/
def State.resumeStore (s : State) : State :=
  match s.store.inflight with
  | none => s
  | some op =>
    match op.stopped with
    | none => s
    | some k =>
      let left := (partsOf op.pieces).drop k
      let rest : StoreOp := { at_ := s.tb, old := s.cells, new := op.new, pieces := left, bad := s.badGroups }
      { s with cells := left.foldl (fun m p => copyCells op.new m p.1 p.2) s.cells
               badGroups := s.badGroups.filter fun g => !touches op.pieces g.1 || (op.bad.all fun b => b != g)
               store := { s.store with inflight := some rest } }

/-- What is owed, without the reply that waits for it. -/
def unanswered (w : StoreOwed) : StoreOwed :=
  match w with
  | .unit r flip _ => .unit r flip none
  | .record l d => .record l d
  | .scrub g => .scrub g
  | .copyHead => .copyHead
  | .image c a => .image c a

/-- One of the things owed begun now; of the images the newest alone, at the end. -/
def State.payOne (w : StoreOwed) (s : State) : State :=
  match w with
  | .record log data => s.logAppend log data
  | .scrub g => s.scrub g
  | .unit r flip reply =>
    let x := s.recordUnit r flip
    (match reply with
     | none => x.1
     | some (org, tag, rs) => x.1.post org tag (if x.2 then stOk else stFault) (if x.2 then rs else []))
  | .copyHead => if s.pair.inCopy.isSome then s.beginCopy else s
  | .image _ _ => s

/-- What is owed, begun once the warning has cleared, and whether an epoch that a standby owes an ACK for is persisted (R379, R396).
An epoch that does not verify now has its writes answered FAULT (R402). -/
def State.payOwed (s : State) : State × Bool :=
  let ws := s.store.owed
  let s := ws.foldl (fun s w => s.payOne w) { s with store := { s.store with owed := [] } }
  let images := ws.filterMap fun w => match w with
    | .image copy ack => some (copy, ack)
    | .record _ _ => none
    | .scrub _ => none
    | .copyHead => none
    | .unit _ _ _ => none
  if images.isEmpty then (s, false)
  else
    let p := s.persistSoon s.epoch (images.any (·.1)) false
    let s := p.1
    let s := if p.2 then s else { s with waits := s.waits.map fun w => if w.epoch.isSome then { w with fault := true } else w }
    (s, p.2 && images.any (·.2))

/-- The area the recall takes, with FALLBACK where the newer one fails its body CRC; the lower on a tie (R70, R400). -/
def chooseArea (a b : ImageArea) (badA badB : Bool) : Option Bool × Bool :=
  let va := a.hdr == .valid
  let vb := b.hdr == .valid
  let okA := va && !badA
  let okB := vb && !badB
  if okA && okB then (some (newer b.gen a.gen), false)
  else if okA then (some false, vb && newer b.gen a.gen)
  else if okB then (some true, va && !newer b.gen a.gen)
  else (none, false)

/-! ### Patches (R413 to R415) -/

/-- The mask-ROM version (Table 04-5). -/
def romVer : Nat := 0x0102

/-- The SHA-256 of a patch's header and body (R415). -/
def State.patchDigest (s : State) : Bytes := sha256 (Memory.readN s.cells 0 (128 + leVal (Memory.readN s.cells 8 4)))

/-- The check of PATCH_ACTIVATE: 0, or why it fails (R414). -/
def State.patchCheck (s : State) : Nat :=
  let m := s.cells
  let len := leVal (Memory.readN m 8 4)
  if leVal (Memory.readN m 0 4) != 0x7416AC01 || len < 1 || len > 98176 then 1
  else if leVal (Memory.readN m 6 2) != romVer then 2
  else if !Config.ecdsaOk (sha256 (Memory.readN m 0 64 ++ Memory.readN m 128 len)) (Memory.readN m 64 64) then 3
  else if leVal (Memory.readN m 4 2) < s.unit.patchHigh then 5
  else 0

/-- What the check of PATCH_ACTIVATE reads: the header's checks the first 12 bytes, the signature's the header and the body (R414).
[DEDUCED, log 56] -/
def State.patchReads (s : State) : List (Nat × Nat) :=
  [(0, if s.patchCheck = 1 || s.patchCheck = 2 then 12 else 128 + leVal (Memory.readN s.cells 8 4))]

/-- The recall's check of the recorded patch, which reads its header and body (R392, R415). [DEDUCED, log 56] -/
def State.recallPatch (s : State) : State :=
  match s.unit.digest with
  | none => { s with store := { s.store with pstate := 0, patchVer := 0 } }
  | some d =>
    let s := s.lookAt [(0, 128 + leVal (Memory.readN s.cells 8 4))]
    if s.patchDigest != d then { s with store := { s.store with pstate := 2, patchwhy := 4, patchVer := 0 } }
    else if leVal (Memory.readN s.cells 6 2) != romVer then
      { s with store := { s.store with pstate := 2, patchwhy := 2, patchVer := 0 } }
    else { s with store := { s.store with pstate := 1, patchVer := leVal (Memory.readN s.cells 4 2) } }

/-! ### Block protect -/

/-- The first protected address under BP (R412). -/
def protectFrom (bp : Nat) : Nat :=
  if bp = 0 then 0x100000 else if bp = 1 then 0xD0000 else if bp = 2 then 0xA0000 else 0x40000

/-- A stretch touches a protected byte. -/
def State.protected_ (s : State) (addr n : Nat) : Bool := n > 0 && addr + n > protectFrom s.unit.bp

/-! ### Commands (Table 18-8) -/

/-- The status of a write: OK only after verification, else FAULT (R417). -/
def written (bad : List Nat) : Nat := if bad.isEmpty then stOk else stFault

/-- NVM_READ. -/
def cmdNvmRead (c : Ctx) (s : State) : State × Ans :=
  let a := u32 c.p 0
  let n := u8 c.p 4
  let now := s.settled [(a, n)]
  let bad := now.badIn a n
  guarded
    [(n < 1 || n > 240, badParam 4), (a + n > 0x100000, badParam 0xFF),
     (a < 0x40000, refused stLocked)] s
    (bad.foldl (fun s g => s.meetGroup g) now, .now stOk (le 1 (eccFlag bad) ++ Memory.readN now.cells a n))

/-- The rings that a stretch touches. -/
def State.ringsIn (s : State) (a n : Nat) : List Nat :=
  (List.range 64).filter fun r => match nth s.unit.rings r none with
    | none => false
    | some d => d.en && a < d.base + d.size && d.base < a + n

/-- NVM_WRITE; what it covers in part is read and merged, and a ring it touches has its head found again (R393, R409). -/
def cmdNvmWrite (c : Ctx) (s : State) : State × Ans :=
  let a := u32 c.p 0
  let d := c.p.drop 4
  guarded
    [(a + d.length > 0x100000, badParam 0xFF),
     (a < 0x40000 || s.protected_ a d.length, refused stLocked)] s
    (let t := (s.lookAt (mergedGroups a d.length)).writeCells [(a, d)]
     ({ t with store := { t.store with seek := t.store.seek ++ s.ringsIn a d.length } }, .now (written (s.failing [(a, d.length)])) []))

/-- NVM_PROTECT. -/
def cmdNvmProtect (c : Ctx) (s : State) : State × Ans :=
  let bp := u8 c.p 0
  let remote := match c.org with
    | .remote _ => true
    | .host _ => false
  guarded [(bp > 3, badParam 0), (remote && bp < s.unit.bp, refused stLocked)] s
    (let x := s.tryUnit 6 { s.unit with bp := bp }
     (x.1, .now (if x.2 then stOk else stFault) []))

/-- Two stretches share a byte. -/
def overlaps (a n b m : Nat) : Bool := a < b + m && b < a + n

/-- The ring RING_CONFIG's parameters define. -/
def ringOf (p : Bytes) : RingDef :=
  { en := u8 p 1 == 1, copies := u8 p 2, base := u32 p 4, slots := u16 p 8, slotsz := u16 p 10 }

/-- RING_CONFIG: the definition persisted, then the area written with 0x00 where INIT asks it (R405). [DEDUCED, log 37] -/
def cmdRingConfig (c : Ctx) (s : State) : State × Ans :=
  let p := c.p
  let r := u8 p 0
  let init := u8 p 3
  let d := ringOf p
  let others := (List.range 64).filterMap fun i => if i = r then none else nth s.unit.rings i none
  let x := s.tryUnit 5 { s.unit with rings := upd s.unit.rings r fun _ => some d }
  let t := if nth s.unit.rings r none = some d then x.1 else { x.1 with store := { x.1.store with seek := x.1.store.seek ++ [r] } }
  let t := if init = 1 && x.2 then t.zeroCells d.base d.size else t
  let bad := s.unitFailing 5
  guarded
    [(r > 63, badParam 0), (u8 p 1 > 1, badParam 1), (d.copies < 1 || d.copies > 2, badParam 2), (init > 1, badParam 3),
     (d.base % 64 != 0, badParam 4), (d.slots < 4 || d.slots > 256, badParam 8),
     (d.slotsz < 16 || d.slotsz > 256 || d.slotsz % 16 != 0, badParam 10),
     (d.base + d.size > 0x100000, badParam 0xFF),
     (d.base < 0x40000 || (init == 1 && s.protected_ d.base d.size), refused stLocked),
     (d.en && others.any (fun o => o.en && overlaps d.base d.size o.base o.size), refused stConflict)] s
    (t, .now (written (bad ++ if init = 1 then s.failing [(d.base, d.size)] else [])) [])

/-- An enabled ring. -/
def State.ring (s : State) (r : Nat) : Option RingDef :=
  match nth s.unit.rings r none with
  | some d => if d.en then some d else none
  | none => none

/-- RING_APPEND. -/
def cmdRingAppend (c : Ctx) (s : State) : State × Ans :=
  let mode := u8 c.p 1
  let data := c.p.drop 2
  match s.ring (u8 c.p 0) with
  | none => (s, badParam 0)
  | some d =>
    let s := s.seekRing (u8 c.p 0) d
    let hits := ringHits s.cells d
    let newest := ringNewest hits
    let at_ := match newest with
      | none => ringNext d hits
      | some h => if mode = 0 then ringNext d hits else (h.slot, h.seq)
    let bad := s.failing (extents (ringPieces d at_.1 at_.2 data))
    guarded
      [(mode > 1, badParam 1), (data.length > d.slotsz - 12, badParam 0xFF),
       (s.protected_ d.base d.size, refused stLocked),
       (mode == 1 && (d.copies == 1 || newest.isNone), refused stConflict)] s
      (s.ringWrite d at_.1 at_.2 data, .now (written bad) (if bad.isEmpty then le 4 at_.2 else []))

/-- The places of the copies asked for, 0 for both, of the slots of records held (R408). -/
def RingDef.copiesOf (d : RingDef) (copy : Nat) (held : List RingHit) : List (Nat × Nat) :=
  ((held.map RingHit.slot).eraseDups).flatMap fun k =>
    ((List.range d.copies).filter fun i => copy == 0 || i + 1 == copy).map fun i => (d.addr i k, d.slotsz)

/-- RING_READ and LOG_READ (R408), which read the copies asked for of the slot that holds SEQ (R392): SEL (1), SEQ (4), COPY (1), OFFSET (1), COUNT (1) from offset 1 of PARAMS.
[DEDUCED, log 56] -/
def ringRead (d : RingDef) (p : Bytes) (s : State) : State × Ans :=
  let s := s.settled d.whole
  let hits := ringHits s.cells d
  let sel := u8 p 1
  let copy := u8 p 6
  let off := u8 p 7
  let count := u8 p 8
  let seq := if sel = 0 then (ringNewest hits).map RingHit.seq else if sel = 2 then (ringOldest hits).map RingHit.seq
    else some (u32 p 2)
  let held := match seq with
    | none => []
    | some q => hits.filter fun (h : RingHit) => h.seq == q
  let taken := held.filter fun (h : RingHit) => copy == 0 || h.copy + 1 == copy
  let first := taken.headD { slot := 0, copy := 0, seq := 0, data := [] }
  let s' := s.readCheck (d.copiesOf copy held)
  guarded
    [(sel > 2, badParam 1), (held.isEmpty, badParam (if sel = 1 then 2 else 0xFF)),
     (copy > 2 || taken.isEmpty, badParam 6), (off > first.data.length, badParam 7),
     (count < 1 || count > 240, badParam 8)] s
    (s', if taken.any fun x => x.data != first.data || x.rsvd != first.rsvd then refused stAmbiguous
      else .now stOk (le 4 first.seq ++ le 1 first.data.length ++ slice first.data off count))

/-- RING_READ. -/
def cmdRingRead (c : Ctx) (s : State) : State × Ans :=
  match s.ring (u8 c.p 0) with
  | none => (s, badParam 0)
  | some d => ringRead d c.p (s.seekRing (u8 c.p 0) d)

/-- LOG_READ. -/
def cmdLogRead (c : Ctx) (s : State) : State × Ans :=
  if u8 c.p 0 > 2 then (s, badParam 0) else ringRead (logDef (u8 c.p 0)) c.p s

/-- PATCH_LOAD; at OFFSET 0 it first clears the recorded digest, and writes nothing more where that does not verify (R414, R417). -/
def cmdPatchLoad (c : Ctx) (s : State) : State × Ans :=
  let o := u32 c.p 0
  let d := c.p.drop 4
  let x := if o = 0 then s.tryUnit 6 { s.unit with digest := none } else (s, true)
  guarded [(o > 98303, badParam 0), (o + d.length > 98304, badParam 0xFF)] s
    (if x.2 then ((x.1.lookAt (mergedGroups o d.length)).writeCells [(o, d)], .now (written (s.failing [(o, d.length)])) [])
     else (x.1, .now stFault []))

/-- PATCH_ACTIVATE. -/
def cmdPatchActivate (c : Ctx) (s : State) : State × Ans :=
  let act := u8 c.p 0
  if act > 1 then (s, badParam 0)
  else if act = 1 then
    let x := s.tryUnit 6 { s.unit with digest := none }
    (x.1, .now (if x.2 then stOk else stFault) [])
  else
    let s := s.settled s.patchReads
    let why := s.patchCheck
    let digest := s.patchDigest
    let ver := leVal (Memory.readN s.cells 4 2)
    let s := s.readCheck s.patchReads
    if why != 0 then ({ s with store := { s.store with patchwhy := why } }, badParam 0xFF)
    else
      let x := s.tryUnit 6 { s.unit with digest := some digest, patchHigh := ver }
      if !x.2 then (x.1, .now stFault [])
      else ({ x.1 with store := { x.1.store with patchwhy := 0 } }, .now stOk [])

/-- NVM_STATUS; its reply re-arms NVM_ECC for corrected groups. -/
def cmdNvmStatus (_c : Ctx) (s : State) : State × Ans :=
  let st := s.store
  let area := st.cur == some true
  let gen := (s.curArea.map (·.gen)).getD 0
  let fl := b2n st.fallback + 2 * b2n st.imglost + 4 * b2n st.unitfix + 8 * b2n st.ringfix
  ({ s with store := { st with eccArmed := true } },
   .now stOk (le 1 (b2n st.recalled) ++ le 1 (b2n area) ++ le 4 gen ++ le 4 st.pepoch ++ le 2 s.journalFree ++ le 1 fl ++
     le 1 s.unit.bp ++ wBytes st.corr ++ wBytes st.uncorr ++ le 2 st.wfail ++ le 4 st.lastbad ++ le 2 st.scanunc ++
     le 1 st.pstate ++ le 1 st.patchwhy ++ wBytes st.switches))

end Sys2Proof.Machine
end

