-- ==== Sys2Proof/Machine/Items.lean ====
section
/-! DEFINITION. Items of the state: references, ranges, values, ownership, and the configuration checks of zone, loop,
schedule, almanac, rule and filter objects (R10, R64 to R67, R271, R275, R276, R284, R307, R347). -/

namespace Sys2Proof.Machine

/-! ### References (Table 04-1, Table 00-6) -/

/-- The key under which an object is kept. -/
def objKey (kind idx : Nat) : Nat := 65536 * kind + idx

/-- The number of indices of a kind of object. -/
def kindCount (kind : Nat) : Nat :=
  match kind with
  | 1 => 16 | 2 => 32 | 3 => 32 | 4 => 64 | 5 => 128 | 6 => 32 | 7 => 16 | _ => 0

/-- The body size of a kind (Table 04-1). -/
def kindSize (kind : Nat) : Nat :=
  match kind with
  | 0 => 4 | 1 => 96 | 2 => 64 | 3 => 128 | 4 => 16 | 5 => 32 | 6 => 16 | 7 => 384 | _ => 0

/-- A point number outside the reserved ranges of Table 00-6 and the HK numbers not assigned (R450). -/
def validPoint (p : Nat) : Bool := p < 0x3A || (0x40 ≤ p && p < 0x68) || (0x70 ≤ p && p < 0x88) || (0x100 ≤ p && p < 0x200)

def isPT (p : Nat) : Bool := p < 0x10
def isHU (p : Nat) : Bool := 0x10 ≤ p && p < 0x20
def isPR (p : Nat) : Bool := 0x20 ≤ p && p < 0x30
def isHK (p : Nat) : Bool := 0x30 ≤ p && p < 0x40
def isVL (p : Nat) : Bool := 0x40 ≤ p && p < 0x50
def isAO (p : Nat) : Bool := 0x50 ≤ p && p < 0x60
def isFN (p : Nat) : Bool := 0x60 ≤ p && p < 0x68
def isDI (p : Nat) : Bool := 0x70 ≤ p && p < 0x80
def isDO (p : Nat) : Bool := 0x80 ≤ p && p < 0x88
def isVP (p : Nat) : Bool := 0x100 ≤ p && p < 0x200

/-- A kind of item available in a personality (Table 04-1). -/
def kindAllowed (k : Nat) (p : Pers) : Bool :=
  match p with
  | .service => k ≤ 7
  | .transport => k = 0 || k = 6 || k = 7
  | .caller => k = 0 || k = 6

/-- A point available in a personality (R65). -/
def pointAllowed (pt : Nat) (p : Pers) : Bool := p != .caller || isHK pt || isVP pt

/-- The check of an item reference: reserved or out of range is BAD_PARAM at the place of KIND or INDEX, a kind or
point the personality lacks WRONG_PERSONALITY (R64, R65); a reserved point number is BAD_PARAM in CALLER too. [DESIGN CHOICE, log 104] -/
def checkRef (kind idx : Nat) (p : Pers) (posKind posIdx : Nat) : Checks :=
  [(kind > 7, badParam posKind), (!kindAllowed kind p, refused stWrongPers),
   (kind == 0 && !validPoint idx, badParam posIdx), (kind == 0 && !pointAllowed idx p, refused stWrongPers),
   (kind != 0 && idx ≥ kindCount kind, badParam posIdx)]

/-! ### Values -/

/-- A member of a floating drive (R242): the drive it belongs to. -/
def Cfg.driveOf (c : Cfg) (p : Nat) : Option Nat :=
  (List.range 8).find? fun k =>
    let f := nth c.fd k {}
    let base := if f.kind = 0 then 0x50 else 0x80
    f.en && (p == base + f.opn || p == base + f.cls) && (if f.kind = 0 then isAO p else isDO p)

/-- The level a floating drive in force applies to a member, as the member's point reads it (R242). -/
def State.memberLevel (s : State) (p : Nat) : Option W32 :=
  (s.applied.driveOf p).map fun k =>
    let f := nth s.applied.fd k {}
    let d := (nth s.out.fd k {}).dir
    let base := if f.kind = 0 then 0x50 else 0x80
    let on := (p == base + f.opn && d == .opening) || (p == base + f.cls && d == .closing)
    wN (if on then (if f.kind = 0 then 10000 else 1) else 0)

/-- The value of a point in the committed state (R11, R12). -/
def State.point (s : State) (p : Nat) : W32 :=
  if isPT p then nth s.latched.pt p noVal
  else if isHU p then nth s.latched.hu (p - 0x10) noVal
  else if isPR p then nth s.latched.pr (p - 0x20) noVal
  else if isHK p then nth s.latched.hk (p - 0x30) noVal
  else if isVL p then nth s.latched.vl (p - 0x40) noVal
  else if isAO p then (s.memberLevel p).getD (nth s.com.ao (p - 0x50) noVal)
  else if isFN p then nth s.com.fn (p - 0x60) noVal
  else if isDI p then nth s.latched.di (p - 0x70) noVal
  else if isDO p then (s.memberLevel p).getD (nth s.com.dout (p - 0x80) noVal)
  else if isVP p then (mget s.com.vp p).getD noVal
  else noVal

/-- A driven point's value set in a committed state; other points are not written (R66). -/
def Com.setPoint (c : Com) (p : Nat) (v : W32) : Com :=
  if isAO p then { c with ao := upd c.ao (p - 0x50) fun _ => v }
  else if isFN p then { c with fn := upd c.fn (p - 0x60) fun _ => v }
  else if isDO p then { c with dout := upd c.dout (p - 0x80) fun _ => v }
  else if isVP p then { c with vp := mset c.vp p v }
  else c

/-- A driven point's value. -/
def Com.getPoint (c : Com) (p : Nat) : W32 :=
  if isAO p then nth c.ao (p - 0x50) noVal
  else if isFN p then nth c.fn (p - 0x60) noVal
  else if isDO p then nth c.dout (p - 0x80) noVal
  else if isVP p then (mget c.vp p).getD noVal
  else noVal

/-- An object's body in a committed state. -/
def Com.body (c : Com) (kind idx : Nat) : Option Bytes := (mget c.objs (objKey kind idx)).map Obj.body

/-- A channel behind a point is configured and enabled. -/
def Cfg.enabled (c : Cfg) (p : Nat) : Bool :=
  if isPT p then (nth c.pt.chans p {}).en
  else if isHU p then (nth c.pt.hu (p - 0x10) {}).en
  else if isPR p then (nth c.pr.chans (p - 0x20) {}).en
  else if isVL p then (nth c.vl.chans (p - 0x40) {}).en
  else if isAO p then (nth c.ao (p - 0x50) {}).en
  else if isFN p then (nth c.fn (p - 0x60) {}).en
  else if isDI p then (nth c.di (p - 0x70) {}).en
  else if isDO p then (nth c.dout (p - 0x80) {}).en
  else true

/-- Whether a driven point admits a value (R66, R12). -/
def inRange (p : Nat) (v : W32) : Bool :=
  if isAO p then v.toNat ≤ 10000
  else if isFN p then v.toNat ≤ 10000
  else if isDO p then v.toNat ≤ 1
  else if isVL p then v.toNat ≤ 1
  else v != noVal

/-! ### Naming and targets (R67) -/

/-- The configured objects of a kind: index and body. -/
def Com.kindBodies (c : Com) (kind : Nat) : List (Nat × Bytes) :=
  c.objs.filterMap fun e => if e.1 / 65536 = kind then some (e.1 % 65536, e.2.body) else none

/-- An enabled loop or rule: bit 0 of its first byte, suspended or not (R284, R307). -/
def enBit (b : Bytes) : Bool := bit (u8 b 0) 0

/-- Points that an enabled loop or rule targets. -/
def Com.targets (c : Com) : List Nat :=
  ((c.kindBodies 2).filterMap fun e => if enBit e.2 then some (u16 e.2 34) else none) ++
  ((c.kindBodies 5).filterMap fun e => if enBit e.2 then some (u16 e.2 20) else none)

/-- The point is owned by SERVICE: a committed loop or rule targets it (R67). -/
def State.serviceOwned (s : State) (p : Nat) : Bool :=
  s.pers == .service && p != 0xFFFF && s.com.targets.contains p

/-- The points a configuration names, by kind, enabled or not (R67). -/
def namedBy (kind : Nat) (b : Bytes) : List Nat :=
  if kind = 1 then [u16 b 4, u16 b 6, u16 b 8, u16 b 10, u16 b 12]
  else if kind = 2 then [u16 b 6, u16 b 8, u16 b 18, u16 b 34]
  else if kind = 5 then [u16 b 4, u16 b 6, u16 b 20]
  else []

/-- A committed zone, loop or rule configuration names the point (R67). -/
def Com.names (c : Com) (p : Nat) : Bool :=
  p != 0xFFFF && c.objs.any fun e => (namedBy (e.1 / 65536) e.2.body).contains p

/-- As Com.names, in the personality that has such configurations. -/
def State.names (s : State) (p : Nat) : Bool := s.pers == .service && s.com.names p

/-! ### Configuration checks at commit -/

/-- A point field that may be 0xFFFF. -/
def optPoint (p : Nat) (ok : Nat → Bool) : Bool := p = 0xFFFF || ok p

/-- A setpoint: any value; 0x8000 is none. Modes: 1 to 5 (Table 13-2). -/
def isMode (m : Nat) : Bool := 1 ≤ m && m ≤ 5

/-- R271: a zone configuration as it stands once every staged write has committed. -/
def checkZone (c : Com) (z : Nat) (b : Bytes) : Bool :=
  let loopOk := fun (i role : Nat) => i == 0xFF || (i < 32 &&
    (match c.body 2 i with
     | some lb => u8 lb 2 == role
     | none => true) &&
    !(c.kindBodies 1).any (fun e => e.1 != z && enBit e.2 && (u8 e.2 2 == i || u8 e.2 3 == i)))
  u8 b 0 ≤ 1 && (u8 b 1 < 32 || u8 b 1 = 0xFF) && loopOk (u8 b 2) 0 && loopOk (u8 b 3) 1 &&
  optPoint (u16 b 4) (fun p => isPT p || isVP p) && optPoint (u16 b 6) (fun p => isPT p || isVP p) &&
  optPoint (u16 b 8) (fun p => isHU p || isVP p) && optPoint (u16 b 10) (fun p => isDI p || isVP p) &&
  optPoint (u16 b 12) (fun p => isPT p || isVP p) &&
  1 ≤ u8 b 14 && u8 b 15 ≤ 2 && u16 b 16 ≤ 7200 && u8 b 18 ≤ 2 && isMode (u8 b 19) &&
  u16 b 36 ≤ 1000 && u16 b 38 ≤ 480 && (10 ≤ u16 b 40 && u16 b 40 ≤ 2000) &&
  (1 ≤ u16 b 52 && u16 b 52 ≤ 1440) && u8 b 54 < 8 && u8 b 55 ≤ 5 && u8 b 56 ≤ 5 && u8 b 57 = 0 &&
  u16 b 62 = 0 && !(u8 b 56 = 0 && u32 b 58 != 0)

/-- The kind of point a MAP requires (Table 13-6). -/
def mapTarget (m p : Nat) : Bool :=
  match m with
  | 0 => isAO p | 1 => isFN p | 2 => isDO p | 3 => isVL p | 4 => isVP p | _ => false

/-- R284: a loop configuration. -/
def checkLoop (c : Com) (i : Nat) (b : Bytes) : Bool :=
  let role := u8 b 2
  let t := u16 b 34
  let m := u8 b 36
  let zl := role < 2
  u8 b 0 < 4 && u8 b 1 = 0 && role < 4 && u8 b 3 < 4 && 1 ≤ u8 b 4 && u8 b 4 ≤ 60 && u8 b 5 < u8 b 4 &&
  ((zl && u16 b 6 == 0xFFFF) || validPoint (u16 b 6)) &&
  (if zl then u16 b 8 == 0xFFFF else validPoint (u16 b 8)) &&
  (u16 b 14 = 0 || 10 ≤ u16 b 14) && optPoint (u16 b 18) validPoint &&
  u16 b 28 ≤ 10000 && u16 b 28 < u16 b 30 && u16 b 30 ≤ 10000 &&
  mapTarget m t &&
  (m != 0 || (u8 b 38 ≤ 100 && u8 b 39 ≤ 100 && u8 b 38 != u8 b 39)) &&
  (m != 2 || (u8 b 37 ≤ 100 && u8 b 38 < u8 b 37)) &&
  (m != 3 || (3 ≤ u8 b 37 && u8 b 37 ≤ 180 && u8 b 38 ≤ 60)) &&
  c.cfg.enabled t && (c.cfg.driveOf t).isNone &&
  !(c.kindBodies 2).any (fun e => e.1 != i && enBit e.2 && u16 e.2 34 == t)

/-- R307: a rule configuration. -/
def checkRule (c : Com) (i : Nat) (b : Bytes) : Bool :=
  let t := u16 b 20
  let v := fun o => inRange t (w32 b o)
  u8 b 0 < 4 && u8 b 1 < 4 && u8 b 2 < 3 && (u8 b 2 = 0 || u8 b 3 < i) && validPoint (u16 b 4) &&
  optPoint (u16 b 6) validPoint && u16 b 16 ≤ 3600 && u16 b 18 ≤ 3600 && u8 b 22 < 2 && u8 b 23 < 3 &&
  (t = 0xFFFF ||
    ((isAO t || isFN t || isDO t || isVL t || isVP t) && v 24 && (u8 b 22 = 1 || v 28) &&
     c.cfg.enabled t && (c.cfg.driveOf t).isNone &&
     !(u8 b 22 == 0 && (c.kindBodies 2).any (fun e => enBit e.2 && u16 e.2 34 == t))))

/-- R275: a schedule configuration at commit. -/
def checkSched (b : Bytes) : Bool := isMode (u8 b 1) && (slice b 3 13).all (· == 0)

/-- R347: a filter configuration, on the picture of all filters. -/
def checkFilter (c : Com) (i : Nat) (b : Bytes) : Bool :=
  let en := bit (u8 b 0) 0
  let acc := bit (u8 b 0) 3 || bit (u8 b 0) 4
  slice b 12 4 == [0, 0, 0, 0] && u8 b 0 < 32 && u8 b 1 ≤ 1 &&
  (!en || (u8 b 3 != 0 && u8 b 2 + u8 b 3 ≤ 48 && acc &&
    !(c.kindBodies 6).any (fun e => e.1 != i && enBit e.2 && overlaps (u8 b 2) (u8 b 3) (u8 e.2 2) (u8 e.2 3))))

/-- The commit-time check of an object's chapter. [DEDUCED, log 37] -/
def checkObj (c : Com) (kind idx : Nat) (b : Bytes) : Bool :=
  match kind with
  | 1 => checkZone c idx b
  | 2 => checkLoop c idx b
  | 3 => checkSched b
  | 5 => checkRule c idx b
  | 6 => checkFilter c idx b
  | _ => true

/-! ### Checks of OBJ_WRITE by kind, before it is staged -/

/-- Days of a month; February of an unnamed year has 29 (R276). -/
def daysIn (y m : Nat) : Nat :=
  match m with
  | 1 => 31 | 2 => if y = 0 || y % 4 = 0 then 29 else 28 | 3 => 31 | 4 => 30 | 5 => 31 | 6 => 30
  | 7 => 31 | 8 => 31 | 9 => 30 | 10 => 31 | 11 => 30 | 12 => 31 | _ => 0

/-- An entry of a schedule is well-formed (R275). -/
def schedEntryOk (e : Nat) : Bool :=
  let mode := e / 8192
  let min := e % 2048
  min = 0x7FF || mode = 0 || (isMode mode && min < 1440)

/-- The entries a schedule write covers, as offsets. -/
def schedEntries (off len : Nat) : List Nat :=
  (List.range 56).map (fun k => 16 + 2 * k) |>.filter fun o => off ≤ o && o + 2 ≤ off + len

/-- The first field of an almanac day that is out of range, whatever its KIND; only ARG's range is that of a KIND (R276). -/
def almanacBad (b : Bytes) : Option Nat :=
  let kind := u8 b 0
  let arg := u8 b 1
  let bad : List (Bool × Nat) :=
    [(kind > 3, 0), (kind == 1 && arg > 6, 1), ((kind == 2 || kind == 3) && !isMode arg, 1),
     (u8 b 2 > 7, 2), (u8 b 3 < 1 || u8 b 3 > 62, 3),
     (!(u16 b 4 == 0 || (2000 ≤ u16 b 4 && u16 b 4 ≤ 2099)), 4), (u8 b 6 < 1 || u8 b 6 > 12, 6),
     (u8 b 7 < 1 || u8 b 7 > daysIn (u16 b 4) (u8 b 6), 7), (u16 b 12 > 1439, 12),
     (u16 b 14 ≤ u16 b 12 || u16 b 14 > 1440, 14)]
  (bad.find? (·.1)).map (·.2)

/-- The checks that the chapter of a kind makes of an OBJ_WRITE (R270, R275, R276, R283): offset, data. Positions count
from PARAMS, where OFFSET lies at 8 and DATA at 10. -/
def objWriteChecks (kind off : Nat) (d : Bytes) : Checks :=
  match kind with
  | 1 => [(off + d.length > 64, badParam 8)]
  | 2 => [(off + d.length > 40, badParam 8)]
  | 3 =>
    let bad := (schedEntries off d.length).find? fun o => !schedEntryOk (u16 d (o - off))
    [(off % 2 == 1, badParam 8), (d.length % 2 == 1, badParam 0xFF),
     (bad.isSome, badParam (10 + (bad.getD off - off)))]
  | 4 =>
    let bad := almanacBad d
    [(off != 0, badParam 8), (d.length != 16, badParam 0xFF), (bad.isSome, badParam (10 + bad.getD 0))]
  | _ => []

end Sys2Proof.Machine
end

