-- ==== Sys2Proof/Machine/Latch.lean ====
section
/-! DEFINITION. The newest completed result of each measured point, which a beat boundary latches (R16). -/

namespace Sys2Proof.Machine

/-- The measured points (Table 00-6). -/
def measuredPoints : List Nat := (List.range 0x80).filter fun p => isPT p || isHU p || isPR p || (0x30 ≤ p && p < 0x3A) || isVL p || isDI p

/-- A presence input's result: its round count, none while disabled, not armed, faulted or unwatched (R193, R196). -/
def State.prNewest (s : State) (n : Nat) : W32 :=
  let c := nth s.pres.ch n {}
  let k := nth s.applied.pr.chans n {}
  if k.en && c.armed && !c.fault && ((s.phase == .run && s.runs 1 && s.pres.sampling) || k.wen) then wN c.rcnt else noVal

/-- A field input's result: its filtered level, none while invalid or in wire break (R249, R252, R261). -/
def State.diNewest (s : State) (n : Nat) : W32 :=
  let d := nth s.fio.di n {}
  if (nth s.applied.di n {}).en && d.valid && !d.wb then wN (b2n d.level) else noVal

/-- The newest completed result of a measured point. -/
def State.newestOf (s : State) (p : Nat) : W32 :=
  if isPT p then (nth s.prm.ch p {}).newest
  else if isHU p then (nth s.prm.hu (p - 0x10) {}).newest
  else if isPR p then s.prNewest (p - 0x20)
  else if isHK p then nth s.hk.newest (p - 0x30) noVal
  else if isVL p then (nth s.vl.ch (p - 0x40) {}).newest
  else if isDI p then s.diNewest (p - 0x70)
  else noVal

/-- After an event, results that complete in the quantum of a beat boundary still to come belong to the beat that begins
there: the boundary latches what stood before (R16). [DEDUCED, log 49] -/
def latchHold (before after : State) : State :=
  if after.tb % 10000 = 0 && after.beatAt != after.tb then
    let old := if after.heldAt = after.tb then after.heldRes else []
    let new := measuredPoints.filterMap fun p =>
      if before.newestOf p != after.newestOf p && (mget old p).isNone then some (p, before.newestOf p) else none
    { after with heldRes := old ++ new, heldAt := after.tb }
  else after

/-- What the beat boundary latches for a point. [DEDUCED, log 49] -/
def State.latchOf (s : State) (p : Nat) : W32 :=
  if s.heldAt = s.tb then (mget s.heldRes p).getD (s.newestOf p) else s.newestOf p

end Sys2Proof.Machine
end

