-- ==== Sys2Proof/Machine/LinkIo.lean ====
section
/-! DEFINITION. The host link and the remote mailbox: transactions, the mailbox, replies, deferral and expiry, and the
fabric's registers that the host writes (R91 to R109, R120, R123, R126, R132). -/

namespace Sys2Proof.Machine

/-! ### Status bits and bytes -/

/-- HLST[7:0] (R114). -/
def State.hlstLow (s : State) : Nat :=
  let l := s.link
  (if s.phase == .run then 2 else 1) + 4 * b2n (s.rem.box.length ≥ 8) + 8 * b2n l.lerr + 16 * b2n l.refused +
  32 * b2n (l.mbox.any fun c => c.deferAt.isSome && !c.done) + 64 * b2n (!l.replies.isEmpty) +
  128 * b2n (l.mbox.length ≥ 8)

/-- HLST (R114). -/
def State.hlst (s : State) : Nat :=
  s.hlstLow + 256 * min s.link.mbox.length 8 + 65536 * min s.link.replies.length 20

/-- A reply as it is shifted out (Table 05-3). -/
def Reply.bytes (r : Reply) : Bytes :=
  let body := le 1 r.results.length ++ [r.tag] ++ le 1 r.status ++ le 4 r.epoch ++ r.results
  [0x7C] ++ body ++ le 2 (crc16 body)

/-- A command packet (Table 05-2). -/
def packet (opc : Nat) (tag : Byte) (params : Bytes) : Bytes :=
  let body := le 1 params.length ++ [tag] ++ le 1 opc ++ params
  [0xC7] ++ body ++ le 2 (crc16 body)

/-- What a transaction shifts out: HLST[7:0] while the type byte is clocked, then its bytes (R92). -/
def State.shiftOut (bs : Bytes) (s : State) : State :=
  { s with link := { s.link with hmiso := le 1 s.hlstLow ++ bs } }

/-! ### The mailbox -/

/-- A link error: HLST.LERR is set and LINK_ERROR raised (R92, R98). -/
def State.linkError (s : State) : State :=
  (({ s with link := { s.link with lerr := true } } : State).flag 0x20 8).raise 25

/-- A reply of the link logic, in one of four entries; with all four unread it is dropped and LERR set (R98). -/
def State.linkReply (tag : Byte) (status : Nat) (s : State) : State :=
  if (s.link.replies.filter fun r => r.slot.isNone).length ≥ 4 then
    ({ s with link := { s.link with lerr := true } } : State).flag 0x20 8
  else
    let r : Reply := { slot := none, tag := tag, status := status, epoch := s.epoch, results := [], final := true,
                       readAt := s.tb }
    ({ s with link := { s.link with replies := s.link.replies ++ [r] } } : State).raise 19

/-- A command refused with the mailbox full (R102). -/
def State.refuseCommand (s : State) : State :=
  ({ s with link := { s.link with refused := true, refusedCnt := satInc s.link.refusedCnt 255 } } : State).flag 0x20 16

/-- A command received into the mailbox (R98, R101). -/
def State.receiveCommand (opc : Nat) (tag : Byte) (params : Bytes) (s : State) : State :=
  let c : MboxCmd := { id := s.link.nextId, tag := tag, opc := opc, params := params, recvAt := s.tb }
  let s := { s with link := { s.link with mbox := s.link.mbox ++ [c], nextId := s.link.nextId + 1 } }
  s.raiseIf (s.link.mbox.length == 8) 22

/-- A mailbox slot freed once its final reply is consumed or has expired (R101, R104). -/
def State.freeSlot (id : Nat) (s : State) : State :=
  let full := s.link.mbox.length ≥ 8
  let s := { s with link := { s.link with mbox := s.link.mbox.filter fun c => c.id != id } }
  s.raiseIf (full && s.link.mbox.length < 8) 23

/-- The device reset of DEV_RESET is due once its reply has been read (R62). [DEDUCED, log 82] -/
def State.noteResetRead (r : Reply) (s : State) : State :=
  if r.final && r.slot.isSome && r.slot == s.pw.devResetCmd then
    { s with pw := { s.pw with devReset := some s.tb, devResetCmd := none } }
  else s

/-- A reply has left: consumed or expired. -/
def State.dropReply (r : Reply) (s : State) : State :=
  match r.final, r.slot with
  | true, some id => s.freeSlot id
  | _, _ => s

/-! ### Transactions -/

/-- COMMAND_WRITE (R98, R102). Ignored in DOZE (R26) and in reset. [DESIGN CHOICE, log 40] -/
def execCommandWrite (packet : List Byte) (s : State) : Out :=
  if !s.awake then .next s
  else
    let s := s.shiftOut (List.replicate packet.length 0)
    let len := u8 packet 1
    let tag := packet[2]?.getD 0
    if packet[0]? != some 0xC7 || packet.length < 6 then
      .next ({ s with link := { s.link with syncErr := satInc s.link.syncErr 255 } } : State).linkError
    else if packet.length != len + 6 then .next (s.linkReply tag stBadLength)
    else if crc16 (slice packet 1 (len + 3)) != u16 packet (len + 4) then
      .next (({ s with link := { s.link with crcErr := satInc s.link.crcErr 255 } } : State).linkReply tag stBadCrc)
    else if s.link.mbox.length ≥ 8 then .next s.refuseCommand
    else .next (s.receiveCommand (u8 packet 3) tag (slice packet 4 len))

/-- REPLY_READ: clocked is the number of bytes clocked after the type byte (R92, R93). -/
def execReplyRead (clocked : Nat) (s : State) : Out :=
  if !s.awake then .next s
  else
    match s.link.replies with
    | [] => .next (s.shiftOut (List.replicate clocked 0))
    | r :: rest =>
      let bs := r.bytes
      let s := s.shiftOut (fit clocked bs)
      if clocked < bs.length then .next s
      else
        let s := { s with link := { s.link with replies := rest } }
        .next ((s.noteResetRead r).dropReply r)

/-! ### Replies that stay unread, commands that wait -/

/-- REPLY_EXPIRY: the oldest reply has stayed unread for 10 rounds; a read in the round of expiry wins (R104, R134).
[DESIGN CHOICE, log 2] [DEDUCED, log 90] -/
def execReplyExpiry (s : State) : Out :=
  match s.link.replies with
  | [] => .next s
  | r :: rest =>
    let s := s.jump (nextMultiple 1000000 (tbAdd r.readAt 10000000))
    let s := { s with link := { s.link with replies := rest, expired := satInc s.link.expired 255 } }
    .next ((s.dropReply r).raise 24)

/-- A DEFERRED reply for a command without its final reply (R97, R107, R108). [DEDUCED, log 41] -/
def State.deferReply (org : Origin) (tag : Byte) (opc wait : Nat) (s : State) : State :=
  let s := { s with link := { s.link with defers := satInc s.link.defers 65535 } }
  (s.post org tag stDeferred (le 1 opc ++ le 1 wait)).raise 20

/-- The REASON of a DEFERRED reply: one that waits for an epoch which a power-fail warning holds waits for the store (R107, R396). -/
def State.reasonOf (org : Origin) (wait : Nat) (s : State) : Nat :=
  if wait = 4 && s.imageHeld && s.waits.any (fun w => w.org == org && w.epoch.isSome) then 3 else wait

/-- DEFERRED_TIMEOUT: 20 ms after receipt; slot counts the held commands in order of receipt (R107). [DEDUCED, log 38] -/
def execDeferredTimeout (remote : Bool) (slot : Nat) (s : State) : Out :=
  if slot ≥ 8 then .fault .noSuchUnit
  else if remote then
    match s.rem.box[slot]? with
    | none => .next s
    | some c =>
      if c.done || c.deferAt.isSome then .next s
      else .next ((s.jump (tbAdd c.recvAt 20000)).deferReply (.remote c.id) (c.data[6]?.getD 0) (u8 c.data 7) (s.reasonOf (.remote c.id) c.wait))
  else
    match s.link.mbox[slot]? with
    | none => .next s
    | some c =>
      if c.done || c.deferAt.isSome then .next s
      else .next ((s.jump (tbAdd c.recvAt 20000)).deferReply (.host c.id) c.tag c.opc (s.reasonOf (.host c.id) c.wait))

/-- A deferred command that has not been taken is ended BUSY (R109). -/
def State.endBusy (org : Origin) (tag : Byte) (s : State) : State :=
  let s := { s with link := { s.link with busyEnd := satInc s.link.busyEnd 65535 } }
  (s.post org tag stBusy []).raise 21

/-- DEFERRED_EXPIRY: 2 rounds after the DEFERRED reply; a command taken in the round of expiry counts as taken (R109, R134).
[DEDUCED, log 38] [DEDUCED, log 90] -/
def execDeferredExpiry (remote : Bool) (slot : Nat) (s : State) : Out :=
  if slot ≥ 8 then .fault .noSuchUnit
  else if remote then
    match s.rem.box[slot]? with
    | none => .next s
    | some c =>
      match c.deferAt with
      | none => .next s
      | some t =>
        if c.done || c.taken || c.wait = 3 then .next s
        else .next ((s.jump (nextMultiple 1000000 (tbAdd t 2000000))).endBusy (.remote c.id) (c.data[6]?.getD 0))
  else
    match s.link.mbox[slot]? with
    | none => .next s
    | some c =>
      match c.deferAt with
      | none => .next s
      | some t =>
        if c.done || c.taken || c.wait = 3 then .next s else .next ((s.jump (nextMultiple 1000000 (tbAdd t 2000000))).endBusy (.host c.id) c.tag)

/-! ### The remote mailbox (R120, R337, R338) -/

/-- A frame's identifier parts (R336). -/
def frameFunc (f : Frame) : Nat := f.id / 2 ^ 24
def frameSub (f : Frame) : Nat := f.id / 2 ^ 20 % 16
def frameKey (f : Frame) : Nat := low f.id 20

/-- The bus controller receives frames. -/
def State.busReceives (s : State) : Bool :=
  s.awake && (s.bus.phase == .active || s.bus.phase == .passive)

/-- A frame can arrive: with the line held dominant none can (R332). -/
def State.frameArrives (s : State) : Bool := s.busReceives && !s.bus.faultNow.getLsbD 1

/-- REMOTE_RECORD_ARRIVAL. A unit of a pair that is not active takes no remote records (R120). [DEDUCED, log 41] -/
def execRemoteRecordArrival (f : Frame) (s : State) : Out :=
  if !s.frameArrives || !s.acting || f.remote || !f.ide || frameFunc f != 4 || frameSub f != 0 || frameKey f != s.nodeKey then .next s
  else if s.rem.box.length ≥ 8 then
    .next (({ s with rem := { s.rem with rfull := satInc s.rem.rfull 255 } } : State).raise 29)
  else
    let c : RemoteCmd := { id := s.rem.nextId, data := f.data, classic := !f.fdf, recvAt := s.tb }
    .next { s with rem := { s.rem with box := s.rem.box ++ [c], nextId := s.rem.nextId + 1 } }

/-! ### Event fabric registers -/

/-- Bits of instance k of a register with four instances, as part of all 128 (R137). -/
def wide (k : Nat) (bits : W32) : BitVec 128 := bits.setWidth 128 <<< (32 * k)

/-- A W1C write to EVST or EVOV; a bit raised in the quantum of the write stays (R7, R123). [DEDUCED, log 14] -/
def Events.clear (e : Events) (ovf : Bool) (mask : BitVec 128) (t : Nat) : Events :=
  let e := e.noteLow t
  let e := if e.raisedAt = t then e else { e with raisedAt := t, raisedNow := 0, ovNow := 0, clearedNow := 0 }
  if ovf then { e with ov := e.ov &&& ~~~(mask &&& ~~~e.ovNow) }
  else
    let gone := mask &&& ~~~e.raisedNow
    { e with st := e.st &&& ~~~gone, clearedNow := e.clearedNow ||| (e.st &&& gone) }

/-- EVST_CLEAR (R123). -/
def execEvstClear (k : Nat) (ovf : Bool) (bits : W32) (s : State) : Out :=
  if k ≥ 4 then .fault .noSuchUnit
  else if !s.awake then .next s
  else .next { s with ev := s.ev.clear ovf (wide k bits) s.tb }

/-- IRQ_PULSE_END. -/
def execIrqPulseEnd (padB : Bool) (s : State) : Out :=
  let p := if padB then s.ev.padB else s.ev.padA
  match p.highUntil with
  | none => .next s
  | some h =>
    let s := s.jump h
    .next (if padB then { s with ev := { s.ev with padB := p.finish } } else { s with ev := { s.ev with padA := p.finish } })

/-! ### Commit groups and snapshots that run out (R79, R81) -/

/-- GROUP_EXPIRY: an open group has stayed open for 200 beats; a GROUP_CLOSE in the beat of expiry wins, so the group is lost at
the boundary that ends that beat (R79, R134). [DEDUCED, log 90] -/
def execGroupExpiry (g : Nat) (s : State) : Out :=
  if g < 1 || g > 8 then .fault .noSuchUnit
  else
    match nth s.groups (g - 1) none with
    | none => .next s
    | some gr =>
      let s := s.jump (nextMultiple 10000 (tbAdd gr.openAt 2000000))
      .next (({ s with groups := upd s.groups (g - 1) fun _ => none } : State).raise 17)

/-- SNAP_EXPIRY: a buffer has had no SNAP_READ for 2 rounds; one in the round of expiry wins (R81, R134). [DEDUCED, log 90] -/
def execSnapExpiry (h : Nat) (s : State) : Out :=
  if h ≥ 4 then .fault .noSuchUnit
  else
    match nth s.snaps h none with
    | none => .next s
    | some sn =>
      let s := s.jump (nextMultiple 1000000 (tbAdd sn.usedAt 2000000))
      .next (({ s with snaps := upd s.snaps h fun _ => none } : State).raise 18)

/-! ### Commands of the link and the key slots (Table 05-8) -/

/-- NOP. -/
def cmdNop (_c : Ctx) (s : State) : State × Ans := (s, .now stOk [])

/-- AUTH_KEY_LOAD. -/
def cmdAuthKeyLoad (c : Ctx) (s : State) : State × Ans :=
  stagedCmd 0x08
    [(u8 c.p 0 > 7, badParam 0), (u16 c.p 1 == 0, badParam 1), ((slice c.p 7 32).all (· == 0), badParam 0xFF)] [] [] c s

/-- AUTH_KEY_CLEAR. -/
def cmdAuthKeyClear (c : Ctx) (s : State) : State × Ans := stagedCmd 0x09 [(u8 c.p 0 > 7, badParam 0)] [] [] c s

/-- The slot as AUTH_KEY_LOAD leaves it at its commit (R115, R118). -/
def setAuthKey (opc : Nat) (p : Bytes) (u : UnitArea) (c : Com) : UnitArea × Com :=
  let i := u8 p 0
  if opc = 0x08 then
    ({ u with keys := upd u.keys i fun _ => some { key := slice p 7 32, mask := BitVec.ofNat 16 (u16 p 1), cnt0 := u32 p 3 } },
     { c with keyCnt := upd c.keyCnt i fun _ => u32 p 3 })
  else ({ u with keys := upd u.keys i fun _ => none }, { c with keyCnt := upd c.keyCnt i fun _ => 0 })

/-- AUTH_STATUS. -/
def cmdAuthStatus (c : Ctx) (s : State) : State × Ans :=
  let i := u8 c.p 0
  let r := match nth s.unit.keys i none with
    | none => le 13 0
    | some k =>
      le 1 (if k.exhausted then 2 else 1) ++ le 2 k.mask.toNat ++ le 4 (nth s.com.keyCnt i 0) ++ le 2 k.fails ++
        (hmac k.key (List.replicate 16 0)).take 4
  guarded [(i > 7, badParam 0)] s (s, .now stOk r)

/-- HLCNT, HLDCNT and RMCNT (R114). -/
def State.hlcnt (s : State) : Nat :=
  s.link.syncErr * 2 ^ 24 + s.link.crcErr * 2 ^ 16 + s.link.refusedCnt * 2 ^ 8 + s.link.expired
def State.hldcnt (s : State) : Nat := s.link.defers * 2 ^ 16 + s.link.busyEnd
def State.rmcnt (s : State) : Nat := s.rem.authFail * 2 ^ 24 + s.rem.replay * 2 ^ 16 + s.rem.rfull * 2 ^ 8

/-- LINK_STATS. -/
def cmdLinkStats (_c : Ctx) (s : State) : State × Ans :=
  (s, .now stOk (le 4 s.hlcnt ++ le 4 s.hldcnt ++ le 4 s.rmcnt))

/-- LINK_CLEAR. [DEDUCED, log 83] -/
def cmdLinkClear (_c : Ctx) (s : State) : State × Ans :=
  ({ s with link := { s.link with syncErr := 0, crcErr := 0, refusedCnt := 0, expired := 0, defers := 0, busyEnd := 0 }
            rem := { s.rem with authFail := 0, replay := 0, rfull := 0 } }, .now stOk [])

end Sys2Proof.Machine
end

