-- ==== Sys2Proof/Machine/Clock.lean ====
section
/-! DEFINITION. The real-time calendar (R135, R136). -/

namespace Sys2Proof.Machine

/-- The last second the calendar counts: 2099-12-31 23:59:59. -/
def calendarEnd : Nat := 3155759999

/-- A broken-down date and time. -/
structure Civil where
  year : Nat
  month : Nat
  day : Nat
  hour : Nat
  min : Nat
  sec : Nat
deriving DecidableEq, Repr

/-- Days from 2000-01-01 to the first of January of a year from 2000 to 2099. -/
def yearDays (y : Nat) : Nat := (y - 2000) * 365 + (y - 2000 + 3) / 4

/-- Days from the first of January to the first of a month. -/
def monthDays (y m : Nat) : Nat := ((List.range (m - 1)).map fun i => daysIn y (i + 1)).sum

/-- Days since 2000-01-01 of a date. -/
def dayNumber (y m d : Nat) : Nat := yearDays y + monthDays y m + (d - 1)

/-- Seconds since 2000-01-01 00:00:00. -/
def Civil.secs (c : Civil) : Nat := dayNumber c.year c.month c.day * 86400 + c.hour * 3600 + c.min * 60 + c.sec

/-- The year that a day since 2000-01-01 lies in. -/
def yearOf (n : Nat) : Nat :=
  let r := n % 1461
  2000 + 4 * (n / 1461) + (if r < 366 then 0 else (r - 366) / 365 + 1)

/-- The month and day of a day of a year, counted from 0. -/
def monthOf (y n : Nat) : Nat × Nat :=
  let m := ((List.range 12).filter fun i => monthDays y (i + 1) ≤ n).length
  (m, n - monthDays y m + 1)

/-- The date of a day since 2000-01-01: year, month, day. -/
def dateOf (n : Nat) : Nat × Nat × Nat :=
  let y := yearOf n
  let md := monthOf y (n - yearDays y)
  (y, md.1, md.2)

/-- The weekday of a day since 2000-01-01, a Saturday: 0 Monday to 6 Sunday. -/
def weekday (n : Nat) : Nat := (n + 5) % 7

/-- The date and time of a second. -/
def civilOf (t : Nat) : Civil :=
  let d := dateOf (t / 86400)
  let r := t % 86400
  { year := d.1, month := d.2.1, day := d.2.2, hour := r / 3600, min := r / 60 % 60, sec := r % 60 }

/-- The date and time RTC_SET carries. -/
def civilAt (p : Bytes) (o : Nat) : Civil :=
  { year := u16 p o, month := u8 p (o + 2), day := u8 p (o + 3), hour := u8 p (o + 4), min := u8 p (o + 5),
    sec := u8 p (o + 6) }

/-- The checks of a date and time at an offset of PARAMS. -/
def civilChecks (p : Bytes) (o : Nat) : Checks :=
  let c := civilAt p o
  [(c.year < 2000 || c.year > 2099, badParam o), (c.month < 1 || c.month > 12, badParam (o + 2)),
   (c.day < 1 || c.day > daysIn c.year c.month, badParam (o + 3)), (c.hour > 23, badParam (o + 4)),
   (c.min > 59, badParam (o + 5)), (c.sec > 59, badParam (o + 6))]

/-- RTC_SET. -/
def cmdRtcSet (c : Ctx) (s : State) : State × Ans :=
  let w := u8 c.p 0
  stagedCmd 0x0C ((w > 2, badParam 0) :: (if w = 2 then [] else civilChecks c.p 1)) [] [] c s

/-- What a committed RTC_SET asks of the next round boundary. -/
def rtcActOf (p : Bytes) : RtcAct :=
  if u8 p 0 = 0 then .set (civilAt p 1).secs else if u8 p 0 = 1 then .arm (civilAt p 1).secs else .disarm

/-- RTC_GET. -/
def cmdRtcGet (_c : Ctx) (s : State) : State × Ans :=
  let k := civilOf s.cal.secs
  let fl := b2n s.cal.isSet + 2 * b2n (!s.xtalOk) + 4 * b2n s.cal.alarm.isSome + 8 * b2n s.cal.ended
  (s, .now stOk (le 2 k.year ++ le 1 k.month ++ le 1 k.day ++ le 1 k.hour ++ le 1 k.min ++ le 1 k.sec ++
    le 1 (weekday (s.cal.secs / 86400)) ++ le 1 fl ++ le 6 s.cal.tbs))

/-- A committed RTC_SET that sets the calendar, at a round boundary (R135). -/
def Calendar.setBy (c : Calendar) (a : RtcAct) (tb : Nat) : Calendar :=
  match a with
  | .set n => { c with secs := n, isSet := true, ended := false, tbs := tb }
  | .arm _ => c
  | .disarm => c

/-- A committed RTC_SET that arms or disarms the alarm, with the calendar as that boundary leaves it (R136). -/
def Calendar.armBy (c : Calendar) (a : RtcAct) : Calendar :=
  match a with
  | .set _ => c
  | .arm n => { c with alarm := if n ≤ c.secs then none else some n }
  | .disarm => { c with alarm := none }

/-- The calendar at a round boundary: one second on while XTALOK is 1, held at its end with END set (R135). -/
def Calendar.advance (c : Calendar) (xtalOk : Bool) (tb : Nat) : Calendar :=
  if !xtalOk || c.ended then c
  else if c.secs ≥ calendarEnd then { c with ended := true }
  else { c with secs := c.secs + 1, tbs := tb }

/-- The calendar's work of a round boundary: advance, what was set, then the alarm, which fires at the value it was
armed for (R135, R136). An RTC_SET that ends or changes the alarm at the very boundary of its value comes first. [DESIGN CHOICE, log 44] -/
def State.calendarBoundary (s : State) : State :=
  let was := s.cal.secs
  let t := if s.phase = .doze then s.svc.roundAt else s.tb
  let c := s.cal.advance s.xtalOk t
  let c := c.pending.foldl (fun c a => c.setBy a t) c
  let c := c.pending.foldl (fun c a => c.armBy a) c
  let fires := c.alarm == some c.secs && !c.ended && (c.secs != was)
  let c := { c with pending := [], alarm := if fires then none else c.alarm }
  ({ s with cal := c } : State).raiseIf fires 63

/-- The calendar is usable by schedules: set, not halted, not at its end (R273). -/
def State.clockOk (s : State) : Bool := s.cal.isSet && s.xtalOk && !s.cal.ended

end Sys2Proof.Machine
end

