-- ==== Sys2Proof/Machine/StateCmd.lean ====
section
/-! DEFINITION. The state and epoch commands (Table 04-3), the capability list (Table 04-5). -/

namespace Sys2Proof.Machine

/-- The newest acknowledged epoch: EPOCH in a single device, while SOLO and on a unit that is not active (R86, R87).
[DEDUCED, log 43] -/
def State.ackedEpoch (s : State) : Nat := if s.paired && s.pair.role == .active then s.pair.acked else s.epoch

/-- EPOCH_GET. -/
def cmdEpochGet (_c : Ctx) (s : State) : State × Ans :=
  (s, .now stOk (le 4 s.epoch ++ le 6 s.tbc ++ le 4 s.ackedEpoch ++ le 4 s.store.pepoch))

/-! ### Groups -/

/-- The open group a GROUP byte names; 0 names none. -/
def State.groupOpen (s : State) (g : Nat) : Option Group := if g = 0 then none else nth s.groups (g - 1) none

/-- The check of a GROUP byte for n writes: a group that is not open, or has no room (R78, R79). -/
def groupChecks (g n : Nat) (s : State) : Checks :=
  if g = 0 then []
  else
    match s.groupOpen g with
    | none => [(true, badParam 0)]
    | some gr => [(gr.held.length + n > 64, badParam 0)]

/-- Checked writes: staged as one unit, or held in the group and answered at once (R74, R78). -/
def State.stageOrHold (g : Nat) (ws : List Write) (s : State) : State × Ans :=
  match s.groupOpen g with
  | none => (s, .commit ws [])
  | some gr =>
    ({ s with groups := upd s.groups (g - 1) fun _ => some { gr with held := gr.held ++ ws } }, .now stOk [])

/-- The checks of one entry of POINT_WRITE: point number and value (R65, R66, R12). -/
def pointChecks (p : Bytes) (o : Nat) (s : State) : Checks :=
  let pt := u16 p o
  let writable := isAO pt || isFN pt || isDO pt || isVP pt
  [(!validPoint pt, badParam o), (!pointAllowed pt s.pers, refused stWrongPers),
   (!writable || !s.com.cfg.enabled pt, badParam o), (!inRange pt (w32 p (o + 2)), badParam (o + 2))]

/-- The points a POINT_WRITE names. -/
def pointList (p : Bytes) : List (Nat × W32) :=
  (List.range (u8 p 1)).map fun i => (u16 p (2 + 6 * i), w32 p (4 + 6 * i))

/-- POINT_WRITE. -/
def cmdPointWrite (c : Ctx) (s : State) : State × Ans :=
  let g := u8 c.p 0
  let n := u8 c.p 1
  let pts := pointList c.p
  guarded
    (chk (g > 8) (badParam 0) ++ groupChecks g n s ++ chk (n < 1 || n > 40) (badParam 1) ++
     (List.range n).flatMap (fun i => pointChecks c.p (2 + 6 * i) s) ++
     [(s.notActive, refused stNotActive),
      (pts.any fun e => s.serviceOwned e.1 || (s.com.cfg.driveOf e.1).isSome, refused stConflict),
      (g == 0 && s.stageFull n, refused stBusy)]) s
    (s.stageOrHold g (pts.map fun e => .point e.1 e.2))

/-- OBJ_WRITE. -/
def cmdObjWrite (c : Ctx) (s : State) : State × Ans :=
  let p := c.p
  let g := u8 p 0
  let kind := u8 p 1
  let idx := u16 p 2
  let off := u16 p 8
  let d := p.drop 10
  guarded
    (chk (g > 8) (badParam 0) ++ groupChecks g 1 s ++ chk (kind == 0) (badParam 1) ++ checkRef kind idx s.pers 1 2 ++
     chk (off + d.length > kindSize kind) (badParam (if kind = 1 || kind = 2 then 8 else 0xFF)) ++ objWriteChecks kind off d ++
     [(s.notActive, refused stNotActive), (g == 0 && s.stageFull 1, refused stBusy)]) s
    (s.stageOrHold g [.obj kind idx (u32 p 4) off d])

/-- The group number that GROUP_OPEN allocates: the lowest that is not open (R78). [DESIGN CHOICE, log 106] -/
def State.freeGroup (s : State) : Option Nat := (List.range 8).find? fun i => (nth s.groups i none).isNone

/-- GROUP_OPEN. [DEDUCED, log 39] -/
def cmdGroupOpen (_c : Ctx) (s : State) : State × Ans :=
  match s.freeGroup with
  | none => guarded [(s.notActive, refused stNotActive)] s (s, refused stBusy)
  | some i =>
    guarded [(s.notActive, refused stNotActive)] s
      ({ s with groups := upd s.groups i fun _ => some { openAt := s.tb, held := [] } }, .now stOk (le 1 (i + 1)))

/-- GROUP_CLOSE. [DEDUCED, log 38] [DEDUCED, log 39] -/
def cmdGroupClose (c : Ctx) (s : State) : State × Ans :=
  let g := u8 c.p 0
  let act := u8 c.p 1
  match s.groupOpen g with
  | none => (s, badParam 0)
  | some gr =>
    let s' := { s with groups := upd s.groups (g - 1) fun _ => none }
    guarded
      [(act > 1, badParam 1), (s.notActive, refused stNotActive),
       (act == 0 && s.stageFull gr.held.length, refused stBusy)] s
      (if act = 0 && gr.held.isEmpty then (s', .now s.okSolo [])
       else if act = 0 then (s', .commit gr.held []) else (s', .now stOk []))

/-! ### Snapshots -/

/-- An interlock gates this output now (Table 04-2 bit 1). -/
def State.gatedPoint (s : State) (p : Nat) : Bool :=
  (isVL p && s.ilk.gVl.getLsbD (p - 0x40)) || (isAO p && s.ilk.gAo.getLsbD (p - 0x50)) ||
  (isFN p && s.ilk.gFn.getLsbD (p - 0x60)) || (isDO p && s.ilk.gDo.getLsbD (p - 0x80))

/-- One record of a snapshot buffer (Table 04-2). -/
def State.snapRecord (s : State) (kind idx : Nat) : Bytes :=
  if kind = 0 then
    let v := s.point idx
    le 1 0 ++ le 2 idx ++ le 1 (b2n (v == noVal) + 2 * b2n (s.gatedPoint idx)) ++ le 2 4 ++ wBytes v
  else
    match mget s.com.objs (objKey kind idx) with
    | none => le 1 kind ++ le 2 idx ++ le 1 128 ++ le 2 0
    | some o => le 1 kind ++ le 2 idx ++ le 1 0 ++ le 2 (4 + o.body.length) ++ le 4 o.epochW ++ o.body

/-- The references a SNAP_TAKE names. -/
def refList (p : Bytes) : List (Nat × Nat) :=
  (List.range (u8 p 0)).map fun i => (u8 p (1 + 3 * i), u16 p (2 + 3 * i))

/-- The handle that SNAP_TAKE allocates: the lowest free one (R81). [DESIGN CHOICE, log 106] -/
def State.freeSnap (s : State) : Option Nat := (List.range 4).find? fun i => (nth s.snaps i none).isNone

/-- SNAP_TAKE. [DEDUCED, log 37] -/
def cmdSnapTake (c : Ctx) (s : State) : State × Ans :=
  let n := u8 c.p 0
  let refs := refList c.p
  let data := refs.flatMap fun r => s.snapRecord r.1 r.2
  let checks := chk (n < 1 || n > 64) (badParam 0) ++
    ((List.range n).flatMap fun i =>
      checkRef (u8 c.p (1 + 3 * i)) (u16 c.p (2 + 3 * i)) s.pers (1 + 3 * i) (2 + 3 * i)) ++
    chk (data.length > 4096) (badParam 0xFF)
  match s.freeSnap with
  | none => guarded checks s (s, refused stBusy)
  | some h =>
    guarded checks s
      ({ s with snaps := upd s.snaps h fun _ => some { epoch := s.epoch, data := data, usedAt := s.tb } },
       .now stOk (le 1 h ++ le 2 data.length))

/-- SNAP_READ; its reply carries the snapshot's epoch (R81). -/
def cmdSnapRead (c : Ctx) (s : State) : State × Ans :=
  let h := u8 c.p 0
  let o := u16 c.p 1
  let n := u8 c.p 3
  match nth s.snaps h none with
  | none => (s, badParam 0)
  | some sn =>
    guarded [(o ≥ sn.data.length, badParam 1), (n < 1 || n > 240, badParam 3)] s
      ({ s with snaps := upd s.snaps h fun _ => some { sn with usedAt := s.tb } }, .nowAt sn.epoch (slice sn.data o n))

/-- SNAP_FREE. -/
def cmdSnapFree (c : Ctx) (s : State) : State × Ans :=
  let h := u8 c.p 0
  guarded [((nth s.snaps h none).isNone, badParam 0)] s
    ({ s with snaps := upd s.snaps h fun _ => none }, .now stOk [])

/-! ### Capability list (R88 to R90, Table 04-5) -/

/-- The classes Table 00-2 accepts, with bit 8 set in TRANSPORT for the interlock commands. -/
def classMask (p : Pers) : Nat :=
  match p with
  | .service => 0xFFFF
  | .transport => 0xFFFF - 2 ^ 6 - 2 ^ 7 - 2 ^ 10
  | .caller => 2 ^ 0 + 2 ^ 1 + 2 ^ 9 + 2 ^ 10 + 2 ^ 11 + 2 ^ 14 + 2 ^ 15

/-- The role as the PAIRING record gives it. -/
def roleCode (r : Role) : Nat :=
  match r with
  | .candidate => 0 | .active => 1 | .standby => 2 | .solo => 3

/-- The records present: ID, VER and BODY. -/
def State.capRecords (s : State) : List (Nat × Nat × Bytes) :=
  let u := s.unit
  let pers := match s.pers with
    | .transport => 0
    | .service => 1
    | .caller => 2
  let conf := if s.pw.strap = 2 then 1 else if s.pw.strap = 3 then 2 else if s.pw.strap = 4 then 3 else 0
  let svc := if s.pers == .service then [(0x0004, 1, le 1 16 ++ le 1 32 ++ le 1 32 ++ le 1 64 ++ le 1 128)] else []
  let pair := if s.paired then [(0x0005, 1, le 1 (roleCode s.pair.role) ++ le 8 s.pair.pserial)] else []
  let call := if s.pers == .caller then [(0x0006, 1, le 1 4)] else []
  let bist := if s.pers == .caller then [] else [(0x0010, 1, le 1 s.com.cfg.dsp.conf.mode ++ le 1 8)]
  [(0x0001, 1, le 2 0x7416 ++ le 1 u.crev ++ le 1 u.drev ++ le 1 u.frev ++ le 1 s.pw.strap ++ le 8 u.serial.toNat),
   (0x0002, 1, le 2 (classMask s.pers) ++ le 1 8 ++ le 1 248),
   (0x0003, 1, le 1 pers ++ le 1 conf)] ++ svc ++ pair ++ call ++
  [(0x0007, 1, le 1 64 ++ le 1 8 ++ le 1 64 ++ le 1 4 ++ le 2 4096 ++ le 2 256)] ++ bist ++
  [(0x0011, 1, le 2 4000), (0x0012, 1, le 1 8 ++ le 1 8),
   (0x0020, 1, le 2 romVer ++ le 2 s.store.patchVer ++ le 1 s.store.pstate), (0xFFFF, 0, [])]

/-- The records laid out from an offset: each with its offset and bytes (R88). -/
def layCaps : Nat → List (Nat × Nat × Bytes) → List (Nat × Bytes)
  | _, [] => []
  | o, (id, ver, body) :: rest =>
    let next := if id = 0xFFFF then 0 else o + 6 + body.length
    (o, le 2 id ++ le 1 ver ++ le 1 body.length ++ body ++ le 2 next) :: layCaps (o + 6 + body.length) rest

/-- The record at an offset, with OFFSET before it (R89). -/
def State.capAt (s : State) (o : Nat) : Option Bytes :=
  ((layCaps 0 s.capRecords).find? fun r => r.1 == o).map fun r => le 2 r.1 ++ r.2

/-- CAP_FIRST. -/
def cmdCapFirst (_c : Ctx) (s : State) : State × Ans := (s, .now stOk ((s.capAt 0).getD []))

/-- CAP_NEXT. -/
def cmdCapNext (c : Ctx) (s : State) : State × Ans :=
  match s.capAt (u16 c.p 0) with
  | none => (s, badParam 0)
  | some r => (s, .now stOk r)

end Sys2Proof.Machine
end

