-- ==== Sys2Proof/Machine/Prm.lean ====
section
/-! DEFINITION. Precision bridges and humidity channels: configuration, conversions, calibration, starting and stopping
(R138 to R167). -/

namespace Sys2Proof.Machine

/-! ### Configuration (Table 07-8) -/

/-- PT_CONFIG committed. -/
def setPtConfig (p : Bytes) (c : PtCfg) : PtCfg :=
  let g : PtGroupCfg := { rate := u8 p 2, excMode := u8 p 3, excLvl := u8 p 4, settle := u8 p 5 }
  let ch : PtChCfg := { en := u8 p 2 == 1, topo := u8 p 3, gain := u8 p 4, rref := u32 p 5, rlead := u16 p 9,
                        rmin := u32 p 11, rmax := u32 p 15 }
  if u8 p 0 = 0 then { c with groups := upd c.groups (u8 p 1) fun _ => g }
  else { c with chans := upd c.chans (u8 p 1) fun _ => ch }

/-- PT_LINEAR committed. -/
def setPtLinear (p : Bytes) (c : PtCfg) : PtCfg :=
  let l : PtLin := { lin := u8 p 1, c1 := w32 p 4, c2 := w32 p 8, c3 := w32 p 12, c4 := w32 p 16 }
  { c with lins := upd c.lins (u8 p 0) fun _ => some l }

/-- HU_CONFIG committed. -/
def setHuConfig (p : Bytes) (c : PtCfg) : PtCfg :=
  let ch : HuChCfg := { en := u8 p 2 == 1, tpt := u8 p 3, c0 := s32 p 4, sens := u32 p 8, tk := s32 p 12 }
  if u8 p 0 = 0 then { c with tconv := u8 p 1, period := u8 p 2 }
  else { c with hu := upd c.hu (u8 p 1) fun _ => ch }

/-- PT_START and PT_STOP committed: the saved set of running groups (R157). -/
def setPtRunning (opc : Nat) (p : Bytes) (c : PtCfg) : PtCfg :=
  let m := BitVec.ofNat 4 (u8 p 0)
  { c with running := if opc = 0x21 then c.running ||| m else c.running &&& ~~~m }

/-- The precision configuration that results once every write already staged has committed (R141). -/
def State.futurePt (s : State) : PtCfg :=
  s.staged.foldl (fun c w => match w.w with
    | .cmd opc p =>
      if opc = 0x20 then setPtConfig p c else if opc = 0x24 then setPtLinear p c
      else if opc = 0x28 then setHuConfig p c else if opc = 0x21 || opc = 0x22 then setPtRunning opc p c else c
    | _ => c) s.com.cfg.pt

/-- Output rates per channel (Table 07-2). -/
def ptRate (code : Nat) : Nat := [10, 20, 25, 50, 100, 200, 250, 500, 1000][code]?.getD 10

/-- The enabled channels of a group. -/
def PtCfg.enabledIn (c : PtCfg) (g : Nat) : List Nat :=
  (List.range 4).map (fun i => 4 * g + i) |>.filter fun n => (nth c.chans n {}).en

/-- Tp of a group in ns, rounded down to whole multiples of 750 ns (R140); none without enabled channels. -/
def PtCfg.tp (c : PtCfg) (g : Nat) : Option Int :=
  let k := (c.enabledIn g).length
  if k = 0 then none
  else
    let gc := nth c.groups g {}
    let half : Rat := 1000000000 / ((2 * k * ptRate gc.rate : Nat) : Rat)
    some (((half - ((gc.settle * 10000 : Nat) : Rat)) / 750).floor * 750)

/-- R141: no group with Tp below 50 µs. -/
def PtCfg.tpOk (c : PtCfg) : Bool :=
  (List.range 4).all fun g => match c.tp g with
    | none => true
    | some t => t ≥ 50000

/-- Slot lengths of the capacitance converter in µs (Table 07-7). -/
def huSlot (code : Nat) : Nat := [2500, 5000, 10000, 20000, 40000][code]?.getD 10000

/-- Sweep periods in µs, 0 for back to back. -/
def huPeriod (code : Nat) : Nat := [0, 10000, 100000, 1000000][code]?.getD 0

/-- The enabled capacitance channels. -/
def PtCfg.huEnabled (c : PtCfg) : List Nat := (List.range 16).filter fun n => (nth c.hu n {}).en

/-- R160: the sweep is not longer than PERIOD. -/
def PtCfg.sweepOk (c : PtCfg) : Bool :=
  c.period = 0 || c.huEnabled.length * huSlot c.tconv ≤ huPeriod c.period

/-- PT_CONFIG. -/
def cmdPtConfig (c : Ctx) (s : State) : State × Ans :=
  let p := c.p
  let f := s.futurePt
  let ok := (setPtConfig p f).tpOk
  let checks : Checks :=
    if u8 p 0 = 0 then
      [(u8 p 1 > 3, badParam 1), (u8 p 2 > 8, badParam 2), (u8 p 3 > 1, badParam 3),
       (u8 p 4 > (if u8 p 3 = 0 then 3 else 5), badParam 4), (u8 p 5 < 1 || u8 p 5 > 100, badParam 5),
       (!ok, badParam 0xFF)]
    else
      let lin := ((nth f.lins (u8 p 1) none).map PtLin.lin).getD 0
      [(u8 p 0 > 1, badParam 0), (u8 p 1 > 15, badParam 1), (u8 p 2 > 1, badParam 2), (u8 p 3 > 2, badParam 3),
       (u8 p 3 == 0 && lin != 0, badParam 3), (u8 p 4 > 7, badParam 4), (u8 p 3 != 0 && u32 p 5 == 0, badParam 5),
       (u32 p 11 ≥ u32 p 15, badParam 0xFF), (!ok, badParam 0xFF)]
  let clears := u8 p 0 = 1 && u8 p 2 = 0 && (nth s.com.cfg.pt.chans (u8 p 1) {}).en
  stagedCmd 0x20 checks [(clears && s.names (u8 p 1), refused stConflict)] [] c s

/-- Groups a mask names. -/
def groupsIn (m : Nat) : List Nat := (List.range 4).filter fun g => bit m g

/-- PT_START. -/
def cmdPtStart (c : Ctx) (s : State) : State × Ans :=
  let m := u8 c.p 0
  stagedCmd 0x21
    [(m > 15, badParam 0), ((groupsIn m).any fun g => (s.futurePt.enabledIn g).isEmpty, badParam 0)] [] [] c s

/-- PT_STOP. -/
def cmdPtStop (c : Ctx) (s : State) : State × Ans :=
  let m := u8 c.p 0
  let named := (groupsIn m).any fun g => (List.range 4).any fun i => s.names (4 * g + i)
  stagedCmd 0x22 [(m > 15, badParam 0)] [(named, refused stConflict)] [] c s

/-- PT_LINEAR; a nonzero RSVD or unused coefficient is out of its layout, BAD_PARAM. [DEDUCED, log 37] -/
def cmdPtLinear (c : Ctx) (s : State) : State × Ans :=
  let p := c.p
  let lin := u8 p 1
  let used := [2, 4, 3, 2][lin]?.getD 4
  let topo := (nth s.futurePt.chans (u8 p 0) {}).topo
  let co := fun i => f32 (w32 p (4 + 4 * i))
  let notPos := fun i => match co i with
    | none => true
    | some v => decide (v ≤ 0)
  stagedCmd 0x24
    (chk (u8 p 0 > 15) (badParam 0) ++ chk (lin > 3) (badParam 1) ++ chk (lin != 0 && topo == 0) (badParam 1) ++
     chk (u16 p 2 != 0) (badParam 2) ++
     (List.range 4).flatMap (fun i =>
       chk ((i < used && ((co i).isNone || (notPos i && ((lin == 1 && i < 2) || lin == 3)))) ||
         (i ≥ used && u32 p (4 + 4 * i) != 0)) (badParam (4 + 4 * i)))) [] [] c s

/-- HU_CONFIG. -/
def cmdHuConfig (c : Ctx) (s : State) : State × Ans :=
  let p := c.p
  let ok := (setHuConfig p s.futurePt).sweepOk
  let checks : Checks :=
    if u8 p 0 = 0 then [(u8 p 1 > 4, badParam 1), (u8 p 2 > 3, badParam 2), (!ok, badParam 0xFF)]
    else
      [(u8 p 0 > 1, badParam 0), (u8 p 1 > 15, badParam 1), (u8 p 2 > 1, badParam 2),
       (u8 p 3 > 15 && u8 p 3 != 0xFF, badParam 3), (u32 p 8 == 0, badParam 8), (!ok, badParam 0xFF)]
  let clears := u8 p 0 = 1 && u8 p 2 = 0 && (nth s.com.cfg.pt.hu (u8 p 1) {}).en
  stagedCmd 0x28 checks [(clears && s.names (0x10 + u8 p 1), refused stConflict)] [] c s

/-! ### Channel access -/

def Prm.onCh (m : Prm) (n : Nat) (f : PtChan → PtChan) : Prm := { m with ch := upd m.ch n f }
def Prm.onHu (m : Prm) (n : Nat) (f : HuChan → HuChan) : Prm := { m with hu := upd m.hu n f }
def Prm.onGroup (m : Prm) (g : Nat) (f : PtGroup → PtGroup) : Prm := { m with groups := upd m.groups g f }
def State.onPrm (f : Prm → Prm) (s : State) : State := { s with prm := f s.prm }

/-! ### Coefficients (R144, R147) -/

/-- The configuration a bridge coefficient records. -/
def PtCfg.coeffConf (c : PtCfg) (n : Nat) : Coeff :=
  let ch := nth c.chans n {}
  let g := nth c.groups (n / 4) {}
  { cgain := 0, cofs := 0, gain := ch.gain, topo := ch.topo, excMode := g.excMode, excLvl := g.excLvl }

/-- A stored coefficient matches the channel's configuration. -/
def Coeff.fits (a b : Coeff) : Bool :=
  a.gain == b.gain && a.topo == b.topo && a.excMode == b.excMode && a.excLvl == b.excLvl

/-- The coefficients in force: CGAIN in 2^-24 and COFS in 1/256 code, and whether they are the nominal ones (UNCAL). -/
def State.ptCoeff (s : State) (n : Nat) : Int × Int × Bool :=
  let conf := s.applied.pt.coeffConf n
  let nominal : Int × Int × Bool := ((2 ^ 29 / 2 ^ conf.gain : Nat), 0, true)
  match (nth s.prm.ch n {}).cal.inForce with
  | none => nominal
  | some c => if c.fits conf then ((c.cgain : Int), c.cofs, false) else nominal

/-- CALST: 0 nominal, 1 stored and in force, 2 stored and not matching; stored ones count from their apply quantum (R146, R147). -/
def State.ptCalSt (s : State) (n : Nat) : Nat :=
  match (nth s.prm.ch n {}).cal.inForce with
  | none => 0
  | some c => if c.fits (s.applied.pt.coeffConf n) then 1 else 2

/-- The coefficients of a capacitance channel; nominal CGAIN 0.048828125, also while the channel is not enabled as it was at the
captures (R161, R162). -/
def State.huCoeff (s : State) (n : Nat) : Int × Int × Bool :=
  match (nth s.prm.hu n {}).cal.inForce, (nth s.applied.pt.hu n {}).en with
  | some c, true => ((c.cgain : Int), c.cofs, false)
  | some _, false => (819200, 0, true)
  | none, _ => (819200, 0, true)

/-- CALST of a capacitance channel (R162). -/
def State.huCalSt (s : State) (n : Nat) : Nat :=
  if (nth s.prm.hu n {}).cal.inForce.isNone then 0 else if (nth s.applied.pt.hu n {}).en then 1 else 2

/-- round((D − COFS) × CGAIN) (R144, R161). -/
def applyCoeff (d cgain cofs : Int) : Int :=
  roundHalfAway (((d : Rat) - (cofs : Rat) / 256) * ((cgain : Rat) / 16777216))

/-! ### Resistance and temperature (R148 to R150) -/

/-- Q = X / 2^28. -/
def ratioOf (x : Int) : Rat := (x : Rat) / 268435456

/-- Rs in ohms, in binary64, each operation of Table 07's expression rounded; none where TOPO 1 gives none, Q being 1 or more
(R148, R150). [DEDUCED, log 93] -/
def sensorOhms (c : PtChCfg) (q : Rat) : Option Rat :=
  let rref : Rat := b64 ((c.rref : Rat) / 100)
  let rlead : Rat := b64 ((c.rlead : Rat) / 100)
  if c.topo = 1 then (if q ≥ 1 then none else some (b64 (b64 (b64 (rref * q) / b64 (1 - q)) - rlead)))
  else if c.topo = 2 then some (b64 (b64 (rref * q) - rlead))
  else some 0

/-- T of LIN 1 for T ≥ 0 in closed form, in binary64 (R150); none where the root is not real. [DEDUCED, log 93] -/
def platinum (a b r : Rat) : Option Rat :=
  let d := b64 (b64 (a * a) - b64 (b64 (4 * b) * b64 (1 - r)))
  if d < 0 then none else some (b64 (b64 (-a + b64Sqrt d) / b64 (2 * b)))

/-- A temperature found by its relation, in binary64: none outside the valid range; otherwise in 0.001 °C. [DEDUCED, log 93] -/
def linTemp (l : PtLin) (topo : Nat) (q rs : Rat) (free : Nat) : Option Int :=
  match f32 l.c1, f32 l.c2, f32 l.c3, f32 l.c4 with
  | some c1, some c2, some c3, some c4 =>
    let within := fun (t lo hi : Rat) => if t < lo || t > hi then none else some (roundHalfAway (t * 1000))
    if l.lin = 0 then within (b64 (c1 + b64 (c2 * (if topo = 0 then q else rs)))) (-200) 850
    else if l.lin = 1 then
      let r := b64 (rs / c1)
      if r ≥ 1 then
        if c3 = 0 then some (signed 4 (free % 2 ^ 32))
        else (platinum c2 c3 r).bind fun t => within t (-200) 850
      else
        -- T < 0: Newton iteration to within 0.0001 °C
        let f := fun (t : Rat) => 1 + c2 * t + c3 * t * t + c4 * (t - 100) * t * t * t
        if f (-200) > r then none
        else
          let at_ := fun (d : Rat) => bisect (fun n => decide (f ((2 * (n : Rat) - 1) / 2000 + d) ≤ r)) 18 (-200000)
          let lo := at_ (1 / 10000)
          let hi := at_ (-1 / 10000)
          some (if lo = hi then lo else if Config.newtonOff r = 0 then lo else hi)
    else
      let y := if l.lin = 2 then
          let ln := b64 (Config.ln rs)
          b64 (b64 (c1 + b64 (c2 * ln)) + b64 (c3 * b64 (b64 (ln * ln) * ln)))
        else b64 (b64 (100 / 29815) + b64 (b64 (Config.ln (b64 (rs / c1))) / c2))
      if rs ≤ 0 || y ≤ 0 then none else within (b64 (b64 (1 / y) - b64 (27315 / 100))) (-55) 150
  | _, _, _, _ => none

/-! ### Captures (R145) -/

/-- One result taken by a capture in progress, or the capture's failure for the reason given; with what it raises. A capture held
before stays held until another of its kind completes. [DEDUCED, log 95] -/
def CalState.take (c : CalState) (why : Nat) (d : Int) : CalState × Option Bool :=
  match c.run with
  | none => (c, none)
  | some r =>
    if why != 0 then ({ c with run := none, failed := true, why := why }, some false)
    else
      let r' : CapRun := { r with n := r.n + 1, sum := r.sum + d, min := if r.n = 0 then d else min r.min d,
                                  max := if r.n = 0 then d else max r.max d }
      if r'.n < r.ncal then ({ c with run := some r' }, none)
      else
        let cap : Capture := { avg := roundHalfAway ((256 * r'.sum : Int) / ((r'.n : Nat) : Rat)),
                               span := (r'.max - r'.min).toNat, ref := r.ref, conf := r.conf }
        let c := { c with run := none, failed := false, why := 0 }
        (if r.full then { c with full := some cap } else { c with zero := some cap }, some true)

/-- A capture ended because its group stopped or was reconfigured. -/
def CalState.abort (c : CalState) : CalState × Bool :=
  match c.run with
  | none => (c, false)
  | some _ => ({ c with run := none, failed := true, why := 3 }, true)

/-! ### A bridge conversion ends (R140 to R156, R165) -/

/-- The conversion's result before it is limited: half the difference of its phases' results (R140). [DEDUCED, log 46] -/
def ptRaw (o : PtObs) : Int :=
  match o.phaseB with
  | none => o.code
  | some b => roundHalfAway (((o.code - b : Int) : Rat) / 2)

/-- The code of a result: limited, with whether it overranges (R143, R151). -/
def ptCode (o : PtObs) : Int × Bool :=
  match o.padOut with
  | some up => (if up then 0x7FFFFF else -0x800000, true)
  | none =>
    if ptRaw o > 0x7FFFFF then (0x7FFFFF, true) else if ptRaw o < -0x7FFFFF then (-0x800000, true) else (ptRaw o, false)

/-- A word written from a rational number of 0.01 units; a free value where it has no 32-bit value. -/
def resWord (q : Option Rat) (free : Nat) : W32 :=
  match q with
  | none => wN free
  | some r =>
    let v := roundHalfAway r
    if v < -2147483648 || v > 2147483647 then wN free else wI v

/-- The end of a group's cycle: PTGg_DONE, and an excitation fault without a condition in the cycle clears (R154). -/
def State.endCycle (g : Nat) (s : State) : State :=
  let s := s.onPrm fun m => m.onGroup g fun gr => { gr with efault := gr.efault && gr.cycleCond, cycleCond := false }
  s.raise (32 + g)

/-- Output rate of a group, and the number of its enabled channels, suspended ones among them (R140). -/
def State.groupRate (s : State) (g : Nat) : Nat := ptRate (nth s.applied.pt.groups g {}).rate
def State.groupK (s : State) (g : Nat) : Nat := (s.applied.pt.enabledIn g).length

/-- The quantum in which the present slot of a running group ends: slots of 1 / (k × RATE) follow one another without a gap (R140). -/
def State.slotEnd (s : State) (g : Nat) : Nat :=
  let gr := nth s.prm.groups g {}
  tbAdd gr.startAt ((gr.slots + 1) * 1000000 / (s.groupK g * s.groupRate g))

/-- Phase B of the present slot, in which excitation and input chopper are reversed: its second half (R140). -/
def State.reversed (s : State) (g : Nat) : Bool :=
  let gr := nth s.prm.groups g {}
  gr.state = 2 && decide (2 * tbSub s.tb gr.startAt * (s.groupK g * s.groupRate g) ≥ (2 * gr.slots + 1) * 1000000)

/-- The quantum in which the present cycle began. -/
def State.cycleAt (s : State) (g : Nat) : Nat :=
  let gr := nth s.prm.groups g {}
  tbAdd gr.startAt (gr.slots / s.groupK g * 1000000 / s.groupRate g)

/-- The channel whose slot runs: the enabled channels in ascending order. -/
def State.slotChan (s : State) (g : Nat) : Option Nat :=
  (s.applied.pt.enabledIn g)[(nth s.prm.groups g {}).slots % s.groupK g]?

/-- The channel converts in its slot: not suspended, or suspended and its cycle the first that began at or after a round boundary
(R153). -/
def State.converts (s : State) (ch : Nat) : Bool :=
  let c := nth s.prm.ch ch {}
  !c.susp || c.probeAt.any fun b => decide (tbSub (s.cycleAt (ch / 4)) b ≤ 2 ^ 40)

/-- The present slot of a group is over; the last of a cycle ends it. -/
def State.slotOut (g : Nat) (s : State) : State :=
  let s := s.onPrm fun m => m.onGroup g fun gr => { gr with slots := gr.slots + 1 }
  if (nth s.prm.groups g {}).slots % s.groupK g = 0 then s.endCycle g else s

/-- The group in the slot of a channel, slots of suspended channels before it having passed without a result; none where another
channel converts before it. [DESIGN CHOICE, log 96] -/
def State.slotFor (ch : Nat) : Nat → State → Option State
  | 0, _ => none
  | n + 1, s =>
    match s.slotChan (ch / 4) with
    | none => none
    | some c =>
      if c = ch then some s
      else if s.converts c then none else State.slotFor ch n ((s.jump (s.slotEnd (ch / 4))).slotOut (ch / 4))

/-- An excitation fault begins (R154). -/
def State.excFault (g : Nat) (s : State) : State :=
  let gr := nth s.prm.groups g {}
  let s := s.onPrm fun m => m.onGroup g fun gr => { gr with efault := true, cycleCond := true }
  s.raiseIf (!gr.efault) 38

/-- A result of a bridge channel is posted (R165). A newest result without a value leaves no clean one for R163.
[DEDUCED, log 95] [DESIGN CHOICE, log 8] [DEDUCED, log 45] -/
def State.postPt (ch : Nat) (o : PtObs) (s : State) : State :=
  let g := ch / 4
  let s := if o.excCond then s.excFault g else s
  let (free, s) := s.draw
  let gr := nth s.prm.groups g {}
  let c := nth s.prm.ch ch {}
  let cfg := nth s.applied.pt.chans ch {}
  let (d, ovr) := ptCode o
  let recov := gr.recov > 0
  let (cgain, cofs, uncal) := s.ptCoeff ch
  let x := applyCoeff d cgain cofs
  let q := ratioOf x
  let rs := sensorOhms cfg q
  let sf := cfg.topo != 0 && (match rs with
    | none => true
    | some r => decide (r * 100 < (cfg.rmin : Rat)) || decide (r * 100 ≥ (cfg.rmax : Rat)))
  let t := match nth s.applied.pt.lins ch none with
    | none => none
    | some l => linTemp l cfg.topo q (rs.getD 0) free
  let bad := ovr || gr.efault || sf
  let val := if bad then noVal else match t with
    | none => noVal
    | some v => wI v
  let susp := if c.susp then ovr || recov else ovr && c.lastOvr
  let why := if ovr || recov then 1 else if sf || gr.efault || susp then 2 else 0
  let (cal, capEv) := c.cal.take why d
  let valid := val != noVal
  let c' : PtChan := { c with
    seq := c.seq + 1, gain := cfg.gain, ovr := ovr, sfault := sf, efault := gr.efault, recov := recov, uncal := uncal,
    linerr := t.isNone, susp := susp, valid := true, raw := wI d, ratio := wI x, val := val,
    res := if cfg.topo = 0 then 0 else resWord (rs.map (· * 100)) free, stamp := wN s.tb,
    newest := if susp then noVal else if recov then c.newest else val,
    clean := if susp then none else if recov then c.clean else (if valid then some val.toInt else none),
    lastOvr := ovr, lastSf := sf, probeAt := none, ovrcnt := if ovr then satInc c.ovrcnt 65535 else c.ovrcnt, cal := cal }
  let mask : W32 := 1 <<< ch
  let lost := s.prm.new.getLsbD ch && s.prm.watch.getLsbD ch
  let s := s.onPrm fun m =>
    let m := (m.onCh ch fun _ => c').onGroup g fun gr => { gr with recov := if ovr then 3 else gr.recov - 1 }
    { m with new := m.new ||| mask, ovrl := if ovr then m.ovrl ||| mask else m.ovrl,
             sfl := if sf || gr.efault then m.sfl ||| mask else m.sfl }
  let s := s.flag 0x720 mask
  let s := if ovr then s.flag 0x728 mask else s
  let s := if sf || gr.efault then s.flag 0x72C mask else s
  let s := s.raiseIf (ovr && !c.lastOvr && !c.susp) 36
  let s := s.raiseIf (sf && !c.lastSf) 37
  let s := s.raiseIf (capEv == some true) 39
  let s := s.raiseIf (capEv == some false) 40
  s.raiseIf lost 46

/-- PT_RESULT_POST, at the end of the channel's slot (R140). A suspended channel's slot ends without a result unless it converts
once after a round boundary (R153). A channel whose slot this is not posts nothing. [DESIGN CHOICE, log 96] -/
def execPtResultPost (ch : Nat) (obs : PtObs) (s : State) : Out :=
  if ch ≥ 16 then .fault .noSuchUnit
  else
    if s.phase != .run || (nth s.prm.groups (ch / 4) {}).state != 2 then .next s
    else
      match s.slotFor ch 4 with
      | none => .next s
      | some s =>
        let s := s.jump (s.slotEnd (ch / 4))
        .next (if s.converts ch then latchHold s ((s.postPt ch obs).slotOut (ch / 4)) else s.slotOut (ch / 4))

/-- EXCITATION_FAULT. -/
def execExcitationFault (g : Nat) (s : State) : Out :=
  if g ≥ 4 then .fault .noSuchUnit
  else if (nth s.prm.groups g {}).state = 0 then .next s
  else .next (s.excFault g)

/-- PT_GROUP_FIRST_CYCLE: 1 ms after the later of apply quantum and Pavane step the first slot begins (R157). -/
def execPtGroupFirstCycle (g : Nat) (s : State) : Out :=
  if g ≥ 4 then .fault .noSuchUnit
  else
    let gr := nth s.prm.groups g {}
    if gr.state != 1 then .next s
    else .next ((s.jump gr.startDue).onPrm fun m =>
      m.onGroup g fun gr => { gr with state := 2, startAt := gr.startDue, slots := 0, cycleCond := false })

/-! ### Starting and stopping (R157, R158) -/

/-- A channel at the start of its group; whether its last result had a sensor fault is kept for PT_SENSOR_FAULT (R155).
[DESIGN CHOICE, log 97] -/
def PtChan.restart (c : PtChan) : PtChan :=
  { c with valid := false, lastOvr := false, susp := false, probeAt := none, ovrcnt := 0 }

/-- A group starts with its Pavane step: excitation on, first cycle after 1 ms, whichever command brought the step; conversions that
are still to carry RECOV do (R152, R157). [DESIGN CHOICE, log 97] -/
def State.startGroupPt (g : Nat) (s : State) : State :=
  s.onPrm fun m =>
    let m := m.onGroup g fun gr => { state := 1, startDue := tbAdd s.tb 1000, recov := gr.recov }
    { m with ch := updAll m.ch fun n c => if n / 4 = g then c.restart else c }

/-- Captures ended in the channels a predicate picks, with PT_CAL_FAIL where one was running. -/
def State.abortPt (which : Nat → Bool) (s : State) : State :=
  let any := (List.range 16).any fun n => which n && (nth s.prm.ch n {}).cal.run.isSome
  let s := s.onPrm fun m => { m with ch := updAll m.ch fun n c => if which n then { c with cal := c.cal.abort.1 } else c }
  s.raiseIf any 40

/-- A group stops: excitation off, its points without a value (R156, R158). -/
def State.stopGroupPt (g : Nat) (s : State) : State :=
  let s := s.abortPt fun n => n / 4 == g
  s.onPrm fun m =>
    let m := m.onGroup g fun gr => { recov := gr.recov }
    { m with ch := updAll m.ch fun n c => if n / 4 = g then { c with newest := noVal, clean := none, susp := false } else c }

/-- A channel's own configuration differs; linearisation is not part of PT_CONFIG (R157). -/
def PtCfg.chDiffers (a b : PtCfg) (n : Nat) : Bool := nth a.chans n {} != nth b.chans n {}

/-- A group's configuration differs. -/
def PtCfg.groupDiffers (a b : PtCfg) (g : Nat) : Bool := nth a.groups g {} != nth b.groups g {}

/-- The sweep goes on with the next enabled channel, or is over: HU_DONE, and back to back with PERIOD 0 (R160). -/
def State.huNext (s : State) : State :=
  if !s.prm.sweep || s.applied.pt.huEnabled.any (fun n => decide (n ≥ s.prm.huCur)) then s
  else (s.onPrm fun m => { m with sweep := s.applied.pt.period == 0 && !s.applied.pt.huEnabled.isEmpty, huCur := 0 }).raise 41

/-- The precision configuration put in force at an apply quantum: running groups that change start a new cycle after
1 ms, changed channels lose their value, captures end here and not before (R145, R157), but no capture for TCONV or PERIOD (R162) or
a PT_LINEAR; coefficients due take effect (R146). [DEDUCED, log 95] -/
def State.applyPt (new : PtCfg) (s : State) : State :=
  let old := s.applied.pt
  let gDiff := fun g => old.groupDiffers new g || (List.range 4).any fun i => old.chDiffers new (4 * g + i)
  let s := s.abortPt fun n => old.groupDiffers new (n / 4) || old.chDiffers new n
  let huAb := fun n => nth old.hu n {} != nth new.hu n {}
  let huEv := (List.range 16).any fun n => huAb n && (nth s.prm.hu n {}).cal.run.isSome
  let s := s.onPrm fun m =>
    { m with
      groups := updAll m.groups fun g gr =>
        if gr.state != 0 && gDiff g then { gr with state := 1, startDue := tbAdd s.tb 1000 } else gr
      ch := updAll m.ch fun n c =>
        let c := if old.chDiffers new n then { c with newest := noVal, clean := none } else c
        if c.cal.applyDue then { c with cal := { c.cal with inForce := nth s.unit.pt n none, applyDue := false } } else c
      hu := updAll m.hu fun n c =>
        let c := if huAb n then
            { c with newest := noVal, valid := c.valid && (nth old.hu n {}).en, cal := c.cal.abort.1
                     lastOvr := c.lastOvr && (nth old.hu n {}).en == (nth new.hu n {}).en } else c
        if c.cal.applyDue then { c with cal := { c.cal with inForce := nth s.unit.hu n none, applyDue := false } } else c }
  let s := s.raiseIf huEv 45
  ({ s with applied := { s.applied with pt := new } } : State).huNext

/-- Stored coefficients come into force with the recall. -/
def State.recallPrm (s : State) : State :=
  s.onPrm fun m =>
    { m with ch := updAll m.ch fun n c => { c with cal := { c.cal with inForce := nth s.unit.pt n none } }
             hu := updAll m.hu fun n c => { c with cal := { c.cal with inForce := nth s.unit.hu n none } } }

/-- Suspended channels convert once in the first cycle that begins after each round boundary (R153). -/
def State.roundPrm (s : State) : State :=
  s.onPrm fun m => { m with ch := updAll m.ch fun _ c => { c with probeAt := if c.susp then some s.tb else none } }

/-! ### PT_CAL and HU_CAL (R145, R146, R162) -/

/-- CGAIN and COFS from two captures, or why they are refused: 4 span, 5 gain, 6 offset. -/
def solveCal (z f : Capture) (nominal : Rat) (offMax : Rat) : Except Nat (Nat × Int) :=
  let dd : Rat := ((f.avg - z.avg : Int) : Rat) / 256
  if (if dd < 0 then -dd else dd) < 262144 then .error 4
  else
    let k : Rat := ((f.ref - z.ref : Int) : Rat) / dd
    if k < nominal * 9 / 10 || k > nominal * 11 / 10 then .error 5
    else
      let ofs : Rat := (z.avg : Rat) / 256 - (z.ref : Rat) / k
      if (if ofs < 0 then -ofs else ofs) > offMax then .error 6
      else .ok ((roundHalfAway (k * 16777216)).toNat, roundHalfAway (ofs * 256))

/-- PT_CAL. Captures made in different configurations are recorded with that of the full one. [DEDUCED, log 95] -/
def cmdPtCal (c : Ctx) (s : State) : State × Ans :=
  let n := u8 c.p 0
  let step := u8 c.p 1
  let ncal := u8 c.p 2
  let ch := nth s.prm.ch n {}
  let cal := ch.cal
  let running := (nth s.prm.groups (n / 4) {}).state == 2
  let en := (nth s.applied.pt.chans n {}).en
  let put := fun (k : CalState) (s : State) => s.onPrm fun m => m.onCh n fun c => { c with cal := k }
  let conf := s.applied.pt.coeffConf n
  guarded
    [(n > 15, badParam 0), (step > 4, badParam 1), (step < 2 && ncal < 4, badParam 2),
     (step < 2 && (!running || !en || cal.run.isSome), refused stConflict),
     (step == 2 && (cal.zero.isNone || cal.full.isNone), refused stConflict)] s
    (if step < 2 then
       (put { cal with run := some { full := step == 1, ncal := ncal, ref := s32 c.p 3, conf := conf } } s, .now stOk [])
     else if step = 2 then
       match cal.zero, cal.full with
       | some z, some f =>
         match solveCal z f (32 / (2 ^ f.conf.gain : Nat)) 65536 with
         | .error w => ((put { cal with failed := true, why := w } s).raise 40, badParam 0xFF)
         | .ok (g, o) =>
           let k : Coeff := { f.conf with cgain := g, cofs := o }
           let x := s.unitFor c 1 { s.unit with pt := upd s.unit.pt n fun _ => some k } (le 4 g ++ leI 4 o)
           if x.2 = .now stFault [] then x else (put { cal with applyDue := true, failed := false, why := 0 } x.1, x.2)
       | _, _ => (s, refused stConflict)
     else if step = 3 then (put { cal with zero := none, full := none } s, .now stOk [])
     else
       (let x := s.unitFor c 1 { s.unit with pt := upd s.unit.pt n fun _ => none } []
        if x.2 = .now stFault [] then x else (put { cal with applyDue := true } x.1, x.2)))

/-- HU_CAL; a capture may be begun between sweeps and before the converter's start. [DEDUCED, log 95] -/
def cmdHuCal (c : Ctx) (s : State) : State × Ans :=
  let n := u8 c.p 0
  let step := u8 c.p 1
  let ncal := u8 c.p 2
  let cal := (nth s.prm.hu n {}).cal
  let en := (nth s.applied.pt.hu n {}).en
  let put := fun (k : CalState) (s : State) => s.onPrm fun m => m.onHu n fun c => { c with cal := k }
  guarded
    [(n > 15, badParam 0), (step > 4, badParam 1), (step < 2 && (ncal < 4 || ncal > 64), badParam 2),
     (step < 2 && u32 c.p 3 > 400000, badParam 3),
     (step < 2 && (!en || cal.run.isSome), refused stConflict),
     (step == 2 && (cal.zero.isNone || cal.full.isNone), refused stConflict)] s
    (if step < 2 then
       (put { cal with run := some { full := step == 1, ncal := ncal, ref := (u32 c.p 3 : Int) } } s, .now stOk [])
     else if step = 2 then
       match cal.zero, cal.full with
       | some z, some f =>
         match solveCal z f (25 / 512) 524288 with
         | .error w => ((put { cal with failed := true, why := w } s).raise 45, badParam 0xFF)
         | .ok (g, o) =>
           let k : Coeff := { cgain := g, cofs := o }
           let x := s.unitFor c 2 { s.unit with hu := upd s.unit.hu n fun _ => some k } (le 4 g ++ leI 4 o)
           if x.2 = .now stFault [] then x else (put { cal with applyDue := true, failed := false, why := 0 } x.1, x.2)
       | _, _ => (s, refused stConflict)
     else if step = 3 then (put { cal with zero := none, full := none } s, .now stOk [])
     else
       (let x := s.unitFor c 2 { s.unit with hu := upd s.unit.hu n fun _ => none } []
        if x.2 = .now stFault [] then x else (put { cal with applyDue := true } x.1, x.2)))

/-! ### The capacitance converter (R160 to R163) -/

/-- A sweep begins in this quantum: PERIOD 0, or a boundary of PERIOD; a condition of Table 01-6 for enabled channels (R160). -/
def State.huDueNow (s : State) : Bool :=
  let p := huPeriod s.applied.pt.period
  !s.applied.pt.huEnabled.isEmpty && (p = 0 || s.tb % p = 0)

/-- The next boundary of PERIOD at which a sweep begins, if channels are enabled (R23, R160). [DEDUCED, log 29] -/
def State.huDueAt (s : State) : Option Nat :=
  let p := huPeriod s.applied.pt.period
  if s.applied.pt.huEnabled.isEmpty || p = 0 then none else some (nextMultiple p s.tb)

/-- HU_SWEEP_START: at a boundary of PERIOD, or back to back (R160). -/
def execHuSweepStart (s : State) : Out :=
  let p := huPeriod s.applied.pt.period
  if s.phase != .run || !s.runs 1 || s.prm.sweep || s.applied.pt.huEnabled.isEmpty then .next s
  else
    let s := if p = 0 || s.tb % p = 0 then s else s.jump (nextMultiple p s.tb)
    .next (s.onPrm fun m => { m with sweep := true, huCur := 0, huAt := s.tb })

/-- The capacitance channel that converts: the lowest enabled one not yet converted in the sweep (R160). -/
def State.huNow (s : State) : Option Nat :=
  if s.prm.sweep then s.applied.pt.huEnabled.find? fun n => decide (n ≥ s.prm.huCur) else none

/-- The humidity of a capacitance in 0.01 %RH, not clamped (R163). -/
def humidity (c : HuChCfg) (cap : Int) (milliC : Int) : Int :=
  roundHalfAway (100 * ((cap : Rat) - (c.c0 : Rat) - (c.tk : Rat) / 1000 * ((milliC : Rat) / 1000 - 25)) /
    ((c.sens : Rat) / 1000))

/-- A result of a capacitance channel is posted; with the drive at its limit, every other channel of the group owes SFAULT, and a drive that
comes to its limit raises HU_SENSOR_FAULT (R161). [DEDUCED, log 94] -/
def State.postHu (ch : Nat) (o : HuObs) (s : State) : State :=
  let c := nth s.prm.hu ch {}
  let was := s.prm.huLimit.getLsbD (ch / 4)
  let cfg := nth s.applied.pt.hu ch {}
  let ovr := o.code > 8192000 || o.code < -524288
  let d : Int := if o.code > 8192000 then 0x7FFFFF else if o.code < -524288 then -0x800000 else o.code
  let (cgain, cofs, uncal) := s.huCoeff ch
  let cap := applyCoeff d cgain cofs
  let t : Option Int := if cfg.tpt = 0xFF then some 25000 else (nth s.prm.ch cfg.tpt {}).clean
  let v := t.map fun t => humidity cfg cap t
  let linerr := match v with
    | none => false
    | some v => v < -200 || v > 10200
  let sf := o.driveLimit || c.owesSf
  let val := if ovr || sf || linerr then noVal else match v with
    | none => noVal
    | some v => wI (clampI 0 10000 v)
  let why := if ovr then 1 else if sf then 2 else 0
  let (cal, capEv) := c.cal.take why d
  let mask : W32 := 1 <<< (16 + ch)
  let lost := s.prm.new.getLsbD (16 + ch) && s.prm.watch.getLsbD (16 + ch)
  let s := s.onPrm fun m =>
    let m := m.onHu ch fun _ =>
      { c with seq := c.seq + 1, ovr := ovr, sfault := sf, tcomp := t.isNone, uncal := uncal, linerr := linerr,
               valid := true, raw := wI d, cap := wI cap, val := val, newest := val, lastOvr := ovr, owesSf := false, cal := cal }
    let m := if o.driveLimit then
        { m with hu := updAll m.hu fun n c => if n / 4 = ch / 4 && n != ch && (nth s.applied.pt.hu n {}).en then { c with owesSf := true } else c }
      else m
    { m with new := m.new ||| mask, ovrl := if ovr then m.ovrl ||| mask else m.ovrl,
             sfl := if sf then m.sfl ||| mask else m.sfl, huLimit := putBit m.huLimit (ch / 4) o.driveLimit }
  let s := s.flag 0x720 mask
  let s := if ovr then s.flag 0x728 mask else s
  let s := if sf then s.flag 0x72C mask else s
  let s := s.raiseIf (ovr && !c.lastOvr) 42
  let s := s.raiseIf (o.driveLimit && !was) 43
  let s := s.raiseIf (capEv == some true) 44
  let s := s.raiseIf (capEv == some false) 45
  s.raiseIf lost 46

/-- HU_RESULT_POST, at the end of the channel's slot of TCONV; the last enabled channel ends the sweep and raises HU_DONE (R160).
A channel that does not convert posts nothing. [DESIGN CHOICE, log 96] -/
def execHuResultPost (ch : Nat) (obs : HuObs) (s : State) : Out :=
  if ch ≥ 16 then .fault .noSuchUnit
  else if s.phase != .run || s.huNow != some ch then .next s
  else
    let due := tbAdd s.prm.huAt (huSlot s.applied.pt.tconv)
    let s := s.jump due
    let s := latchHold s (s.postHu ch obs)
    .next (s.onPrm fun m => { m with huCur := ch + 1, huAt := due }).huNext

/-- The capacitance converter stops with the SAR converter's step. -/
def State.stopHu (s : State) : State :=
  let any := (List.range 16).any fun n => (nth s.prm.hu n {}).cal.run.isSome
  let s := s.onPrm fun m => { m with sweep := false, hu := updAll m.hu fun _ c => { c with cal := c.cal.abort.1, lastOvr := false } }
  s.raiseIf any 45

/-! ### Status commands -/

/-- PRMPHD[7:0]. -/
def PtChan.flags (c : PtChan) : Nat :=
  128 * b2n c.ovr + 64 * b2n c.sfault + 32 * b2n c.efault + 16 * b2n c.recov + 8 * b2n c.uncal + 4 * b2n c.linerr +
  2 * b2n c.susp + b2n c.valid

/-- PRMHHD[7:0]. -/
def HuChan.flags (c : HuChan) : Nat :=
  128 * b2n c.ovr + 64 * b2n c.sfault + 16 * b2n c.tcomp + 8 * b2n c.uncal + 4 * b2n c.linerr + b2n c.valid

/-- CAPST. -/
def CalState.capst (c : CalState) : Nat :=
  b2n c.zero.isSome + 2 * b2n c.full.isSome + 4 * b2n c.run.isSome + 8 * b2n c.failed

/-- The mean and span of a capture, 0 without one. -/
def capAvg (c : Option Capture) : Bytes := leI 4 ((c.map Capture.avg).getD 0)
def capSpan (c : Option Capture) : Bytes := le 4 ((c.map Capture.span).getD 0)

/-- PT_STATUS. -/
def cmdPtStatus (c : Ctx) (s : State) : State × Ans :=
  let n := u8 c.p 0
  let ch := nth s.prm.ch n {}
  let (cg, co, _) := s.ptCoeff n
  guarded [(n > 15, badParam 0)] s
    (s, .now stOk (le 1 ch.flags ++ le 1 (nth s.prm.groups (n / 4) {}).state ++ le 2 ch.seq.toNat ++ wBytes ch.raw ++
      wBytes ch.res ++ le 1 (s.ptCalSt n) ++ le 1 ch.cal.capst ++ le 1 ch.cal.why ++ capAvg ch.cal.zero ++
      capSpan ch.cal.zero ++ capAvg ch.cal.full ++ capSpan ch.cal.full ++ leI 4 cg ++ leI 4 co ++ le 2 ch.ovrcnt))

/-- HU_STATUS. -/
def cmdHuStatus (c : Ctx) (s : State) : State × Ans :=
  let n := u8 c.p 0
  let ch := nth s.prm.hu n {}
  let (cg, co, _) := s.huCoeff n
  guarded [(n > 15, badParam 0)] s
    (s, .now stOk (le 1 ch.flags ++ le 2 ch.seq.toNat ++ wBytes ch.raw ++ wBytes ch.cap ++ le 1 (s.huCalSt n) ++
      le 1 ch.cal.capst ++ le 1 ch.cal.why ++ capAvg ch.cal.zero ++ capAvg ch.cal.full ++ leI 4 cg ++ leI 4 co))

end Sys2Proof.Machine
end

