-- ==== Sys2Proof/Machine/Gates.lean ====
section
/-! DEFINITION. The interlock evaluator's conditions and the level an output is to take: protection of the unit aside, a
gate, then the safe state, then the applied value (R296 to R305). -/

namespace Sys2Proof.Machine

/-! ### Terms and conditions (R298) -/

/-- A DI level source is invalid: not enabled, in wire break, or marked invalid. -/
def State.diInvalid (s : State) (n : Nat) : Bool :=
  let d := nth s.fio.di n {}
  !(nth s.applied.di n {}).en || d.wb || !d.valid

/-- The raw value of a term source (Table 14-2); lower entries have been noted before. -/
def State.termSource (s : State) (src : Nat) : Bool :=
  if src < 0x10 then (nth s.fio.di src {}).level
  else if src < 0x20 then s.diInvalid (src - 0x10)
  else if src < 0x40 then (nth s.ilk.run (src - 0x20) {}).tripped
  else if src < 0x50 then (nth s.vl.ch (src - 0x40) {}).fault != 0
  else if src < 0x58 then (nth s.out.fn (src - 0x50) {}).stall
  else if src = 0x58 then !s.pw.vactOk
  else if src = 0x59 then !s.fio.lpres
  else src == 0x60

/-- One term: with INV 2 and an invalid input, the value with the last valid level (R298). [DEDUCED, log 69] -/
def State.term (s : State) (t : IlkTerm) : Bool :=
  if t.src < 0x10 && s.diInvalid t.src then
    (if t.inv = 0 then false
     else if t.inv = 1 then true
     else
       match nth s.ilk.diSeen t.src none with
       | none => false
       | some l => xor l t.pol)
  else xor (s.termSource t.src) t.pol

/-- The condition of an entry. -/
def State.ilkCond (s : State) (e : IlkEntry) : Bool :=
  let used := (List.range e.nt).map fun i => s.term (e.terms[i]?.getD {})
  if e.combOr then used.any id else used.all id

/-- The evaluator runs: after the recall, awake, the table armed (R296). -/
def State.evaluates (s : State) : Bool := s.awake && s.ilk.running && s.applied.ilk.armed

/-- When the condition became true, and when false, as of before a quantum: what rows of the quantum itself change is judged once, as it
ends (R298). -/
def IlkRun.before (r : IlkRun) (t : Nat) : Option Nat × Option Nat :=
  match r.was with
  | none => (r.trueAt, r.falseAt)
  | some (q, a, b) => if q = t then (a, b) else (r.trueAt, r.falseAt)

/-- One entry noted in this quantum: when its condition became true or false. -/
def State.noteEntry (s : State) (i : Nat) : State :=
  let e := nth s.applied.ilk.entries i {}
  let r := nth s.ilk.run i {}
  let r' : IlkRun :=
    if !e.en then { r with trueAt := none, falseAt := none, was := none }
    else
      let (a, b) := r.before s.tb
      if s.ilkCond e then { r with trueAt := some (a.getD s.tb), falseAt := none, was := some (s.tb, a, b) }
      else { r with trueAt := none, falseAt := some (b.getD s.tb), was := some (s.tb, a, b) }
  { s with ilk := { s.ilk with run := upd s.ilk.run i fun _ => r' } }

/-- Every entry noted, in ascending order, and the levels of valid inputs kept (R296, R298). Events that change a term source end with
this. [DEDUCED, log 69] -/
def State.noteIlk (s : State) : State :=
  let seen := updAll s.ilk.diSeen fun n l => if s.awake && !s.diInvalid n then some (nth s.fio.di n {}).level else l
  let s := { s with ilk := { s.ilk with diSeen := seen } }
  if s.evaluates then (List.range 32).foldl State.noteEntry s else s

/-! ### Levels -/

/-- The lowest tripped entry whose masks name an output (R301). -/
def State.gateEntry (s : State) (names : IlkEntry → Bool) : Option IlkEntry :=
  ((List.range 32).find? fun i => (nth s.ilk.run i {}).tripped && names (nth s.applied.ilk.entries i {})).map
    fun i => nth s.applied.ilk.entries i {}

/-- The masks of gated outputs. -/
def State.regate (s : State) : State :=
  let es := (List.range 32).filterMap fun i =>
    if (nth s.ilk.run i {}).tripped then some (nth s.applied.ilk.entries i {}) else none
  { s with ilk := { s.ilk with
      gVl := es.foldl (fun m e => m ||| e.vlMask) 0
      gAo := es.foldl (fun m e => m ||| e.aoMask) 0
      gFn := es.foldl (fun m e => m ||| e.fnMask) 0
      gDo := es.foldl (fun m e => m ||| e.doMask) 0 } }

/-- The level of a safe-state setting against what the output holds (R304). -/
def safeLevel (o : SafeOut) (held : Nat) : Nat := if o.hold then held else o.level

/-- The safe state holds this device's outputs: not on a unit of a pair that is not active (R304). -/
def State.safeActs (s : State) : Bool := s.ilk.safe && s.acting

/-- Whether a valve is to be on (R305). -/
def State.vlWant (s : State) (n : Nat) : Bool :=
  let set := s.applied.vl.setp.getLsbD n
  match s.gateEntry fun e => e.vlMask.getLsbD n with
  | some e => e.vlLvl
  | none => if s.safeActs then safeLevel (nth s.applied.ilk.safeVl n {}) (b2n set) == 1 else set

end Sys2Proof.Machine
end

