-- ==== Sys2Proof/Machine/Valves.lean ====
section
/-! DEFINITION. Peak-and-hold valve drive: phases, pull-in detection, regulation, banks, duty limits, coil tests, faults
(R203 to R234). -/

namespace Sys2Proof.Machine

/-! ### Configuration (Table 10-7) -/

/-- VL_CONFIG committed. -/
def setVlConfig (p : Bytes) (c : VlCfg) : VlCfg :=
  { c with chans := upd c.chans (u8 p 0) fun _ =>
      { en := u8 p 1 == 1, ipeak := u8 p 2, ihold := u8 p 3, tboost := u16 p 4, fchop := u8 p 6, pimode := u8 p 7,
        piblank := u8 p 8, piemf := u8 p 9, piext := u8 p 10, npact := u8 p 11 } }

/-- The entries of a VL_SET: channel and ON. -/
def vlEntries (p : Bytes) : List (Nat × Nat) :=
  (List.range (u8 p 0)).map fun i => (u8 p (1 + 2 * i), u8 p (2 + 2 * i))

/-- VL_SET committed: the setpoints. -/
def setVlSet (p : Bytes) (c : VlCfg) : VlCfg :=
  { c with setp := (vlEntries p).foldl (fun m e => putBit m e.1 (e.2 != 0)) c.setp }

/-- VL_DECAY committed. -/
def setVlDecay (p : Bytes) (c : VlCfg) : VlCfg :=
  let d : VlDecay := { boost := u8 p 1, fall := u8 p 2, hold := u8 p 3, off := u8 p 4, mixpct := u8 p 5 }
  { c with decay := updAll c.decay fun n o => if u8 p 0 = 0xFF || u8 p 0 = n then d else o }

/-- VL_DUTY committed. -/
def setVlDuty (p : Bytes) (c : VlCfg) : VlCfg :=
  { c with duty := upd c.duty (u8 p 0) fun _ => { win := u8 p 1, limit := u8 p 2, action := u8 p 3 } }

/-- VL_BANK committed. -/
def setVlBank (p : Bytes) (c : VlCfg) : VlCfg :=
  { c with banks := upd c.banks (u8 p 0) fun _ => { bmode := u8 p 1, bpeak := u8 p 2, bcont := u8 p 3, bstag := u8 p 4 } }

/-- The valve configuration that results once every write already staged has committed. -/
def State.futureVl (s : State) : VlCfg :=
  s.staged.foldl (fun c w => match w.w with
    | .cmd 0x40 p => setVlConfig p c
    | .cmd 0x44 p => setVlBank p c
    | .point pt v => if isVL pt then { c with setp := putBit c.setp (pt - 0x40) (v == 1) } else c
    | _ => c) s.com.cfg.vl

/-- R217: no bank's budget exceeded, in mA. -/
def VlCfg.budgetOk (c : VlCfg) : Bool :=
  (List.range 4).all fun b =>
    let chs := ((List.range 4).map fun i => nth c.chans (4 * b + i) {}).filter (·.en)
    let bank := nth c.banks b {}
    let hold := (chs.map fun x => 5 * x.ihold).sum
    hold ≤ 50 * bank.bcont && chs.all fun x => 10 * x.ipeak + (hold - 5 * x.ihold) ≤ 50 * bank.bpeak

/-! ### Access -/

def State.onVl (n : Nat) (f : VlChan → VlChan) (s : State) : State :=
  { s with vl := { s.vl with ch := upd s.vl.ch n f } }
def State.onBank (b : Nat) (f : VlBank → VlBank) (s : State) : State :=
  { s with vl := { s.vl with bank := upd s.vl.bank b f } }
def State.vlCh (s : State) (n : Nat) : VlChan := nth s.vl.ch n {}
def State.vlBk (s : State) (b : Nat) : VlBank := nth s.vl.bank b {}
def State.vlConf (s : State) (n : Nat) : VlChCfg := nth s.applied.vl.chans n {}

/-- Valve bank b runs (PMUN bit 10 + b). -/
def State.bankRuns (s : State) (b : Nat) : Bool := s.runs (10 + b)

/-- A phase in which the duty window counts: BOOST, FALL, HOLD, DIAG (R224). -/
def VPhase.on (p : VPhase) : Bool :=
  match p with
  | .off => false | .wait => false | .rise => true | .peak => true | .fall => true | .hold => true | .diag => true

/-- PHASE as registers and VL_STATUS show it (Table 10-2). -/
def VPhase.code (p : VPhase) : Nat :=
  match p with
  | .off => 0 | .wait => 1 | .rise => 2 | .peak => 3 | .fall => 4 | .hold => 5 | .diag => 6

/-- The channel is energised (R203). -/
def VlChan.energised (c : VlChan) : Bool := c.phase.on || c.decaying

/-- T of an FCHOP code in µs (Table 10-3). -/
def chopPeriod (code : Nat) : Nat := [250, 200, 125, 100, 50, 40, 25][code]?.getD 50

/-- The channels of a bank. -/
def bankChans (b : Nat) : List Nat := (List.range 4).map fun i => 4 * b + i

/-- A channel takes a phase; the duty window's count follows (R224). -/
def VlChan.enter (c : VlChan) (ph : VPhase) (t : Nat) : VlChan :=
  let used := match c.usedFrom with
    | some t0 => if c.inWin then c.used + tbSub t t0 else c.used
    | none => c.used
  { c with phase := ph, phaseAt := t, used := used, usedFrom := if ph.on then some t else none }

/-! ### Banks: queue, mode, admission (R216 to R219) -/

/-- The first quantum at or after t with t modulo T at a carrier phase; T divides 1 ms, so TB's wrap keeps the phase (R210). -/
def carrierFrom (phase T t : Nat) : Nat := tbAdd t ((phase + T - t % T) % T)

/-- The start of a channel's next carrier: its present period is completed before a new phase is taken (R210). -/
def State.carrierDue (s : State) (n : Nat) : Nat :=
  let c := s.vlCh n
  let done := tbAdd c.carrierAt c.period
  let T := chopPeriod (s.vlConf n).fchop
  carrierFrom ((c.carrierNext.getD c.carrier) % T) T (if c.inPeriod && timeLeft done s.tb != 0 then done else s.tb)

/-- A carrier of the channel starts in this quantum. -/
def State.carrierNow (s : State) (n : Nat) : Bool :=
  ((s.vlCh n).inPeriod && (s.vlCh n).carrierAt == s.tb) || s.carrierDue n == s.tb

/-- The phase of bank b's requests in their 50 µs (R211). [DESIGN CHOICE, log 98] -/
def bankPhase (b : Nat) : Nat := 12 * b

/-- The windows of 10 µs that a request falls into, by the half quanta they begin with, N of them from a base. -/
def windowsAt (base N x : Nat) : List Nat :=
  (List.range 20).filterMap fun d => if d ≤ x && x - d < N then some (base + (x - d)) else none

/-- The windows of a carrier's requests, at the midpoints of its periods: of a millisecond, which repeats, and from 2000 on those of the
360 µs from 10 µs ago, of the periods that begin at or after `from_` (R171, R211). [DESIGN CHOICE, log 98] -/
def carrierWindows (phase T from_ now : Nat) : List Nat :=
  let past := tbSub now 10
  let first := 2 * tbSub (carrierFrom (phase % T) T from_) past + T
  ((List.range (1000 / T)).flatMap fun k => (List.range 20).map fun d => (2 * (phase % T + k * T) + T + 2000 - d) % 2000) ++
  (List.range (350 / T + 1)).flatMap fun k => windowsAt 2000 720 (first + 2 * k * T)

/-- How many requests each window holds, with one more in each of some. -/
def addRequests (w : Vector Nat 2720) (us : List Nat) : Vector Nat 2720 := us.foldl (fun w u => upd w u (· + 1)) w

/-- Each of some windows has room for one more: no 10 µs hold more than 10 requests (R171). [DESIGN CHOICE, log 98] -/
def roomFor (w : Vector Nat 2720) (us : List Nat) : Bool := us.all fun u => nth w u 0 ≤ 9

/-- Wished phases of carriers, each with its period and where its next begins, moved on to the first that leaves the limit kept; where none
may move, none if one does not keep it. [DESIGN CHOICE, log 98] -/
def placeCarriers (mayMove : Bool) (now : Nat) : List (Nat × Nat × Nat) → Vector Nat 2720 → Option (List Nat)
  | [], _ => some []
  | (p, T, from_) :: rest, w =>
    let found := (List.range (if mayMove then T else 1)).find? fun j => roomFor w (carrierWindows (p + j) T from_ now)
    match found, mayMove with
    | none, false => none
    | j, _ =>
      let p := (p + j.getD 0) % T
      (placeCarriers mayMove now rest (addRequests w (carrierWindows p T from_ now))).map (p :: ·)

/-- Evenly spread wishes: over 40 µs for the channels of that period, over 25 µs, which divides every other period, for the rest.
[DESIGN CHOICE, log 98] -/
def spreadPhases (ts : List Nat) : List Nat :=
  (List.range ts.length).map fun n =>
    let T := ts[n]?.getD 50
    let kin := fun (t : Nat) => (t == 40) == (T == 40)
    let P := if T = 40 then 40 else 25
    (P * ((ts.take n).filter kin).length / (ts.filter kin).length + 250 - T / 2) % P

/-- The phases assigned at the k-th assignment to channels of given periods and next carriers, beside the banks' requests and those that
periods in progress still make: any that keep the limit of R171, as the device chooses. [DESIGN CHOICE, log 98] -/
def carrierPhases (k now : Nat) (cs : List (Nat × Nat)) (inProgress : List Nat) : List Nat :=
  let banks := (List.range 4).flatMap fun b => carrierWindows (bankPhase b + 25) 50 (tbSub now 10) now
  let w := addRequests (Vector.replicate 2720 0) (banks ++ inProgress.flatMap (windowsAt 2000 720))
  let free := (List.range cs.length).map fun n => Config.carrierPhase k n
  ((placeCarriers false now (free.zip cs) w).orElse fun _ =>
    placeCarriers true now ((spreadPhases (cs.map (·.1))).zip cs) w).getD free

/-- Carrier phases assigned anew: after a change of an FCHOP or of the set of running banks; each channel completes its period first, whose
request counts too (R210). [DESIGN CHOICE, log 98] -/
def State.assignCarriers (s : State) : State :=
  let (k, s) := (s.free, { s with free := s.free + 1 })
  let past := tbSub s.tb 10
  let busy := fun (n : Nat) =>
    let c := s.vlCh n
    c.energised && c.inPeriod && timeLeft (tbAdd c.carrierAt c.period) s.tb != 0
  let next := fun (n : Nat) => if busy n then tbAdd (s.vlCh n).carrierAt (s.vlCh n).period else past
  let inProgress := ((List.range 16).filter busy).map fun n =>
    let c := s.vlCh n
    2 * tbSub (tbAdd c.carrierAt (c.period / 2)) past + c.period % 2
  let ps := carrierPhases k s.tb ((List.range 16).map fun n => (chopPeriod (s.vlConf n).fchop, next n)) inProgress
  { s with vl := { s.vl with ch := updAll s.vl.ch fun n c => { c with carrierNext := some (ps[n]?.getD 0) } } }

/-- The energised channels of a bank, but one. -/
def State.energisedIn (s : State) (b : Nat) (but : Nat) : List Nat :=
  (bankChans b).filter fun n => n != but && (s.vlCh n).energised

/-- A channel placed in its bank's queue: order of quantum, ties to the lower channel (R218). -/
def State.enqueue (n : Nat) (s : State) : State :=
  let s := s.onVl n fun c => { c with quAt := s.tb }
  s.onBank (n / 4) fun k =>
    let before := k.queue.filter fun m => m != n && ((s.vlCh m).quAt != s.tb || m < n)
    let after := k.queue.filter fun m => m != n && (s.vlCh m).quAt == s.tb && m > n
    { k with queue := before ++ [n] ++ after }

/-- A channel taken out of its bank's queue. -/
def State.dequeue (n : Nat) (s : State) : State :=
  s.onBank (n / 4) fun k => { k with queue := k.queue.filter fun m => m != n }

/-- The boost slot freed, the stagger counted from now (R218). -/
def State.freeBoost (n : Nat) (s : State) : State :=
  s.onBank (n / 4) fun k => if k.slot = some n then { k with slot := none, slotFreeAt := some s.tb } else k

/-- The stagger after the bank's last boost has passed (R218). -/
def State.staggerOver (s : State) (b : Nat) : Bool :=
  match (s.vlBk b).slotFreeAt with
  | none => true
  | some t => tbSub s.tb t ≥ 100 * (nth s.applied.vl.banks b {}).bstag

/-- Everything but the shared mode lets the head of the queue in. -/
def State.headDue (s : State) (b : Nat) : Bool :=
  let k := s.vlBk b
  s.bankRuns b && !k.bfault && !k.limit && k.slot.isNone && s.staggerOver b

/-- Least squares of VACT = i·R + L·Δi/T over samples (i, Δi, VACT), T in seconds. -/
def fitCoil (samples : List (Rat × Rat × Rat)) (t : Rat) : Option (Rat × Rat) :=
  let sum := fun (f : Rat → Rat → Rat → Rat) => samples.foldl (fun a e => a + f e.1 (e.2.1 / t) e.2.2) 0
  let a := sum fun i _ _ => i * i
  let b := sum fun i x _ => i * x
  let e := sum fun _ x _ => x * x
  let p := sum fun i _ v => i * v
  let q := sum fun _ x v => x * v
  let det := a * e - b * b
  if det = 0 then none else some ((p * e - b * q) / det, (a * q - b * p) / det)

/-- The carrier period of a channel in seconds. -/
def State.vlT (s : State) (n : Nat) : Rat :=
  ((if (s.vlCh n).inPeriod then (s.vlCh n).period else chopPeriod (s.vlConf n).fchop : Nat) : Rat) / 1000000

/-- Values that a pull-in may be sought with (R207). -/
def estOk (r l : Rat) : Bool := decide (0 < l) && decide (1 ≤ r) && decide (r ≤ 1000)

/-- A rise that a turn-off or a restart ends leaves its fit, where it gave samples enough (R207). -/
def VlChan.endRise (c : VlChan) (t : Rat) : VlChan :=
  if c.phase != .rise || c.fitDone || c.samples.length < 4 then c
  else
    match fitCoil c.samples t with
    | none => c
    | some (r, l) => if estOk r l then { c with rest := some r, lest := some l, rnow := some r } else c

/-- A boost begins (R206, R207): rise from the present current. -/
def State.startBoost (n : Nat) (s : State) : State :=
  let c := s.vlCh n
  let fromOff := c.phase == .wait
  let t := s.vlT n
  let s := s.onVl n fun c =>
    let c := c.endRise t
    { c.enter .rise s.tb with
      decaying := false, rstpend := false, boostAt := s.tb, samples := [], nsamp := 0, fitDone := false, noSeek := false,
      motion := false, pullAt := none, duty := 1, dnext := 1, u := 0, carry := 0, satRun := 0, hiRun := 0, sat := false,
      inPeriod := c.inPeriod && !fromOff, decay := if fromOff then nth s.applied.vl.decay n {} else c.decay, cut := none
      rnow := c.rest, boosts := c.boosts + 1, leftWait := if fromOff then some s.tb else c.leftWait
      prevI := if fromOff && !c.decaying then 0 else c.prevI }
  s.onBank (n / 4) fun k => { k with slot := some n }

/-- A coil test begins (R226 step 1). -/
def State.startDiag (n : Nat) (s : State) : State :=
  let s := s.onVl n fun c =>
    { c.enter .diag s.tb with
      decaying := false, boostAt := s.tb, diagReg := false, samples := [], nsamp := 0, fitDone := false, duty := 1, dnext := 1,
      u := 0, carry := 0, satRun := 0, hiRun := 0, vdSum := 0, iSum := 0, leftWait := some s.tb
      inPeriod := false, decay := nth s.applied.vl.decay n {}, rnow := c.rest
      prevI := if c.decaying then c.prevI else 0 }
  s.onBank (n / 4) fun k => { k with slot := some n }

/-- The head of the queue admitted: WAITLAST, then its boost or test (R218). -/
def State.letBoost (n : Nat) (s : State) : State :=
  let s := (s.dequeue n).onBank (n / 4) fun k => { k with waitlast := wN (tbSub s.tb (s.vlCh n).quAt) }
  if (s.vlCh n).diag.isSome then s.startDiag n else s.startBoost n

/-- Shared mode entered for the head of the queue: BANK_OVERLAP, but under BMODE 1 (R216). -/
def State.enterShared (b : Nat) (s : State) : State :=
  (s.onBank b fun k => { k with shared := true, singleAt := none }).raiseIf ((nth s.applied.vl.banks b {}).bmode == 0) 73

/-- The head admitted if it may be: shared mode is needed while another channel of the bank is energised, and a
carrier start of that channel in this very quantum counts (R216, R218). -/
def State.tryAdmit (b : Nat) (s : State) : State :=
  match (s.vlBk b).queue with
  | [] => s
  | h :: _ =>
    let others := s.energisedIn b h
    if !s.headDue b then s
    else if others.isEmpty || (s.vlBk b).shared then s.letBoost h
    else if others.any s.carrierNow then (s.enterShared b).letBoost h
    else s

/-- A bank after a change in it: mode with no channel energised, admission, BANK_STAGGER, the 10 ms of a lone channel. -/
def State.settleBank (b : Nat) (s : State) : State :=
  let bm := (nth s.applied.vl.banks b {}).bmode
  let s := if (s.energisedIn b 99).isEmpty then s.onBank b fun k => { k with shared := bm == 1 } else s
  let s := s.tryAdmit b
  let k := s.vlBk b
  let s := s.raiseIf (s.bankRuns b && k.queue.any fun m => (s.vlCh m).quAt == s.tb) 72
  let lone := k.shared && bm == 0 && (s.energisedIn b 99).length == 1 && k.queue.isEmpty
  s.onBank b fun k => { k with singleAt := if lone then some (k.singleAt.getD s.tb) else none }

/-- All four banks settled. -/
def State.settleBanks (s : State) : State := (List.range 4).foldl (fun s b => s.settleBank b) s

/-! ### Leaving and entering OFF (R204, R205, R221, R227, R228) -/

/-- A boost in progress is the channel's last boost (R233). [DEDUCED, log 51] -/
def VlChan.closeBoost (c : VlChan) (t : Nat) : VlChan :=
  { c with boostt := min (tbSub t c.boostAt / 10) 0xFFFF, piok := c.pullAt.isSome
           pitime := if c.pullAt.isSome then c.pitime else 0xFFFF }

/-- A channel turned off with a decay mode, none for that of its OFF decay; it leaves the queue and the slot. A fault's mode acts on a decay that runs
already too (R227). What was cut is kept for what else happens in the same quantum (R223). [DEDUCED, log 50] [DESIGN CHOICE, log 96] -/
def State.turnOff (n : Nat) (mode : Option Nat) (s : State) : State :=
  let s := (s.dequeue n).freeBoost n
  let t := s.vlT n
  s.onVl n fun c =>
    let c := c.endRise t
    let cut : VlCut := { at_ := s.tb, phase := c.phase, from_ := c.phaseAt, duty := c.duty, sat := c.sat, reg := c.diagReg }
    let c := if c.phase == .rise || c.phase == .peak then c.closeBoost s.tb else c
    let c := { c with decaying := c.decaying || c.phase.on, cut := if c.phase.on then some cut else c.cut
                      offMode := mode.getD (if c.phase.on then c.decay.off else c.offMode)
                      offFixed := mode.isSome || (!c.phase.on && c.offFixed) }
    { c.enter .off s.tb with rstpend := false, sat := false, diag := none, diagReg := false, duty := 0, dnext := 0 }

/-- The phase that a happening of this quantum finds: the present one, or the one that a turn-off sent before it in the same quantum has
cut, since when, and whether a coil test regulated (R223). [DESIGN CHOICE, log 96] -/
def State.phaseMet (s : State) (n : Nat) : VPhase × Nat × Bool :=
  let c := s.vlCh n
  match c.cut with
  | none => (c.phase, c.phaseAt, c.diagReg)
  | some k => if c.phase == .off && k.at_ = s.tb then (k.phase, k.from_, k.reg) else (c.phase, c.phaseAt, c.diagReg)

/-- A channel turned off through its OFF decay. [DEDUCED, log 50] -/
def State.offDecay (n : Nat) (s : State) : State := s.turnOff n none

/-- A fault latched, its event raised; the first fault stays but for a bank's, and fault 4 leaves the point without a value (R214,
R227, R229). -/
def State.latchVl (n fault ev : Nat) (mode : Option Nat) (s : State) : State :=
  ((s.onVl n fun c =>
    let f := if c.fault = 0 || fault = 7 then fault else c.fault
    { c with fault := f, newest := if f = 4 then noVal else c.newest }).turnOff n mode).raise ev

/-- A channel that nothing of its own holds off (R228, R224, R301). -/
def State.vlFree (s : State) (n : Nat) : Bool :=
  let c := s.vlCh n
  (s.vlConf n).en && c.fault == 0 && !c.dutylim && s.acting

/-- A channel to WAIT: it queues once its bank runs (R205, R225). -/
def State.toWait (n : Nat) (s : State) : State :=
  let s := s.onVl n fun c => c.enter .wait s.tb
  if s.bankRuns (n / 4) then s.enqueue n else s

/-- A channel brought to what it is to be (R305): off through its OFF decay, or out of OFF through WAIT, where the stop of its bank does not
keep it (R225), which it does as long as what turned the channel on stands. A coil test in a channel that nothing turns on or blocks goes on. -/
def State.reconcile (n : Nat) (s : State) : State :=
  let c := s.vlCh n
  let want := s.vlWant n && s.vlFree n
  if want then (if c.phase == .off && !c.parked then s.toWait n else s)
  else
    let s := s.onVl n fun c => { c with parked := false }
    if c.diag.isSome && s.vlFree n && (s.gateEntry fun e => e.vlMask.getLsbD n).isNone && !s.safeActs then s
    else if c.phase == .off then s
    else s.offDecay n

/-- A restart (Table 10-5 ON 2): at once from BOOST or FALL, queued from HOLD. -/
def State.restart (n : Nat) (s : State) : State :=
  let c := s.vlCh n
  match c.phase with
  | .rise => s.startBoost n
  | .peak => s.startBoost n
  | .fall => s.startBoost n
  | .hold => if c.rstpend then s else (s.onVl n fun c => { c with rstpend := true }).enqueue n
  | .off => s
  | .wait => s
  | .diag => s

/-! ### Applying commits (R221 to R225, R228, R229) -/

/-- One entry of VL_SET at its apply quantum (Table 10-5); gate and safe state prevail (R15, R305). -/
def State.applyVlSet (n on : Nat) (s : State) : State :=
  let s := { s with applied := { s.applied with vl := { s.applied.vl with setp := putBit s.applied.vl.setp n (on != 0) } } }
  let ruled := (s.gateEntry fun e => e.vlMask.getLsbD n).isSome || s.safeActs
  let s := if on = 0 then s else s.onVl n fun c => { c with parked := false }
  let c := s.vlCh n
  if ruled || !s.vlFree n then s.reconcile n
  else if on = 0 then
    match c.phase with
    | .off => s
    | _ => s.offDecay n
  else if c.phase == .off then s.toWait n
  else if on = 2 then s.restart n
  else s

/-- VL_CONFIG at its apply quantum: a change but of IHOLD restarts an energised channel (R222). [DEDUCED, log 51] -/
def State.applyVlConfig (p : Bytes) (s : State) : State :=
  let n := u8 p 0
  let old := s.vlConf n
  let s := { s with applied := { s.applied with vl := setVlConfig p s.applied.vl } }
  let new := s.vlConf n
  let s := s.onVl n fun c =>
    { c with boosts := if old.en then c.boosts else 0, nopicnt := if old.en then c.nopicnt else 0
             ihold := if c.phase.on then c.ihold else new.ihold
             newest := if old.en = new.en then c.newest else noVal }
  let other := { old with ihold := 0 } != { new with ihold := 0 }
  let s := if old.en && new.en && other then s.restart n else s
  (if old.fchop = new.fchop then s else s.assignCarriers).reconcile n

/-- VL_DUTY at its apply quantum: the series of windows starts again at the next round boundary (R224). [DEDUCED, log 79] -/
def State.applyVlDuty (p : Bytes) (s : State) : State :=
  let n := u8 p 0
  let s := { s with applied := { s.applied with vl := setVlDuty p s.applied.vl } }
  let s := s.onVl n fun c =>
    { c with dutylim := false, inWin := false, used := 0, usedFrom := c.usedFrom.map fun _ => s.tb, limitHit := false
             winDue := if u8 p 1 = 0 then none else some (nextMultiple 1000000 s.tb) }
  s.reconcile n

/-- VL_BANK at its apply quantum: with BMODE 1 a carrier that has started in it begins shared mode (R216). -/
def State.applyVlBank (p : Bytes) (s : State) : State :=
  let b := u8 p 0
  let s := { s with applied := { s.applied with vl := setVlBank p s.applied.vl } }
  let started := (s.energisedIn b 99).any fun n => (s.vlCh n).inPeriod && (s.vlCh n).carrierAt == s.tb
  if u8 p 1 = 1 && started then s.onBank b fun k => { k with shared := true } else s

/-- VL_CLEAR at its apply quantum; fault 7 stays while its bank's fault stays (R228, R229). -/
def State.applyVlClear (p : Bytes) (s : State) : State :=
  let s := (List.range 4).foldl (fun s b => if bit (u8 p 2) b then s.onBank b fun k => { k with bfault := false, badRun := 0 } else s) s
  (List.range 16).foldl (fun s n =>
    if bit (u16 p 0) n && !((s.vlCh n).fault == 7 && (s.vlBk (n / 4)).bfault) then
      (s.onVl n fun c => { c with fault := 0, missRun := 0, hiRun := 0, parked := false }).reconcile n
    else s) s

/-- One staged valve command at its apply quantum. -/
def State.applyVl (opc : Nat) (p : Bytes) (s : State) : State :=
  match opc with
  | 0x40 => s.applyVlConfig p
  | 0x41 => (vlEntries p).foldl (fun s e => s.applyVlSet e.1 e.2) s
  | 0x42 => { s with applied := { s.applied with vl := setVlDecay p s.applied.vl } }
  | 0x43 => s.applyVlDuty p
  | 0x44 => s.applyVlBank p
  | 0x47 => s.applyVlClear p
  | _ => s

/-- Coil tests accepted before the beat boundary queue in the apply quantum, if their channel is still free for one
(R226). -/
def State.queueDiags (s : State) : State :=
  (List.range 16).foldl (fun s n =>
    let c := s.vlCh n
    match c.diagReq with
    | none => s
    | some i =>
      if !c.diagArmed then s
      else
        let s := s.onVl n fun c => { c with diagReq := none, diagArmed := false }
        if c.phase == .off && s.vlFree n && !s.com.cfg.vl.setp.getLsbD n && s.bankRuns (n / 4) then
          (s.onVl n fun c => { c with diag := some i }).toWait n
        else s) s

/-- Coil tests requested in the beat that ends queue at the coming apply quantum. [DEDUCED, log 36] -/
def State.armDiags (s : State) : State :=
  { s with vl := { s.vl with ch := updAll s.vl.ch fun _ c => { c with diagArmed := c.diagReq.isSome } } }

/-- A bank's step of a Pavane: channels whose setpoints are on queue in ascending order (R225). -/
def State.startBank (b : Nat) (s : State) : State :=
  let s := s.assignCarriers.onBank b fun k => { k with queue := [], slot := none, reqAt := tbSub (carrierFrom (bankPhase b) 50 (tbAdd s.tb 1)) 50 }
  let s := (bankChans b).foldl (fun s n =>
    let s := (s.onVl n fun c => { c with parked := false }).reconcile n
    if (s.vlCh n).phase == .wait then s.enqueue n else s) s
  s.settleBank b

/-- A bank stops: every channel off through its OFF decay, setpoints stand; channels that were to be on stay in OFF until they are
turned on anew or cleared, or the bank starts (R225). BSTAG and LIMIT go on (R218, R219). -/
def State.stopBank (b : Nat) (s : State) : State :=
  let s := (bankChans b).foldl (fun s n =>
    let on := s.vlWant n && s.vlFree n
    (if (s.vlCh n).phase == .off then s else s.offDecay n).onVl n fun c => { c with parked := c.parked || on }) s
  s.assignCarriers.onBank b fun k => { k with queue := [], slot := none, singleAt := none }

/-! ### Fit, motion and regulation (R207, R208, R212) -/

/-- A boost whose pull-in is not sought: one already found on earlier values counts no more (R207). -/
def VlChan.unsought (c : VlChan) : VlChan := { c with fitDone := true, noSeek := true, pullAt := none, piok := false }

/-- The fit at the end of the rise or at sample 8 (R207). -/
def VlChan.fit (c : VlChan) (t : Rat) : VlChan :=
  if c.fitDone then c
  else if c.samples.length < 4 then
    match c.rest, c.lest with
    | some r, some l => if estOk r l then { c with fitDone := true } else c.unsought
    | some _, none => c.unsought
    | none, _ => c.unsought
  else
    match fitCoil c.samples t with
    | none => c.unsought
    | some (r, l) =>
      if estOk r l then { c with fitDone := true, rest := some r, lest := some l, rnow := some r } else c.unsought

/-- The duty of the next period (R212), the carry of a short on-interval, and u. [DEDUCED, log 48] -/
def VlChan.regulate (c : VlChan) (iset i vact t : Rat) : VlChan :=
  let r := c.rnow.getD 20
  let l := c.lest.getD (5 / 100)
  let err := iset - i
  let u := c.u + r / 8 * err
  let d := if vact ≤ 0 then 1 else (iset * r + l / (4 * t) * err + u) / vact
  let d := (if d < 0 then 0 else if d > 1 then 1 else d) + c.carry
  let d := if d > 1 then 1 else d
  if 0 < d && d * t < 1 / 1000000 then { c with u := u, dnext := 0, carry := d }
  else { c with u := u, dnext := d, carry := 0 }

/-- The run of R229's third condition, in single mode, judged at the sample of a regulated period. -/
def VlChan.track (c : VlChan) (shared : Bool) (set i : Rat) : VlChan :=
  { c with hiRun := if !shared && c.duty = 0 && i > set * 12 / 10 then c.hiRun + 1 else 0 }

/-- A period that has ended counts towards SAT where its duty was 1, whether its sample came or not (R213). -/
def VlChan.countSat (c : VlChan) : VlChan :=
  let n := if c.inPeriod && c.phase.on && c.phase != .fall && c.duty ≥ 1 then c.satRun + 1 else 0
  { c with satRun := n, sat := n ≥ 20 }

/-- Motion and pull-in judged in one period of a boost (R208). -/
def State.judge (n : Nat) (i vact : Rat) (s : State) : State :=
  let c := s.vlCh n
  let cfg := s.vlConf n
  match c.rest, c.lest with
  | some r, some l =>
    if c.noSeek || !estOk r l || c.pullAt.isSome || tbSub s.tb c.boostAt < 100 * cfg.piblank then s
    else
      let e := vact * c.duty - i * r - l * (i - (c.prevI : Rat) / 10000) / s.vlT n
      let th := (cfg.piemf : Rat) / 10
      if !c.motion then (if e ≥ th then s.onVl n fun c => { c with motion := true } else s)
      else if e ≤ th / 4 then
        let s := s.onVl n fun c =>
          { c with pullAt := some s.tb, piok := true, nopi := false, pitime := min (tbSub s.tb c.boostAt / 10) 0xFFFE }
        let s := { s with vl := { s.vl with pinew := putBit s.vl.pinew n true } }
        ((s.flag 0xF00 (wN (2 ^ n))).raise 64)
      else s
  | _, _ => s

/-- FALL entered: the boost has ended (R206). -/
def State.toFall (n : Nat) (s : State) : State :=
  s.onVl n fun c => { (c.closeBoost s.tb).enter .fall s.tb with duty := 0, dnext := 0 }

/-- HOLD entered: the slot is free from now (R206, R218). -/
def State.toHold (n : Nat) (s : State) : State :=
  let s := s.freeBoost n
  s.onVl n fun c =>
    { c.enter .hold s.tb with u := 0, carry := 0, satRun := 0, hiRun := 0, sat := false, vdSum := 0, iSum := 0, duty := 0, dnext := 0 }

/-- The end of a boost at TBOOST or PIEXT: the missing pull-in of R209, then FALL. -/
def State.endBoost (n : Nat) (s : State) : State :=
  let s := s.onVl n fun c => c.fit (s.vlT n)
  let c := s.vlCh n
  let cfg := s.vlConf n
  if c.pullAt.isSome && !c.noSeek then s.toFall n
  else
    let s := s.onVl n fun c => { c with nopi := true, piok := false, nopicnt := satInc c.nopicnt 65535 }
    if cfg.pimode = 0 && !c.noSeek then
      if cfg.npact = 1 then s.latchVl n 6 65 none else (s.raise 65).toFall n
    else s.toFall n

/-- TBOOST runs out in the quantum in which a turn-off cut the boost: the missing pull-in and its fault stand (R209, R223). -/
def State.endCut (n : Nat) (s : State) : State :=
  let s := s.onVl n fun c => c.fit (s.vlT n)
  let c := s.vlCh n
  let cfg := s.vlConf n
  if c.pullAt.isSome && !c.noSeek then s
  else
    let s := s.onVl n fun c => { c with nopi := true, piok := false, nopicnt := satInc c.nopicnt 65535 }
    if cfg.pimode != 0 || c.noSeek then s else if cfg.npact = 1 then s.latchVl n 6 65 none else s.raise 65

/-- A bank fault latches: every channel of the bank takes fault 7 (R229). [DEDUCED, log 50] -/
def State.bankFault (b : Nat) (s : State) : State :=
  if (s.vlBk b).bfault then s
  else
    let s := s.onBank b fun k => { k with bfault := true }
    (bankChans b).foldl (fun s n => s.latchVl n 7 75 (some 1)) s

/-- The sample's part in the mean of its millisecond (R214): samples of a posting quantum wait for that posting. -/
def VlChan.count (c : VlChan) (i : Int) (t meanAt : Nat) : VlChan :=
  if t % 1000 = 0 && meanAt != t then { c with late := c.late ++ [i], lateAt := t }
  else { c with msSum := c.msSum + i, msCnt := c.msCnt + 1 }

/-- A decay has come below 10 mA: every switch is off (R204); in single mode that turns off LSn, but in a decay with it off already
(Table 10-4). -/
def State.endDecay (n : Nat) (s : State) : State :=
  let ls := !(s.vlBk (n / 4)).shared && ((s.vlCh n).offMode == 0 || (s.vlCh n).offMode == 2)
  s.onVl n fun c => { c with decaying := false, lsOffAt := if c.decaying && ls then some s.tb else c.lsOffAt }

/-- The phase's own work at a sample (R204 to R208, R212, R226, R227); a boost cut in this quantum still finds its pull-in point, a hold
its open coil (R223);
i and vact in A and V. [DEDUCED, log 48] -/
def State.phaseSample (n : Nat) (code : Int) (vact : Rat) (s : State) : State :=
  let c := s.vlCh n
  let cfg := s.vlConf n
  let i : Rat := (code : Rat) / 10000
  let t := s.vlT n
  let step : Rat := i - (c.prevI : Rat) / 10000
  let ipeak : Rat := (cfg.ipeak : Rat) / 100
  let ihold : Rat := (c.ihold : Rat) / 200
  let shared := (s.vlBk (n / 4)).shared
  let sampled := fun (c : VlChan) =>
    let k := c.nsamp + 1
    { c with nsamp := k, samples := if 3 ≤ k && k ≤ 8 then c.samples ++ [(i, step, vact)] else c.samples }
  match c.phase with
  | .rise =>
    let s := s.onVl n sampled
    let s := s.judge n i vact
    let ends := decide (i ≥ ipeak)
    let s := if (s.vlCh n).nsamp ≥ 8 || ends then s.onVl n fun c => c.fit t else s
    if ends then
      s.onVl n fun c => ({ c.enter .peak s.tb with u := 0, carry := 0, hiRun := 0 }).regulate ipeak i vact t
    else s
  | .peak =>
    let s := s.judge n i vact
    s.onVl n fun c => (c.track shared ipeak i).regulate ipeak i vact t
  | .fall =>
    if i ≤ ihold then (s.toHold n).onVl n fun c => c.regulate ihold i vact t else s
  | .hold =>
    let s := s.onVl n fun c =>
      let c := { c with vdSum := c.vdSum + vact * c.duty, iSum := c.iSum + i }
      (c.track shared ihold i).regulate ihold i vact t
    if (s.vlCh n).sat && i < ihold / 2 then s.latchVl n 1 66 none else s
  | .diag =>
    let itest : Rat := (c.diag.getD 4 : Rat) / 200
    if c.diagReg then
      s.onVl n fun c =>
        let c := { c with vdSum := c.vdSum + vact * c.duty, iSum := c.iSum + i }
        (c.track shared itest i).regulate itest i vact t
    else s.onVl n sampled
  | .off =>
    let s := match c.cut with
      | none => s
      | some k =>
        if k.at_ != s.tb then s
        else if k.phase == .rise || k.phase == .peak then
          ((s.onVl n fun c => { c with duty := k.duty }).judge n i vact).onVl n fun c => { c with duty := 0 }
        else if k.phase == .hold && k.sat && i < ihold / 2 then s.latchVl n 1 66 none
        else s
    if i < 1 / 100 then s.endDecay n else s
  | .wait => if i < 1 / 100 then s.endDecay n else s

/-- VL_REGULATION_SAMPLE: the sample last posted to SARVLn, which the valve drive has not used yet. -/
def execVlRegulationSample (ch : Nat) (obs : VlObs) (s : State) : Out :=
  if ch ≥ 16 then .fault .noSuchUnit
  else
    let smp := nth s.sar.vl ch {}
    if !smp.fresh || !(s.vlCh ch).energised then .next s
    else
      let s := { s with sar := { s.sar with vl := upd s.sar.vl ch fun x => { x with fresh := false } } }
      let s := s.onVl ch fun c => { c.count smp.code s.tb s.vl.meanAt with missRun := 0 }
      let s := s.phaseSample ch smp.code ((obs.vactMv : Rat) / 1000)
      let s := s.onVl ch fun c => { c with prevI := smp.code }
      let s := if (s.vlCh ch).hiRun ≥ 20 && !(s.vlBk (ch / 4)).shared then s.bankFault (ch / 4) else s
      .next (s.settleBank (ch / 4)).noteIlk

/-- A regulation request of a coil was dropped (R211): its duty is kept, and two in succession latch fault 4.
[DEDUCED, log 48] -/
def State.vlMissed (n : Nat) (s : State) : State :=
  let s := s.onVl n fun c => { c with missRun := c.missRun + 1, dnext := c.duty }
  if (s.vlCh n).missRun ≥ 2 && (s.vlCh n).energised then ((s.latchVl n 4 68 (some 1)).settleBank (n / 4)).noteIlk else s

/-! ### Carrier, timers (R206, R210, R216, R222) -/

/-- VL_CARRIER_START, at the channel's carrier phase: SAT of the period that ends; new duty, IHOLD and decay modes, an OFF decay in
progress among them; the bank's change of mode (R210, R213, R216, R222). [DESIGN CHOICE, log 2] -/
def execVlCarrierStart (ch : Nat) (s : State) : Out :=
  if ch ≥ 16 then .fault .noSuchUnit
  else if !(s.vlCh ch).energised then .next s
  else
    let b := ch / 4
    let due := s.carrierDue ch
    let s := s.jump due
    let T := chopPeriod (s.vlConf ch).fchop
    let d := nth s.applied.vl.decay ch {}
    let s := s.onVl ch fun c =>
      { c.countSat with
        carrierAt := due, duty := c.dnext, ihold := (s.vlConf ch).ihold, decay := d, carrier := (c.carrierNext.getD c.carrier) % T
        carrierNext := none, period := T, inPeriod := true, reqDone := false
        offMode := if c.phase == .off && !c.offFixed then d.off else c.offMode }
    let s := if (nth s.applied.vl.banks b {}).bmode = 1 && !(s.vlBk b).shared then
        s.onBank b fun k => { k with shared := true } else s
    let k := s.vlBk b
    match k.queue with
    | [] => .next s
    | h :: _ =>
      if !k.shared && s.headDue b && !(s.energisedIn b h).isEmpty then .next ((s.enterShared b).settleBank b)
      else .next (s.settleBank b)

/-- VL_BOOST_ADMIT: once the stagger has passed (R218). -/
def execVlBoostAdmit (bank : Nat) (s : State) : Out :=
  if bank ≥ 4 then .fault .noSuchUnit
  else
    let k := s.vlBk bank
    if k.queue.isEmpty || k.slot.isSome then .next s
    else
      let s := match k.slotFreeAt with
        | none => s
        | some t => if s.staggerOver bank then s else s.jump (tbAdd t (100 * (nth s.applied.vl.banks bank {}).bstag))
      .next (s.settleBank bank)

/-- VL_TBOOST_EXPIRY (R206, R209). Where PIEXT ends the boost before, this is not its end. [DESIGN CHOICE, log 96] -/
def execVlTboostExpiry (ch : Nat) (s : State) : Out :=
  if ch ≥ 16 then .fault .noSuchUnit
  else
    let c := s.vlCh ch
    let cfg := s.vlConf ch
    let due := tbAdd c.boostAt (100 * cfg.tboost)
    let early := cfg.pimode == 0 && (match c.pullAt with
      | none => false
      | some t => decide (tbSub t c.boostAt + 100 * cfg.piext < 100 * cfg.tboost))
    let met := (s.phaseMet ch).1
    if (met != .rise && met != .peak) || early then .next s
    else if c.phase == .off then .next (if due = s.tb then ((s.endCut ch).settleBank (ch / 4)).noteIlk else s)
    else .next (((s.jump due).endBoost ch).settleBank (ch / 4)).noteIlk

/-- VL_PIEXT_END (R206); not where the fit made after the pull-in point failed (R207). -/
def execVlPiextEnd (ch : Nat) (s : State) : Out :=
  if ch ≥ 16 then .fault .noSuchUnit
  else
    let c := s.vlCh ch
    match c.pullAt with
    | none => .next s
    | some t =>
      if (c.phase != .rise && c.phase != .peak) || c.noSeek || (s.vlConf ch).pimode != 0 then .next s
      else .next (((s.jump (tbAdd t (100 * (s.vlConf ch).piext))).endBoost ch).settleBank (ch / 4))

/-- VL_FALL_TIMEOUT: 10 ms in FALL (R206). -/
def execVlFallTimeout (ch : Nat) (s : State) : Out :=
  if ch ≥ 16 then .fault .noSuchUnit
  else if (s.vlCh ch).phase != .fall then .next s
  else .next (((s.jump (tbAdd (s.vlCh ch).phaseAt 10000)).toHold ch).settleBank (ch / 4))

/-- VL_OPEN_CHECK: 2 ms after the boost began its newest sample is below 20 mA; a boost that a commit cuts in that quantum latches the
fault too (R223, R227 fault 1). -/
def execVlOpenCheck (ch : Nat) (s : State) : Out :=
  if ch ≥ 16 then .fault .noSuchUnit
  else
    let c := s.vlCh ch
    let met := (s.phaseMet ch).1
    let cut := (met == .rise || met == .peak) && tbSub s.tb c.boostAt == 2000
    if (c.phase != .rise && c.phase != .peak && !cut) || c.prevI ≥ 200 then .next s
    else
      let s := s.jump (tbAdd c.boostAt 2000)
      .next ((s.latchVl ch 1 66 none).settleBank (ch / 4)).noteIlk

/-- VL_BANK_SINGLE_RETURN: at the carrier start of the one channel energised that follows 10 ms with none waiting (R216). -/
def execVlBankSingleReturn (bank : Nat) (s : State) : Out :=
  if bank ≥ 4 then .fault .noSuchUnit
  else
    match (s.vlBk bank).singleAt with
    | none => .next s
    | some t =>
      let t := tbAdd t 10000
      let due := match s.energisedIn bank 99 with
        | [] => t
        | n :: _ => carrierFrom (s.vlCh n).carrier (s.vlCh n).period t
      .next ((s.jump due).onBank bank fun k => { k with shared := false, singleAt := none })

/-! ### Means, windows (R214, R219, R224) -/

/-- The next multiple of n at which something posts: this quantum, if it is one and nothing has posted in it. -/
def State.postJump (n last : Nat) (s : State) : State :=
  if s.tb % n = 0 && last != s.tb then s else s.jump (nextMultiple n s.tb)

/-- VL_MEAN_POST (R214). -/
def execVlMeanPost (s : State) : Out :=
  let s := s.postJump 1000 s.vl.meanAt
  let post := fun (n : Nat) (c : VlChan) =>
    let en := (s.vlConf n).en && c.fault != 4
    let own := if c.lateAt = s.tb then [] else c.late
    let cnt := c.msCnt + own.length
    let m : Int := if cnt = 0 then 0 else
      clampI (-32768) 32767 (roundHalfAway ((((own.foldl (· + ·) c.msSum) : Int) : Rat) / ((cnt : Nat) : Rat)))
    let next := if c.lateAt = s.tb then c.late else []
    { c with imean := if en then m else c.imean, newest := if en then wI m else noVal
             msSum := next.foldl (· + ·) 0, msCnt := next.length, late := [] }
  if !s.awake then .next s
  else .next (latchHold s { s with vl := { s.vl with ch := updAll s.vl.ch post, meanAt := s.tb } })

/-- LIMIT set and BANK_LIMIT raised, whether LIMIT stood or not (R219). -/
def State.bankLimit (b : Nat) (s : State) : State := (s.onBank b fun k => { k with limit := true }).raise 74

/-- A bank current sample of SARBKb counted in its window and compared (R219, R229); code in 0.25 mA. -/
def State.bankSample (b : Nat) (code : Int) (edgeNear : Bool) (s : State) : State :=
  let s := s.onBank b fun k =>
    if s.tb % 100000 = 0 && k.winAt != s.tb then { k with late := k.late ++ [code], lateAt := s.tb }
    else { k with sum := k.sum + code, n := k.n + 1, max := max k.max code }
  let cfg := nth s.applied.vl.banks b {}
  let s := if code > 200 * cfg.bpeak + 2000 then s.bankLimit b else s
  if edgeNear then s
  else
    let conducts := fun (n : Nat) =>
      let c := s.vlCh n
      let half : Rat := (c.period : Rat) / 2
      let off : Rat := ((tbSub s.tb c.carrierAt : Nat) : Rat) - half
      c.phase.on && c.phase != .fall && (decide (c.duty ≥ 1) || decide ((if off < 0 then -off else off) < c.duty * half))
    let total : Int := ((bankChans b).map fun n => if conducts n then (nth s.sar.vl n {}).code else 0).sum
    let bad := decide (25 * code > 10 * total + 30000)
    let s := s.onBank b fun k => { k with badRun := if bad then k.badRun + 1 else 0 }
    if (s.vlBk b).badRun ≥ 3 then ((s.bankFault b).settleBank b).noteIlk else s

/-- VL_BANK_WINDOW: the end of a 100 ms window of TB; a sample of this quantum that has set LIMIT belongs to the next window (R219).
[DEDUCED, log 50] -/
def execVlBankWindow (bank : Nat) (s : State) : Out :=
  if bank ≥ 4 then .fault .noSuchUnit
  else
    let s := s.postJump 100000 (s.vlBk bank).winAt
    let k := s.vlBk bank
    let cfg := nth s.applied.vl.banks bank {}
    let own := if k.lateAt = s.tb then [] else k.late
    let next := if k.lateAt = s.tb then k.late else []
    let cnt := k.n + own.length
    let mean : Rat := if cnt = 0 then 0 else (((own.foldl (· + ·) k.sum) : Int) : Rat) / ((cnt : Nat) : Rat) / 4
    let top := own.foldl max k.max
    let above := fun (code : Int) => decide (code > 200 * cfg.bpeak + 2000)
    let high := decide (mean > 50 * (cfg.bcont : Rat) + 100)
    let spike := above top || next.any above
    let s := s.onBank bank fun k =>
      { k with imean := roundHalfAway mean, imax := roundHalfAway ((top : Rat) / 4), sum := next.foldl (· + ·) 0, n := next.length
               max := next.foldl max 0, late := [], winAt := s.tb }
    if high then .next (s.bankLimit bank)
    else if k.limit && !spike then .next ((s.onBank bank fun k => { k with limit := false }).settleBank bank)
    else .next s

/-- A duty window of a channel begins; one that its limit held off is free again (R224). -/
def State.dutyWindow (ch t : Nat) (s : State) : State :=
  let s := s.jump t
  let was := (s.vlCh ch).dutylim
  let s := s.onVl ch fun c =>
    { c with winDue := some (tbAdd t (1000000 * (nth s.applied.vl.duty ch {}).win)), inWin := true, used := 0
             usedFrom := c.usedFrom.map fun _ => s.tb, limitHit := false, dutylim := false }
  if was then ((s.raise 71).reconcile ch).settleBank (ch / 4) else s

/-- When a channel's on-quanta reach its limit: from the count that runs, or in this quantum, in which a turn-off sent before has ended it
(R223, R224). [DESIGN CHOICE, log 96] -/
def State.dutyDue (s : State) (ch : Nat) : Option Nat :=
  let c := s.vlCh ch
  let d := nth s.applied.vl.duty ch {}
  let all := d.limit * d.win * 10000
  match c.usedFrom with
  | some t => some (tbAdd t (all - c.used))
  | none => if c.used = all && (c.cut.map VlCut.at_) == some s.tb then some s.tb else none

/-- VL_DUTY_LIMIT_REACHED (R224): LIMIT 100 never fires. -/
def execVlDutyLimitReached (ch : Nat) (s : State) : Out :=
  if ch ≥ 16 then .fault .noSuchUnit
  else
    let c := s.vlCh ch
    let d := nth s.applied.vl.duty ch {}
    match s.dutyDue ch with
    | none => .next s
    | some t =>
      if !c.inWin || c.limitHit || d.limit ≥ 100 then .next s
      else
        let s := s.jump t
        let s := (s.onVl ch fun c => { c with limitHit := true, dutylim := d.action == 0 }).raise 70
        if d.action = 0 then .next ((s.offDecay ch).settleBank (ch / 4)) else .next s

/-! ### Comparators (R227, R229) -/

/-- VL_COMPARATOR_TRIP: fault 2 within 20 µs of leaving WAIT, fault 3 at any other time; decay through the clamp. -/
def execVlComparatorTrip (ch : Nat) (s : State) : Out :=
  if ch ≥ 16 then .fault .noSuchUnit
  else
    let c := s.vlCh ch
    if !c.energised && !(s.vlConf ch).en then .next s
    else
      let short := match c.leftWait with
        | none => false
        | some t => decide (tbSub s.tb t < 20)
      let s := if short then s.latchVl ch 2 67 (some 3) else s.latchVl ch 3 69 (some 3)
      .next (s.settleBank (ch / 4)).noteIlk

/-- VL_CLAMP_FAULT: fault 5, OFF with SLOW decay. -/
def execVlClampFault (ch : Nat) (s : State) : Out :=
  if ch ≥ 16 then .fault .noSuchUnit
  else if !(s.vlConf ch).en then .next s
  else .next ((s.latchVl ch 5 77 (some 0)).settleBank (ch / 4)).noteIlk

/-- BANK_COMPARATOR_TRIP (R229). -/
def execBankComparatorTrip (bank : Nat) (s : State) : Out :=
  if bank ≥ 4 then .fault .noSuchUnit else .next ((s.bankFault bank).settleBank bank).noteIlk

/-! ### Coil tests (R226) -/

/-- VL_DIAG_PHASE_END: step 1 ends by reaching ITEST or by its 20 ms, whose fault stands though the test is abandoned in that quantum
(R223); step 2 ends by its 20 ms, after which a channel that has been turned on meanwhile goes to WAIT (R300, Table 10-5). -/
def execVlDiagPhaseEnd (ch : Nat) (obs : DiagObs) (s : State) : Out :=
  if ch ≥ 16 then .fault .noSuchUnit
  else
    let c := s.vlCh ch
    let vact : Rat := (obs.vactMv : Rat) / 1000
    let itest : Rat := (c.diag.getD 4 : Rat) / 200
    let i : Rat := (c.prevI : Rat) / 10000
    let met := s.phaseMet ch
    if met.1 != .diag then .next s
    else if c.phase == .off then
      .next (if obs.timeout && !met.2.2 && tbAdd met.2.1 20000 = s.tb then ((s.latchVl ch 1 66 none).settleBank (ch / 4)).noteIlk else s)
    else if c.diagReg then
      let s := s.jump (tbAdd c.phaseAt 20000)
      let s := s.onVl ch fun c => if c.iSum > 0 then { c with rest := some (c.vdSum / c.iSum), rnow := some (c.vdSum / c.iSum) } else c
      let s := s.turnOff ch (some 1)
      let s := { s with vl := { s.vl with diagnew := putBit s.vl.diagnew ch true } }
      .next ((((s.flag 0xF00 (wN (2 ^ (16 + ch)))).raise 76).reconcile ch).settleBank (ch / 4))
    else if obs.timeout then
      let s := s.jump (tbAdd c.phaseAt 20000)
      .next ((s.latchVl ch 1 66 none).settleBank (ch / 4)).noteIlk
    else if i < itest then .next s
    else
      .next (s.onVl ch fun c =>
        (({ c.fit (s.vlT ch) with piok := c.piok, pullAt := c.pullAt, diagReg := true, phaseAt := s.tb, u := 0, carry := 0, satRun := 0, hiRun := 0 }).regulate
          itest i vact (s.vlT ch)))

/-- Once per round a channel in HOLD refits R_est from its mean duty and current (R212). -/
def State.roundVl (s : State) : State :=
  { s with vl := { s.vl with ch := updAll s.vl.ch fun _ c =>
      if c.phase == .hold && c.iSum > 0 then { c with rnow := some (c.vdSum / c.iSum), vdSum := 0, iSum := 0 } else c } }

/-! ### Commands (Table 10-7) -/

/-- VL_CONFIG. -/
def cmdVlConfig (c : Ctx) (s : State) : State × Ans :=
  let p := c.p
  let n := u8 p 0
  let ch := s.vlCh n
  let off := u8 p 1 = 0
  stagedCmd 0x40
    [(n > 15, badParam 0), (u8 p 1 > 1, badParam 1), (u8 p 2 < 10 || u8 p 2 > 250, badParam 2),
     (u8 p 3 < 10 || u8 p 3 > 240, badParam 3), (5 * u8 p 3 ≥ 10 * u8 p 2, badParam 0xFF), (u16 p 4 < 5 || u16 p 4 > 2000, badParam 4),
     (u8 p 6 > 6, badParam 6), (u8 p 7 > 1, badParam 7), (u8 p 9 < 5 || u8 p 9 > 200, badParam 9), (u8 p 11 > 1, badParam 11),
     (!(setVlConfig p s.futureVl).budgetOk, badParam 0xFF)]
    [(off && (s.com.cfg.vl.setp.getLsbD n || ch.phase == .diag), refused stConflict),
     (off && (nth s.com.cfg.vl.chans n {}).en && s.names (0x40 + n), refused stConflict)] [] c s

/-- VL_SET: each entry counts as one write (R76). [DEDUCED, log 50] -/
def cmdVlSet (c : Ctx) (s : State) : State × Ans :=
  let p := c.p
  let n := u8 p 0
  let f := s.futureVl
  guarded
    (chk (n < 1 || n > 16) (badParam 0) ++
     ((List.range n).flatMap fun i =>
       chk (!(nth f.chans (u8 p (1 + 2 * i)) {}).en) (badParam (1 + 2 * i)) ++ chk (u8 p (2 + 2 * i) > 2) (badParam (2 + 2 * i))) ++
     [(s.notActive, refused stNotActive), ((vlEntries p).any fun e => s.serviceOwned (0x40 + e.1), refused stConflict),
      (s.stageFull n, refused stBusy)]) s
    (s, .commit ((vlEntries p).map fun e => .cmd 0x41 (le 1 1 ++ le 1 e.1 ++ le 1 e.2)) [])

/-- VL_DECAY. -/
def cmdVlDecay (c : Ctx) (s : State) : State × Ans :=
  let p := c.p
  stagedCmd 0x42
    [(u8 p 0 > 15 && u8 p 0 != 0xFF, badParam 0), (u8 p 1 > 2, badParam 1), (u8 p 2 > 2, badParam 2), (u8 p 3 > 2, badParam 3),
     (u8 p 4 > 2, badParam 4), (u8 p 5 < 10 || u8 p 5 > 90, badParam 5)] [] [] c s

/-- VL_DUTY. -/
def cmdVlDuty (c : Ctx) (s : State) : State × Ans :=
  let p := c.p
  stagedCmd 0x43
    [(u8 p 0 > 15, badParam 0), (u8 p 2 < 5 || u8 p 2 > 100, badParam 2), (u8 p 3 > 1, badParam 3)] [] [] c s

/-- VL_BANK. -/
def cmdVlBank (c : Ctx) (s : State) : State × Ans :=
  let p := c.p
  stagedCmd 0x44
    [(u8 p 0 > 3, badParam 0), (u8 p 1 > 1, badParam 1), (u8 p 2 < 20 || u8 p 2 > 100, badParam 2),
     (u8 p 3 < 20 || u8 p 3 > 60, badParam 3), (u8 p 4 > 100, badParam 4),
     (!(setVlBank p s.futureVl).budgetOk, badParam 0xFF)] [] [] c s

/-- VL_DIAG: LOCKED in a latched shutdown, FAULT in another (Thermal Protection). [DEDUCED, log 50] -/
def cmdVlDiag (c : Ctx) (s : State) : State × Ans :=
  let n := u8 c.p 0
  let ch := s.vlCh n
  guarded
    [(n > 15, badParam 0), (u8 c.p 1 < 4 || u8 c.p 1 > 40, badParam 1), (s.aon.thermLatched, refused stLocked),
     (s.notActive, refused stNotActive),
     (s.serviceOwned (0x40 + n), refused stConflict),
     (!(s.vlConf n).en || ch.phase != .off || s.com.cfg.vl.setp.getLsbD n || ch.diagReq.isSome ||
       (!s.hk.shut && !s.bankRuns (n / 4)), refused stConflict),
     (ch.fault != 0 || s.hk.shut, refused stFault)] s
    (s.onVl n fun c' => { c' with diagReq := some (u8 c.p 1), diagArmed := false }, .now stOk [])

/-- VL_CLEAR. -/
def cmdVlClear (c : Ctx) (s : State) : State × Ans := stagedCmd 0x47 [(u8 c.p 2 > 15, badParam 2)] [] [] c s

/-! ### Registers and status (R233) -/

/-- VLSTn. -/
def State.vlst (s : State) (n : Nat) : Nat :=
  let c := s.vlCh n
  c.fault * 2 ^ 20 + b2n (s.com.cfg.vl.setp.getLsbD n) * 2 ^ 19 + b2n c.rstpend * 2 ^ 18 + b2n c.dutylim * 2 ^ 17 +
  b2n (s.ilk.gVl.getLsbD n) * 2 ^ 16 + b2n c.sat * 2 ^ 15 + b2n c.piok * 2 ^ 14 + b2n c.nopi * 2 ^ 13 +
  b2n (s.vlBk (n / 4)).shared * 2 ^ 12 + c.phase.code * 16

/-- DUTY of the last period in 0.01 %. -/
def VlChan.duty100 (c : VlChan) : Nat := (roundHalfAway (10000 * c.duty)).toNat
/-- RCOIL: R_est less 0.35 Ω in 10 mΩ, 0 without an estimate. -/
def VlChan.rcoil (c : VlChan) : Nat :=
  match c.rnow with
  | none => 0
  | some r => (clampI 0 65535 (roundHalfAway (100 * (r - 35 / 100)))).toNat
/-- LCOIL in 0.1 mH. -/
def VlChan.lcoil (c : VlChan) : Nat :=
  match c.lest with
  | none => 0
  | some l => (clampI 0 65535 (roundHalfAway (10000 * l))).toNat
/-- On-quanta of the present window. -/
def VlChan.usedNow (c : VlChan) (t : Nat) : Nat :=
  match c.usedFrom with
  | some t0 => if c.inWin then c.used + tbSub t t0 else c.used
  | none => c.used

/-- VLBKSTb. -/
def State.vlbkst (s : State) (b : Nat) : Nat :=
  let k := s.vlBk b
  let waiting := fun n => k.queue.contains n
  let map := fun (f : Nat → Bool) => ((List.range 4).map fun i => b2n (f (4 * b + i)) * 2 ^ i).sum
  map waiting * 2 ^ 28 + map (fun n => (s.vlCh n).energised) * 2 ^ 24 + ((k.slot.map (· % 4)).getD 0) * 2 ^ 22 +
  b2n k.slot.isSome * 2 ^ 21 + b2n k.shared * 2 ^ 20 + b2n k.limit * 2 ^ 19 + b2n k.bfault * 2 ^ 18 + b2n (s.bankRuns b) * 2 ^ 17

/-- VLBKCURb. -/
def State.vlbkcur (s : State) (b : Nat) : Nat :=
  ((s.vlBk b).imean % 65536).toNat * 65536 + ((s.vlBk b).imax % 65536).toNat

/-- VLFMAP. -/
def State.vlfmap (s : State) : Nat :=
  ((List.range 16).map fun n => b2n ((s.vlCh n).fault != 0) * 2 ^ n).sum +
  ((List.range 4).map fun b => b2n (s.vlBk b).bfault * 2 ^ (16 + b)).sum

/-- VL_STATUS. -/
def cmdVlStatus (c : Ctx) (s : State) : State × Ans :=
  let n := u8 c.p 0
  let ch := s.vlCh n
  if n < 16 then
    (s, .now stOk (le 1 ch.phase.code ++ le 1 (s.vlst n / 2 ^ 12 % 256) ++ le 1 ch.fault ++ leI 2 ch.imean ++ le 2 ch.duty100 ++
      le 2 ch.pitime ++ le 2 ch.boostt ++ le 2 ch.rcoil ++ le 2 ch.lcoil ++ le 4 (ch.usedNow s.tb / 1000) ++ wBytes ch.boosts ++
      le 2 ch.nopicnt))
  else if n < 0x14 then
    (s, .now stOk (le 4 (s.vlbkst (n - 16)) ++ le 4 (s.vlbkcur (n - 16)) ++ wBytes (s.vlBk (n - 16)).waitlast))
  else (s, badParam 0)

end Sys2Proof.Machine
end

