-- ==== Sys2Proof/Machine/Pavane.lean ====
section
/-! DEFINITION. Asking the Pavane for units: what a unit needs, what holds it stopped, its place in the order (R49, R50,
R53, R59, Table 03-4, Table 03-9). -/

namespace Sys2Proof.Machine

/-- The PMUN bits of a list. -/
def unitMask (us : List Nat) : BitVec 14 := us.foldl (fun m i => putBit m i true) 0

/-- Drive-die bias and the valve banks. -/
def driveUnits : BitVec 14 := unitMask [6, 10, 11, 12, 13]

/-- Field-side power transfer, display rails and backlight. [DEDUCED, log 26] -/
def pfwStops : BitVec 14 := unitMask [7, 8, 9]

/-- The units that a unit needs among those of PMUN, beside the PLL (R53). -/
def unitNeeds (i : Nat) : BitVec 14 :=
  if i = 6 || i = 8 then unitMask [1] else if 10 ≤ i && i ≤ 13 then unitMask [1, 6] else 0

/-- A set of units with all that they need, the PLL included. -/
def withNeeds (m : BitVec 14) : BitVec 14 :=
  if m = 0 then 0
  else (List.range 14).foldl (fun a i => if m.getLsbD i then a ||| unitNeeds i else a) m ||| unitMask [0]

/-- The units that nothing may start now: the drive die's without VACT (R49) or in a thermal shutdown (R454), the three
of a power-fail warning (R59). [DEDUCED, log 28] -/
def State.barred (s : State) : BitVec 14 :=
  (if !s.pw.vactOk || s.hk.shut then driveUnits else 0) ||| (if s.pw.pfw then pfwStops else 0)

/-- Step 1 of a Pavane in progress: the PLL begins to lock where it does not run; no step is taken in an overload (R48, R50). -/
def State.startPll (s : State) : State :=
  if s.pw.pav.isSome && s.awake && !s.runs 0 && !s.pw.overload then { s with pw := { s.pw with pllStart := true } } else s

/-- A start of units: those not running join the Pavane in progress at their places, or a warm Pavane of their own; those
held stopped wait (R53). With MODE 0 no display rail starts (R419). Before the recall nothing starts (Table 01-3): the cold Pavane takes what is called for. Bias whose place has passed follows later than a bank still to come.
[DEDUCED, log 27] [DESIGN CHOICE, log 105] -/
def State.callUnits (mask : BitVec 14) (s : State) : State :=
  if !s.awake || !s.store.recalled then s
  else
    let mask := if s.applied.dsp.conf.mode = 0 then putBit mask 8 false else mask
    let want := withNeeds mask &&& ~~~s.pw.pmun
    let bar := want &&& s.barred
    let m := want &&& ~~~bar
    let s := { s with pw := { s.pw with barUnits := s.pw.barUnits ||| bar } }
    if m = 0 then s
    else
      match s.pw.pav with
      | none => ({ s with pw := { s.pw with pav := some { todo := m, due := s.tb } } } : State).startPll
      | some p =>
        let now := unitMask ((List.range 14).filter fun i => m.getLsbD i && i + 1 > p.last)
        { s with pw := { s.pw with pav := some { p with todo := p.todo ||| now, next := p.next ||| (m &&& ~~~now) } } }

/-- Units taken out of a running Pavane. -/
def State.takeOut (mask : BitVec 14) (s : State) : State :=
  { s with pw := { s.pw with pav := s.pw.pav.map fun p => { p with todo := p.todo &&& ~~~mask, next := p.next &&& ~~~mask } } }

/-- Units taken out of a running Pavane and of those that wait (R53). -/
def State.dropUnits (mask : BitVec 14) (s : State) : State :=
  ({ s with pw := { s.pw with barUnits := s.pw.barUnits &&& ~~~mask } } : State).takeOut mask

end Sys2Proof.Machine
end

