-- ==== Sys2Proof/Machine/Presence.lean ====
section
/-! DEFINITION. Presence front end: sampling, excursions, motion pulses, faults, wake comparators (R187 to R202). -/

namespace Sys2Proof.Machine

/-! ### Configuration (Table 09-2) -/

/-- PR_CONFIG committed. -/
def setPrConfig (p : Bytes) (c : PrCfg) : PrCfg :=
  if u8 p 0 = 0 then { c with mode := u8 p 1, awake := u16 p 2, warmup := u8 p 4 }
  else
    { c with chans := upd c.chans (u8 p 1) fun k =>
        { k with en := u8 p 2 == 1, zone := u8 p 3, load := u8 p 4, gain := u8 p 5, th := u16 p 6, minw := u8 p 8, pc := u8 p 9,
                 pcwin := u16 p 10, holdoff := u16 p 12 } }

/-- PR_WAKE committed. -/
def setPrWake (p : Bytes) (c : PrCfg) : PrCfg :=
  { c with chans := upd c.chans (u8 p 0) fun k => { k with wen := u8 p 1 == 1, wth := u8 p 2, wcredit := u8 p 3 == 1 } }

/-! ### Access -/

def State.onPr (n : Nat) (f : PrChan → PrChan) (s : State) : State :=
  { s with pres := { s.pres with ch := upd s.pres.ch n f } }
def State.prCh (s : State) (n : Nat) : PrChan := nth s.pres.ch n {}
def State.prConf (s : State) (n : Nat) : PrChCfg := nth s.applied.pr.chans n {}

/-- The front end samples: from Pavane step 2 on, while sampling runs (R188, R196). -/
def State.presRuns (s : State) : Bool := s.phase == .run && s.runs 1 && s.pres.sampling

/-- An input is being sampled. -/
def State.prSampled (s : State) (n : Nat) : Bool := s.presRuns && (s.prConf n).en

/-- An input at a start (Table 09-1): first sample to come, not armed, filter to be set. [DEDUCED, log 80] -/
def PrChan.start (c : PrChan) : PrChan :=
  { c with firstAt := none, armed := false, pos := {}, neg := {}, ovrNow := false, blankAt := none, badRun := 0, goodAt := none }

/-- An input that a commit restarts: window and hold-off are discarded (R200). -/
def PrChan.restart (c : PrChan) : PrChan := { c.start with winAt := none, winCnt := 0, holdAt := none }

/-- The bias of each group: while unit 1 runs on for an enabled input of the group, else for one with presence wake (R187,
Table 02-3). [DEDUCED, log 80] -/
def State.prBias (s : State) : State :=
  let run := s.phase == .run && s.runs 1
  let on := fun (g : Nat) => (List.range 4).any fun i => (s.prConf (4 * g + i)).en && (run || (s.prConf (4 * g + i)).wen)
  { s with pres := { s.pres with ch := updAll s.pres.ch fun n c =>
      { c with biasAt := if on (n / 4) then some (c.biasAt.getD s.tb) else none } } }

/-- Every input at a start of sampling, whether unit 1 already runs or is to come (Table 09-1 step 1). [DEDUCED, log 80] -/
def State.startSampling (s : State) : State :=
  { s with pres := { s.pres with sampling := true, ch := updAll s.pres.ch fun _ c => c.start } }

/-- Sampling is to run for an AWAKE period from now (R196). -/
def State.wantSampling (s : State) : State := { s.startSampling with pres := { s.startSampling.pres with awakeAt := some s.tb } }

/-- In MODE 1 the AWAKE seconds since the last motion pulse, credit or start have not lapsed (R196). -/
def State.prAwake (s : State) : Bool := s.pres.awakeAt.any fun t => inWindow s.tb t (1000000 * s.applied.pr.awake)

/-- Sampling stops. -/
def State.stopPresence (s : State) : State := { s with pres := { s.pres with sampling := false } }

/-! ### Motion (R191 to R193, R198) -/

/-- A motion pulse or wake credit dated t (R192, R198): it opens the hold-off; in DOZE its PR_MOTION waits for the next NAP. -/
def State.motionPulse (n t : Nat) (credit : Bool) (s : State) : State :=
  let len := 100000 * (s.prConf n).holdoff
  let s := s.onPr n fun c =>
    { c with rcnt := satInc c.rcnt 65535, rbefore := c.rcnt, total := c.total + 1, lastAt := t, lsrc := b2n credit, winAt := none, winCnt := 0
             holdAt := if len = 0 then none else some t, holdLen := len }
  ({ s with pres := { s.pres with mot := putBit s.pres.mot n true, awakeAt := some t, owed := s.pres.owed || s.phase == .doze } } : State).raise 52

/-- An excursion qualifies in this quantum (R192): ignored in the hold-off, counted in the open window, or it opens one. -/
def State.excursion (n : Nat) (s : State) : State :=
  let c := s.prCh n
  let k := s.prConf n
  let held := match c.holdAt with
    | none => false
    | some t => inWindow s.tb t c.holdLen
  let open_ := match c.winAt with
    | none => false
    | some t => inWindow s.tb t c.winLen
  if held then s
  else
    let s := if open_ then s.onPr n fun c => { c with winCnt := c.winCnt + 1 }
      else s.onPr n fun c => { c with winAt := some s.tb, winLen := 1000 * k.pcwin, winCnt := 1 }
    if (s.prCh n).winCnt ≥ k.pc then s.motionPulse n s.tb false else s

/-- One sign's detection with a sample of m in that sign (R191): an excursion begins beyond TH, after |s| has been below TH / 2 since
the one before; it qualifies with the MINW-th consecutive sample. One that falls to TH or below before that ends, and the next waits for
TH / 2 as well. [DESIGN CHOICE, log 107] -/
def Excursion.feed (e : Excursion) (m : Int) (th minw : Nat) : Excursion × Bool :=
  let e := if 2 * m.natAbs < th then { e with spent := false } else e
  if m > th then
    if e.run = 0 && e.spent then (e, false)
    else
      let n := min (e.run + 1) 100
      if !e.done && n ≥ minw then ({ run := n, done := true, spent := true }, true)
      else ({ e with run := n, spent := true }, false)
  else ({ e with run := 0, done := false }, false)

/-- tan(ω_h T / 2) of R189's high-pass at 1 kSa/s, to thirty decimals. [DESIGN CHOICE, log 12] -/
def tanH : Rat := 628318613401376185334019716 / 10 ^ 30
/-- tan(ω_l T / 2) of R189's low-pass at 1 kSa/s, to thirty decimals. [DESIGN CHOICE, log 12] -/
def tanL : Rat := 25138034303967444411760769760 / 10 ^ 30
/-- The square root of 2, to thirty decimals. [DESIGN CHOICE, log 12] -/
def sqrt2 : Rat := 1414213562373095048801688724210 / 10 ^ 30

/-- One step of the band-pass: the high-pass and the low-pass of R189 by the bilinear transform with prewarping. [DESIGN CHOICE, log 12] -/
def Band.step (b : Band) (x : Rat) : Band × Rat :=
  let h := (x - b.x1 + (1 - tanH) * b.hp) / (1 + tanH)
  let k := tanL * tanL
  let y := (k * (h + 2 * b.h1 + b.h2) - 2 * (k - 1) * b.y1 - (1 - sqrt2 * tanL + k) * b.y2) / (1 + sqrt2 * tanL + k)
  ({ x1 := x, hp := h, h1 := h, h2 := b.h1, y1 := y, y2 := b.y1 }, y)

/-- The code of an output: a whole number, or one of the two next to it. [DESIGN CHOICE, log 12] -/
def bandCode (y : Rat) : Int := if y = (y.floor : Rat) then y.floor else if Config.bandUp y then y.floor + 1 else y.floor

/-- A sample in LSB: 1.0, 0.5, 0.25 and 0.125 µV for GAIN codes 0 to 3 (R189). -/
def prLsb (input : Int) (gain : Nat) : Rat := (input : Rat) / (2 ^ (3 - gain) : Nat)

/-- The band-passed value of a sample, or that it overranges; the high-pass is set to the input level at a start and at the first clean
sample after an overrange (R189, R194). [DEDUCED, log 80] -/
def State.prFilter (n : Nat) (o : PrObs) (s : State) : State × Int × Bool :=
  let c := s.prCh n
  let x := prLsb o.input (s.prConf n).gain
  let (b, y) := (if c.firstAt.isNone then ({ x1 := x } : Band) else c.band).step x
  let up := if o.ovr then decide (o.input ≥ 0) else decide (y > 0)
  let ovr := o.ovr || decide (y > 32767) || decide (y < -32767)
  let b := if c.ovrNow && !ovr then { b with hp := 0 } else b
  (s.onPr n fun c => { c with band := b, firstAt := some (c.firstAt.getD s.tb), tick := some s.tb },
   if ovr then (if up then 0x7FFF else -0x8000) else bandCode y, ovr)

/-- The input's own conditions (R195): its DC level, and its group's bias. [DEDUCED, log 80] -/
def PrChan.condition (c : PrChan) (o : PrObs) (t : Nat) : PrChan :=
  let bad := o.dcMv < 200 || o.dcMv > 1800
  let run := if bad then c.badRun + 1 else 0
  let clean := !bad && !o.biasLimit
  { c with badRun := run, dclvl := o.dcMv, goodAt := if clean then some (c.goodAt.getD t) else none }

/-- A fault begins, of an enabled input or not (R195). -/
def State.prFaultBegin (n : Nat) (s : State) : State :=
  if (s.prCh n).fault then s
  else (s.onPr n fun c => { c with fault := true, armed := false, winAt := none, winCnt := 0, holdAt := none, pos := {}, neg := {} }).raise 54

/-- The detector's work on a clean sample (R191). [DEDUCED, log 80] -/
def State.prDetect (n : Nat) (v : Int) (s : State) : State :=
  let c := s.prCh n
  let k := s.prConf n
  let blank := match c.blankAt with
    | none => false
    | some t => inWindow s.tb t 500000
  if !c.armed || c.fault || blank then s
  else
    let (pos, qp) := c.pos.feed v k.th k.minw
    let (neg, qn) := c.neg.feed (-v) k.th k.minw
    let s := s.onPr n fun c => { c with pos := pos, neg := neg }
    let s := if qp then s.excursion n else s
    if qn then s.excursion n else s

/-- The group's bias at its current limit faults all four inputs; a sample that finds it within its limit starts the clearing time of the
inputs that are not sampled (R195). [DEDUCED, log 80] -/
def State.prGroup (n : Nat) (limit : Bool) (s : State) : State :=
  (List.range 4).foldl (fun s i =>
    let m := 4 * (n / 4) + i
    if limit then (s.onPr m fun c => { c with goodAt := none }).prFaultBegin m
    else if (s.prConf m).en || !(s.prCh m).fault then s
    else s.onPr m fun c => { c with goodAt := some (c.goodAt.getD s.tb) }) s

/-- A sample of one input. An overrange discards the excursion and with it the wait for TH / 2 (R194). [DESIGN CHOICE, log 107] -/
def State.prTake (n : Nat) (o : PrObs) (s : State) : State :=
  let was := (s.prCh n).ovrNow
  let (s, v, ovr) := s.prFilter n o
  let s := s.onPr n fun c =>
    let c := { c.condition o s.tb with ovrNow := ovr, peak := max c.peak v.natAbs }
    if ovr then { c with winAt := none, winCnt := 0, pos := {}, neg := {}, blankAt := some s.tb } else c
  let s := if ovr then { s with pres := { s.pres with ovl := putBit s.pres.ovl n true } } else s
  let s := s.raiseIf (ovr && !was) 55
  let s := s.prGroup n o.biasLimit
  let s := if (s.prCh n).badRun ≥ 100 then s.prFaultBegin n else s
  if ovr then s else s.prDetect n v

/-- PR_SAMPLE: at a whole millisecond, once in it (R188). -/
def execPrSample (ch : Nat) (obs : PrObs) (s : State) : Out :=
  if ch ≥ 16 then .fault .noSuchUnit
  else if !s.prSampled ch then .next s
  else
    let s := s.jump (if s.tb % 1000 = 0 && (s.prCh ch).tick != some s.tb then s.tb else nextMultiple 1000 s.tb)
    .next (latchHold s (s.prTake ch obs))

/-- PR_COUNT_WINDOW_END: the count is discarded (R192). -/
def execPrCountWindowEnd (ch : Nat) (s : State) : Out :=
  if ch ≥ 16 then .fault .noSuchUnit
  else
    match (s.prCh ch).winAt with
    | none => .next s
    | some t => .next ((s.jump (tbAdd t (s.prCh ch).winLen)).onPr ch fun c => { c with winAt := none, winCnt := 0 })

/-- PR_HOLDOFF_END (R192). -/
def execPrHoldoffEnd (ch : Nat) (s : State) : Out :=
  if ch ≥ 16 then .fault .noSuchUnit
  else
    match (s.prCh ch).holdAt with
    | none => .next s
    | some t => .next ((s.jump (tbAdd t (s.prCh ch).holdLen)).onPr ch fun c => { c with holdAt := none })

/-- When an input becomes armed: 1 s after its first sample, WARMUP after its bias came on (R190). -/
def State.armDue (s : State) (n : Nat) : Option Nat :=
  let c := s.prCh n
  match c.firstAt, c.biasAt with
  | some f, some b =>
    let x := tbAdd f 1000000
    let y := tbAdd b (1000000 * s.applied.pr.warmup)
    some (if tbSub y x ≤ 2 ^ 40 then y else x)
  | _, _ => none

/-- PR_ARMED (R190). A faulted input re-arms after its fault has cleared. -/
def execPrArmed (ch : Nat) (s : State) : Out :=
  if ch ≥ 16 then .fault .noSuchUnit
  else
    match s.armDue ch with
    | none => .next s
    | some t =>
      if (s.prCh ch).armed || (s.prCh ch).fault || !s.prSampled ch then .next s
      else
        let s := s.jump t
        .next (latchHold s (s.onPr ch fun c => { c with armed := true, pos := {}, neg := {} }))

/-- PR_BLANK_END: 500 ms after the last overranging sample (R194). -/
def execPrBlankEnd (ch : Nat) (s : State) : Out :=
  if ch ≥ 16 then .fault .noSuchUnit
  else
    match (s.prCh ch).blankAt with
    | none => .next s
    | some t => .next ((s.jump (tbAdd t 500000)).onPr ch fun c => { c with blankAt := none })

/-- PR_FAULT_CLEAR: after 1 s within the conditions the input re-arms under R190 (R195). -/
def execPrFaultClear (ch : Nat) (s : State) : Out :=
  if ch ≥ 16 then .fault .noSuchUnit
  else
    match (s.prCh ch).goodAt with
    | none => .next s
    | some t =>
      if !(s.prCh ch).fault then .next s
      else .next ((s.jump (tbAdd t 1000000)).onPr ch fun c => { c with fault := false, firstAt := none, armed := false })

/-- PR_AWAKE_LAPSE: in MODE 1 sampling stops AWAKE seconds after the last motion or start (R196). -/
def execPrAwakeLapse (s : State) : Out :=
  if s.applied.pr.mode != 1 || !s.pres.sampling then .next s
  else
    let s := s.jump (tbAdd (s.pres.awakeAt.getD s.tb) (1000000 * s.applied.pr.awake))
    .next (latchHold s s.stopPresence)

/-- PR_WAKE_COMPARATOR: in DOZE and NAP, while the input is not sampled, at most once a second (R197, R198). In DOZE the
event is held under R129; a credit is counted with the stamp of the detecting period. -/
def execPrWakeComparator (ch : Nat) (s : State) : Out :=
  if ch ≥ 16 then .fault .noSuchUnit
  else
    let c := s.prCh ch
    let k := s.prConf ch
    let rested := match c.wkAt with
      | none => true
      | some t => tbSub s.tb t ≥ 1000000
    if !k.en || !k.wen || !rested || s.prSampled ch || (s.phase != .doze && s.phase != .nap) then .next s
    else
      let s := (s.onPr ch fun c => { c with wkAt := some s.tb }).raise 53
      let s := { s with pres := { s.pres with wkf := putBit s.pres.wkf ch true } }
      let s := if k.wcredit then s.motionPulse ch s.tb true else s
      .next (latchHold s (if s.applied.pr.mode = 1 && s.phase == .nap then s.wantSampling.callUnits (unitMask [1]) else s))

/-- The round count returns to 0 in the boundary quantum; a motion pulse dated in it belongs to the round that begins (R193).
[DESIGN CHOICE, log 96] -/
def State.roundPresence (s : State) : State :=
  let f := fun (c : PrChan) => if c.rcnt != 0 && c.lastAt == s.tb then { c with lcnt := c.rbefore, rcnt := 1 } else { c with lcnt := c.rcnt, rcnt := 0 }
  { s with pres := { s.pres with ch := updAll s.pres.ch fun _ c => f c } }

/-! ### Applying commits (R200) -/

/-- The presence configuration put in force: inputs whose LOAD, GAIN, EN, WEN or WTH changed restart, and a start by configuration lets
sampling run, as does a new AWAKE that has not lapsed (R196, R200); a fault ends with EN alone. [DEDUCED, log 80]
[DESIGN CHOICE, log 107] -/
def State.applyPr (new : PrCfg) (s : State) : State :=
  let old := s.applied.pr
  let key := fun (k : PrChCfg) => (k.load, k.gain, k.en, k.wen, k.wth)
  let s := { s with applied := { s.applied with pr := new } }
  let f := fun (n : Nat) (c : PrChan) =>
    let a := nth old.chans n {}
    let b := nth new.chans n {}
    if key a = key b then c
    else { c.restart with total := if a.en then c.total else 0, fault := c.fault && b.en }
  let s := { s with pres := { s.pres with ch := updAll s.pres.ch f } }
  let s := s.prBias
  let begun := (List.range 16).any fun n => (nth new.chans n {}).en && key (nth old.chans n {}) != key (nth new.chans n {})
  if old.mode = new.mode && !begun then
    (if new.mode = 1 && old.awake != new.awake && !s.pres.sampling && s.prAwake then s.startSampling else s)
  else if s.pres.sampling then { s with pres := { s.pres with awakeAt := some s.tb } }
  else s.wantSampling

/-! ### Commands -/

/-- PR_CONFIG. -/
def cmdPrConfig (c : Ctx) (s : State) : State × Ans :=
  let p := c.p
  if u8 p 0 = 0 then
    stagedCmd 0x38
      [(u8 p 1 > 1, badParam 1), (u16 p 2 < 5 || u16 p 2 > 3600, badParam 2), (u8 p 4 > 60, badParam 4)] [] [] c s
  else
    let n := u8 p 1
    let old := nth s.com.cfg.pr.chans n {}
    let touches := (old.en && u8 p 2 == 0) || u8 p 3 != old.zone
    let named := s.names (0x20 + n) || (old.zone < 16 && (s.com.body 1 old.zone).isSome)
    stagedCmd 0x38
      [(u8 p 0 > 1, badParam 0), (n > 15, badParam 1), (u8 p 2 > 1, badParam 2),
       ((u8 p 3 > 15 && u8 p 3 != 0xFF) || (s.pers == .transport && u8 p 3 != 0xFF), badParam 3),
       (u8 p 4 > 3, badParam 4), (u8 p 5 > 3, badParam 5), (u16 p 6 < 1 || u16 p 6 > 32767, badParam 6),
       (u8 p 8 < 1 || u8 p 8 > 100, badParam 8), (u8 p 9 < 1 || u8 p 9 > 8, badParam 9),
       (u16 p 10 < 100 || u16 p 10 > 10000, badParam 10), (u16 p 12 > 600, badParam 12)]
      [(s.pers == .service && touches && named, refused stConflict)] [] c s

/-- The presence configuration that results once every write already staged has committed. -/
def State.futurePr (s : State) : PrCfg :=
  s.staged.foldl (fun c w => match w.w with
    | .cmd 0x38 p => setPrConfig p c
    | .cmd 0x39 p => setPrWake p c
    | _ => c) s.com.cfg.pr

/-- PR_WAKE. -/
def cmdPrWake (c : Ctx) (s : State) : State × Ans :=
  let p := c.p
  stagedCmd 0x39
    [(u8 p 0 > 15, badParam 0),
     (u8 p 1 > 1 || (u8 p 1 == 1 && !(nth s.futurePr.chans (u8 p 0) {}).en), badParam 1),
     (u8 p 2 < 1 || u8 p 2 > 50, badParam 2), (u8 p 3 > 1, badParam 3)] [] [] c s

/-- FLAGS of PR_STATUS. -/
def State.prFlags (s : State) (n : Nat) : Nat :=
  let c := s.prCh n
  let k := s.prConf n
  let sampled := s.prSampled n
  let within := fun (t : Option Nat) (d : Nat) => t.any fun t => inWindow s.tb t d
  b2n k.en + 2 * b2n c.armed + 4 * b2n c.fault + 8 * b2n c.ovrNow + 16 * b2n (within c.blankAt 500000) + 32 * b2n (within c.holdAt c.holdLen) +
  64 * b2n sampled + 128 * b2n (k.en && k.wen && !sampled)

/-- PR_STATUS: the latches it reports are cleared as it is composed. -/
def cmdPrStatus (c : Ctx) (s : State) : State × Ans :=
  let n := u8 c.p 0
  if n = 0xFF then
    let flt := ((List.range 16).map fun i => b2n (s.prCh i).fault * 2 ^ i).sum
    ({ s with pres := { s.pres with mot := 0, ovl := 0, wkf := 0 } },
     .now stOk (le 2 s.pres.mot.toNat ++ le 2 flt ++ le 2 s.pres.ovl.toNat ++ le 2 s.pres.wkf.toNat ++
       le 1 (b2n s.presRuns)))
  else if n > 15 then (s, badParam 0)
  else
    let ch := s.prCh n
    (s.onPr n fun c => { c with peak := 0 },
     .now stOk (le 1 (s.prFlags n) ++ le 1 ch.winCnt ++ le 2 ch.rcnt ++ le 2 ch.lcnt ++ wBytes ch.total ++ le 6 ch.lastAt ++
       le 1 ch.lsrc ++ le 2 ch.peak ++ le 2 ch.dclvl))

end Sys2Proof.Machine
end

