-- ==== Sys2Proof/Machine/SarSeq.lean ====
section
/-! DEFINITION. The SAR converter and its sequencer: three ports, corrected codes, integrator sequences, CAL_SELF (R168 to
R186). -/

namespace Sys2Proof.Machine

/-! ### Configuration (Table 08-3) -/

/-- SAR_SEQ committed. -/
def setSarSeq (p : Bytes) (c : SarCfg) : SarCfg :=
  { c with seqs := upd c.seqs (u8 p 0) fun _ => (List.range (u8 p 1)).map fun i => (u8 p (2 + 2 * i), u8 p (3 + 2 * i)) }

/-- SAR_TRIG committed. -/
def setSarTrig (p : Bytes) (c : SarCfg) : SarCfg :=
  { c with trigs := upd c.trigs (u8 p 0) fun _ =>
      { src := u8 p 1, unit := u8 p 2, delay := u16 p 3, period := u32 p 5, phase := u32 p 9 } }

/-- SAR_START and SAR_STOP committed: the set of started sequences, which is saved (R182). -/
def setSarStarted (opc : Nat) (p : Bytes) (c : SarCfg) : SarCfg :=
  let m := BitVec.ofNat 8 (u8 p 0)
  { c with started := if opc = 0x33 then c.started ||| m else c.started &&& ~~~m }

/-- The integrator configuration that results once every write already staged has committed (R177). -/
def State.futureSar (s : State) : SarCfg :=
  s.staged.foldl (fun c w => match w.w with
    | .cmd opc p =>
      if opc = 0x30 then setSarSeq p c else if opc = 0x31 then setSarTrig p c
      else if opc = 0x33 || opc = 0x34 then setSarStarted opc p c else c
    | _ => c) s.com.cfg.sar

/-- AVG and ACQ of an option byte (R173). -/
def optAvg (opt : Nat) : Nat := 2 ^ (opt / 32 % 4)
def optAcq (opt : Nat) : Nat := opt % 16
def optLeft (opt : Nat) : Bool := opt ≥ 128

/-- Rate of a trigger source for R177 in 1/s (Table 08-2). -/
def SarTrig.rate (t : SarTrig) : Rat :=
  if t.src = 1 then (if t.period = 0 then 0 else 1000000 / (t.period : Rat))
  else if t.src = 2 || t.src = 3 then 40000 else if t.src = 4 || t.src = 5 then 25000 else 0

/-- The demand of one sequence (R177). -/
def SarCfg.demand (c : SarCfg) (k : Nat) : Rat :=
  let ns := ((nth c.seqs k []).map fun e => optAvg e.2 * (500 + 250 * optAcq e.2)).sum
  (ns : Rat) / 1000000000 * (nth c.trigs k {}).rate

/-- R177: the started sequences ask for no more than 0.40. -/
def SarCfg.demandOk (c : SarCfg) : Bool :=
  decide ((((List.range 8).filter fun k => c.started.getLsbD k).map c.demand).sum ≤ 40 / 100)

/-! ### Access -/

def State.onSar (f : Sar → Sar) (s : State) : State := { s with sar := f s.sar }
def State.onSeq (k : Nat) (f : SarSeq → SarSeq) (s : State) : State :=
  { s with sar := { s.sar with seqs := upd s.sar.seqs k f } }
def State.sarSeq (s : State) (k : Nat) : SarSeq := nth s.sar.seqs k {}

/-! ### Choosing the next conversion (R170) -/

/-- Order of regulation requests: oldest due instant, ICOIL before IBANK, lower channel first. -/
def regBefore (a b : Nat × Nat × Nat) : Bool :=
  let d := tbSub b.2.1 a.2.1
  (d != 0 && d ≤ 2 ^ 40) || (d == 0 && (a.2.2 < b.2.2 || (a.2.2 == b.2.2 && a.1 ≤ b.1)))

/-- A request in its place in the queue. -/
def regInsert (r : Nat × Nat × Nat) : List (Nat × Nat × Nat) → List (Nat × Nat × Nat)
  | [] => [r]
  | x :: xs => if regBefore x r then x :: regInsert r xs else r :: x :: xs

/-- The highest waiting conversion, and whether a regulation request leaves its queue for it. -/
def Sar.pick (a : Sar) : Option SarCur × List (Nat × Nat × Nat) :=
  match a.regq with
  | (u, _) :: rest => (some (.reg u), rest)
  | [] =>
    match a.hkq with
    | c :: _ => (some (.hk c), [])
    | [] =>
      if a.calRun then (some .cal, [])
      else (((List.range 8).find? fun k => (nth a.seqs k {}).pend).map SarCur.seq, [])

/-- A conversion begins if the converter is free and no recovery gap runs. -/
def Sar.begin (a : Sar) : Sar :=
  if a.cur.isSome || a.gap then a
  else
    let (c, q) := a.pick
    match c with
    | some (.reg _) => { a with cur := c, regq := q }
    | _ => { a with cur := c }

/-! ### Codes (R178, R179) -/

/-- An input with a signed format (Table 08-1). -/
def sarSigned (ch : Nat) : Bool := ch < 0x14 || ch = 0x41

/-- The corrected code of a raw one, not rounded (R178). -/
def SarFactors.correct (f : SarFactors) (ch : Nat) (d : Int) : Rat :=
  let (g, o) := if sarSigned ch then (f.gainD, f.ofsD) else (f.gainU, f.ofsU)
  ((16 * d - o : Int) : Rat) * (g : Rat) / 17179869184

/-- The code of an overrange (R179). -/
def overCode (ch : Nat) (above : Bool) : Int :=
  if sarSigned ch then (if above then 32767 else -32768) else (if above then 65535 else 0)

/-- A code held in its format's range (R178). -/
def clampCode (ch : Nat) (x : Int) : Int := if sarSigned ch then clampI (-32768) 32767 x else clampI 0 65535 x

/-- The factors of a conversion that ends now: one sampled before the completion quantum of a CAL_SELF uses those before it (R181). -/
def State.sarFactors (s : State) (o : SarObs) : SarFactors :=
  if o.earlier && s.sar.calEnd == some s.tb then s.sar.oldF else s.unit.factors

/-- A single conversion's corrected code. -/
def State.sarCode (s : State) (ch : Nat) (o : SarObs) : Int :=
  match o.ovr with
  | some up => overCode ch up
  | none => clampCode ch (roundHalfAway ((s.sarFactors o).correct ch o.raw))

/-- RES of an entry: right aligned, or with eighths, of a negative mean from its floor up (R178). [DESIGN CHOICE, log 103] -/
def alignRes (ch opt : Nat) (mean : Rat) : W32 :=
  if optLeft opt then
    let e := roundHalfAway (8 * mean)
    let lim := clampI (8 * overCode ch false) (8 * overCode ch true) e
    BitVec.ofInt 32 (lim * 8192)
  else wI (clampCode ch (roundHalfAway mean))

/-- RES of an entry that overranged. -/
def alignOver (opt : Nat) (code : Int) : W32 := if optLeft opt then BitVec.ofInt 32 (code * 65536) else wI code

/-! ### Sequences (R173 to R183) -/

/-- The instance in progress discarded. -/
def SarSeq.drop (q : SarSeq) : SarSeq := { q with pend := false, idx := 0, acc := 0, nconv := 0, ovrCode := none, got := [], firstTs := none }

/-- The fabric as it was before the miss of `m` raised SAR_TRIG_MISS, with all else that this quantum has raised; a pulse of an interrupt pad
stays where another source has hit it. -/
def Events.unraise (e : Events) (m : SarMiss) : Events :=
  let now := putBit e.raisedNow 50 m.now
  let pulse := fun (mode en : Bool) (route : BitVec 128) (was : PadPulse) => if mode && en && now &&& route != 0 then was.hit m.at_ else was
  { e with st := putBit e.st 50 m.st, ov := putBit e.ov 50 m.ov, raisedNow := now, ovNow := putBit e.ovNow 50 m.ovNow
           padA := pulse e.pulseA e.enA e.routeA m.padA, padB := pulse e.pulseB e.enB e.routeB m.padB }

/-- A trigger that came in the quantum of the post, and before it, is taken after all: its miss is taken back (R175), but for the event, which
another miss of the quantum keeps. [DESIGN CHOICE, log 96] -/
def State.retake (k : Nat) (s : State) : State :=
  match (s.sarSeq k).missAt with
  | none => s
  | some m =>
    if m.at_ != s.tb then s
    else
      let other := fun (q : SarSeq) => q.missAt.any fun x => x.at_ == s.tb
      let s := (s.onSar fun a => { a with trgmiss := a.trgmiss - 1 }).onSeq k fun q => { q with pend := true, missAt := none }
      match (List.range 8).find? fun j => other (s.sarSeq j) with
      | some j => if m.stays then s else s.onSeq j fun q => { q with missAt := some { m with at_ := s.tb } }
      | none => if m.stays then s else { s with ev := s.ev.unraise m }

/-- An instance posts its record; elements beyond its entries are 0 (R183). SAR_OVERRANGE comes with it (R179). [DESIGN CHOICE, log 103] -/
def State.postSeq (k : Nat) (s : State) : State :=
  let q := s.sarSeq k
  let map : BitVec 8 := (List.range 8).foldl (fun m i => putBit m i ((q.got[i]?.map (·.2)).getD false)) 0
  let fresh := (List.range 8).any fun i => map.getLsbD i && !q.lastOvr.getLsbD i
  let res := Vector.ofFn fun i : Fin 8 => ((q.got[i.val]?.map (·.1)).getD 0)
  let s := s.onSeq k fun q =>
    { q.drop with seq := q.seq + 1, cnt := q.got.length, ovrmap := map, stamp := q.firstTs.getD 0, res := res, lastOvr := map }
  let s := s.onSar fun a => { a with new := putBit a.new k true }
  (((s.flag 0xB44 (wN (2 ^ k))).raise 48).raiseIf fresh 49).retake k

/-- A conversion of a sequence's entry ends (R178). -/
def State.seqConversion (k : Nat) (o : SarObs) (s : State) : State :=
  let q := s.sarSeq k
  let es := nth s.applied.sar.seqs k []
  match es[q.idx]? with
  | none => s.onSeq k SarSeq.drop
  | some (ch, opt) =>
    let first := q.idx = 0 && q.nconv = 0
    let ts := if first then some (wN (if o.earlier then tbSub s.tb 1 else s.tb)) else q.firstTs
    let acc := q.acc + (s.sarFactors o).correct ch o.raw
    let ov := match q.ovrCode with
      | some c => some c
      | none => o.ovr.map fun up => overCode ch up
    let n := q.nconv + 1
    if n < optAvg opt then s.onSeq k fun q => { q with acc := acc, nconv := n, ovrCode := ov, firstTs := ts }
    else
      let res := match ov with
        | some c => (alignOver opt c, true)
        | none => (alignRes ch opt (acc / ((n : Nat) : Rat)), false)
      let s := s.onSeq k fun q =>
        { q with idx := q.idx + 1, acc := 0, nconv := 0, ovrCode := none, got := q.got ++ [res], firstTs := ts }
      if (s.sarSeq k).idx ≥ es.length then s.postSeq k else s

/-- A sample of the regulation port posts (R183); a bank's is compared at once (R229). -/
def State.regConversion (u : Nat) (o : SarObs) (s : State) : State :=
  let code := s.sarCode u o
  let post := fun (x : SarSample) => ({ code := code, seq := x.seq + 1, miss := false, ovr := o.ovr.isSome, fresh := true } : SarSample)
  if u < 16 then s.onSar fun a => { a with vl := upd a.vl u post }
  else (s.onSar fun a => { a with bk := upd a.bk (u - 16) post }).bankSample (u - 16) code o.edgeNear

/-- A conversion of the housekeeping port ends; 0x38 to 0x41 have a register (R185), and the channels of Table 21-1 belong to the reading in
progress (R449). -/
def State.hkConversion (ch : Nat) (o : SarObs) (s : State) : State :=
  let code := s.sarCode ch o
  let exact : Rat := match o.ovr with
    | some up => (overCode ch up : Int)
    | none => (s.sarFactors o).correct ch o.raw
  let s := if ch < 0x38 then s else { s with hk := { s.hk with conv := s.hk.conv ++ [(ch, exact)] } }
  s.onSar fun a =>
    { a with hkq := a.hkq.erase ch
             hk := upd a.hk (ch - 0x38) fun x => if ch < 0x38 then x else { x with code := code, seq := x.seq + 1, ovr := o.ovr.isSome } }

/-- A conversion is over; an overranging one starts a recovery gap, whatever port it served (R180). -/
def State.freeSar (beyond : Bool) (s : State) : State :=
  s.onSar fun a =>
    { a with cur := none, gap := beyond, gapAt := if beyond then s.tb else a.gapAt, recgaps := if beyond then a.recgaps + 1 else a.recgaps }

/-- SAR_CONVERSION_END: the conversion in progress ends, and the next is chosen (R170, R178 to R180). The end of an analog output's
readback is the row AO_READBACK. -/
def execSarConversionEnd (obs : SarObs) (s : State) : Out :=
  match s.sar.cur with
  | none => .next s
  | some c =>
    let t := s.freeSar obs.ovr.isSome
    match c with
    | .reg u => .next ((t.regConversion u obs).onSar Sar.begin)
    | .hk ch => if ch < 0x24 then .next s else .next ((t.hkConversion ch obs).onSar Sar.begin)
    | .cal => .next (t.onSar Sar.begin)
    | .seq k => .next ((t.seqConversion k obs).onSar Sar.begin)

/-- SAR_RECOVERY_GAP_END: 1 µs after the conversion that overranged (R180). -/
def execSarRecoveryGapEnd (s : State) : Out :=
  if !s.sar.gap then .next s
  else .next ((s.jump (tbAdd s.sar.gapAt 1)).onSar fun a => ({ a with gap := false } : Sar).begin)

/-- The due instant of a unit's next regulation request, as quantum and 5 ns step in it: one at the midpoint of each carrier period of an
energised channel, one every 50 µs of a running bank (R211). Units 0 to 15 are ICOIL, 16 to 19 IBANK. -/
def State.regDue (s : State) (unit : Nat) : Option (Nat × Nat) :=
  if unit < 16 then
    let c := s.vlCh unit
    if c.energised && c.inPeriod && !c.reqDone then some (tbAdd c.carrierAt (c.period / 2), c.period % 2 * 100) else none
  else if s.bankRuns (unit - 16) then some (tbAdd (s.vlBk (unit - 16)).reqAt 50, 0) else none

/-- The request has been made: one a period, and each 50 µs from the bank's start on. -/
def State.regAsked (unit : Nat) (s : State) : State :=
  if unit < 16 then s.onVl unit fun c => { c with reqDone := true }
  else s.onBank (unit - 16) fun k => { k with reqAt := tbAdd k.reqAt (tbSub s.tb k.reqAt / 50 * 50) }

/-- A regulation request takes its place and preempts an acquisition from another port, which restarts in full; inPhase says that a
conversion phase ran, which nothing preempts (R170). -/
def Sar.request (unit t step : Nat) (inPhase : Bool) (a : Sar) : Sar :=
  let a := { a with regq := regInsert (unit, t, step) a.regq }
  let a := match a.cur with
    | some (.reg _) => a
    | some _ => if inPhase then a else { a with cur := none }
    | none => a
  a.begin

/-- REGULATION_REQUEST_DUE. -/
def execRegulationRequestDue (unit : Nat) (inPhase : Bool) (s : State) : Out :=
  if unit ≥ 20 then .fault .noSuchUnit
  else if !s.runs 1 then .next s
  else
    match s.regDue unit with
    | none => .next s
    | some (due, step) =>
      let s := s.jump due
      .next ((s.regAsked unit).onSar fun a => a.request unit s.tb step inPhase)

/-- REGULATION_REQUEST_DROP: not begun 2 µs after its due instant (R171, R211). -/
def execRegulationRequestDrop (unit : Nat) (s : State) : Out :=
  if unit ≥ 20 then .fault .noSuchUnit
  else
    match s.sar.regq.find? fun r => r.1 == unit with
    | none => .next s
    | some r =>
      let s := s.jump (tbAdd r.2.1 2)
      let miss := fun (x : SarSample) => { x with miss := true }
      let t := s.onSar fun a =>
        let a := { a with regq := a.regq.erase r, regmiss := a.regmiss + 1 }
        if unit < 16 then { a with vl := upd a.vl unit miss } else { a with bk := upd a.bk (unit - 16) miss }
      let keep := fun (m : SarMiss) => { m with stays := true }
      let t := (t.raise 50).onSar fun a => { a with seqs := updAll a.seqs fun _ q => { q with missAt := q.missAt.map keep } }
      .next (if unit < 16 then latchHold s (t.vlMissed unit) else t)

/-- VLn's low-side switch changes within a period (Table 10-2, Table 10-4, R212, R216): in shared mode it chops, in single mode only a
FAST part of the off-interval turns it off. -/
def State.lsChops (s : State) (n : Nat) : Bool :=
  let c := s.vlCh n
  let shared := (s.vlBk (n / 4)).shared
  let partial_ := decide (0 < c.duty) && decide (c.duty < 1)
  match c.phase with
  | .peak => partial_ && (shared || c.decay.boost != 0)
  | .hold => partial_ && (shared || c.decay.hold != 0)
  | .diag => c.diagReg && partial_ && shared
  | .fall => !shared && c.decay.fall == 2
  | .off => !shared && c.decaying && c.offMode == 2
  | .rise => false
  | .wait => false

/-- An edge of VLn's low-side switch, a turn-on or a turn-off, DELAY before now: of its chopping, or of a phase that began since; a rise and
a test begin by turning it on, OFF by turning it off, and the end of a decay may turn it off. [DESIGN CHOICE, log 96] -/
def State.lsEdges (s : State) (n : Nat) (on : Bool) (delay : Nat) : Bool :=
  let c := s.vlCh n
  let began := decide (tbSub s.tb c.phaseAt ≤ 5 * delay / 1000 + 1)
  let kind := match c.phase with
    | .rise => on || delay ≥ 200
    | .diag => on || delay ≥ 200
    | .off => !on || delay ≥ 200
    | .peak => true
    | .fall => true
    | .hold => true
    | .wait => delay ≥ 200
  let ended := !on && c.lsOffAt.any fun t => decide (tbSub s.tb t ≤ 5 * delay / 1000 + 1)
  s.lsChops n || (began && kind) || ended

/-- FNn's pad has changed DELAY before now: within its period, at neither 0 % nor 100 %, or by a change of its duty since (R174).
[DESIGN CHOICE, log 96] -/
def State.fnEdges (s : State) (n delay : Nat) : Bool :=
  let c := nth s.out.fn n {}
  ((nth s.applied.fn n {}).en && c.cur != 0 && c.cur < 10000) || c.edgeAt.any fun t => decide (tbSub s.tb t ≤ 5 * delay / 1000 + 1)

/-- A trigger instant of a started sequence can be due: a software trigger only where SAR_START gave one, an edge only of a
switch or pad that changes (Table 08-2). -/
def State.trigPossible (s : State) (k : Nat) : Bool :=
  let t := nth s.applied.sar.trigs k {}
  if t.src = 0 then !(s.sarSeq k).soft.isEmpty
  else if t.src = 2 || t.src = 3 then s.lsEdges t.unit (t.src == 2) t.delay
  else if t.src = 4 || t.src = 5 then s.fnEdges t.unit t.delay
  else true

/-- A software trigger's quantum: the apply quantum and DELAY (R174). -/
def State.softDue (s : State) (k : Nat) : Nat := tbAdd s.tb (5 * (nth s.applied.sar.trigs k {}).delay / 1000)

/-- A due quantum put in its place among others. -/
def dueInsert (t : Nat) : List Nat → List Nat
  | [] => [t]
  | x :: xs => if tbSub t x ≤ 2 ^ 40 then x :: dueInsert t xs else t :: x :: xs

/-- A started sequence under SRC 0 runs one instance for each SAR_START (R182). -/
def State.softStart (k : Nat) (s : State) : State :=
  if (nth s.applied.sar.trigs k {}).src = 0 then s.onSeq k fun q => { q with soft := dueInsert (s.softDue k) q.soft } else s

/-- The quantum of the next timer trigger (R174): TB modulo PERIOD is PHASE in the quantum DELAY before. -/
def SarTrig.next (t : SarTrig) (tb : Nat) (last : Option Nat) : Nat :=
  let d := 5 * t.delay / 1000
  if t.period = 0 then tb
  else
    let x := tbSub tb d
    let off := (x + t.period - t.phase % t.period) % t.period
    if off = 0 && last != some tb then tb else tbAdd tb (t.period - off)

/-- SAR_TRIG_MISS as it stands before a miss of this quantum raises it. -/
def State.missNow (s : State) : SarMiss :=
  let fresh := s.ev.raisedAt == s.tb
  let now := fresh && s.ev.raisedNow.getLsbD 50
  { at_ := s.tb, stays := now, now := now, st := s.ev.st.getLsbD 50, ov := s.ev.ov.getLsbD 50
    ovNow := fresh && s.ev.ovNow.getLsbD 50, padA := s.ev.padA, padB := s.ev.padB }

/-- A sequence's trigger taken or dropped (R175). -/
def State.trigger (k : Nat) (s : State) : State :=
  if (s.sarSeq k).pend then
    let m := s.missNow
    (((s.onSeq k fun q => { q with missAt := some m }).onSar fun a => { a with trgmiss := a.trgmiss + 1 })).raise 50
  else (s.onSeq k fun q => { q.drop with pend := true }).onSar Sar.begin

/-- SAR_TRIGGER (R174, R175): one in the completion quantum of a CAL_SELF is still ignored (R181).
[DESIGN CHOICE, log 96] -/
def execSarTrigger (k : Nat) (s : State) : Out :=
  if k ≥ 8 then .fault .noSuchUnit
  else if !s.runs 1 || !s.applied.sar.started.getLsbD k || s.sar.calRun || !s.trigPossible k then .next s
  else
    let t := nth s.applied.sar.trigs k {}
    let s := if t.src = 1 then s.jump (t.next s.tb (s.sarSeq k).trigAt)
      else if t.src = 0 then s.jump ((s.sarSeq k).soft.headD s.tb) else s
    let s := s.onSeq k fun q => { q with soft := q.soft.drop 1, trigAt := some s.tb }
    .next (if s.sar.calEnd = some s.tb then s else s.trigger k)

/-! ### CAL_SELF (R181) -/

/-- Why a CAL_SELF fails: 1 gain, 2 offset, 3 VANA, the lowest of those that hold; 0 when it passes (R181). [DESIGN CHOICE, log 103] -/
def calWhyOf (o : CalObs) : Nat :=
  let g := fun (x : Nat) => decide ((x : Rat) < 98 / 100 * 1073741824) || decide ((x : Rat) > 102 / 100 * 1073741824)
  if g o.gainU || g o.gainD then 1
  else if o.ofsU.natAbs > 1024 || o.ofsD.natAbs > 1024 then 2
  else if !o.vanaOk then 3 else 0

/-- CAL_SELF_DONE: 42 ms after it was taken. -/
def execCalSelfDone (obs : CalObs) (s : State) : Out :=
  if !s.sar.calRun then .next s
  else
    let s := s.jump s.sar.calDue
    let ignored := fun (q : SarSeq) => { q with soft := q.soft.filter fun t => decide (tbSub s.tb t > 2 ^ 40) }
    let stop := fun (a : Sar) => { a with calRun := false, calFail := calWhyOf obs != 0, calWhy := calWhyOf obs, calEnd := some s.tb
                                          oldF := s.unit.factors, seqs := updAll a.seqs fun _ q => ignored q
                                          cur := if a.cur = some SarCur.cal then none else a.cur }
    let s := s.onSar fun a => (stop a).begin
    let f : SarFactors := { gainU := obs.gainU, ofsU := obs.ofsU, gainD := obs.gainD, ofsD := obs.ofsD, src := true, ts := wN s.tb }
    let s := if calWhyOf obs = 0 then s.writeUnit 3 { s.unit with sar := f } else s
    .next (s.raise 51)

/-- CAL_SELF: a conversion of an instance that it discards ends there. [DESIGN CHOICE, log 103] -/
def cmdCalSelf (_c : Ctx) (s : State) : State × Ans :=
  guarded [(s.sar.calRun || !s.runs 1, refused stConflict)] s
    (s.onSar fun a =>
      let a := { a with seqs := updAll a.seqs fun _ q => q.drop, calRun := true, calDue := tbAdd s.tb 42000 }
      let cur := match a.cur with
        | some (.seq _) => none
        | c => c
      ({ a with cur := cur } : Sar).begin, .now stOk [])

/-! ### Starting, stopping, applying (R182) -/

/-- The converter starts or stops with its step: nothing waits, nothing runs; a CAL_SELF that a stop meets ends without a result (R181).
[DESIGN CHOICE, log 103] -/
def Sar.clear (a : Sar) : Sar :=
  { a with seqs := updAll a.seqs fun _ q => { q.drop with soft := [], lastOvr := 0 }, regq := [], hkq := [], cur := none, gap := false,
           calRun := false }

/-- One staged SAR command at its apply quantum. A conversion of an instance that it discards ends there, and a new SAR_SEQ keeps which
entries had OVR last. [DESIGN CHOICE, log 103] -/
def State.applySar (opc : Nat) (p : Bytes) (s : State) : State :=
  let put := fun (c : SarCfg) (s : State) => { s with applied := { s.applied with sar := c } }
  let unseat := fun (k : Nat) (a : Sar) => if a.cur = some (.seq k) then { a with cur := none } else a
  let discard := fun (k : Nat) (s : State) =>
    if s.applied.sar.started.getLsbD k then ((s.onSeq k SarSeq.drop).onSar fun a => (unseat k a).begin) else s
  match opc with
  | 0x30 => discard (u8 p 0) (put (setSarSeq p s.applied.sar) s)
  | 0x31 => discard (u8 p 0) (put (setSarTrig p s.applied.sar) s)
  | 0x33 =>
    let old := s.applied.sar.started
    let s := put (setSarStarted opc p s.applied.sar) s
    (List.range 8).foldl (fun s k =>
      if !bit (u8 p 0) k then s
      else (s.onSeq k fun q => if old.getLsbD k then q else { q with lastOvr := 0, trigAt := none }).softStart k) s
  | 0x34 =>
    let s := (List.range 8).foldl (fun s k =>
      if bit (u8 p 0) k then (s.onSeq k fun q => { q.drop with soft := [] }).onSar (unseat k) else s) s
    (put (setSarStarted opc p s.applied.sar) s).onSar Sar.begin
  | _ => s

/-! ### Commands -/

/-- SAR_SEQ. -/
def cmdSarSeq (c : Ctx) (s : State) : State × Ans :=
  let p := c.p
  let n := u8 p 1
  let f := setSarSeq p s.futureSar
  stagedCmd 0x30
    (chk (u8 p 0 > 7) (badParam 0) ++ chk (n < 1 || n > 8) (badParam 1) ++
     ((List.range n).flatMap fun i =>
       chk (u8 p (2 + 2 * i) > 0x43) (badParam (2 + 2 * i)) ++ chk (bit (u8 p (3 + 2 * i)) 4) (badParam (3 + 2 * i))) ++
     chk (f.started.getLsbD (u8 p 0) && !f.demandOk) (badParam 0xFF)) [] [] c s

/-- SAR_TRIG. -/
def cmdSarTrig (c : Ctx) (s : State) : State × Ans :=
  let p := c.p
  let src := u8 p 1
  let lim := if src = 2 || src = 3 then 15 else if src = 4 || src = 5 then 7 else 0
  let per := u32 p 5
  let f := setSarTrig p s.futureSar
  stagedCmd 0x31
    [(u8 p 0 > 7, badParam 0), (src > 5, badParam 1), (u8 p 2 > lim, badParam 2),
     (src == 1 && (per < 5 || 1000000 % per != 0), badParam 5), (src == 1 && u32 p 9 ≥ per, badParam 0xFF),
     (f.started.getLsbD (u8 p 0) && !f.demandOk, badParam 0xFF)] [] [] c s

/-- SAR_START. -/
def cmdSarStart (c : Ctx) (s : State) : State × Ans :=
  let f := setSarStarted 0x33 c.p s.futureSar
  let none_ := (List.range 8).any fun k => bit (u8 c.p 0) k && (nth s.com.cfg.sar.seqs k []).isEmpty
  stagedCmd 0x33 [(none_, badParam 0), (!f.demandOk, badParam 0xFF)] [] [] c s

/-- SAR_STOP. -/
def cmdSarStop (c : Ctx) (s : State) : State × Ans := stagedCmd 0x34 [] [] [] c s

end Sys2Proof.Machine
end

