-- ==== Sys2Proof/Machine/Outs.lean ====
section
/-! DEFINITION. Analog outputs and fans (R235 to R241, R245, R247). -/

namespace Sys2Proof.Machine

/-! ### Configuration (Table 11-1) -/

/-- AO_CONFIG committed. -/
def setAoConfig (p : Bytes) (v : Vector AoCfg 16) : Vector AoCfg 16 :=
  upd v (u8 p 0) fun _ => { en := u8 p 1 == 1, slew := u16 p 2, mistol := u8 p 4 }

/-- FN_CONFIG committed. -/
def setFnConfig (p : Bytes) (v : Vector FnCfg 8) : Vector FnCfg 8 :=
  upd v (u8 p 0) fun _ =>
    { en := u8 p 1 == 1, freq := u16 p 2, inv := u8 p 4 == 1, minduty := u16 p 5, ppr := u8 p 7, spinup := u8 p 8, stallt := u8 p 9,
      stallrpm := u16 p 10, stallact := u8 p 12 }

/-! ### Access and levels -/

def State.onAo (n : Nat) (f : AoChan → AoChan) (s : State) : State := { s with out := { s.out with ao := upd s.out.ao n f } }
def State.onFn (n : Nat) (f : FnChan → FnChan) (s : State) : State := { s with out := { s.out with fn := upd s.out.fn n f } }
def State.aoCh (s : State) (n : Nat) : AoChan := nth s.out.ao n {}
def State.fnCh (s : State) (n : Nat) : FnChan := nth s.out.fn n {}
def State.aoConf (s : State) (n : Nat) : AoCfg := nth s.applied.ao n {}
def State.fnConf (s : State) (n : Nat) : FnCfg := nth s.applied.fn n {}

/-- An output's number from a point value; none of it is off. -/
def levelOf (v : W32) : Nat := if v = noVal then 0 else v.toNat

/-- What an analog output is set to in mV: its floating drive's level, or its applied value (R235, R242). -/
def State.aoOwn (s : State) (n : Nat) : Nat := ((s.memberLevel (0x50 + n)).map levelOf).getD (s.aoCh n).applied

/-- The level an analog output is to take in mV (R305). -/
def State.aoWant (s : State) (n : Nat) : Nat :=
  match s.gateEntry fun e => e.aoMask.getLsbD n with
  | some e => e.aoLvl
  | none => if s.safeActs then safeLevel (nth s.applied.ilk.safeAo n {}) (s.aoOwn n) else s.aoOwn n

/-- The duty a fan is to take in 0.01 % (R238, R241, R305). -/
def State.fnWant (s : State) (n : Nat) : Nat :=
  let c := s.fnCh n
  let k := s.fnConf n
  let d := match s.gateEntry fun e => e.fnMask.getLsbD n with
    | some e => e.fnLvl
    | none => if s.safeActs then safeLevel (nth s.applied.ilk.safeFn n {}) c.applied else c.applied
  if c.stalloffAt.isSome then 0 else if 0 < d && d < k.minduty then k.minduty else d

/-- The drive die drives its AO and FN pads: full bias, and this unit active (R245, R246). -/
def State.outsDrive (s : State) : Bool := s.runs 6 && s.acting

/-! ### The position of floating drives (R243, R244) -/

/-- P after the interval that has passed with a member on (R243); it is not advanced while a member is gated (R244).
[DEDUCED, log 53] -/
def FloatRun.advance (r : FloatRun) (stroke t : Nat) : FloatRun :=
  let d : Rat := if stroke = 0 then 0 else 10000 * ((tbSub t r.runAt : Nat) : Rat) / ((100000 * stroke : Nat) : Rat)
  let p := if r.held then r.p else
    match r.on with
    | .opening => min 10000 (r.p + d)
    | .closing => max 0 (r.p - d)
    | .still => r.p
    | .pause => r.p
  { r with p := p, runAt := t }

/-- A member output of a drive is on: an analog output at a level or on its way to one, a field output's switch closed (R242). -/
def State.memberOn (s : State) (kind n : Nat) : Bool :=
  if kind = 0 then
    let c := s.aoCh n
    (0 < c.lvl || c.slewing) && !(c.slewing && c.target == 0)
  else (nth s.fio.dout n {}).pad

/-- After a change of outputs, whatever changed them: P of each drive goes by the member that is now on (R243).
[DEDUCED, log 53] -/
def State.trackDrives (s : State) : State :=
  let f := fun (k : Nat) (r : FloatRun) =>
    let c := nth s.applied.fd k {}
    let o := s.memberOn c.kind c.opn
    let x := s.memberOn c.kind c.cls
    let on : FDir := if !c.en then .still else if o && !x then .opening else if x && !o then .closing else .still
    if on = r.on then r else { r.advance c.stroke s.tb with on := on }
  { s with out := { s.out with fd := updAll s.out.fd f } }

/-! ### Analog outputs (R235 to R237) -/

/-- A level that the safe state sets, which an output takes as it is (R304). -/
def State.safeSets (s : State) (o : SafeOut) : Bool := s.safeActs && !o.hold

/-- Units that a change of an analog output waits for (R235): drive-die bias, where a level or a floating drive cannot move without
it. [DESIGN CHOICE, log 89] -/
def State.aoNeeds (s : State) : BitVec 14 :=
  let ao := (List.range 16).any fun n => (s.aoCh n).pending && (s.aoConf n).en && !(s.aoCh n).fault
  let fd := (List.range 8).any fun k => (nth s.out.fd k {}).wait && (nth s.applied.fd k {}).en
  if s.acting && (ao || fd) then unitMask [6] else 0

/-- The warm Pavane that waiting analog outputs ask for. [DESIGN CHOICE, log 89] -/
def State.callOuts (s : State) : State := if s.runs 6 then s else s.callUnits s.aoNeeds

/-- An analog output set moving towards what it is to take: at once where it is gated, by the safe state's level or where SLEW is 0, else
in a line; a change without full bias waits (R235, R300, R304). [DEDUCED, log 47] -/
def State.moveAo (n : Nat) (s : State) : State :=
  let want := s.aoWant n
  let gated := (s.gateEntry fun e => e.aoMask.getLsbD n).isSome || s.safeSets (nth s.applied.ilk.safeAo n {})
  let k := s.aoConf n
  s.onAo n fun c =>
    if !k.en || !s.acting then { c with lvl := 0, target := 0, slewing := false, pending := false }
    else if c.fault then { c with target := want }
    else if !s.outsDrive then { c with target := want, slewing := false, pending := 1000 * want != c.lvl }
    else if 1000 * want = c.lvl then { c with target := want, slewing := false, pending := false }
    else if gated || k.slew = 0 then
      { c with target := want, lvl := 1000 * want, slewing := false, pending := false, slewEnd := some s.tb }
    else if c.slewing && c.target = want then c
    else { c with target := want, slewing := true, pending := false, slewAt := s.tb, slewEnd := some s.tb }

/-- AO_SLEW_STEP: one step of 10 µs (R235). -/
def execAoSlewStep (ch : Nat) (s : State) : Out :=
  if ch ≥ 16 then .fault .noSuchUnit
  else if !(s.aoCh ch).slewing || !s.outsDrive then .next s
  else
    let s := s.jump (tbAdd (s.aoCh ch).slewAt 10)
    let d := 10 * (s.aoConf ch).slew
    .next (s.onAo ch fun c =>
      let goal := 1000 * c.target
      let l := if c.lvl < goal then min goal (c.lvl + d) else max goal (c.lvl - d)
      { c with lvl := l, slewing := l != goal, slewAt := s.tb, slewEnd := some s.tb })

/-- A readback, a code of 0.2 mV sampled in quantum `at_`, compared with the level the output is to have, where no slew took place in the 10 ms
before its sample; not while the pad is in its Reset state (R236, R237, R245, R246). -/
def State.compareAo (ch : Nat) (code : Int) (at_ : Nat) (s : State) : State :=
  let c := s.aoCh ch
  let quiet := !c.slewing && (match c.slewEnd with
    | none => true
    | some t => decide (10000 ≤ tbSub at_ t) && tbSub at_ t != tbMod - 1)
  let s := s.onAo ch fun c => { c with fb := (roundHalfAway ((code : Rat) / 5)).toNat }
  if !quiet || c.fault || !s.acting || s.pw.driveOff || !s.pw.pmEver.getLsbD 6 then s
  else
    let bad := (code - 5 * (s.aoWant ch : Int)).natAbs > 50 * (s.aoConf ch).mistol
    let b := if bad then c.badRun + 1 else 0
    let g := if bad then 0 else c.goodRun + 1
    let mm := if b ≥ 2 then true else if g ≥ 2 then false else c.mismatch
    (s.onAo ch fun c => { c with badRun := b, goodRun := g, mismatch := mm }).raiseIf (mm && !c.mismatch) 81

/-- AO_READBACK: the conversion of AOFBn that the housekeeping round has requested ends (R168, R170, R236). -/
def execAoReadback (ch : Nat) (obs : SarObs) (s : State) : Out :=
  if ch ≥ 16 then .fault .noSuchUnit
  else if s.sar.cur != some (.hk (0x14 + ch)) then .next s
  else
    let t := (s.freeSar obs.ovr.isSome).onSar fun a => ({ a with hkq := a.hkq.erase (0x14 + ch) } : Sar).begin
    .next (if (t.aoConf ch).en then t.compareAo ch (s.sarCode (0x14 + ch) obs) (if obs.earlier then tbSub s.tb 1 else s.tb) else t)

/-- AO_CURRENT_LIMIT: 10 ms at the 8 mA limit (R237). -/
def execAoCurrentLimit (ch : Nat) (s : State) : Out :=
  if ch ≥ 16 then .fault .noSuchUnit
  else if !(s.aoConf ch).en || !s.outsDrive || (s.aoCh ch).fault then .next s
  else
    .next ((s.onAo ch fun c => { c with fault := true, faultAt := s.tb, lvl := 0, slewing := false, faults := satInc c.faults 65535 }).trackDrives.raise 80)

/-- A retry: FAULT cleared, the output slews from 0 V (R237). -/
def State.retryAo (n : Nat) (s : State) : State :=
  if (s.aoCh n).fault then ((s.onAo n fun c => { c with fault := false, lvl := 0, badRun := 0, goodRun := 0 }).moveAo n).trackDrives else s

/-- AO_RETRY: at the first round boundary at least 10 s after the fault. -/
def execAoRetry (ch : Nat) (s : State) : Out :=
  if ch ≥ 16 then .fault .noSuchUnit
  else if !(s.aoCh ch).fault then .next s
  else
    let t := tbAdd (s.aoCh ch).faultAt 10000000
    let due := if t % 1000000 = 0 then t else nextMultiple 1000000 t
    .next ((s.jump due).retryAo ch).callOuts

/-! ### Fans (R238 to R241) -/

/-- A fan channel is running (R239). -/
def State.fnRunning (s : State) (n : Nat) : Bool := (s.fnConf n).en && ((s.fnCh n).applied > 0 || (s.fnConf n).inv)

/-- PER in 5 ns counts (R238). -/
def fnPer (k : FnCfg) : Nat := if k.freq = 0 then 0 else (roundHalfAway (200000000 / (k.freq : Rat))).toNat

/-- The pad of a fan that changes its duty to `d` in quantum t shows an edge then (R174, R238). -/
def FnChan.turns (c : FnChan) (d t : Nat) : FnChan := { c with edgeAt := if c.cur = d then c.edgeAt else some t }

/-- A fan whose drive stops: its pad goes low, and nothing is watched (R241). -/
def FnChan.halt (c : FnChan) (t : Nat) : FnChan := { c.turns 0 t with cur := 0, spinAt := none, lowAt := none }

/-- A fan takes a duty: the spin-up counts from leaving duty 0, and at duty 0 nothing is watched (R241). -/
def State.fanTake (n d : Nat) (s : State) : State :=
  let k := s.fnConf n
  s.onFn n fun c =>
    let left := c.cur = 0 && d != 0
    let c := if left then
        { c with spinAt := some s.tb, edgeSeen := false, lowAt := none, highAt := none, told := false, toldLost := false }
      else c
    let c := if d = 0 then { c with spinAt := none, lowAt := none } else c
    { c.turns d s.tb with cur := d, per := fnPer k, high := (roundHalfAway (((fnPer k * d : Nat) : Rat) / 10000)).toNat }

/-- A fan after a change: a duty of 0 from a gate or a stall acts at once, any other at the next period start; an output
that does not drive has no duty (R238, R300). -/
def State.moveFn (n : Nat) (s : State) : State :=
  let off := !s.outsDrive || !(s.fnConf n).en
  let gated := (s.gateEntry fun e => e.fnMask.getLsbD n).isSome || s.safeSets (nth s.applied.ilk.safeFn n {})
  if off || ((gated || (s.fnCh n).stalloffAt.isSome) && s.fnWant n = 0) then s.fanTake n 0 else s

/-- FN_PERIOD_START. -/
def execFnPeriodStart (ch : Nat) (s : State) : Out :=
  if ch ≥ 8 then .fault .noSuchUnit
  else if !s.outsDrive || !(s.fnConf ch).en then .next s
  else .next (s.fanTake ch (s.fnWant ch))

/-- RPM against STALLRPM (R241). [DEDUCED, log 52] -/
def FnChan.judge (c : FnChan) (rpm t : Nat) (k : FnCfg) : FnChan :=
  if rpm < k.stallrpm then { c with rpm := rpm, lowAt := some (c.lowAt.getD t), highAt := none }
  else { c with rpm := rpm, lowAt := none, highAt := some (c.highAt.getD t) }

/-- FT_EDGE: short pulses and edges near the fan output's are rejected (R240). [DEDUCED, log 52] -/
def execFtEdge (ch : Nat) (obs : TachObs) (s : State) : Out :=
  if ch ≥ 8 then .fault .noSuchUnit
  else
    let k := s.fnConf ch
    if s.phase != .run || !k.en || k.ppr = 0 || obs.widthNs < 2000 || obs.fnEdgeNs ≤ 2000 then .next s
    else
      let c := s.fnCh ch
      let iv := if c.lastEdgeAt.isSome then (obs.count :: c.intervals).take k.ppr else []
      let total := iv.sum
      let s := s.onFn ch fun c =>
        let c := { c with intervals := iv, edgeSeen := true, tachlost := false, lastEdgeAt := some s.tb }
        if iv.length = k.ppr && total > 0 then c.judge (min 65535 (12000000000 / total)) s.tb k else c.judge c.rpm s.tb k
      .next s

/-- FT_TIMEOUT: no accepted edge for 2 s (R240). -/
def execFtTimeout (ch : Nat) (s : State) : Out :=
  if ch ≥ 8 then .fault .noSuchUnit
  else
    match (s.fnCh ch).lastEdgeAt with
    | none => .next s
    | some t =>
      let s := s.jump (tbAdd t 2000000)
      .next (s.onFn ch fun c => ({ c with intervals := [], lastEdgeAt := none } : FnChan).judge 0 s.tb (s.fnConf ch))

/-- When stall detection starts (R241). -/
def State.fnWatchFrom (s : State) (n : Nat) : Option Nat := (s.fnCh n).spinAt.map fun t => tbAdd t (100000 * (s.fnConf n).spinup)

/-- The channel is watched: running, not at duty 0, with a tachometer. -/
def State.fnWatched (s : State) (n : Nat) : Bool :=
  (s.fnConf n).en && (s.fnConf n).ppr != 0 && (s.fnCh n).cur != 0 && s.fnWant n != 0

/-- FN_TACH_LOST: no edge since the start at SPINUP + STALLT. -/
def execFnTachLost (ch : Nat) (s : State) : Out :=
  if ch ≥ 8 then .fault .noSuchUnit
  else
    match s.fnWatchFrom ch with
    | none => .next s
    | some t =>
      if !s.fnWatched ch || (s.fnCh ch).edgeSeen || (s.fnCh ch).toldLost then .next s
      else
        .next (((s.jump (tbAdd t (100000 * (s.fnConf ch).stallt))).onFn ch fun c =>
          { c with tachlost := true, toldLost := true }).raise 83)

/-- FN_STALL: RPM below STALLRPM for STALLT, with STALLACT's stop for 10 s. -/
def execFnStall (ch : Nat) (s : State) : Out :=
  if ch ≥ 8 then .fault .noSuchUnit
  else
    match s.fnWatchFrom ch, (s.fnCh ch).lowAt with
    | some w, some l =>
      if !s.fnWatched ch || !(s.fnCh ch).edgeSeen || (s.fnCh ch).told then .next s
      else
        let from_ := if tbSub w l ≤ 2 ^ 40 then w else l
        let s := s.jump (tbAdd from_ (100000 * (s.fnConf ch).stallt))
        let act := (s.fnConf ch).stallact = 1
        let s := (s.onFn ch fun c =>
          { c with stall := true, told := true, stalls := satInc c.stalls 65535, stalloffAt := if act then some s.tb else none }).raise 82
        .next (if act then s.moveFn ch else s).noteIlk
    | _, _ => .next s

/-- FN_STALL_RESTART: 10 s after the stall the applied duty returns at the next period start, with SPINUP. -/
def execFnStallRestart (ch : Nat) (s : State) : Out :=
  if ch ≥ 8 then .fault .noSuchUnit
  else
    match (s.fnCh ch).stalloffAt with
    | none => .next s
    | some t => .next ((s.jump (tbAdd t 10000000)).onFn ch fun c => { c with stalloffAt := none })

/-- FN_STALL_CLEAR: RPM at or above STALLRPM for STALLT. -/
def execFnStallClear (ch : Nat) (s : State) : Out :=
  if ch ≥ 8 then .fault .noSuchUnit
  else
    match (s.fnCh ch).highAt with
    | none => .next s
    | some t =>
      if !(s.fnCh ch).stall then .next s
      else .next (((s.jump (tbAdd t (100000 * (s.fnConf ch).stallt))).onFn ch fun c => { c with stall := false, told := false }).noteIlk)

/-! ### Starting and stopping with drive-die bias (R245, R49) -/

/-- Every analog output and fan brought to what it is to take. -/
def State.moveOuts (s : State) : State :=
  let s := (List.range 16).foldl (fun s n => s.moveAo n) s
  ((List.range 8).foldl (fun s n => s.moveFn n) s).trackDrives

/-- VACT_LOW and a drive-die shutdown: AO pads in their Reset state, FN pads low (R49). -/
def State.dropOuts (s : State) : State :=
  { s with out := { s.out with
      ao := updAll s.out.ao fun _ c => { c with lvl := 0, slewing := false, badRun := 0, goodRun := 0 }
      fn := updAll s.out.fn fun _ c => c.halt s.tb } }

/-! ### Commands -/

/-- AO_CONFIG. -/
def cmdAoConfig (c : Ctx) (s : State) : State × Ans :=
  let p := c.p
  let n := u8 p 0
  let off := u8 p 1 = 0 && (nth s.com.cfg.ao n {}).en
  stagedCmd 0x50
    [(n > 15, badParam 0), (u8 p 1 > 1, badParam 1), (u16 p 2 > 10000, badParam 2), (u8 p 4 < 5 || u8 p 4 > 100, badParam 4)]
    [(u8 p 1 == 0 && (s.com.cfg.driveOf (0x50 + n)).isSome, refused stConflict),
     (s.pers == .service && off && s.names (0x50 + n), refused stConflict)] [] c s

/-- FN_CONFIG. -/
def cmdFnConfig (c : Ctx) (s : State) : State × Ans :=
  let p := c.p
  let n := u8 p 0
  let off := u8 p 1 = 0 && (nth s.com.cfg.fn n {}).en
  stagedCmd 0x52
    [(n > 7, badParam 0), (u8 p 1 > 1, badParam 1), (u16 p 2 < 20 || u16 p 2 > 25000, badParam 2), (u8 p 4 > 1, badParam 4),
     (u16 p 5 > 5000, badParam 5), (u8 p 7 > 4, badParam 7), (u8 p 9 < 5, badParam 9), (u8 p 12 > 1, badParam 12)]
    [(s.pers == .service && off && s.names (0x60 + n), refused stConflict)] [] c s

/-- FN_STATUS. -/
def cmdFnStatus (c : Ctx) (s : State) : State × Ans :=
  let n := u8 c.p 0
  let f := s.fnCh n
  let flags := b2n (s.fnConf n).en + 2 * b2n (s.fnRunning n) + 4 * b2n f.stall + 8 * b2n f.tachlost +
    16 * b2n (s.ilk.gFn.getLsbD n) + 32 * b2n f.stalloffAt.isSome
  guarded [(n > 7, badParam 0)] s
    (s, .now stOk (le 1 flags ++ le 2 f.applied ++ le 4 f.per ++ le 4 f.high ++ le 2 f.rpm ++ le 2 f.stalls))

end Sys2Proof.Machine
end

