-- ==== Sys2Proof/Machine/FieldIo.lean ====
section
/-! DEFINITION. Isolated field inputs and outputs: L+, the link across the lane, levels, wire break, switches (R248 to
R265). -/

namespace Sys2Proof.Machine

/-! ### Configuration (Table 12-5) -/

/-- DI_CONFIG committed; CH 0xFF for all. -/
def setDiConfig (p : Bytes) (v : Vector DiCfg 16) : Vector DiCfg 16 :=
  let k : DiCfg := { en := u8 p 1 == 1, typ := u8 p 2, filt := u8 p 3, wben := u8 p 4 == 1, wbtime := u8 p 5, wake := u8 p 6 == 1 }
  updAll v fun n o => if u8 p 0 = 0xFF || u8 p 0 = n then k else o

/-- DO_CONFIG committed. -/
def setDoConfig (p : Bytes) (v : Vector DoCfg 8) : Vector DoCfg 8 :=
  upd v (u8 p 0) fun _ => { en := u8 p 1 == 1, retry := u8 p 2 == 1, loss := u8 p 3 == 1 }

/-! ### Access -/

def State.onDi (n : Nat) (f : DiChan → DiChan) (s : State) : State := { s with fio := { s.fio with di := upd s.fio.di n f } }
def State.onDo (n : Nat) (f : DoChan → DoChan) (s : State) : State := { s with fio := { s.fio with dout := upd s.fio.dout n f } }
def State.onField (f : Field → Field) (s : State) : State := { s with fio := f s.fio }
def State.diCh (s : State) (n : Nat) : DiChan := nth s.fio.di n {}
def State.doCh (s : State) (n : Nat) : DoChan := nth s.fio.dout n {}
def State.diConf (s : State) (n : Nat) : DiCfg := nth s.applied.di n {}
def State.doConf (s : State) (n : Nat) : DoCfg := nth s.applied.dout n {}

/-! ### Outputs (R256 to R259, R301, R303) -/

/-- What a field output is commanded: its floating drive's level, or its applied point (R242, R256). -/
def State.doOwn (s : State) (n : Nat) : Bool :=
  match s.memberLevel (0x80 + n) with
  | some v => v == 1
  | none => (s.doCh n).cmd

/-- Whether a field output is to be on (R305). -/
def State.doWant (s : State) (n : Nat) : Bool :=
  match s.gateEntry fun e => e.doMask.getLsbD n with
  | some e => e.doLvl
  | none =>
    let own := s.doOwn n
    if s.safeActs then safeLevel (nth s.applied.ilk.safeDo n {}) (b2n own) == 1 else own

/-- A switch opened or closed. -/
def State.switchDo (n : Nat) (on : Bool) (s : State) : State :=
  s.onDo n fun c =>
    if c.pad = on then c
    else if on then { c with pad := true, onAt := s.tb } else { c with pad := false, openl := false, offAt := some s.tb }

/-- The command of a field output: off unless enabled, on a unit that is not active (R262). -/
def State.doOrder (s : State) (n : Nat) : Bool := s.acting && (s.doConf n).en && s.doWant n

/-- The command crosses the lane; in a link fault nothing does (R249). -/
def State.sendDo (n : Nat) (s : State) : State :=
  if s.awake && s.fio.linkok then s.onDo n fun c => { c with sent := s.doOrder n } else s

/-- A field output brought to what it is to be: to its command, in a link fault to its LOSS state; off in reset and DOZE, without supply,
short or too hot (R249, R257, R258, Table 12-1). -/
def State.moveDo (n : Nat) (s : State) : State :=
  let s := s.sendDo n
  let c := s.doCh n
  s.switchDo n (s.awake && s.fio.lpres && !c.short && !c.ovt && (if s.fio.linkok then c.sent else c.lossCmd))

/-- Every field output. -/
def State.moveDos (s : State) : State := ((List.range 8).foldl (fun s n => s.moveDo n) s).trackDrives

/-- DO_SHORT: 2 ms in current limit; it takes effect with a commit that turns the output off in its quantum (R257). -/
def execDoShort (ch : Nat) (s : State) : Out :=
  if ch ≥ 8 then .fault .noSuchUnit
  else if (!(s.doCh ch).pad && (s.doCh ch).offAt != some s.tb) || (s.doCh ch).short then .next s
  else .next ((((s.onDo ch fun c => { c with short := true, shortAt := s.tb, shorts := satInc c.shorts 65535 }).moveDo ch)).trackDrives.raise 88)

/-- DO_RETRY: with RETRY 1 at the first round boundary at least 10 s after the short, in NAP and RUN (R257); such a retry wakes the device
from DOZE as work of a round (log 29). -/
def execDoRetry (ch : Nat) (s : State) : Out :=
  if ch ≥ 8 then .fault .noSuchUnit
  else if !(s.doCh ch).short || !(s.doConf ch).retry || !s.awake then .next s
  else
    let t := tbAdd (s.doCh ch).shortAt 10000000
    let s := s.jump (if t % 1000000 = 0 then t else nextMultiple 1000000 t)
    .next ((s.onDo ch fun c => { c with short := false }).moveDo ch).trackDrives

/-- DO_OVERTEMP (R258). -/
def execDoOvertemp (ch : Nat) (s : State) : Out :=
  if ch ≥ 8 then .fault .noSuchUnit
  else if !(s.doCh ch).pad then .next s
  else
    let s := ((s.onDo ch fun c => { c with ovt := true }).moveDo ch).trackDrives.onField fun f => { f with ovtl := putBit f.ovtl ch true }
    .next ((s.flag 0x3414 (wN (2 ^ (16 + ch)))).raise 90)

/-- DO_OVERTEMP_END (R258). -/
def execDoOvertempEnd (ch : Nat) (s : State) : Out :=
  if ch ≥ 8 then .fault .noSuchUnit
  else if !(s.doCh ch).ovt then .next s
  else .next ((s.onDo ch fun c => { c with ovt := false }).moveDo ch).trackDrives

/-- DO_OPEN: after step 8, on for 100 ms below 3 mA (R259). -/
def execDoOpen (ch : Nat) (s : State) : Out :=
  if ch ≥ 8 then .fault .noSuchUnit
  else if !(s.doCh ch).pad || (s.doCh ch).openl || s.fio.fullAt.isNone then .next s
  else .next (((s.jump (tbAdd (s.doCh ch).onAt 100000)).onDo ch fun c => { c with openl := true }).raise 89)

/-- DO_OPEN_CLEAR: 100 ms at or above 5 mA (R259). -/
def execDoOpenClear (ch : Nat) (s : State) : Out :=
  if ch ≥ 8 then .fault .noSuchUnit else .next (s.onDo ch fun c => { c with openl := false })

/-! ### Inputs (R250 to R254) -/

/-- The field die senses its inputs: L+ present, awake (Table 12-1). -/
def State.senses (s : State) : Bool := s.fio.lpres && s.awake

/-- A level as it stands, with no change latched. -/
def State.setLevel (n : Nat) (l : Bool) (s : State) : State := s.onDi n fun c => { c with level := l }

/-- A change of an enabled input latched, with DI_CHANGE (R254). -/
def State.latchChange (n : Nat) (l : Bool) (s : State) : State :=
  let s := s.onField fun f => if l then { f with rise := putBit f.rise n true } else { f with fall := putBit f.fall n true }
  (s.flag 0x340C (wN (2 ^ (if l then n else 16 + n)))).raise 85

/-- A comparator's level of a pad voltage in mV: between its thresholds it stays (Table 12-2). -/
def diLevel (typ : Nat) (doze : Bool) (mv : Int) (was : Bool) : Bool :=
  let (on, off) : Int × Int :=
    if typ = 3 then (if doze then (10000, 7500) else (9500, 8000)) else if doze then (12000, 9000) else (11500, 10000)
  if mv > on then true else if mv < off then false else was

/-- The filter time in force in µs (Table 12-3): at least 200 µs before step 8 (R251). -/
def State.filtUs (s : State) (n : Nat) : Nat :=
  let f := [3, 100, 1000, 3000, 10000, 20000][(s.diConf n).filt]?.getD 3000
  if s.fio.fullAt.isNone then max f 200 else f

/-- Every filter counts afresh from now. -/
def State.restartFilters (s : State) : State :=
  s.onField fun f => { f with di := updAll f.di fun _ c => { c with countFrom := s.tb } }

/-- DI_FILTERED_CHANGE: the comparator has shown the new level at a pad voltage in every sample from t0 for the filter time, and the
change reaches the main side; a count that began before its restart is none (R249, R251). -/
def execDiFilteredChange (ch : Nat) (obs : DiObs) (s : State) : Out :=
  if ch ≥ 16 then .fault .noSuchUnit
  else
    let c := s.diCh ch
    let level := diLevel (s.diConf ch).typ false obs.mv c.level
    if !s.senses || !s.fio.linkok || !(s.diConf ch).en || c.level = level || tbSub obs.t0 c.countFrom > 2 ^ 40 then .next s
    else
      let s := s.jump (tbAdd obs.t0 (s.filtUs ch))
      let s' := s.setLevel ch level
      .next (latchHold s (if c.valid then s'.latchChange ch level else s').noteIlk)

/-- DI_INPUT_VALID: the end of an input's first full filter interval after reset, L+ or the link's return, at a pad voltage mv (R249,
R261). -/
def execDiInputValid (ch : Nat) (mv : Int) (s : State) : Out :=
  if ch ≥ 16 then .fault .noSuchUnit
  else if !s.senses || !s.fio.linkok || !(s.diConf ch).en then .next s
  else
    let s := s.jump (tbAdd (s.diCh ch).countFrom (s.filtUs ch))
    .next (latchHold s (s.onDi ch fun c => { c with level := diLevel (s.diConf ch).typ false mv c.level, valid := true }).noteIlk)

/-- DI_CURRENT_MEAN: the mean of a whole millisecond after step 8, with the runs of R252. -/
def execDiCurrentMean (ch : Nat) (ua : Nat) (v10mV : Nat) (s : State) : Out :=
  if ch ≥ 16 then .fault .noSuchUnit
  else
    match s.fio.fullAt with
    | none => .next s
    | some t0 =>
      if !s.senses then .next s
      else
        let s := s.jump (if s.tb % 1000 = 0 && (s.diCh ch).tick != some s.tb then s.tb else nextMultiple 1000 s.tb)
        if tbSub s.tb t0 ≤ 1000 then .next s
        else
          let k := s.diConf ch
          .next (s.onDi ch fun c =>
            let c := { c with iin := ua, vin := v10mV, tick := some s.tb }
            if !k.en || !k.wben then { c with lowT1 := none, highT1 := none }
            else if ua < 350 then { c with lowT1 := some (c.lowT1.getD s.tb), highT1 := none }
            else if ua ≥ 400 then { c with lowT1 := none, highT1 := some (c.highT1.getD s.tb) }
            else { c with lowT1 := none, highT1 := none })

/-- The field die's wire break crosses the lane: FISTWB, the latch and the event change on arrival (R249, R252). -/
def State.arriveWb (n : Nat) (s : State) : State :=
  let c := s.diCh n
  if c.wb = c.wbDie then s
  else if c.wbDie then
    let s := (s.onDi n fun c => { c with wb := true }).onField fun f => { f with wbl := putBit f.wbl n true }
    (s.flag 0x3408 (wN (2 ^ (16 + n)))).raise 86
  else (s.onDi n fun c => { c with wb := false }).raise 87

/-- A declaration or clearing at the field die, which crosses the lane at once while the link is up. -/
def State.classify (n : Nat) (wb : Bool) (s : State) : State :=
  let s := s.onDi n fun c => { c with wbDie := wb, lowT1 := none, highT1 := none }
  if s.fio.linkok then s.arriveWb n else s

/-- DI_WIRE_BREAK_DECLARE: WBTIME after t1 (R252). [DEDUCED, log 54] -/
def execDiWireBreakDeclare (ch : Nat) (s : State) : Out :=
  if ch ≥ 16 then .fault .noSuchUnit
  else
    match (s.diCh ch).lowT1 with
    | none => .next s
    | some t =>
      let k := s.diConf ch
      if (s.diCh ch).wbDie || !k.en || !k.wben || s.fio.fullAt.isNone then .next s
      else
        let s := s.jump (tbAdd t (10000 * k.wbtime))
        .next (latchHold s (s.classify ch true).noteIlk)

/-- DI_WIRE_BREAK_CLEAR: the means have stayed at or above 0.40 mA for WBTIME (R252). -/
def execDiWireBreakClear (ch : Nat) (s : State) : Out :=
  if ch ≥ 16 then .fault .noSuchUnit
  else
    match (s.diCh ch).highT1 with
    | none => .next s
    | some t =>
      if !(s.diCh ch).wbDie || s.fio.fullAt.isNone then .next s
      else
        let s := s.jump (tbAdd t (10000 * (s.diConf ch).wbtime))
        .next (latchHold s (s.classify ch false).noteIlk)

/-- DI_DOZE_CHANGE: the DOZE comparator of an input with WAKE 1 shows the level other than on entry; an input that was not valid then has
none to differ from, and what L+ becoming present brings is no change (R254). [DEDUCED, log 54] -/
def execDiDozeChange (obs : DiDozeObs) (s : State) : Out :=
  let ch := obs.ch
  if ch ≥ 16 then .fault .noSuchUnit
  else
    let c := s.diCh ch
    let level := diLevel (s.diConf ch).typ true obs.mv c.entry
    if s.phase != .doze || !s.fio.lpres || !(s.diConf ch).en || !(s.diConf ch).wake || !c.entryOk || level == c.entry then .next s
    else .next ((s.setLevel ch level).latchChange ch level)

/-! ### L+ and the link (R248, R249, R261) -/

/-- FRAMEERR: every frame that failed, modulo 2^8 (R264). [DESIGN CHOICE, log 102] [DESIGN CHOICE, log 21] -/
def State.frameErrors (s : State) : Nat :=
  match s.fio.framesAt with
  | none => s.fio.frameerr.toNat
  | some t =>
    (s.fio.frameerr.toNat + ((Config.failedFrames s.era).dedup.filter fun q => inWindow q t (tbSub s.tb t)).length) % 256

/-- The couplers carry frames in NAP and RUN with L+ present: what failed so far is counted, and the count goes on or rests (R249).
[DESIGN CHOICE, log 102] -/
def State.countFrames (s : State) : State :=
  s.onField fun f =>
    { f with frameerr := BitVec.ofNat 8 s.frameErrors, framesAt := if s.awake && f.lpres then some s.tb else none }

/-- LPLUS_PRESENT; a report in reset raises LPLUS_OK with the release. [DEDUCED, log 54] -/
def execLplusPresent (l10mV : Nat) (s : State) : Out :=
  if s.phase == .unpowered || s.fio.lpres then .next s
  else
    let s := ((s.onField fun f => { f with lpres := true, lplus := l10mV, lpAt := some s.tb, linkok := s.awake || s.phase == .doze }).restartFilters).raise 11
    .next s.countFrames.moveDos.noteIlk

/-- The release of reset finds L+ present: its report, the link, the first filter interval (R248, R261). [DEDUCED, log 54] -/
def State.releaseField (s : State) : State :=
  let s := s.restartFilters.countFrames
  if s.fio.lpres then ((s.onField fun f => { f with linkok := true }).raise 11).moveDos else s

/-- LPLUS_LOST: inputs invalid, declarations ended without DI_WIRE_OK, outputs unpowered. [DEDUCED, log 54] -/
def execLplusLost (l10mV : Nat) (s : State) : Out :=
  if !s.fio.lpres then .next s
  else
    let s' := s.onField fun f =>
      { f with lpres := false, lplus := l10mV, lpAt := some s.tb, di := updAll f.di fun _ c =>
          { c with level := false, valid := false, wb := false, wbDie := false, lowT1 := none, highT1 := none } }
    .next (latchHold s (s'.raise 10).countFrames.moveDos.noteIlk)

/-- FIELD_LINK_FAULT, in NAP and RUN: 8 failed frames in succession, or 8 µs without one; failed is how many failed. Each output takes its
LOSS state, off or its last command, until the link has returned (R249). A loss that follows an L+ loss is none. -/
def execFieldLinkFault (failed : Nat) (s : State) : Out :=
  if !s.fio.lpres || !s.fio.linkok || !s.awake then .next s
  else
    let s' := s.countFrames.onField fun f =>
      { f with linkok := false, frameerr := f.frameerr + BitVec.ofNat 8 failed, di := updAll f.di fun _ c => { c with valid := false }
               dout := updAll f.dout fun n c => { c with lossCmd := (s.doConf n).loss && c.sent } }
    .next (latchHold s (s'.raise 91).moveDos.noteIlk)

/-- FIELD_LINK_RETURN: 100 good frames; inputs are valid after their next full filter interval (R249, R303).
[DEDUCED, log 54] -/
def execFieldLinkReturn (s : State) : Out :=
  if !s.fio.lpres || s.fio.linkok || !s.awake then .next s
  else
    let s' := ((s.onField fun f => { f with linkok := true }).restartFilters).moveDos
    .next (latchHold s ((List.range 16).foldl (fun s n => s.arriveWb n) s').noteIlk)

/-! ### Step 8, DOZE, commits -/

/-- Field-side power transfer starts: full rate from this quantum (R251, R252). -/
def State.startField (s : State) : State := (s.onField fun f => { f with fullAt := some s.tb }).restartFilters

/-- Field-side power transfer stops: no classification, no measurement; declarations stand (Table 12-1). -/
def State.stopField (s : State) : State :=
  (s.onField fun f =>
    { f with fullAt := none, di := updAll f.di fun _ c => { c with lowT1 := none, highT1 := none, vin := 0 } }).restartFilters

/-- The levels on entry to DOZE (R254). [DEDUCED, log 54] -/
def State.dozeField (s : State) : State := s.onField fun f => { f with di := updAll f.di fun _ c => { c with entry := c.level, entryOk := c.valid } }

/-- DI configuration put in force: a changed input restarts its filter and classification; EN 0 or WBEN 0 ends a declaration (R252,
Table 12-5). [DEDUCED, log 54] -/
def State.applyDi (new : Vector DiCfg 16) (s : State) : State :=
  let old := s.applied.di
  let f := fun (n : Nat) (c : DiChan) =>
    let a := nth old n {}
    let b := nth new n {}
    if a = b then c
    else
      let on := b.en && b.wben
      let c := { c with countFrom := s.tb, lowT1 := none, highT1 := none, wb := c.wb && on, wbDie := c.wbDie && on }
      if a.en = b.en then c else { c with valid := false, level := false }
  ({ s with applied := { s.applied with di := new }, fio := { s.fio with di := updAll s.fio.di f } } : State).noteIlk

/-- DO configuration put in force. -/
def State.applyDoConf (new : Vector DoCfg 8) (s : State) : State :=
  ({ s with applied := { s.applied with dout := new } } : State).moveDos

/-- FIO_CLEAR at its apply quantum (R257). -/
def State.applyFioClear (p : Bytes) (s : State) : State :=
  ((List.range 8).foldl (fun s n => if bit (u8 p 0) n then (s.onDo n fun c => { c with short := false }).moveDo n else s) s).trackDrives

/-! ### Commands -/

/-- DI_CONFIG. -/
def cmdDiConfig (c : Ctx) (s : State) : State × Ans :=
  let p := c.p
  let n := u8 p 0
  let names := (List.range 16).any fun i => (n == 0xFF || n == i) && (nth s.com.cfg.di i {}).en && s.names (0x70 + i)
  stagedCmd 0x58
    [(n > 15 && n != 0xFF, badParam 0), (u8 p 1 > 1, badParam 1), (u8 p 2 != 1 && u8 p 2 != 3, badParam 2), (u8 p 3 > 5, badParam 3),
     (u8 p 4 > 1, badParam 4), (u8 p 5 < 1, badParam 5), (u8 p 6 > 1, badParam 6)]
    [(s.pers == .service && u8 p 1 == 0 && names, refused stConflict)] [] c s

/-- DO_CONFIG. -/
def cmdDoConfig (c : Ctx) (s : State) : State × Ans :=
  let p := c.p
  let n := u8 p 0
  stagedCmd 0x59
    [(n > 7, badParam 0), (u8 p 1 > 1, badParam 1), (u8 p 2 > 1, badParam 2), (u8 p 3 > 1, badParam 3)]
    [(s.pers == .service && u8 p 1 == 0 && (nth s.com.cfg.dout n {}).en && s.names (0x80 + n), refused stConflict),
     (u8 p 1 == 0 && (s.com.cfg.driveOf (0x80 + n)).isSome, refused stConflict)] [] c s

/-- FIO_CLEAR. -/
def cmdFioClear (c : Ctx) (s : State) : State × Ans := stagedCmd 0x5B [] [] [] c s

/-- A map of sixteen inputs or eight outputs. -/
def diMap (s : State) (f : DiChan → Bool) : Nat := ((List.range 16).map fun n => b2n (f (s.diCh n)) * 2 ^ n).sum
def doMap (s : State) (f : DoChan → Bool) : Nat := ((List.range 8).map fun n => b2n (f (s.doCh n)) * 2 ^ n).sum

/-- VALID: enabled and valid. -/
def State.diValidMap (s : State) : Nat :=
  ((List.range 16).map fun n => b2n ((s.diConf n).en && (s.diCh n).valid) * 2 ^ n).sum

/-- FISTLNK[7:0]. -/
def State.fistLink (s : State) : Nat := b2n s.fio.lpres + 2 * b2n s.fio.linkok + 4 * b2n s.fio.fullAt.isSome

/-- The commands of the field outputs, and L+ [10 mV] as it now stands: the value reported, then one measured each millisecond (R264).
[DESIGN CHOICE, log 102] -/
def State.doCmdMap (s : State) : Nat := ((List.range 8).map fun n => b2n (s.doOwn n) * 2 ^ n).sum
def State.lplusNow (s : State) : Nat :=
  let n := tbSub s.tb (s.fio.lpAt.getD s.tb) / 1000
  if !s.fio.lpres || n = 0 then s.fio.lplus else s.sense 1 (tbAdd (s.fio.lpAt.getD s.tb) (1000 * n)) % 65536

/-- The load current of a field output [mA], measured each millisecond after step 8 (R264). [DESIGN CHOICE, log 102]
[DESIGN CHOICE, log 21] -/
def State.doCurrent (s : State) (n : Nat) : Nat :=
  match s.fio.fullAt with
  | none => 0
  | some t =>
    let k := tbSub s.tb t / 1000
    if k = 0 then 0 else s.sense (16 + n) (tbAdd t (1000 * k)) % 65536

/-- FIO_STATUS. -/
def cmdFioStatus (_c : Ctx) (s : State) : State × Ans :=
  (s, .now stOk (le 2 s.diValidMap ++ le 2 (diMap s (·.level)) ++ le 2 (diMap s (·.wb)) ++ le 1 s.doCmdMap ++
    le 1 (doMap s (·.pad)) ++ le 1 s.ilk.gDo.toNat ++ le 1 (doMap s (·.short)) ++ le 1 (doMap s (·.openl)) ++ le 1 (doMap s (·.ovt)) ++
    le 1 s.fistLink ++ le 2 s.lplusNow ++ le 2 s.frameErrors))

end Sys2Proof.Machine
end

