-- ==== Sys2Proof/Machine/Floating.lean ====
section
/-! DEFINITION. Floating drives: three-point actuators on pairs of outputs (R242 to R244). -/

namespace Sys2Proof.Machine

/-- FLOAT_CONFIG committed. -/
def setFloatConfig (p : Bytes) (v : Vector FloatCfg 8) : Vector FloatCfg 8 :=
  upd v (u8 p 0) fun _ =>
    { en := u8 p 1 == 1, kind := u8 p 2, opn := u8 p 3, cls := u8 p 4, cmdvp := u16 p 5, stroke := u16 p 7, minpulse := u8 p 9,
      deadb := u16 p 10 }

def State.onFd (k : Nat) (f : FloatRun → FloatRun) (s : State) : State := { s with out := { s.out with fd := upd s.out.fd k f } }
def State.fdRun (s : State) (k : Nat) : FloatRun := nth s.out.fd k {}
def State.fdConf (s : State) (k : Nat) : FloatCfg := nth s.applied.fd k {}

/-- The members as points. -/
def FloatCfg.members (f : FloatCfg) : Nat × Nat :=
  let base := if f.kind = 0 then 0x50 else 0x80
  (base + f.opn, base + f.cls)

/-- The target: CMDVP as last applied, clamped, none where it holds the drive still (R14, R242). [DEDUCED, log 53] -/
def State.fdTarget (s : State) (k : Nat) : Option Nat :=
  let v := (mget s.appliedVp (s.fdConf k).cmdvp).getD noVal
  if v = noVal then none else some (clampI 0 10000 v.toInt).toNat

/-- Its outputs brought to the levels of its direction. -/
def State.moveMembers (k : Nat) (s : State) : State :=
  let f := s.fdConf k
  (if f.kind = 0 then (s.moveAo f.opn).moveAo f.cls else (s.moveDo f.opn).moveDo f.cls).trackDrives

/-- A member is gated (R244). -/
def State.fdGated (s : State) (k : Nat) : Bool := s.gatedPoint (s.fdConf k).members.1 || s.gatedPoint (s.fdConf k).members.2

/-- The length of a run from P to T in µs (R243). -/
def runLength (f : FloatCfg) (p : Rat) (t : Nat) : Nat :=
  let d : Rat := (t : Rat) - p
  let a := if d < 0 then -d else d
  let ms := roundHalfAway (a * ((100 * f.stroke : Nat) : Rat) / 10000) |>.toNat
  let ms := max ms (10 * f.minpulse)
  1000 * ms + (if t = 0 || t = 10000 then 10000 * f.stroke else 0)

/-- The drive's outputs take a change of level now: DO channels always, AO channels with drive-die bias (R235, R245). -/
def State.fdLive (s : State) (k : Nat) : Bool := (s.fdConf k).kind != 0 || s.outsDrive

/-- The drive directed towards its target: still, a run, or the pause of a reversal, which a run in the old direction ends; an unsure drive homes first; a drive whose
outputs cannot change waits for their bias, and one that a new target finds within DEADB ends its run with FLOAT_DONE (R243).
[DEDUCED, log 53] -/
def State.steer (k : Nat) (s : State) : State :=
  let f := s.fdConf k
  let s := s.onFd k fun r => r.advance f.stroke s.tb
  let r := s.fdRun k
  let t := s.fdTarget k
  let moving := r.dir == .opening || r.dir == .closing
  let off := fun (s : State) => s.onFd k fun r => { r with dir := .still, target := t, wait := false }
  let go := fun (d : FDir) (len : Nat) (homing : Bool) (s : State) =>
    let reversal := (r.last == .opening && d == .closing) || (r.last == .closing && d == .opening)
    s.onFd k fun r =>
      let r := { r with target := t, homing := homing, wait := false }
      if !reversal then { r with dir := d, last := d, runDue := tbAdd s.tb len }
      else if r.dir == .pause then r
      else { r with dir := .pause, runDue := tbAdd s.tb 200000 }
  let s :=
    if !f.en || !s.acting || r.held then off s
    else
      match t with
      | none => off s
      | some tg =>
        if !s.fdLive k then s.onFd k fun r => { r with wait := true, target := if moving then r.target else t }
        else if r.unsure then (if r.homing && r.dir == .closing then s else go .closing (110000 * f.stroke) true s)
        else
          let d : Rat := (tg : Rat) - r.p
          if d > (f.deadb : Rat) then go .opening (runLength f r.p tg) false s
          else if -d > (f.deadb : Rat) then go .closing (runLength f r.p tg) false s
          else (off s).raiseIf moving 84
  (s.moveMembers k).callOuts

/-- |T − P| ≤ DEADB. -/
def State.fdAt (s : State) (k : Nat) : Bool :=
  match s.fdTarget k with
  | none => false
  | some t =>
    let d : Rat := (t : Rat) - (s.fdRun k).p
    decide ((if d < 0 then -d else d) ≤ ((s.fdConf k).deadb : Rat))

/-- A run or a homing over: both outputs go off. P is set, 0 after a homing and exactly at a target of 0 or 10 000; FLOAT_DONE when
it lies within DEADB (R243, R244). Outputs that wait for bias hold their level, and the run lasts until they change.
[DEDUCED, log 53] -/
def State.endRun (k : Nat) (s : State) : State :=
  if !s.fdLive k then (s.onFd k fun r => { r with wait := true }).callOuts
  else
    let s := s.onFd k fun r =>
      let home := r.homing
      let r := r.advance (s.fdConf k).stroke s.tb
      let p := if home then 0 else if r.target = some 0 then 0 else if r.target = some 10000 then 10000 else r.p
      { r with p := p, dir := .still, unsure := r.unsure && !home, homing := false, wait := false }
    (s.raiseIf (s.fdAt k) 84).steer k

/-- FLOAT_RUN_END (R243). -/
def execFloatRunEnd (fd : Nat) (s : State) : Out :=
  if fd ≥ 8 then .fault .noSuchUnit
  else
    let r := s.fdRun fd
    if r.homing || (r.dir != .opening && r.dir != .closing) then .next s
    else .next ((s.jump r.runDue).endRun fd)

/-- FLOAT_REVERSAL_END: after 200 ms with both members off (R243). -/
def execFloatReversalEnd (fd : Nat) (s : State) : Out :=
  if fd ≥ 8 then .fault .noSuchUnit
  else if (s.fdRun fd).dir != .pause then .next s
  else
    let s := s.jump (s.fdRun fd).runDue
    .next ((s.onFd fd fun r => { r with dir := .still, last := .still, homing := false }).steer fd)

/-- FLOAT_HOMING_END (R244). -/
def execFloatHomingEnd (fd : Nat) (s : State) : Out :=
  if fd ≥ 8 then .fault .noSuchUnit
  else if !(s.fdRun fd).homing || (s.fdRun fd).dir != .closing then .next s
  else
    .next ((s.jump (s.fdRun fd).runDue).endRun fd)

/-- Drives on analog outputs when drive-die bias starts: a run that was over ends, what waited begins; after an outage of the drive
die they are unsure (R245). -/
def State.wakeDrives (outage : Bool) (s : State) : State :=
  (List.range 8).foldl (fun s k =>
    if !(s.fdConf k).en || (s.fdConf k).kind != 0 then s
    else
      let s := if outage then s.onFd k fun r => { r with unsure := true, homing := false, dir := .still } else s
      let r := s.fdRun k
      if r.wait && (r.dir == .opening || r.dir == .closing) && timeLeft r.runDue s.tb = 0 then s.endRun k
      else if !r.wait && (r.dir == .opening || r.dir == .closing) then s.moveMembers k
      else s.steer k) s

/-- Drives on analog outputs when the drive die stops: their outputs are off; a shutdown makes them unsure (R49, Table 21-3). -/
def State.haltDrives (s : State) : State :=
  let f := fun (k : Nat) (r : FloatRun) =>
    if (s.fdConf k).en && (s.fdConf k).kind == 0 then
      { r.advance (s.fdConf k).stroke s.tb with
        homing := false, dir := .still, last := .still, on := .still, target := none, wait := false, unsure := r.unsure || s.hk.shut }
    else r
  { s with out := { s.out with fd := updAll s.out.fd f } }

/-- Drives made unsure: after enabling, a reset, a switch-over, a recovery of the drive die (R244, R245).
[DEDUCED, log 53] -/
def State.unsureDrives (which : Nat → Bool) (s : State) : State :=
  let f := fun (k : Nat) (r : FloatRun) =>
    if which k then { r with unsure := true, homing := false, dir := .still } else r
  { s with out := { s.out with fd := updAll s.out.fd f } }

/-- Drives after gates have changed: a gated member holds the drive and leaves it unsure (R244, R302). [DEDUCED, log 53] -/
def State.gateDrives (s : State) : State :=
  (List.range 8).foldl (fun s k =>
    let g := s.fdGated k
    if !(s.fdConf k).en || g = (s.fdRun k).held then s
    else
      (s.onFd k fun r =>
        let r := r.advance (s.fdConf k).stroke s.tb
        if g then { r with held := true, unsure := true, homing := false, dir := .still } else { r with held := false }).steer k) s

/-- Every drive whose target a commit has changed is directed anew (R243). -/
def State.steerChanged (s : State) : State :=
  (List.range 8).foldl (fun s k =>
    if (s.fdConf k).en && s.fdTarget k != (s.fdRun k).target then s.steer k else s) s

/-- Drive configuration put in force: an enabled or changed drive is unsure. -/
def State.applyFloat (new : Vector FloatCfg 8) (s : State) : State :=
  let old := s.applied.fd
  let s := { s with applied := { s.applied with fd := new } }
  (List.range 8).foldl (fun s k =>
    if nth old k {} = nth new k {} then s
    else
      let s := s.onFd k fun r => { r with unsure := (nth new k {}).en, homing := false, held := s.fdGated k, wait := false, dir := .still, target := none }
      s.steer k) s

/-- FLOAT_CONFIG. -/
def cmdFloatConfig (c : Ctx) (s : State) : State × Ans :=
  let p := c.p
  let k := u8 p 0
  let kind := u8 p 2
  let lim := if kind = 0 then 15 else 7
  let base := if kind = 0 then 0x50 else 0x80
  let conf := fun (n : Nat) => s.com.cfg.enabled (base + n)
  let other := fun (n : Nat) => match s.com.cfg.driveOf (base + n) with
    | none => false
    | some j => j != k
  let target := fun (n : Nat) => s.pers == .service && s.com.targets.contains (base + n)
  stagedCmd 0x54
    [(k > 7, badParam 0), (u8 p 1 > 1, badParam 1), (kind > 1, badParam 2), (u8 p 3 > lim || !conf (u8 p 3), badParam 3),
     (u8 p 4 > lim || !conf (u8 p 4), badParam 4), (u8 p 4 == u8 p 3, badParam 0xFF), (u16 p 5 < 0x100 || u16 p 5 > 0x1FF, badParam 5),
     (u16 p 7 < 10 || u16 p 7 > 6000, badParam 7), (u8 p 9 < 5, badParam 9), (u16 p 10 < 10 || u16 p 10 > 2000, badParam 10)]
    [(target (u8 p 3) || target (u8 p 4) || other (u8 p 3) || other (u8 p 4), refused stConflict)] [] c s

/-- AO_STATUS: of a channel, or of a floating drive. -/
def cmdAoStatus (c : Ctx) (s : State) : State × Ans :=
  let n := u8 c.p 0
  if n < 16 then
    let a := s.aoCh n
    let flags := b2n (s.aoConf n).en + 2 * b2n a.slewing + 4 * b2n a.fault + 8 * b2n a.mismatch + 16 * b2n (s.ilk.gAo.getLsbD n) +
      32 * b2n (s.com.cfg.driveOf (0x50 + n)).isSome
    (s, .now stOk (le 1 flags ++ le 2 (s.aoOwn n) ++ le 2 (a.lvl / 1000) ++ le 2 a.fb ++ le 2 a.faults))
  else if n < 0x18 then
    let k := n - 16
    let r := (s.fdRun k).advance (s.fdConf k).stroke s.tb
    let flags := b2n (s.fdConf k).en + 2 * b2n r.unsure + 4 * b2n r.homing + 8 * b2n (r.dir == .opening) + 16 * b2n (r.dir == .closing)
    let left := if r.dir == .opening || r.dir == .closing then timeLeft (s.fdRun k).runDue s.tb / 1000 else 0
    (s, .now stOk (le 1 flags ++ le 2 ((s.fdTarget k).getD 0) ++ le 2 (roundHalfAway r.p).toNat ++ le 4 left))
  else (s, badParam 0)

end Sys2Proof.Machine
end

