-- ==== Sys2Proof/Machine/Display.lean ====
section
/-! DEFINITION. The display engine: pages, LCD frames, bistable updates and recoveries, rails, temperature bands and the
backlight (R419 to R436). -/

namespace Sys2Proof.Machine

/-! ### Configuration and pages (R419, R420, Table 19-5) -/

/-- The two commands with one field each, DSP_CONFIG and DSP_SHOW, and the tables, as their PARAMS set them. -/
def setDsp (opc : Nat) (p : Bytes) (d : DisplayCfg) : DisplayCfg :=
  if opc = 0xC0 then
    { d with conf :=
      { mode := u8 p 0, fr := u8 p 1, keycols := u8 p 2 = 1, ovfr := u8 p 3, segen := BitVec.ofNat 96 (un p 4 12),
        bandpt := u16 p 16, bandt := (List.range 7).map fun i => s16 p (18 + 2 * i), hyst := u8 p 32,
        vlcdb := (List.range 8).map fun i => u8 p (33 + i), recfig := u8 p 41, reclvl := u8 p 42, railhold := u8 p 43 } }
  else if opc = 0xC1 then { d with page := u8 p 0 }
  else if opc = 0xC2 then
    if u8 p 0 = 0 then { d with odLcd := upd d.odLcd (u8 p 1) fun _ => Vector.ofFn fun n => u8 p (2 + n.val) }
    else { d with odBi := upd d.odBi (u8 p 1) fun _ => Vector.ofFn fun n => u8 p (2 + n.val) }
  else if opc = 0xC3 then
    let k := (u8 p 0, u8 p 1)
    let ph := (List.range (u8 p 2)).map fun i => (u8 p (3 + 2 * i), u8 p (4 + 2 * i))
    { d with figures := d.figures.filter (fun e => e.1 != k) ++ [(k, ph)] }
  else { d with lvl := Vector.ofFn fun i => u16 p (2 * i.val), fade := u16 p 8 }

/-- The body of the page shown: an absent page, and blank, show every level 0 (R420). -/
def Com.pageBody (c : Com) (page : Nat) : Bytes :=
  if page < 16 then fit 384 ((c.body 7 page).getD []) else List.replicate 384 0

/-- The level of a segment in a page body (R420). -/
def nibble (b : Bytes) (k : Nat) : Nat := u8 b (k / 2) / (if k % 2 = 1 then 16 else 1) % 16

/-- The levels a bistable panel takes from a page body. -/
def biLevels (b : Bytes) : List Nat := (List.range 96).map fun k => nibble b k % 4

/-- The levels an LCD takes from a page body. -/
def lcdLevels (b : Bytes) : List Nat := (List.range 768).map (nibble b)

/-- The configuration in force. -/
def State.dspConf (s : State) : DspCfg := s.applied.dsp.conf

/-- The panel's mode in force. -/
def State.dspMode (s : State) : Nat := s.applied.dsp.conf.mode

/-- A change of the engine's state. -/
def State.onDsp (f : Display → Display) (s : State) : State := { s with dsp := f s.dsp }

/-! ### Markers (R430, Table 19-3) -/

/-- Levels packed four to a byte. -/
def packLevels (ls : List Nat) : Bytes :=
  (List.range 24).map fun j =>
    BitVec.ofNat 8 (((List.range 4).map fun i => (ls[4 * j + i]?.getD 0) % 4 * 4 ^ i).sum)

/-- Levels out of their bytes. -/
def unpackLevels (b : Bytes) : List Nat := (List.range 96).map fun k => u8 b (k / 4) / 4 ^ (k % 4) % 4

/-- The newest marker, if it can be read as a single valid record (R431). -/
def State.dspMarker (s : State) : Option Bytes :=
  let hits := ringHits s.cells (logDef 1)
  match ringNewest hits with
  | none => none
  | some h => if hits.any fun x => x.seq == h.seq && (x.data != h.data || x.rsvd != h.rsvd) then none else some h.data

/-- The levels that a marker of STATE 2 gives the panel. -/
def State.markerLevels (s : State) : Option (List Nat) :=
  match s.dspMarker with
  | none => none
  | some d => if u8 d 0 = 2 then some (unpackLevels (slice d 28 24)) else none

/-- What DSP_STATUS shows after a start that knows the panel: the page of the marker's update; after a recovery blank or,
with RECLVL above 0, no page. -/
def State.markerPage (s : State) : Nat :=
  match s.dspMarker with
  | none => 0xFE
  | some d =>
    if u8 d 0 != 2 then 0xFE
    else if u8 d 1 = 0 then u8 d 3
    else if (slice d 28 24).all (· == 0) then 0xFF else 0xFE

/-- A marker appended to LOG 1. [DEDUCED, log 57] -/
def State.dspMark (st kind band page : Nat) (from_ to_ : Bytes) (s : State) : State :=
  s.logAppend 1 (le 1 st ++ le 1 kind ++ le 1 band ++ le 1 page ++ from_ ++ to_)

/-! ### Bistable jobs (R429, R431) -/

/-- A segment is enabled. -/
def State.segOn (s : State) (k : Nat) : Bool := s.dspConf.segen.getLsbD k

/-- What the panel would hold after an update: the shown page on enabled segments. [DEDUCED, log 57] -/
def State.dspTarget (s : State) (cur : List Nat) : List Nat :=
  let g := biLevels s.dsp.goal
  (List.range 96).map fun k => if s.segOn k then g[k]?.getD 0 else cur[k]?.getD 0

/-- The engine at rest in MODE 2 with a known panel brings the shown page to it: marker of STATE 1, then its verification
is awaited. Nothing is done where nothing differs (R429, R431). -/
def State.dspBegin (s : State) : State :=
  if s.dspMode != 2 || !s.dsp.started || s.dsp.fault || s.pw.pfw || s.dsp.job != .none then s
  else
    match s.dsp.levels with
    | none => s
    | some cur =>
      let page := s.applied.dsp.page
      let to_ := s.dspTarget cur
      if to_ = cur then s.onDsp fun d => { d with shown := page }
      else
        (s.dspMark 1 0 s.dsp.band page (packLevels cur) (packLevels to_)).onDsp fun d =>
          { d with job := .update, verified := false, target := to_, updPage := page, holdDue := none }

/-- The engine starts (R419, R431): in MODE 2 it reads the newest marker first (R392); in MODE 1 it calls for the rails when a
page is shown. -/
def State.dspStart (s : State) : State :=
  let s := s.onDsp fun d => { d with started := true, fault := false }
  if s.dspMode = 2 then
    let s := s.lookAt (s.newestPlaces (logDef 1))
    (s.onDsp fun d => { d with levels := s.markerLevels, shown := s.markerPage }).dspBegin
  else if s.dspMode = 1 && s.applied.dsp.page < 16 then s.callUnits (unitMask [8])
  else s.onDsp fun d => { d with shown := 0xFF }

/-- The check of R431 on the committed configuration finds a recovery or an update to make. [DEDUCED, log 58] -/
def State.dspWork (s : State) : Bool :=
  let c := s.com.cfg.dsp
  let g := biLevels (s.com.pageBody c.page)
  match s.markerLevels with
  | none => true
  | some cur => (List.range 96).any fun k => c.conf.segen.getLsbD k && g[k]?.getD 0 != cur[k]?.getD 0

/-- The rails go down; an update or recovery that this cuts short leaves its marker at STATE 1 and the panel unknown, and
the next start reads the marker (R431, R432). -/
def State.dspRailsDown (s : State) : State :=
  let cut := s.dsp.job != .none
  let s := if s.runs 8 then s.onDsp fun d => { d with railOff := some (s.tb, s.dspMode) } else s
  let s := s.dropUnits (unitMask [8])
  let s := { s with pw := { s.pw with pmun := putBit s.pw.pmun 8 false } }
  s.onDsp fun d => { d with
    inReg := false, holdDue := none, frameDue := none, job := .none, verified := false, figs := [], updEnd := none, lband := 0xFF
    levels := if cut then none else d.levels
    started := d.started && !cut
    shown := if cut then 0xFE else if s.dspMode = 2 then d.shown else 0xFF }

/-- The rails unit has started: regulation follows; a start the engine has not made yet is made now. -/
def State.dspUnitStarted (s : State) : State :=
  let s := s.onDsp fun d => { d with inReg := false, railAt := s.tb, railOff := none }
  if s.dsp.started then s else s.dspStart

/-- The engine is started again after a rail fault (R433). -/
def State.dspRetry (s : State) : State := (s.onDsp fun d => { d with started := false, fault := false }).dspStart

/-- What follows the end of an update or a recovery: the pending page at once, or the rails held for RAILHOLD. -/
def State.dspAfter (s : State) : State :=
  let s := s.dspBegin
  if s.dsp.job != .none then s
  else if s.dspConf.railhold = 0 then s.dspRailsDown
  else s.onDsp fun d => { d with holdDue := some (tbAdd s.tb (100000 * s.dspConf.railhold)) }

/-- A figure of a band as committed: figure 0, and an undefined one, drive nothing (R427). -/
def Com.figure (c : Com) (n band : Nat) : List (Nat × Nat) :=
  if n = 0 then [] else ((c.cfg.dsp.figures.find? fun e => e.1 == (n, band)).map (·.2)).getD []

/-- The length of a figure. -/
def figTime (ph : List (Nat × Nat)) : Nat := (ph.map fun e => 10000 * e.2).sum

/-! ### Events of the bistable engine -/

/-- DSP_MARKER_VERIFIED: the rails are raised if they are down (R429). -/
def execDspMarkerVerified (s : State) : Out :=
  if s.dsp.job != .update || s.dsp.verified then .next s
  else .next ((s.onDsp fun d => { d with verified := true }).callUnits (unitMask [8]))

/-- DSP_RECOVERY_START: marker of KIND 1, rails up (R431). [DEDUCED, log 57] -/
def execDspRecoveryStart (s : State) : Out :=
  let d := s.dsp
  if s.dspMode != 2 || !d.started || d.fault || s.pw.pfw || d.job != .none || d.levels.isSome || !s.awake then .next s
  else
    let to_ := List.replicate 96 s.dspConf.reclvl
    let s := s.raise 114
    let s := s.dspMark 1 1 d.band 0xFF (List.replicate 24 0xFF) (packLevels to_)
    let s := s.onDsp fun d => { d with job := .recovery, target := to_, updPage := 0xFF, shown := 0xFE, holdDue := none }
    .next (s.callUnits (unitMask [8]))

/-- DSP_RAIL_UP: the rails are in regulation; the first LCD frame starts on the next whole millisecond (Table 19-4). -/
def execDspRailUp (s : State) : Out :=
  if !s.runs 8 || s.dsp.inReg then .next s
  else
    let lcd := s.dspMode = 1
    .next (s.onDsp fun d => { d with
      inReg := true, neg := false, segs := []
      vlcd := 25 * (s.dspConf.vlcdb[d.band]?.getD 0)
      frameDue := if lcd then some (nextMultiple 1000 s.tb) else none })

/-- DSP_UPDATE_START: at the first whole millisecond with the rails in regulation the band is latched and every figure
starts, of an update (R429) or of a recovery (R431). -/
def execDspUpdateStart (s : State) : Out :=
  let d := s.dsp
  if !s.runs 8 || !d.inReg || d.updEnd.isSome || d.job == .none || (d.job == .update && !d.verified) then .next s
  else
    let s := if s.tb % 1000 = 0 then s else s.jump (nextMultiple 1000 s.tb)
    let cur := d.levels.getD []
    let fig := fun (k : Nat) =>
      if d.job == .recovery then s.dspConf.recfig
      else nth (nth s.applied.dsp.odBi (cur[k]?.getD 0) (Vector.replicate 4 0)) (d.target[k]?.getD 0) 0
    let figs := (List.range 96).filterMap fun k =>
      let ph := if s.segOn k then s.com.figure (fig k) d.band else []
      if figTime ph = 0 then none else some (k, ph)
    let len := figs.foldl (fun m e => max m (figTime e.2)) 0
    .next (s.onDsp fun d => { d with
      lband := d.band, figs := figs, figAt := s.tb, updEnd := some (tbAdd s.tb len), holdDue := none })

/-- DSP_FIGURE_END: the segment goes to 0 V (R429). -/
def execDspFigureEnd (seg : Nat) (s : State) : Out :=
  if seg ≥ 96 then .fault .noSuchUnit
  else
    match s.dsp.figs.find? fun e => e.1 == seg with
    | none => .next s
    | some e =>
      let s := s.jump (tbAdd s.dsp.figAt (figTime e.2))
      .next (s.onDsp fun d => { d with figs := d.figs.filter fun x => x.1 != seg })

/-- DSP_UPDATE_END: marker of STATE 2, the new levels stand, FIGURE_DONE; DSP_SHOWN unless a newer page is pending, which
starts at once (R429). [DEDUCED, log 57] -/
def execDspUpdateEnd (s : State) : Out :=
  match s.dsp.updEnd with
  | none => .next s
  | some e =>
    if s.dsp.job != .update then .next s
    else
      let s := s.jump e
      let d := s.dsp
      let s := s.dspMark 2 0 d.lband d.updPage (packLevels (d.levels.getD [])) (packLevels d.target)
      let s := s.onDsp fun d => { d with
        job := .none, figs := [], updEnd := none, lband := 0xFF, levels := some d.target, shown := d.updPage
        updates := d.updates + 1 }
      let s := s.raise 113
      let newer := s.applied.dsp.page != d.updPage || s.dspTarget d.target != d.target
      .next ((s.raiseIf (!newer) 112).dspAfter)

/-- DSP_RECOVERY_END: marker of STATE 2 at RECLVL, FIGURE_DONE, then the shown page (R431). [DEDUCED, log 57] -/
def execDspRecoveryEnd (s : State) : Out :=
  match s.dsp.updEnd with
  | none => .next s
  | some e =>
    if s.dsp.job != .recovery then .next s
    else
      let s := s.jump e
      let d := s.dsp
      let s := s.dspMark 2 1 d.lband 0xFF (List.replicate 24 0xFF) (packLevels d.target)
      let s := s.onDsp fun d => { d with
        job := .none, figs := [], updEnd := none, lband := 0xFF, levels := some d.target
        shown := if s.dspConf.reclvl = 0 then 0xFF else 0xFE
        recovs := satInc d.recovs 65535 }
      .next ((s.raise 113).dspAfter)

/-- DSP_RAIL_FAULT: the rails stop, 5 ms (MODE 1) or 6 ms (MODE 2) after their start where they have not reached regulation (R433). -/
def execDspRailFault (s : State) : Out :=
  if !s.runs 8 then .next s
  else
    let s := if s.dsp.inReg then s else s.jump (tbAdd s.dsp.railAt (if s.dspMode = 1 then 5000 else 6000))
    let s := s.dspRailsDown
    .next ((s.onDsp fun d => { d with fault := true, faultAt := s.tb, railflt := satInc d.railflt 65535, started := false }).raise 115)

/-- The first round boundary 10 s or more after a quantum. -/
def roundAfter10 (t : Nat) : Nat := (t + 10000000 + 999999) / 1000000 * 1000000 % tbMod

/-- DSP_RAIL_RETRY at the first round boundary 10 s after the fault (R433). -/
def execDspRailRetry (s : State) : Out :=
  if !s.dsp.fault || s.pw.pfw || !s.awake then .next s
  else .next ((s.jump (roundAfter10 s.dsp.faultAt)).dspRetry)

/-- RAILHOLD_END (R429). -/
def execRailholdEnd (s : State) : Out :=
  match s.dsp.holdDue with
  | none => .next s
  | some e => if s.dsp.job != .none then .next s else .next ((s.jump e).dspRailsDown)

/-! ### LCD frames (R421 to R426) -/

/-- The frame period and the length of a COM slot [µs] (R421). -/
def lcdPeriod (c : DspCfg) : Nat := if c.fr = 0 then 0 else (roundHalfAway (1000000 / (c.fr : Rat))).toNat
def lcdSlot (c : DspCfg) : Nat := (lcdPeriod c - 400) / 8

/-- A segment at a frame start: a new level starts a transition from the level headed for; else one more frame of the
transition has passed (R423). [DEDUCED, log 58] -/
def LcdSeg.frame (g : LcdSeg) (level ovfr : Nat) : LcdSeg :=
  if level = g.n then { g with left := g.left - 1 } else { p := g.n, n := level, left := ovfr }

/-- The level that a segment is driven at. -/
def LcdSeg.drive (g : LcdSeg) (od : Vector (Vector Nat 16) 16) : Nat :=
  if g.left = 0 then g.n else nth (nth od g.p (Vector.replicate 16 0)) g.n 0

/-- VLCD moved towards a level by at most 50 mV (R426). [DEDUCED, log 58] -/
def vlcdMove (cur goal : Nat) : Nat := if cur ≤ goal then min goal (cur + 50) else max goal (cur - 50)

/-- LCD_FRAME_START: the frame is taken whole from one epoch (R422). Blank completes the frame pair and stops the rails
(R425). [DEDUCED, log 58] -/
def execLcdFrameStart (s : State) : Out :=
  match s.dsp.frameDue with
  | none => .next s
  | some e =>
    if !s.runs 8 || !s.dsp.inReg || s.dspMode != 1 then .next s
    else
      let s := s.jump e
      let page := s.applied.dsp.page
      if page ≥ 16 && !s.dsp.neg then .next (s.dspRailsDown.onDsp fun d => { d with showDue := false })
      else
        let c := s.dspConf
        let take := page < 16 && s.dsp.showDue
        let segs :=
          if s.dsp.segs = [] then (lcdLevels s.dsp.goal).map fun l => ({ p := l, n := l } : LcdSeg)
          else if take then (s.dsp.segs.zip (lcdLevels s.dsp.goal)).map fun e => e.1.frame e.2 c.ovfr
          else s.dsp.segs.map fun g => g.frame g.n c.ovfr
        let s := s.onDsp fun d => { d with
          segs := segs, neg := !d.neg, frameAt := s.tb, frameConf := c, frameOd := s.applied.dsp.odLcd, frameDue := some (tbAdd s.tb (lcdPeriod c))
          vlcd := vlcdMove d.vlcd (25 * (c.vlcdb[d.band]?.getD 0))
          shown := if page < 16 then page else d.shown
          showDue := d.showDue && !take }
        .next (s.raiseIf take 112)

/-- The band at a beat boundary (R426): thresholds in 0.01 °C, HYST in 0.1 K, the point in 0.001 °C. -/
def State.dspBand (s : State) : State :=
  let c := s.dspConf
  let v := s.point (if c.bandpt = 0xFFFF then 0x30 else c.bandpt)
  if v = noVal then s
  else
    let th : Nat → Int := fun i => 10 * (c.bandt[i]?.getD 0)
    let up := (List.range 7).foldl (fun b _ => if b < 7 && v.toInt ≥ th b then b + 1 else b) s.dsp.band
    let dn := (List.range 7).foldl (fun b _ => if b > 0 && v.toInt < th (b - 1) - 100 * (c.hyst : Int) then b - 1 else b) up
    s.onDsp fun d => { d with band := dn, tband := v }

/-! ### Backlight (R47, R434) -/

/-- The level of a sink in a quantum. -/
def BlSink.level (b : BlSink) (t : Nat) : Nat :=
  let el := tbSub t b.at_
  if el ≥ 1000 * b.fade then b.to_
  else (roundHalfAway ((b.from_ : Rat) + ((b.to_ : Rat) - b.from_) * el / (1000 * b.fade : Nat))).toNat

/-- The duty of a sink: off outside RUN, under the power-fail warning and LIMIT (R434). -/
def State.blDuty (s : State) (i : Nat) : Nat :=
  if s.runs 9 && s.phase == .run && !s.pw.pfw && !s.pw.limit then min ((nth s.dsp.bl i {}).level s.tb) s.dsp.cap else 0

/-- A level put in its place in a rising list. -/
def levelInsert (l : Nat) : List Nat → List Nat
  | [] => [l]
  | x :: xs => if l ≤ x then l :: x :: xs else x :: levelInsert l xs

/-- The highest common cap at which capped levels, in rising order, add up to no more than a sum; 100 % where they all fit.
[DEDUCED, log 24] -/
def fillCap : List Nat → Nat → Nat
  | [], _ => 10000
  | l :: ls, sum => if l * (ls.length + 1) ≤ sum then fillCap ls (sum - l) else sum / (ls.length + 1)

/-- The backlight governor's cap for a class [mW], an intake, the declared power of a sink and the levels commanded (R47, R434): the sinks'
power, each BLMW × its duty, within 95 % of the class less the intake. [DEDUCED, log 24] -/
def blCap (classMw intakeMw blmw : Nat) (lvls : List Nat) : Nat :=
  if blmw = 0 then 10000 else min 10000 (fillCap (lvls.foldr levelInsert []) ((95 * classMw - 100 * intakeMw) * 100 / blmw))

/-- The level that a sink may come to before the cap is next recomputed: where it stands or what is commanded, the higher.
[DEDUCED, log 24] -/
def State.blDemand (s : State) : List Nat :=
  (List.range 4).map fun i => max ((nth s.dsp.bl i {}).level s.tb) (nth s.dsp.bl i {}).to_

/-- Levels of a committed DSP_BACKLIGHT: a changed one moves from where its sink stands (R434). -/
def State.applyBacklight (d : DisplayCfg) (s : State) : State :=
  let f := fun (i : Nat) (b : BlSink) =>
    let l := nth d.lvl i 0
    if l = b.to_ then b else { from_ := b.level s.tb, to_ := l, at_ := s.tb, fade := d.fade }
  let changed := (List.range 4).any fun i => nth d.lvl i 0 != (nth s.dsp.bl i {}).to_
  let s := s.onDsp fun x => { x with bl := updAll x.bl f }
  if changed && d.lvl.toList.any (· > 0) then s.callUnits (unitMask [9]) else s

/-! ### The apply quantum -/

/-- Display state taking effect in an apply quantum (R419, R422, R429, R433): any change of it retries rails that have failed, a page to
show calls for them, a change of MODE, or of SEGEN or KEYCOLS in
MODE 2, stops the rails and starts the engine again. -/
def State.applyDsp (d : DisplayCfg) (s : State) : State :=
  let old := s.applied.dsp
  let goal := s.com.pageBody d.page
  let pageChange := d.page != old.page || goal != s.dsp.goal
  let changed := pageChange || d != old || s.com.kindBodies 7 != s.dsp.pages
  let restart := d.conf.mode != old.conf.mode ||
    (d.conf.mode == 2 && (d.conf.segen != old.conf.segen || d.conf.keycols != old.conf.keycols))
  let s := if restart then s.dspRailsDown else s
  let s := { s with applied := { s.applied with dsp := d } }
  let s := s.onDsp fun x => { x with goal := goal, pages := s.com.kindBodies 7, showDue := x.showDue || (pageChange && d.conf.mode == 1) }
  let s :=
    if restart then (s.onDsp fun x => { x with started := false, fault := false }).dspStart
    else if s.dsp.fault then (if changed && !s.pw.pfw then s.dspRetry else s)
    else if !pageChange then s
    else if d.conf.mode = 1 then
      (if d.page < 16 then s.callUnits (unitMask [8])
       else if s.runs 8 then s else s.onDsp fun x => { x with shown := 0xFF, showDue := false })
    else if d.conf.mode = 2 then (if s.dsp.started then s.dspBegin else if s.pw.coldDone && !s.pw.pfw then s.dspStart else s)
    else s
  s.applyBacklight d

/-! ### Commands (Table 19-5) -/

/-- The checks of DSP_CONFIG's parameters. [DEDUCED, log 37] -/
def dspConfigChecks (p : Bytes) : Checks :=
  let bp := u16 p 16
  ([(u8 p 0 > 2, badParam 0), (u8 p 1 < 60 || u8 p 1 > 200, badParam 1), (u8 p 2 > 1, badParam 2), (u8 p 3 > 15, badParam 3),
   (u8 p 0 = 2 && u8 p 2 = 1 && u8 p 4 != 0, badParam 4),
   (bp != 0xFFFF && !(validPoint bp && (isPT bp || isHK bp || isVP bp)), badParam 16)] : Checks) ++
  (List.range 6).map (fun i => (decide (s16 p (18 + 2 * i) ≥ s16 p (20 + 2 * i)), badParam 0xFF)) ++
  chk (u8 p 32 > 50) (badParam 32) ++
  (List.range 8).map (fun i => (decide (u8 p (33 + i) < 100 ∨ u8 p (33 + i) > 240), badParam (33 + i))) ++
  [(decide (u8 p 41 < 1) || u8 p 41 > 15, badParam 41), (u8 p 42 > 3, badParam 42), (u8 p 43 > 100, badParam 43)]

/-- DSP_CONFIG. -/
def cmdDspConfig (c : Ctx) (s : State) : State × Ans :=
  stagedCmd 0xC0 (dspConfigChecks c.p)
    [(u8 c.p 0 != s.com.cfg.dsp.conf.mode && s.dsp.job != .none, refused stConflict)] [] c s

/-- DSP_SHOW. -/
def cmdDspShow (c : Ctx) (s : State) : State × Ans :=
  stagedCmd 0xC1 [(u8 c.p 0 > 15 && u8 c.p 0 != 0xFF, badParam 0)] [] [] c s

/-- DSP_OVERDRIVE. [DESIGN CHOICE, log 72] -/
def cmdDspOverdrive (c : Ctx) (s : State) : State × Ans :=
  let n := if u8 c.p 0 = 0 then 16 else 4
  stagedCmd 0xC2
    (([(u8 c.p 0 > 1, badParam 0), (decide (u8 c.p 1 ≥ n), badParam 1)] : Checks) ++
      (List.range n).map fun i => (decide (u8 c.p (2 + i) > 15), badParam (2 + i))) [] [] c s

/-- DSP_FIGURE. -/
def cmdDspFigure (c : Ctx) (s : State) : State × Ans :=
  let n := u8 c.p 2
  stagedCmd 0xC3
    (([(u8 c.p 0 < 1 || u8 c.p 0 > 15, badParam 0), (u8 c.p 1 > 7, badParam 1), (n < 1 || n > 8, badParam 2)] : Checks) ++
      (List.range 8).flatMap fun i =>
        let v := u8 c.p (3 + 2 * i)
        let d := u8 c.p (4 + 2 * i)
        [(if i < n then decide (v > 2) else v != 0, badParam (3 + 2 * i)),
         (if i < n then decide (d < 1) else d != 0, badParam (4 + 2 * i))]) [] [] c s

/-- DSP_BACKLIGHT. -/
def cmdDspBacklight (c : Ctx) (s : State) : State × Ans :=
  stagedCmd 0xC4
    ((List.range 4).map (fun i => (decide (u16 c.p (2 * i) > 10000), badParam (2 * i))) ++
      chk (u16 c.p 8 > 5000) (badParam 8)) [] [] c s

/-- The STATE of DSP_STATUS. [DEDUCED, log 57] -/
def State.dspState (s : State) : Nat :=
  if s.dsp.fault then 5
  else if s.dsp.updEnd.isSome then (if s.dsp.job == .recovery then 4 else 3)
  else if !s.runs 8 then 0
  else if s.dsp.inReg then 2 else 1

/-- The pending page: one whose frame, or whose update, is still to come (R422, R429). -/
def State.dspPend (s : State) : Nat :=
  let page := s.applied.dsp.page
  if s.dspMode = 1 then (if s.dsp.showDue then page else 0xFE)
  else if s.dspMode = 2 then
    (if s.dsp.job == .update && (page != s.dsp.updPage || s.dspTarget s.dsp.target != s.dsp.target) then page
     else if s.dsp.job == .recovery then page else 0xFE)
  else 0xFE

/-- DSP_STATUS. What no rule gives a value, a temperature not yet used and a rail out of regulation, is a free value.
[DESIGN CHOICE, log 8] -/
def cmdDspStatus (_c : Ctx) (s : State) : State × Ans :=
  let d := s.dsp
  let (f0, s) := s.draw
  let (f1, s) := s.draw
  let (f2, s) := s.draw
  let (f3, s) := s.draw
  let lcd := d.inReg && s.dspMode == 1
  let bi := d.inReg && s.dspMode == 2
  let left := match d.updEnd with
    | none => 0
    | some e => timeLeft e s.tb / 1000
  (s, .now stOk
    (le 1 s.dspMode ++ le 1 s.dspState ++ le 1 d.shown ++ le 1 s.dspPend ++ le 1 d.band ++ le 1 d.lband ++
     (if d.tband = noVal then le 2 f0 else leI 2 (roundHalfAway ((d.tband.toInt : Rat) / 10))) ++
     le 2 (if lcd then d.vlcd else f1) ++ (if bi then le 2 15000 else le 2 f2) ++ (if bi then leI 2 (-15000) else le 2 f3) ++
     le 4 left ++ le 4 d.updates.toNat ++ le 2 d.recovs ++ le 2 d.railflt ++ le 2 d.cap ++
     (List.range 4).flatMap (fun i => le 2 (s.blDuty i)) ++
     le 1 (match s.dspMarker with
       | none => 0
       | some m => u8 m 0)))

end Sys2Proof.Machine
end

