-- ==== Sys2Proof/Machine/Keys.lean ====
section
/-! DEFINITION. The key scanner, encoders, the key queue, actions and the key lock (R437 to R448). -/

namespace Sys2Proof.Machine

/-! ### Configuration (Table 20-1) -/

/-- The code under which the device itself stages a change of the lock alone (R444). -/
def lockOpc : Nat := 0x1D2

/-- Key configuration as PARAMS set it. -/
def setKey (opc : Nat) (p : Bytes) (k : KeyCfg) : KeyCfg :=
  if opc = 0xD0 then
    if u8 p 0 = 0 then
      { k with en := u8 p 1 = 1, mask := BitVec.ofNat 64 (un p 2 8), pdeb := u8 p 10, rdeb := u8 p 11, ghostchk := u8 p 12 = 1 }
    else { k with acts := upd k.acts (u8 p 1) fun _ => { act := u8 p 2, vp := u16 p 3, val := w32 p 5 } }
  else if opc = 0xD1 then
    { k with enc := upd k.enc (u8 p 0) fun _ =>
      { en := u8 p 1 = 1, detent := u8 p 2, inv := u8 p 3 = 1, vp := u16 p 4, step := s32 p 6, min := s32 p 10, max := s32 p 14 } }
  else if opc = 0xD2 then
    { k with locked := u8 p 0 = 1, codes := (List.range (u8 p 1)).map fun i => u8 p (2 + i), autolock := u16 p 10 }
  else { k with locked := u8 p 0 = 1 }

/-- A change of the unit's state. -/
def State.onKeys (f : Keys → Keys) (s : State) : State := { s with keys := f s.keys }

/-- There are key columns (R437). -/
def State.keyColumns (s : State) : Bool := s.dspMode != 2 || s.dspConf.keycols

/-- The LCD refreshes and gives its key slots; else the scanner makes its own (R424, R437). -/
def State.lcdSlots (s : State) : Bool := s.dspMode == 1 && s.phase == .run && s.dsp.frameDue.isSome && !s.dsp.segs.isEmpty

/-- The scanner runs (R437). -/
def State.scans (s : State) : Bool := s.awake && s.applied.key.en && s.keyColumns

/-! ### Actions, lock and unlock (R443, R444) -/

/-- The value that an action starts from: last staged in this beat, else committed. -/
def State.lastStaged (p : Nat) (s : State) : W32 :=
  s.staged.foldl (fun v x => match x.w with
    | .point q w => if q = p then w else v
    | .obj _ _ _ _ _ => v
    | .status _ _ _ _ => v
    | .cmd _ _ => v
    | .model _ _ => v) (s.com.getPoint p)

/-- The active stages no writes while a handover is under way (R374). -/
def State.mayStage (s : State) : Bool := s.pair.handoverAt.isNone

/-- An action's write staged, or dropped and counted (R67, R76); a write of no value changes nothing (R12). [DEDUCED, log 59] -/
def State.stageAction (p : Nat) (v : W32) (s : State) : State :=
  if !s.mayStage || v = noVal then s
  else if s.serviceOwned p || s.stageFull 1 then s.onKeys fun k => { k with actdrop := satInc k.actdrop 65535 }
  else s.stageRank 2 [.point p v]

/-- The sum of a value and an addend; no value, or a sum outside 32 bits, gives a free value. [DESIGN CHOICE, log 8] -/
def State.sumOf (v : W32) (d : Int) (s : State) : Int × State :=
  let x := v.toInt + d
  if v = noVal || x > 0x7FFFFFFF || x < -0x80000000 then
    let (f, s) := s.draw
    ((BitVec.ofNat 32 f).toInt, s)
  else (x, s)

/-- The value of a point that an addition starts from; no value gives a free value. [DESIGN CHOICE, log 8] -/
def State.addend (v : W32) (s : State) : Int × State :=
  if v = noVal then
    let (f, s) := s.draw
    ((BitVec.ofNat 32 f).toInt, s)
  else (v.toInt, s)

/-- The action of a key (R443). -/
def State.keyAction (code : Nat) (press : Bool) (s : State) : State :=
  let a := nth s.applied.key.acts code {}
  if a.vp = 0xFFFF then s
  else if a.act = 1 && press then s.stageAction a.vp a.val
  else if a.act = 2 && press then s.stageAction a.vp (if s.lastStaged a.vp = a.val then 0 else a.val)
  else if a.act = 3 && press then
    let (x, s) := s.sumOf (s.lastStaged a.vp) a.val.toInt
    s.stageAction a.vp (wI x)
  else if a.act = 4 then s.stageAction a.vp (if press then a.val else 0)
  else s

/-- The action of an encoder detent (R443). -/
def State.encAction (n : Nat) (cw : Bool) (s : State) : State :=
  let e := nth s.applied.key.enc n {}
  if e.vp = 0xFFFF then s
  else
    let (x, s) := s.addend (s.lastStaged e.vp)
    s.stageAction e.vp (wI (clampI e.min e.max (x + (if cw then e.step else -e.step))))

/-- A change of the lock alone staged: no point entry and no OBJ_WRITE, it is not counted against R76 (R444). [DEDUCED, log 91] -/
def State.stageLock (on : Bool) (s : State) : State := s.stageRank 2 [.cmd lockOpc (le 1 (b2n on))]

/-- A press against the unlock sequence; whether it completed it (R444), which unlocks nothing while a handover keeps the active from staging
(R374). [DEDUCED, log 59] -/
def State.tryUnlock (code : Nat) (s : State) : State × Bool :=
  let c := s.applied.key
  if !c.locked then (s.onKeys fun k => { k with prog := 0 }, false)
  else if c.codes = [] || !c.mask.getLsbD code then (s, false)
  else
    let k := s.keys
    let first := c.codes[0]? == some code
    let good := k.prog > 0 && c.codes[k.prog]? == some code && inWindow s.tb k.progAt 5000000
    let n := if good then k.prog + 1 else b2n first
    let k := { k with
      fails := if k.prog > 0 && !good then satInc k.fails 65535 else k.fails
      progAt := if good then k.progAt else s.tb
      prog := if n = c.codes.length then 0 else n }
    let s := { s with keys := k }
    if n = c.codes.length && s.mayStage then ((s.stageLock false).raise 121, true) else (s, false)

/-- A taken event acted on by the unit that acts (R443, R444): actions only while the lock is not in force. -/
def State.keyAct (enc : Bool) (code : Nat) (press : Bool) (s : State) : State × Bool :=
  let s := if enc || press then s.onKeys fun k => { k with lastPress := some s.tb } else s
  let (s, un) := if !enc && press then s.tryUnlock code else (s, false)
  if s.pers != .service || s.applied.key.locked then (s, un)
  else if enc then (s.encAction (code - 0x40) press, un)
  else (s.keyAction code press, un)

/-! ### The key queue (R442) -/

/-- The word of an entry (0x3100 + 8i). -/
def KqEntry.word (e : KqEntry) : Nat :=
  e.seq.toNat * 2 ^ 16 + b2n e.valid * 2 ^ 15 + b2n e.fwd * 2 ^ 12 + b2n e.unlock * 2 ^ 11 + b2n e.locked * 2 ^ 10 +
    b2n e.enc * 2 ^ 9 + b2n e.press * 2 ^ 8 + e.code

/-- An event written into entry WRIDX, or counted as lost. -/
def State.enqueueKey (e : KqEntry) (s : State) : State :=
  let k := s.keys
  if (nth k.q k.wridx {}).valid then
    ((s.onKeys fun k => { k with ovf := true, lost := k.lost + 1, lostSat := satInc k.lostSat 65535 }).flag 0x3000 0x8000).raise 117
  else
    let seq := k.wseq + 1
    let i := k.wridx
    ((s.onKeys fun k => { k with
      q := upd k.q i fun _ => { e with seq := seq, valid := true }
      wseq := seq, wridx := (i + 1) % 32 }).flag (0x3100 + 8 * i) 0x8000).raise 116

/-- The time a frame takes on the Minuet link, in steps of 200 ns, one byte each: its payload and 11 bytes (R376). -/
def frameSteps (f : LinkFrame) : Nat := f.payload.length + 11

/-- The CRC-32 over TYPE to the end of PAYLOAD (R376). -/
def linkCrc (f : LinkFrame) : Nat := crc32 (le 1 f.typ ++ le 2 f.payload.length ++ le 2 f.seq ++ f.payload)

/-- A frame passes its code and its CRC. -/
def linkValid (f : LinkFrame) : Bool := f.good && f.crc.all fun c => c == linkCrc f

/-- A frame of a delta or a copy, which the frames of the other types go ahead of (R376). -/
def linkBlock (f : LinkFrame) : Bool := 0x10 ≤ f.typ && f.typ < 0x20

/-- The steps of 200 ns until the frames queued have left. -/
def State.linkLeft (s : State) : Nat :=
  let d := (s.pair.linkEnd + 5 * tbMod - 5 * s.tb % (5 * tbMod)) % (5 * tbMod)
  if d ≤ 2 ^ 42 then d else 0

/-- How many frames, the last queued first, have not begun while `left` steps remain until all have left. -/
def notBegun : List LinkFrame → Nat → Nat
  | [], _ => 0
  | f :: fs, left => if frameSteps f < left then notBegun fs (left - frameSteps f) + 1 else 0

/-- The frames of linkOut that have not begun. [DESIGN CHOICE, log 62] -/
def State.linkWaits (s : State) : Nat := notBegun s.pair.linkOut.reverse s.linkLeft

/-- A Minuet link frame queued: one that is no block goes ahead of every block that has not begun; SEQ counts frames in the
order of sending (R376). [DEDUCED, log 59] [DESIGN CHOICE, log 62] -/
def State.linkQueue (typ : Nat) (payload : Bytes) (s : State) : State :=
  let p := s.pair
  let f : LinkFrame := { typ := typ, payload := payload }
  let sealed := fun (x : LinkFrame) (q : Nat) => { x with seq := q, crc := some (linkCrc { x with seq := q }) }
  let begun := p.linkOut.length - s.linkWaits
  let w := p.linkOut.drop begun
  let order := if linkBlock f then w ++ [f] else w.filter (fun x => !linkBlock x) ++ f :: w.filter linkBlock
  { s with pair := { p with
      linkSeq := (p.linkSeq + 1) % 65536
      linkEnd := (5 * s.tb + s.linkLeft + frameSteps f) % (5 * tbMod)
      linkOut := p.linkOut.take begun ++
        order.mapIdx fun i x => sealed x ((p.linkSeq + 65535 * w.length + i) % 65536) } }

/-- The link's logic runs with Pavane step 2. -/
def State.linkRuns (s : State) : Bool := s.paired && s.awake && s.runs 1

/-- An event taken: the unit that acts acts on it; a unit of a pair that is not active forwards it (R445). -/
def State.takeKey (enc : Bool) (code : Nat) (press : Bool) (stamp : Nat) (s : State) : State :=
  let locked := s.applied.key.locked
  let fwd := s.linkRuns && !s.acting && s.unit.pair.keyfwd
  let (s, un) := if s.acting then s.keyAct enc code press else (s, false)
  let e : KqEntry :=
    { valid := true, fwd := fwd, unlock := un, locked := locked, enc := enc, press := press, code := code, stamp := wN stamp }
  let s := s.enqueueKey e
  if fwd then s.linkQueue 0x30 (le 1 code ++ le 1 (e.word / 256 % 256) ++ le 4 stamp) else s

/-- A valid frame from the partner: the link's 3 ms start again (R377). -/
def State.linkHeard (lf : LinkFrame) (s : State) : Option State :=
  if s.linkRuns && linkValid lf then some { s with pair := { s.pair with linkAt := s.tb } } else none

/-- KEYEVT_FRAME: the active acts on a forwarded event as if it were its own, and does not queue it (R445). -/
def execKeyevtFrame (lf : LinkFrame) (s : State) : Out :=
  match s.linkHeard lf with
  | none => .next s
  | some s =>
    if lf.typ != 0x30 || lf.payload.length != 6 || !s.acting then .next s
    else .next (s.keyAct (bit (u8 lf.payload 1) 1) (u8 lf.payload 0) (bit (u8 lf.payload 1) 0)).1

/-- KQE_FREE: a 1 written to VALID (R442); not over an entry written in this quantum (R7). -/
def execKqeFree (i : Nat) (s : State) : Out :=
  if i ≥ 32 then .fault .noSuchUnit
  else if !s.awake then .next s
  else
    let clr := s.clearable (0x3100 + 8 * i) 0x8000
    .next (if clr = 0 then s else s.onKeys fun k => { k with q := upd k.q i fun e => { e with valid := false } })

/-! ### Scanning, ghosting, debounce (R437 to R439) -/

/-- A crossing reads pressed. -/
def keyAt (m : BitVec 64) (r c : Nat) : Bool := m.getLsbD (8 * r + c)

/-- A crossing is suspect: it and three corners of some rectangle read pressed (R439). -/
def suspectKey (m : BitVec 64) (code : Nat) : Bool :=
  let r := code / 8
  let c := code % 8
  keyAt m r c && (List.range 8).any fun r' => (List.range 8).any fun c' =>
    r' != r && c' != c && keyAt m r c' && keyAt m r' c && keyAt m r' c'

/-- The withheld crossings. -/
def withheldOf (m pressed : BitVec 64) : BitVec 64 :=
  (List.range 64).foldl (fun b k => if !pressed.getLsbD k && suspectKey m k then putBit b k true else b) 0

/-- The rectangles of pressed readings that hold a withheld crossing, as (r, r', c, c'). -/
def ghostRects (m held : BitVec 64) : List (Nat × Nat × Nat × Nat) :=
  if held = 0 then []
  else
    (List.range 8).flatMap fun r => (List.range 8).flatMap fun r' =>
      if r' ≤ r then []
      else (List.range 8).flatMap fun c => (List.range 8).filterMap fun c' =>
        if c < c' && keyAt m r c && keyAt m r c' && keyAt m r' c && keyAt m r' c' &&
            (keyAt held r c || keyAt held r c' || keyAt held r' c || keyAt held r' c')
        then some (r, r', c, c') else none

/-- One key of the column judged at a scan (R438). -/
def State.debounce (code : Nat) (sus : Bool) (s : State) : State :=
  let c := s.applied.key
  let v := s.keys.reading.getLsbD code
  let p := s.keys.pressed.getLsbD code
  if v = p || (sus && !p) then s.onKeys fun k => { k with since := mdel k.since code }
  else
    match mget s.keys.since code with
    | none => s.onKeys fun k => { k with since := mset k.since code (s.tb, 1000 * (if v then c.pdeb else c.rdeb)) }
    | some (t0, db) =>
      if tbSub s.tb t0 < db then s
      else
        let s := s.onKeys fun k => { k with since := mdel k.since code, pressed := putBit k.pressed code v }
        if c.mask.getLsbD code then s.takeKey false code v (t0 / 1000) else s

/-- The quantum in which a column's rows are sampled: the last of its slot, in an LCD frame one of the frame as it was taken (R422, R437). -/
def State.scanDue (s : State) (col : Nat) : Nat :=
  if s.lcdSlots then
    let c := s.dsp.frameConf
    if col < 7 then tbAdd s.dsp.frameAt ((col + 1) * (lcdSlot c + 50) - 1) else tbAdd s.dsp.frameAt (lcdPeriod c - 1)
  else tbAdd s.tb ((250 * col + 49 + 2000 - s.tb % 2000) % 2000)

/-- KEY_COLUMN_SCAN: rows has a 1 for each row read low. A crossing that this makes withheld counts no more, whichever column was scanned
(R439). [DEDUCED, log 59] -/
def execKeyColumnScan (col : Nat) (rows : BitVec 8) (s : State) : Out :=
  if col ≥ 8 then .fault .noSuchUnit
  else if !s.scans then .next s
  else
    let s := s.jump (s.scanDue col)
    let was := ghostRects s.keys.reading s.keys.withheld
    let m := (List.range 8).foldl (fun m r => putBit m (8 * r + col) (rows.getLsbD r)) s.keys.reading
    let held := if s.applied.key.ghostchk then withheldOf m s.keys.pressed else 0
    let ghost := (ghostRects m held).any fun r => !was.contains r
    let s := s.onKeys fun k => { k with
      reading := m, withheld := held, since := k.since.filter fun e => !held.getLsbD e.1
      ghosts := if ghost then k.ghosts + 1 else k.ghosts
      ghostSat := if ghost then satInc k.ghostSat 65535 else k.ghostSat }
    let s := s.raiseIf ghost 118
    .next ((List.range 8).foldl (fun s r =>
      s.debounce (8 * r + col) (s.applied.key.ghostchk && suspectKey m (8 * r + col))) s)

/-- Keys pressed are taken as released where a configuration leaves no key columns (R437). [DEDUCED, log 59] -/
def State.dropKeys (s : State) : State :=
  let was := s.keys.pressed
  let s := s.onKeys fun k => { k with reading := 0, pressed := 0, withheld := 0, since := [] }
  (List.range 64).foldl (fun s k =>
    if was.getLsbD k && s.applied.key.mask.getLsbD k then s.takeKey false k false (s.tb / 1000) else s) s

/-! ### Encoders (R440) -/

/-- The step from one accepted pair to another: 1 clockwise, -1 anticlockwise, none for a change of both lines. -/
def quarterStep (a b a' b' : Bool) : Option Int :=
  if a = a' && b = b' then some 0
  else if a != a' && b != b' then none
  else if a != a' then some (if a' = !b then 1 else -1)
  else some (if b' = a then 1 else -1)

/-- One encoder's sample. [DEDUCED, log 59] -/
def State.sampleEnc (n : Nat) (a b : Bool) (woke : Bool) (s : State) : State :=
  let c := nth s.applied.key.enc n {}
  let e := nth s.keys.enc n {}
  let na := if woke || a = e.lastA then a else e.a
  let nb := if woke || b = e.lastB then b else e.b
  let e' := { e with lastA := a, lastB := b, a := na, b := nb }
  let put := fun (x : EncRun) => s.onKeys fun k => { k with enc := upd k.enc n fun _ => x }
  if !c.en then put e'
  else
    match quarterStep e.a e.b na nb with
    | none => put { e' with err := e'.err + 1 }
    | some q =>
      let acc := e.acc + (if c.inv then -q else q)
      if acc ≥ c.detent then
        (put { e' with acc := acc - c.detent, pos := e'.pos + 1 }).takeKey true (0x40 + n) true (s.tb / 1000)
      else if acc ≤ -(c.detent : Int) then
        (put { e' with acc := acc + c.detent, pos := e'.pos - 1 }).takeKey true (0x40 + n) false (s.tb / 1000)
      else put { e' with acc := acc }

/-- ENC_SAMPLE: lines has ENCnA at bit 2n and ENCnB at bit 2n + 1. -/
def execEncSample (lines : BitVec 8) (s : State) : Out :=
  if !s.awake then .next s
  else
    let s := if s.tb % 50 = 0 && s.keys.encAt != s.tb then s else s.jump (nextMultiple 50 s.tb)
    let woke := s.keys.encWoke
    let s := s.onKeys fun k => { k with encAt := s.tb, encWoke := false }
    .next ((List.range 4).foldl (fun s n => s.sampleEnc n (lines.getLsbD (2 * n)) (lines.getLsbD (2 * n + 1)) woke) s)

/-! ### Autolock and wake (R441, R444) -/

/-- AUTOLOCK_EXPIRY; while a handover keeps the active from staging it is still to come (R374). -/
def execAutolockExpiry (s : State) : Out :=
  match s.keys.lastPress with
  | none => .next s
  | some t =>
    if s.applied.key.autolock = 0 || s.applied.key.locked || !s.acting || !s.awake || !s.mayStage then .next s
    else
      let s := s.jump (tbAdd t (1000000 * s.applied.key.autolock))
      .next ((s.onKeys fun k => { k with lastPress := none }).stageLock true)

/-- KEY_WAKE: a key of an enabled column is pressed in DOZE. -/
def execKeyWake (code : Nat) (s : State) : Out :=
  if code ≥ 64 then .fault .noSuchUnit
  else
    let used := (List.range 8).any fun r => s.applied.key.mask.getLsbD (8 * r + code % 8)
    .next (if s.phase == .doze && s.applied.key.en && s.keyColumns && used then s.raise 119 else s)

/-- ENC_WAKE: an edge on an enabled encoder in DOZE. -/
def execEncWake (enc : Nat) (s : State) : Out :=
  if enc ≥ 4 then .fault .noSuchUnit
  else .next (if s.phase == .doze && (nth s.applied.key.enc enc {}).en then s.raise 120 else s)

/-- A key command taking effect in an apply quantum (R446). -/
def State.applyKey (opc : Nat) (p : Bytes) (s : State) : State :=
  let codes := s.applied.key.codes
  let s := { s with applied := { s.applied with key := setKey opc p s.applied.key } }
  if opc = 0xD1 then s.onKeys fun k => { k with enc := upd k.enc (u8 p 0) fun e => { e with acc := 0 } }
  else if s.applied.key.locked && s.applied.key.codes = codes then s
  else s.onKeys fun k => { k with prog := 0 }

/-! ### Commands (Table 20-1) -/

/-- The check of a VP operand: SERVICE may name a virtual point or none, TRANSPORT none (R445). -/
def keyVpBad (vp : Nat) (s : State) : Bool :=
  if s.pers = .service then vp != 0xFFFF && !isVP vp else vp != 0xFFFF

/-- KEY_CONFIG. [DESIGN CHOICE, log 72] -/
def cmdKeyConfig (c : Ctx) (s : State) : State × Ans :=
  let p := c.p
  if u8 p 0 = 0 then
    stagedCmd 0xD0
      [(u8 p 1 > 1, badParam 1), (u8 p 10 < 2 || u8 p 10 > 126, badParam 10), (u8 p 11 < 2 || u8 p 11 > 126, badParam 11),
       (u8 p 12 > 1, badParam 12)] [] [] c s
  else
    stagedCmd 0xD0
      [(u8 p 0 > 1, badParam 0), (u8 p 1 > 63, badParam 1), (u8 p 2 > 4 || (s.pers != .service && u8 p 2 != 0), badParam 2),
       (keyVpBad (u16 p 3) s, badParam 3)]
      [(u16 p 3 != 0xFFFF && s.serviceOwned (u16 p 3), refused stConflict)] [] c s

/-- ENC_CONFIG. -/
def cmdEncConfig (c : Ctx) (s : State) : State × Ans :=
  let p := c.p
  stagedCmd 0xD1
    [(u8 p 0 > 3, badParam 0), (u8 p 1 > 1, badParam 1), (!([1, 2, 4].contains (u8 p 2)), badParam 2), (u8 p 3 > 1, badParam 3),
     (keyVpBad (u16 p 4) s, badParam 4), (decide (s32 p 10 ≥ s32 p 14), badParam 0xFF)]
    [(u16 p 4 != 0xFFFF && s.serviceOwned (u16 p 4), refused stConflict)] [] c s

/-- KEY_LOCK. -/
def cmdKeyLock (c : Ctx) (s : State) : State × Ans :=
  let p := c.p
  let n := u8 p 1
  let bad := fun (i : Nat) =>
    let k := u8 p (2 + i)
    if i < n then decide (k > 63) || !s.com.cfg.key.mask.getLsbD k else k != 0xFF
  let al := u16 p 10
  stagedCmd 0xD2
    (([(u8 p 0 > 1, badParam 0), (decide (n > 8), badParam 1)] : Checks) ++
      (List.range 8).map (fun i => (bad i, badParam (2 + i))) ++
      chk (al != 0 && (decide (al < 5) || decide (al > 3600))) (badParam 10)) [] [] c s

/-- The present full-scan period (KEY_STATUS SCANP). -/
def State.scanPeriod (s : State) : Nat := if !s.scans then 0 else if s.lcdSlots then lcdPeriod s.dsp.frameConf else 2000

/-- The valid entries of the queue. -/
def Keys.count (k : Keys) : Nat := (k.q.toList.filter (·.valid)).length

/-- KEY_STATUS. -/
def cmdKeyStatus (_c : Ctx) (s : State) : State × Ans :=
  let k := s.keys
  (s, .now stOk
    (le 1 (b2n s.applied.key.locked) ++ le 1 k.prog ++ le 8 k.pressed.toNat ++ le 8 k.withheld.toNat ++ le 1 k.count ++
     le 2 k.lostSat ++ le 2 k.ghostSat ++ le 2 k.fails ++ le 2 k.actdrop ++
     (List.range 4).flatMap (fun n => le 2 (nth k.enc n {}).pos.toNat) ++ le 2 s.scanPeriod))

end Sys2Proof.Machine
end

