-- ==== Sys2Proof/Machine/Bus.lean ====
section
/-! DEFINITION. The bus controller and the line interface: reception through the filters, the transmit FIFO and the
slots, fault confinement, suspected collisions, bus sleep and wake, line faults (R313 to R359). -/

namespace Sys2Proof.Machine

/-- A change of the controller's state. -/
def State.onBus (f : Bus → Bus) (s : State) : State := { s with bus := f s.bus }

/-- The controller takes part in traffic: integrated, and not off the bus. -/
def Bus.onLine (b : Bus) : Bool := b.phase == .active || b.phase == .passive

/-- A configuration that has a pairing unit: paired or CALLER. -/
def State.supervised (s : State) : Bool := s.paired || s.pers == .caller

/-- BUS_CONFIG's PARAMS. -/
def busCfgOf (p : Bytes) : BusCfg :=
  { arate := u8 p 0, atseg1 := u8 p 1, asjw := u8 p 2, drate := u8 p 3, dtseg1 := u8 p 4, dsjw := u8 p 5,
    listen := u8 p 6 = 1, autorec := u8 p 7, nidsrc := u8 p 8, nodeid := u32 p 9 }

/-- The bus timestamp of a step of 100 ns that lies age steps before the present quantum (R350). [DESIGN CHOICE, log 86] -/
def State.busStamp (s : State) (age : Nat) : W32 := wN ((10 * s.tb + (10 * tbMod - age % (10 * tbMod))) % (10 * tbMod))

/-! ### Which frame is offered (R339, R355) -/

/-- The frame of the vigil slot (0), the allotment slot (1) or the FIFO head (2). -/
def Bus.frameOf (b : Bus) (who : Nat) : Option Frame :=
  if who = 0 then b.vigil else if who = 1 then b.allot else b.fifo.head?.map (·.f)

/-- The suspected collisions of the frame of the vigil slot (0), the allotment slot (1) or the FIFO head (2). -/
def Bus.col (b : Bus) (who : Nat) : Collision := nth b.cols who {}

/-- They are changed. -/
def Bus.setCol (b : Bus) (who : Nat) (c : Collision) : Bus := { b with cols := upd b.cols who fun _ => c }

/-- The frame chosen where the controller may start one: the vigil slot, the allotment slot, the FIFO head, a held frame
left out (R339, R355). -/
def Bus.choice (b : Bus) : Option Nat :=
  [0, 1, 2].find? fun who => (b.frameOf who).isSome && !(b.col who).held

/-- Before a slot is loaded or a hold ends: an attempt at the frame chosen until then may have begun, and is not cut short
(R339). [DEDUCED, log 61] -/
def Bus.mayHaveBegun (b : Bus) : Bus := if b.onLine then { b with begun := b.choice.toList ++ b.begun } else b

/-- A frame may be the one in transmission: on the line, not in listen-only mode, and it is the one chosen or was the one
chosen when the attempt began (R339). A unit of a pair that is not active sends of its FIFO only the replies of its remote records
(R375, R387); a caller that listens sends no verdict, and keeps in its slot one not sent (R351, R366). [DEDUCED, log 77] -/
def State.offers (s : State) (who : Nat) : Bool :=
  let quiet := s.pers == .caller && s.caller.listening
  let b := if quiet then { s.bus with vigil := none } else s.bus
  s.awake && b.onLine && !s.applied.bus.listen && (b.frameOf who).isSome && !(b.col who).held &&
    (b.choice == some who || b.begun.contains who) &&
    (who != 2 || s.acting || s.bus.fifo.head?.any fun e => e.remote.isSome)

/-! ### The allotment request (R44, R330) -/

/-- An allotment request loaded into its slot; the request counts from this quantum (R45). [DEDUCED, log 61] -/
def State.requestAllot (reason : Nat) (s : State) : State :=
  let a := s.pw.allot
  let f : Frame :=
    { ide := true, id := 0x1EE00000 + low s.unit.serial.toNat 20, fdf := true
      data := le 8 s.unit.serial.toNat ++ le 1 s.applied.pwr.cls ++ le 1 a.held ++ le 1 reason ++ [0] }
  { s with bus := { s.bus.mayHaveBegun.setCol 1 {} with allot := some f }
           pw := { s.pw with allot := { a with outstanding := true, reqAt := s.tb, reason := reason } } }

/-! ### Entries leaving the FIFO (R342) -/

/-- Entry i of the FIFO leaves with an outcome of Table 16-3; the place of a remote record whose final reply this was
becomes free (R120), and waiting replies move up. -/
def State.txLeave (i outcome : Nat) (stamp : Option W32) (s : State) : State :=
  match s.bus.fifo[i]? with
  | none => s
  | some e =>
    let rest := s.bus.fifo.eraseIdx i
    let s := s.onBus fun b => { b with
      fifo := rest, lastOutSeq := e.txseq, lastOut := outcome, lastTs := stamp.getD b.lastTs
      cols := if i = 0 then upd b.cols 2 fun _ => {} else b.cols }
    let s := match e.remote with
      | some (id, true) => { s with rem := { s.rem with box := s.rem.box.filter fun c => c.id != id } }
      | some (_, false) => s
      | none => s
    remotePump 32 ((s.raise 98).raiseIf rest.isEmpty 99)

/-- Every entry from place i on leaves FLUSHED. -/
def State.flushFrom : Nat → Nat → State → State
  | 0, _, s => s
  | n + 1, i, s => State.flushFrom n i (if s.bus.fifo.length > i then s.txLeave i 4 none else s)

/-- FLUSH: every entry present leaves FLUSHED. -/
def State.flushAll (s : State) : State := State.flushFrom s.bus.fifo.length 0 s

/-- FLUSH of every entry not in transmission: whether the head is in transmission is open to the model, a free value.
[DESIGN CHOICE, log 8] -/
def State.flushIdle (s : State) : State :=
  if s.offers 2 then
    let (f, s) := s.draw
    State.flushFrom s.bus.fifo.length (f % 2) s
  else s.flushAll

/-! ### Fault confinement (R353) -/

/-- What follows a change of TEC and REC: the warning, error-passive, error-active, bus-off. [PRESUMED, log 60] -/
def State.confine (tec0 rec0 : Nat) (s : State) : State :=
  let b := s.bus
  let s := s.raiseIf ((tec0 < 96 && b.tec ≥ 96) || (rec0 < 96 && b.rxec ≥ 96)) 100
  if b.tec ≥ 256 then
    let s := (s.onBus fun b => { b with phase := .busOff, boAt := s.tb, busoffs := satInc b.busoffs 65535 }).raise 102
    s.raiseIf s.supervised 108
  else if b.phase == .active && (b.tec ≥ 128 || b.rxec ≥ 128) then (s.onBus fun b => { b with phase := .passive }).raise 101
  else if b.phase == .passive && b.tec ≤ 127 && b.rxec ≤ 127 then s.onBus fun b => { b with phase := .active }
  else s

/-! ### Reception (R346 to R350) -/

/-- A filter takes a frame (R346, Table 16-4). -/
def filterTakes (b : Bytes) (f : Frame) : Bool :=
  let fl := u8 b 0
  bit fl 0 && (bit fl 2 || bit fl 1 == f.ide) && (if f.fdf then bit fl 4 else bit fl 3) &&
    (((f.id ^^^ u32 b 4) &&& u32 b 8) % 2 ^ 29 == 0)

/-- An allotment frame (R330). -/
def allotFrame (f : Frame) : Bool := f.ide && frameFunc f == 0x1E && frameSub f ≥ 0xE

/-- The buffers of a range in the order of the search: upwards from the one last written, wrapping (R348).
[DEDUCED, log 61] -/
def bufferOrder (first n : Nat) (last : Option Nat) : List Nat :=
  let k := match last with
    | none => 0
    | some b => if first ≤ b && b < first + n then b - first + 1 else 0
  (List.range n).map fun i => first + (k + i) % n

/-- The buffer with the oldest stamp. -/
def oldestBuffer (s : State) (bs : List Nat) : Nat :=
  bs.foldl (fun m b => if tbSub s.tb (nth s.bus.buf b {}).at_ > tbSub s.tb (nth s.bus.buf m {}).at_ then b else m) (bs.headD 0)

/-- A frame written into a buffer. -/
def State.postFrame (f : Frame) (flt n : Nat) (ovw : Bool) (s : State) : State :=
  let st := s.busStamp f.age
  ((s.onBus fun b => { b with
    buf := upd b.buf n fun x =>
      { seq := x.seq + 1, new := true, ovw := ovw, esi := f.esi, brs := f.brs, fdf := f.fdf, ide := f.ide, id := f.id,
        filt := flt, data := f.data, dlc := if f.fdf then 0 else f.dlc, stamp := st, at_ := s.tb }
    flt := upd b.flt flt fun x => { x with lastBuf := some n } }).flag (0x1000 + 0x50 * n) 0x80).raise 96

/-- A frame taken by a filter: posted, written over the oldest, or discarded (R348). [DEDUCED, log 61] -/
def State.takeFrame (f : Frame) (flt : Nat) (body : Bytes) (s : State) : State :=
  let s := s.onBus fun b => { b with flt := upd b.flt flt fun x => { x with matched := x.matched + 1 } }
  let bufs := bufferOrder (u8 body 2) (u8 body 3) (nth s.bus.flt flt {}).lastBuf
  match bufs.find? fun n => !(nth s.bus.buf n {}).new with
  | some n => s.postFrame f flt n false
  | none =>
    let s := s.onBus fun b => { b with flt := upd b.flt flt fun x => { x with lost := x.lost + 1 } }
    let s := if u8 body 1 = 1 then s.postFrame f flt (oldestBuffer s bufs) true else s
    s.raise 97

/-- REC after a frame received without error (ISO 11898-1): one less; above 127, a value from 119 to 127.
[DESIGN CHOICE, log 8] [PRESUMED, log 60] -/
def State.recDown (s : State) : State :=
  if s.applied.bus.listen then s
  else if s.bus.rxec > 127 then
    let (f, s) := s.draw
    s.onBus fun b => { b with rxec := 119 + f % 9 }
  else s.onBus fun b => { b with rxec := b.rxec - 1 }

/-- FRAME_RECEIVED: allotment and remote frames are withheld; every other is offered to the filters. What the mailbox, the
power manager or the pairing unit makes of a frame is a row of its own. -/
def execFrameReceived (f : Frame) (s : State) : Out :=
  if !s.frameArrives then .next s
  else
    let rec0 := s.bus.rxec
    let s := s.recDown
    let s := (s.onBus fun b => { b with rxok := b.rxok + 1 }).confine s.bus.tec rec0
    if f.remote then .next ((s.onBus fun b => { b with remotes := satInc b.remotes 65535 }).raise 105)
    else if allotFrame f then .next s
    else
      match s.bus.filters.find? fun e => filterTakes e.2 f with
      | none => .next (s.onBus fun b => { b with unmatched := b.unmatched + 1 })
      | some (n, body) => .next (s.takeFrame f n body)

/-- BUS_RECEIVE_ERROR (R353); in listen-only mode the error counters do not change (R352). [PRESUMED, log 60] -/
def execBusReceiveError (obs : RxErrObs) (s : State) : Out :=
  if !s.busReceives then .next s
  else
    let rec0 := s.bus.rxec
    let n := if s.applied.bus.listen then 0 else obs.recInc
    let s := s.onBus fun b => { b with errs := b.errs + 1, lasterr := obs.err, rxec := min 255 (b.rxec + n) }
    .next (s.confine s.bus.tec rec0)

/-! ### Transmission (R339 to R342, R355, R356) -/

/-- A data rate's tq per bit, default TSEG1 and the bounds of TSEG1 (Table 15-2). -/
def dataTiming (code : Nat) : Nat × Nat × Nat × Nat :=
  if code = 0 then (40, 29, 23, 31) else if code = 1 then (20, 14, 11, 15) else (10, 6, 5, 7)

/-- A measured transmitter delay above 2 data bit times, in counts of 25 ns: a bit error of a frame with bit-rate switching, which
is then not sent (R319). [DEDUCED, log 61] -/
def State.delayTooLong (s : State) (who tdc : Nat) : Bool :=
  ((s.bus.frameOf who).map (·.brs)).getD false && decide (s.applied.bus.drate ≤ 2) && decide (tdc > 2 * (dataTiming s.applied.bus.drate).1)

/-- The identifier as BUSCOL shows it, IDCOL set. -/
def colWord (f : Frame) : W32 := wN (2 ^ 31 + b2n f.ide * 2 ^ 29 + f.id)

/-- The end of an entry's LIFE window (R341). -/
def TxEntry.due (e : TxEntry) : Nat := tbAdd e.at_ (1000 * e.life)

/-- The window of an entry has ended by quantum t. -/
def TxEntry.windowOver (e : TxEntry) (t : Nat) : Bool := e.life != 0 && timeLeft e.due t == 0

/-- A transmission attempt fails: the frame is offered again, is held after a suspected collision, or leaves; a FIFO head whose window
ended during the attempt leaves too (R341). [PRESUMED, log 60] [DEDUCED, log 61] -/
def State.attemptFails (obs : TxFailObs) (s : State) : State :=
  let head := if obs.who = 2 then s.bus.fifo.head? else none
  let one := (head.map (·.oneshot)).getD false
  let late := (head.map fun e => e.windowOver s.tb).getD false
  let fd := ((s.bus.frameOf obs.who).map (·.fdf)).getD false
  let s := s.onBus fun b => { b with begun := [], tdc := if fd then obs.tdc.getD b.tdc else b.tdc }
  if obs.err = 0 then (if one then s.txLeave 0 5 none else if late then s.txLeave 0 2 none else s)
  else
    let tec0 := s.bus.tec
    let sus := obs.err == 4 && obs.inData && s.bus.faultNow == 0
    let k := (s.bus.col obs.who).k + 1
    let s := s.onBus fun b => { b with errs := b.errs + 1, lasterr := obs.err, tec := b.tec + obs.tecInc }
    let s := if sus then s.onBus fun b => b.setCol obs.who { k := k, held := true, at_ := s.tb } else s
    let s := if sus && k = 2 then
        (s.onBus fun b => { b with
          idcols := satInc b.idcols 65535, colId := ((b.frameOf obs.who).map colWord).getD b.colId }).raise 104
      else s
    let s := if one then s.txLeave 0 5 none
      else if sus && k ≥ 16 then
        (if obs.who = 2 then s.txLeave 0 3 none
         else s.onBus fun b => { b.setCol obs.who {} with
           vigil := if obs.who = 0 then none else b.vigil, allot := if obs.who = 1 then none else b.allot })
      else if late then s.txLeave 0 2 none
      else s
    s.confine tec0 s.bus.rxec

/-- The line stage can drive what a frame needs: dominant drive is not blocked, and the line is not held (R332). -/
def State.lineServes (s : State) : Bool := !s.bus.faultNow.getLsbD 0 && !s.bus.faultNow.getLsbD 1

/-- USEQ and CSEQ count the vigils and verdicts sent (R362). -/
def State.countSent (s : State) : State :=
  if s.pers == .caller then { s with caller := { s.caller with cseq := (s.caller.cseq + 1) % 256 } }
  else { s with pair := { s.pair with useq := (s.pair.useq + 1) % 256 } }

/-- The head's window ended before the start of a frame whose first sample lies age steps of 100 ns back: it was not sent (R341).
[DEDUCED, log 61] -/
def State.headLate (s : State) (age : Nat) : Bool :=
  let start := (10 * s.tb + 10 * tbMod - age % (10 * tbMod)) / 10 % tbMod
  (s.bus.fifo.head?.map fun e => e.windowOver start && e.due != start).getD false

/-- TX_FRAME_SENT: k is the frame (0 vigil slot, 1 allotment slot, 2 FIFO head), tdc the transmitter delay measured in an FD
frame; a head whose window ended before its start of frame leaves EXPIRED; a delay that is too long is a bit error, of which the spec does not say which bit it shows. [DESIGN CHOICE, log 8] -/
def execTxFrameSent (k tdc age : Nat) (s : State) : Out :=
  if k ≥ 3 then .fault .noSuchUnit
  else if !s.offers k || !s.lineServes then .next s
  else if k = 2 && s.headLate age then .next (s.txLeave 0 2 none)
  else if s.delayTooLong k tdc then
    let (f, s) := s.draw
    .next (s.attemptFails { who := k, err := 4 + f % 2, tdc := some tdc })
  else
    let tec0 := s.bus.tec
    let fd := ((s.bus.frameOf k).map (·.fdf)).getD false
    let s := s.onBus fun b => { b.setCol k {} with
      begun := [], txok := b.txok + 1, tdc := if fd then tdc else b.tdc, tec := b.tec - 1
      sent := (b.frameOf k).map fun f => { f with esi := f.fdf && b.phase == .passive, age := age }
      vigil := if k = 0 then none else b.vigil
      allot := if k = 1 then none else b.allot }
    let s := (if k = 0 then s.countSent else s).confine tec0 s.bus.rxec
    .next (if k = 2 then s.txLeave 0 1 (some (s.busStamp age)) else s)

/-- TX_ATTEMPT_FAIL. [PRESUMED, log 60] -/
def execTxAttemptFail (obs : TxFailObs) (s : State) : Out :=
  .next (if s.offers obs.who then s.attemptFails obs else s)

/-- B_k, the bit times of bus idle that a frame is held for after its k-th suspected collision (R355). -/
def holdBits (serial k : Nat) : Nat :=
  let j := (k - 1) % 6
  11 + (if j < 5 then serial / 2 ^ (20 + 8 * j) % 256 else 16 * (serial / 2 ^ 60 % 16))

/-- An arbitration bit time [µs] (Table 15-2). -/
def bitTime (arate : Nat) : Nat :=
  if arate = 0 then 20 else if arate = 1 then 8 else if arate = 2 then 4 else 2

/-- The first quantum in which a held frame's bit times of bus idle can have passed. -/
def State.holdDue (s : State) (who : Nat) : Nat :=
  let c := s.bus.col who
  tbAdd c.at_ (holdBits s.unit.serial.toNat c.k * bitTime s.applied.bus.arate)

/-- The held frame whose hold can end first. [DEDUCED, log 61] -/
def State.firstHold (s : State) : Option Nat :=
  [0, 1, 2].foldl (fun m who =>
    if !(s.bus.col who).held then m
    else match m with
      | none => some who
      | some x => if timeLeft (s.holdDue who) s.tb < timeLeft (s.holdDue x) s.tb then some who else m) none

/-- COLLISION_HOLD_END: the held frame may be offered again, not before its bit times can have passed (R355). -/
def execCollisionHoldEnd (s : State) : Out :=
  match s.firstHold with
  | none => .next s
  | some who =>
    if !s.awake || !s.bus.onLine then .next s
    else
    let s := s.jump (s.holdDue who)
    .next (s.onBus fun b => b.mayHaveBegun.setCol who { b.col who with held := false })

/-- The entry behind the head whose window ends first. [DEDUCED, log 61] -/
def Bus.firstDue (b : Bus) (t : Nat) : Option Nat :=
  ((List.range b.fifo.length).drop 1).foldl (fun m i =>
    match b.fifo[i]? with
    | none => m
    | some e =>
      if e.life = 0 then m
      else match m.bind fun j => b.fifo[j]? with
        | none => some i
        | some x => if timeLeft e.due t < timeLeft x.due t then some i else m) none

/-- The entry that leaves EXPIRED next. An attempt in progress is never cut short (R341): a head that may be in transmission is spared
where its window has ended before this quantum, and where another entry has a window too it is a free choice whether the head or that
entry leaves. [DEDUCED, log 61] [DESIGN CHOICE, log 8] -/
def State.expiring (s : State) : Option Nat × State :=
  let tail := s.bus.firstDue s.tb
  let busy := s.offers 2
  let head := s.bus.fifo.head?.filter fun e => e.life != 0 && !(busy && e.windowOver s.tb && e.due != s.tb)
  match head, tail.bind fun j => (s.bus.fifo[j]?).map fun x => (j, timeLeft x.due s.tb) with
  | none, _ => (tail, s)
  | some _, none => (some 0, s)
  | some e, some (j, left) =>
    if left < timeLeft e.due s.tb then (some j, s)
    else if !busy then (some 0, s)
    else
      let (f, s) := s.draw
      (some (if f % 2 = 0 then 0 else j), s)

/-- TX_LIFE_EXPIRY; nothing leaves a frozen FIFO (R353). -/
def execTxLifeExpiry (s : State) : Out :=
  if s.bus.phase == .busOff || s.bus.phase == .recovering || !s.awake then .next s
  else
    let x := s.expiring
    match x.1 with
    | none => .next s
    | some i =>
      let s := x.2
      let s := s.jump (((s.bus.fifo[i]?).map TxEntry.due).getD s.tb)
      .next (s.txLeave i 2 none)

/-- Entries whose window has ended leave EXPIRED, in FIFO order (R353). -/
def State.expireAll : Nat → State → State
  | 0, s => s
  | n + 1, s =>
    match (List.range s.bus.fifo.length).find? fun i =>
        ((s.bus.fifo[i]?).map fun e => e.windowOver s.tb).getD false with
    | none => s
    | some i => State.expireAll n (s.txLeave i 2 none)

/-! ### Operating states (R351, R352, R354) -/

/-- The controller starts with Pavane step 2, from bus sleep too; it keeps its error state, bus-off included (R351, R353).
[DEDUCED, log 61] -/
def State.busStart (s : State) : State :=
  if s.bus.phase == .stopped || s.bus.phase == .sleep then
    s.onBus fun b => { b with phase := if b.tec ≥ 256 then .busOff else .integrating }
  else s

/-- The controller off the bus: what integration began is over. -/
def Bus.leave (b : Bus) (p : BusPhase) : Bus := { b with phase := p, joined := false, vigilOn := false, wakePat := none }

/-- The controller stops with the units of step 2; from bus sleep it is not awakened by this. -/
def State.busStop (s : State) : State :=
  if s.bus.phase == .sleep then s else s.onBus fun b => b.leave .stopped

/-- A caller listens once its controller has integrated, and sends no verdict meanwhile; its slot stays as it is (R351, R366). [DEDUCED, log 78] -/
def State.beginListening (s : State) : State :=
  { s with
    caller := { s.caller with
      listening := true, listened := false, listenAt := s.tb
      slots := updAll s.caller.slots fun _ k => if k.phase == .disabled then k else { k with phase := .listening } } }

/-- BUS_INTEGRATED: the error state stands as the counters give it; the class is requested once after reset (R44), or as a request
that waited in listen-only mode asks (R352), and a caller begins to listen (R366). -/
def execBusIntegrated (s : State) : Out :=
  if s.bus.phase != .integrating || !s.awake then .next s
  else
    let s := match s.bus.wakePat with
      | none => s
      | some t => s.jump (tbAdd t 1350)
    let s := s.onBus fun b => { b with
      phase := if b.tec ≥ 128 || b.rxec ≥ 128 then .passive else .active, joined := true, wakePat := none }
    let s := remotePump 32 (s.raise 107)
    let s := if s.pers == .caller then s.beginListening else s
    let a := s.pw.allot
    let s := if s.applied.bus.listen then s
      else match s.bus.askReason with
        | some r => (s.onBus fun b => { b with askReason := none }).requestAllot r
        | none => if !a.granted && !a.outstanding && !a.noneRaised then s.requestAllot 0 else s
    .next (s.onBus fun b => { b with begun := [] })

/-- A BUS_CONFIG in its apply quantum: in force at once on a controller that is not on the bus, else at the end of the
frame in progress. -/
def State.applyBus (c : BusCfg) (s : State) : State :=
  if s.bus.onLine || s.bus.phase == .integrating then s.onBus fun b => { b with cfgNext := some c }
  else { s with applied := { s.applied with bus := c } }

/-- BUS_CONFIG_EFFECT: the controller integrates again, keeping its error state, counters, FIFO, slots and buffers. -/
def execBusConfigEffect (s : State) : Out :=
  match s.bus.cfgNext with
  | none => .next s
  | some c =>
    let s := { s with applied := { s.applied with bus := c } }
    .next (s.onBus fun b => { b with cfgNext := none, phase := if b.onLine then .integrating else b.phase })

/-- Every entry leaves FLUSHED and the allotment slot is emptied. -/
def State.flushSleep (s : State) : State := s.flushAll.onBus fun b => { b.setCol 1 {} with allot := none }

/-- BUS_SLEEP_ENTER: what FLUSH asked, then the controller stops and the wake detector is armed. -/
def execBusSleepEnter (s : State) : Out :=
  if !s.bus.sleepReq then .next s
  else
    let s := match s.bus.cfgNext with
      | none => s
      | some c => { s with applied := { s.applied with bus := c } }
    let s := if s.bus.sleepFlush then s.flushSleep else s
    .next (s.onBus fun b => { b.leave .sleep with sleepReq := false, sleepFlush := false, cfgNext := none })

/-- WAKE_PATTERN_SEND at a bus-idle point: dominant for 425 µs, recessive for 500 µs, dominant for 425 µs, then integration (R327,
Table 16-6). In listen-only mode, and while dominant drive is blocked, it waits (R332, R352). -/
def execWakePatternSend (s : State) : Out :=
  if !s.bus.wakeReq || !s.awake || !(s.bus.onLine || s.bus.phase == .integrating) || s.applied.bus.listen || s.bus.faultNow.getLsbD 0 then
    .next s
  else .next (s.onBus fun b => { b with wakeReq := false, phase := .integrating, wakePat := some s.tb })

/-- BUS_AUTOREC_START (R354). -/
def execBusAutorecStart (s : State) : Out :=
  if s.bus.phase != .busOff || s.applied.bus.autorec = 0 then .next s
  else .next ((s.jump (tbAdd s.bus.boAt (10000 * s.applied.bus.autorec))).onBus fun b => { b with phase := .recovering })

/-- BUS_RECOVERY_DONE: BUS_ON, and the controller is as one that has integrated; the vigil slot is emptied and entries past their LIFE leave (R353, R354).
[DEDUCED, log 61] -/
def execBusRecoveryDone (s : State) : Out :=
  if s.bus.phase != .recovering then .next s
  else
    let s := (s.onBus fun b => { b with
      phase := .active, tec := 0, rxec := 0, joined := true, vigil := none, begun := []
      cols := b.cols.mapIdx fun i c => if i = 0 then {} else { c with held := false } }).raise 103
    .next (remotePump 32 (State.expireAll 32 s))

/-- The quantum in which BTS next passes a multiple of 2^32 after the steps of quantum t (R350). -/
def btsWrapAfter (t : Nat) : Nat :=
  let next := ((10 * t + 9) / 2 ^ 32 + 1) * 2 ^ 32 / 10
  if next ≥ tbMod then 2 ^ 32 / 10 else next

/-- BTS passes a multiple of 2^32 in this quantum, and BTS_WRAP has not been raised in it. -/
def State.wrapsNow (s : State) : Bool :=
  (decide (10 * s.tb % 2 ^ 32 + 9 ≥ 2 ^ 32) || (10 * s.tb % 2 ^ 32 == 0 && s.tb != 0)) && !(s.ev.raisedAt == s.tb && s.ev.raisedNow.getLsbD 109)

/-- BTS_WRAP (R350). -/
def execBtsWrap (s : State) : Out :=
  .next (if !s.awake then s else if s.wrapsNow then s.raise 109 else (s.jump (btsWrapAfter s.tb)).raise 109)

/-! ### Line interface (R328, R332) -/

/-- A line fault begins: live bit, latched cause, count, LINE_FAULT. -/
def State.lineFault (i : Nat) (s : State) : State :=
  if s.bus.faultNow.getLsbD i then s
  else
    ((s.onBus fun b => { b with
      faultNow := putBit b.faultNow i true, faultLat := putBit b.faultLat i true, lfcnt := satInc b.lfcnt 255 }).flag
        0x90 (wN (2 ^ (8 + i)))).raise 110

/-- LINE_FAULT_DOMTO: the line stage releases the line. -/
def execLineFaultDomto (s : State) : Out :=
  .next (if s.awake then s.lineFault 0 else s)

/-- LINE_FAULT_STUCK: the receiver reads dominant. -/
def execLineFaultStuck (s : State) : Out :=
  .next (if s.awake then (s.lineFault 1).onBus fun b => { b with stuckAt := some s.tb } else s)

/-- LINE_FAULT_RANGE with the tracked level [10 mV]. -/
def execLineFaultRange (vrest10mV : Nat) (s : State) : Out :=
  if !s.awake || (2700 ≤ vrest10mV && vrest10mV ≤ 4300) then .next s
  else .next ((s.onBus fun b => { b with vrest := vrest10mV % 65536, vrestAt := some s.tb }).lineFault 2)

/-- LINE_FAULT_WEAK with the dip [10 mV]. -/
def execLineFaultWeak (dip10mV : Nat) (s : State) : Out :=
  .next (if s.awake && dip10mV < 600 then s.lineFault 3 else s)

/-- LINE_FAULT_END: which is the live bit, 0 DOMTO to 3 WEAK. -/
def execLineFaultEnd (which : Nat) (s : State) : Out :=
  if which ≥ 4 then .fault .noSuchUnit
  else .next (s.onBus fun b => { b with faultNow := putBit b.faultNow which false })

/-- A dominant phase of the wake pattern in quantum t (R327). -/
def Bus.patternDom (b : Bus) (t : Nat) : Bool := b.wakePat.any fun w => inWindow t w 425 || inWindow t (tbAdd w 925) 425

/-- The receiver reads dominant in quantum t beside the own wake pattern: through the 2.5 ms before a STUCK fault and as it is told (R332);
else no row tells it. [DESIGN CHOICE, log 101] -/
def State.readsDom (t : Nat) (s : State) : Bool :=
  s.bus.stuckAt.any (fun u => inWindow u t 2500) || (Config.lineNow s.era t).2

/-- The line interface measures out of reset (R9). [DESIGN CHOICE, log 101] -/
def State.lineUp (s : State) : Bool := s.awake || s.phase == .doze

/-- PMEFL.TXDOM and RXDOM (R333): the wake pattern's dominant phases; else dominant drive is possible only on the line, not in
listen-only mode, never in the quantum of a STUCK fault, and never while DOMTO blocks it (R314, R332, R352). [DESIGN CHOICE, log 101] -/
def State.lineDom (s : State) : Bool × Bool :=
  let free := !s.bus.faultNow.getLsbD 0
  let pat := s.bus.patternDom s.tb && free
  (s.lineUp && (pat || ((Config.lineNow s.era s.tb).1 && s.bus.onLine && !s.applied.bus.listen && free && s.bus.stuckAt != some s.tb)),
    s.lineUp && (pat || s.readsDom s.tb))

/-- The level that a tracker holds in a quantum: frozen while the receiver reads dominant and for 2 µs after (R315).
[DESIGN CHOICE, log 102] -/
def trackedAt (told : Nat → Option Nat) (dom : Nat → Bool) (level : Nat → Nat) : Nat → Nat
  | 0 => 0
  | t + 1 => (told (t + 1)).getD (if dom (t + 1) || dom t || dom (t - 1) then trackedAt told dom level t else level (t + 1))

/-- PMEFL.VREST: the level that the tracker holds, which a RANGE fault tells and nothing else does (R315, R333). [DESIGN CHOICE, log 102] -/
def State.vrestNow (s : State) : Nat :=
  if s.lineUp then
    trackedAt (fun t => if s.bus.vrestAt = some t then some s.bus.vrest else none)
      (fun t => s.readsDom t || s.bus.patternDom t) (fun t => s.sense 3 t % 65536) s.tb
  else 0

/-- BUS_WAKE_DETECT: in bus sleep, in any power state (R328). -/
def execBusWakeDetect (s : State) : Out :=
  if s.bus.phase != .sleep || !(s.awake || s.phase == .doze) then .next s
  else .next ((s.onBus fun b => { b with wakes := b.wakes + 1 }).raise 106)

/-- BUS_WAKE_SEQUENCE_TIMEOUT: a sequence not complete leaves nothing (R328). [DEDUCED, log 61] -/
def execBusWakeSequenceTimeout (s : State) : Out := .next s

/-! ### The transmit window (R343, R344) -/

/-- An invalid frame (R343). -/
def State.badFrame (s : State) (f : Frame) : Bool :=
  !([0, 1, 2, 3, 4, 5, 6, 7, 8, 12, 16, 20, 24, 32, 48, 64].contains f.data.length) ||
  (!f.fdf && f.data.length > 8) || (f.brs && !f.fdf) || (!f.ide && f.id > 0x7FF) || allotFrame f ||
  (f.ide && frameFunc f ≤ 0xF && (frameKey f == s.nodeKey || frameKey f == low s.unit.serial.toNat 20))

/-- The data bytes of the staging registers. -/
def Bus.stagedData (b : Bus) (n : Nat) : Bytes := (b.txfdat.toList.flatMap wBytes).take n

/-- The frame of the staging registers; a length beyond 64 bytes stays as it is given, and is invalid. -/
def Bus.stagedFrame (b : Bus) : Frame :=
  let n := b.txfctl.toNat / 256 % 256
  { ide := b.txfid.getLsbD 29, id := b.txfid.toNat % 2 ^ 29, fdf := b.txfctl.getLsbD 0, brs := b.txfctl.getLsbD 1
    data := b.stagedData n ++ List.replicate (n - 64) 0 }

/-- A push: the cause of its failure, 0 for none (R344). -/
def State.pushWhy (s : State) (f : Frame) : Nat :=
  if s.bus.fifo.length ≥ 32 then 1 else if s.badFrame f then 2 else if !s.fifoOpen then 3 else 0

/-- The final reply of a BUS_SEND whose entry takes another TXSEQ in the quantum of posting, as the host reads it, or as the record that
goes to the bus, sealed anew (R116). [DEDUCED, log 61] -/
def State.retell (e : TxEntry) (s : State) : State :=
  let seq := le 2 e.txseq.toNat
  match e.asker with
  | none => s
  | some (.host id) =>
    let f := fun (r : Reply) => if r.slot = some id && r.final then { r with results := seq } else r
    { s with link := { s.link with replies := s.link.replies.map f } }
  | some (.remote id) =>
    match s.rem.box.find? fun c => c.id == id with
    | none => s
    | some c =>
      let sealed_ := fun (bs : Bytes) =>
        let body := bs.take 12 ++ seq
        body ++ (hmac c.key (le 8 s.addressedSerial ++ body)).take 8
      let out := fun (o : Bytes × Bool) => if o.2 then (sealed_ o.1, true) else o
      let entry := fun (x : TxEntry) => if x.remote = some (id, true) then { x with f := s.ownFrame x.f.id (sealed_ x.f.data) } else x
      { s with rem := s.rem.onCmd id fun c => { c with out := c.out.map out }, bus := { s.bus with fifo := s.bus.fifo.map entry } }

/-- A frame pushed through the window: it enters before what the management plane entered in the same quantum, whose TXSEQ follow
(R340). -/
def State.txPush (f : Frame) (life : Nat) (oneshot : Bool) (s : State) : State :=
  let late := fun (e : TxEntry) => e.at_ == s.tb && !e.window
  let mgmt := (s.bus.fifo.filter late).map fun e => { e with txseq := e.txseq + 1 }
  let e : TxEntry :=
    { txseq := s.bus.lastSeq + 1 - BitVec.ofNat 16 mgmt.length, f := f, life := life, oneshot := oneshot, at_ := s.tb, window := true }
  let s := s.onBus fun b => { b with lastSeq := b.lastSeq + 1, fifo := b.fifo.filter (fun e => !late e) ++ e :: mgmt }
  mgmt.foldl (fun s e => s.retell e) s

/-- A push carried out. -/
def State.push (s : State) : State :=
  let f := s.bus.stagedFrame
  let why := s.pushWhy f
  if why = 0 then s.txPush f (s.bus.txfctl.toNat / 65536) (s.bus.txfctl.getLsbD 2)
  else (s.onBus fun b => { b with pushfail := true, pfwhy := why }).flag 0x2100 8

/-- The transmit window takes writes: awake, the unit not inactive (R113). -/
def State.txWindow (s : State) : Bool := s.awake && s.acting

/-- TXF_PUSH. -/
def execTxfPush (flushFirst : Bool) (s : State) : Out :=
  .next (if s.txWindow then (if flushFirst then s.flushIdle else s).push else s)

/-- TXF_FLUSH. -/
def execTxfFlush (s : State) : Out := .next (if s.txWindow then s.flushIdle else s)

/-! ### Commands (Table 16-6) -/

/-- TSEG2 of a data rate code, or of the arbitration rate, for a TSEG1 (0 the default): tq per bit less 1 less TSEG1. -/
def tseg2 (tq dflt t1 : Nat) : Nat := tq - 1 - (if t1 = 0 then dflt else t1)

/-- BUS_CONFIG. [DEDUCED, log 61] -/
def cmdBusConfig (c : Ctx) (s : State) : State × Ans :=
  let p := c.p
  let a1 := u8 p 1
  let d1 := u8 p 4
  let (tq, dd, lo, hi) := dataTiming (u8 p 3)
  let none_ := u8 p 3 = 0xFF
  stagedCmd 0x90
    [(u8 p 0 > 3, badParam 0), (a1 != 0 && (decide (a1 < 29) || decide (a1 > 35)), badParam 1),
     (decide (u8 p 2 > tseg2 40 34 a1), badParam 2), (u8 p 3 > 2 && !none_, badParam 3),
     (if none_ then d1 != 0 else d1 != 0 && (decide (d1 < lo) || decide (d1 > hi)), badParam 4),
     (if none_ then u8 p 5 != 0 else decide (u8 p 5 > tseg2 tq dd d1), badParam 5),
     (u8 p 6 > 1, badParam 6), (u8 p 8 > 1, badParam 8), (u32 p 9 > 0xFFFFF, badParam 9)]
    [(u8 p 6 == 1 && s.supervised, refused stConflict)] [] c s

/-- BUS_START: from bus sleep Pavane step 2 is added, or with the units of step 2 running the controller starts. -/
def cmdBusStart (c : Ctx) (s : State) : State × Ans :=
  let a := u8 c.p 0
  let s' := if a = 1 then s.onBus fun b => { b with wakeReq := true } else s
  let s' := if s'.bus.phase == .sleep || s'.bus.phase == .stopped then
      (if s'.runs 1 then s'.busStart else s'.callUnits (unitMask [1]))
    else s'
  guarded
    [(a > 1, badParam 0),
     (a == 1 && (s.applied.bus.listen || s.bus.phase == .busOff || s.bus.phase == .recovering), refused stConflict)] s
    (s', .now stOk [])

/-- BUS_SLEEP: FLUSH empties FIFO and allotment slot as the controller goes to sleep, when no frame is in transmission (R341). -/
def cmdBusSleep (c : Ctx) (s : State) : State × Ans :=
  let f := u8 c.p 0
  guarded
    [(f > 1, badParam 0), (s.supervised || (f == 0 && (!s.bus.fifo.isEmpty || s.bus.allot.isSome)), refused stConflict)] s
    (if s.bus.phase == .sleep then (if f = 1 then s.flushSleep else s)
     else s.onBus fun b => { b with sleepReq := true, sleepFlush := f == 1 }, .now stOk [])

/-- BUS_SEND. -/
def cmdBusSend (c : Ctx) (s : State) : State × Ans :=
  let p := c.p
  let id := u32 p 0
  let ctl := u8 p 4
  let f : Frame := { ide := bit id 29, id := id % 2 ^ 29, fdf := bit ctl 0, brs := bit ctl 1, data := slice p 8 (u8 p 5) }
  let own := f.ide && frameFunc f ≤ 0xF && (frameKey f == s.nodeKey || frameKey f == low s.unit.serial.toNat 20)
  let s' := s.txEnter f (u16 p 6) (bit ctl 2) none (some c.org)
  guarded
    [((!f.ide && decide (f.id > 0x7FF)) || allotFrame f || own, badParam 0), (decide (id ≥ 2 ^ 30), badParam 3),
     (decide (ctl > 7) || (f.brs && !f.fdf), badParam 4), (s.badFrame f, badParam 5),
     (s.notActive, refused stNotActive),
     (s.bus.phase == .sleep || s.bus.phase == .stopped || s.applied.bus.listen, refused stConflict),
     (decide (s.bus.fifo.length ≥ 32) || s.bus.phase == .busOff || s.bus.phase == .recovering, refused stBusy)] s
    (s', .now stOk (le 2 s'.bus.lastSeq.toNat))

/-- BUSST.STATE. -/
def Bus.state (b : Bus) : Nat :=
  match b.phase with
  | .stopped => 0
  | .sleep => 0
  | .integrating => 1
  | .active => 2
  | .passive => 3
  | .busOff => 4
  | .recovering => 5

/-- BUS_STATUS. -/
def cmdBusStatus (_c : Ctx) (s : State) : State × Ans :=
  let b := s.bus
  (s, .now stOk
    (le 1 b.state ++ le 1 (b2n s.applied.bus.listen) ++ le 1 (min 255 b.tec) ++ le 1 b.rxec ++ le 1 b.lasterr ++ le 1 b.tdc ++
     le 1 b.fifo.length ++ le 1 (b2n b.vigil.isSome + 2 * b2n b.allot.isSome) ++ wBytes b.txok ++ wBytes b.rxok ++
     wBytes b.errs ++ le 2 b.busoffs ++ le 2 b.idcols ++ le 2 b.remotes ++ wBytes b.colId))

/-- BUS_RECOVER. -/
def cmdBusRecover (c : Ctx) (s : State) : State × Ans :=
  let a := u8 c.p 0
  let s' := if bit a 1 then s.flushIdle else s
  let s' := if bit a 0 then s'.onBus fun b => { b with phase := .recovering } else s'
  guarded [(a > 3, badParam 0), (bit a 0 && s.bus.phase != .busOff, refused stConflict)] s (s', .now stOk [])

end Sys2Proof.Machine
end

