-- ==== Sys2Proof/Machine/Thermal.lean ====
section
/-! DEFINITION. The housekeeping round, the drive-die diode, shutdown, latch and re-arm, converter and rail checks,
thermal records (R449 to R460). -/

namespace Sys2Proof.Machine

/-- A change of the unit's state. -/
def State.onHk (f : Hk → Hk) (s : State) : State := { s with hk := f s.hk }

/-- THERM_CONFIG's PARAMS. -/
def thermCfgOf (p : Bytes) : ThermCfg := { twarn := u16 p 0, tshut := u16 p 2, rwarn := u8 p 4, rshut := u8 p 5 }

/-! ### The drive die's stop and start (R49, R454, R455) -/

/-- Every drive-die output off, drive-die bias and banks stopped; a start of them that was under way waits. Committed
setpoints stand. -/
def State.driveStop (s : State) : State :=
  let s := (List.range 4).foldl (fun s b => s.stopBank b) s
  let s := s.dropOuts.haltDrives
  let waiting := match s.pw.pav with
    | none => 0
    | some p => (p.todo ||| p.next) &&& driveUnits
  let bar := s.pw.barUnits ||| waiting
  let s := s.dropUnits driveUnits
  { s with pw := { s.pw with pmun := s.pw.pmun &&& ~~~driveUnits, barUnits := bar, driveOff := true } }

/-- Drive-die units that the configuration calls for: bias with a valve, AO or FN channel enabled, a bank with a channel
enabled (Table 03-4). -/
def Cfg.driveCalled (c : Cfg) : BitVec 14 :=
  let vl := c.vl.chans.toList
  let bank := fun (b : Nat) => (List.range 4).any fun i => (nth c.vl.chans (4 * b + i) {}).en
  let any := vl.any (·.en) || c.ao.toList.any (·.en) || c.fn.toList.any (·.en)
  unitMask ((if any then [6] else []) ++ ((List.range 4).filter bank).map (10 + ·))

/-- Drive-die bias, called for or not once the drive die has been stopped, the configured banks, and the units asked for
meanwhile, restart in a warm Pavane (R49, R50, R455). [DEDUCED, log 28] -/
def State.driveRestart (s : State) : State :=
  let m := (if s.pw.driveOff then unitMask [6] else 0) ||| s.com.cfg.driveCalled ||| (s.pw.barUnits &&& driveUnits)
  ({ s with pw := { s.pw with barUnits := s.pw.barUnits &&& ~~~driveUnits } } : State).callUnits m

/-! ### The diode (R451) -/

/-- ln 16 to fifteen decimals. [DEDUCED, log 81] -/
def ln16 : Rat := 2772588722239781 / 1000000000000000

/-- q / k [K/V], from the exact values of the SI. [DEDUCED, log 81] -/
def qOverK : Rat := 16021766340 / 1380649

/-- The junction temperature [0.001 °C] of a difference of means in codes of 25 µV. [DESIGN CHOICE, log 11]
[DEDUCED, log 81] -/
def junction (dv : Int) (nf : Rat) : Int :=
  roundHalfAway (1000 * ((dv : Rat) * 25 / 1000000 * qOverK / (nf * ln16) - 27315 / 100))

/-- The conversions of a reading: the diode channels interleaved, the rails, the checks (Table 21-1). -/
def hkChannels (rails : Bool) : List Nat :=
  (List.range 8).flatMap (fun _ => [0x38, 0x39]) ++ (if rails then (List.range 8).map (0x3A + ·) else []) ++ [0x42, 0x43]

/-- The mean of a channel's conversions, as a code: rounded and held in its range as R178 gives. [DEDUCED, log 81] -/
def hkMean (conv : List (Nat × Rat)) (ch : Nat) : Int :=
  let xs := (conv.filter fun e => e.1 == ch).map (·.2)
  clampCode ch (roundHalfAway (xs.sum / ((xs.length : Nat) : Rat)))

/-- The codes of the reading whose conversions have ended first. -/
def State.hkCodes (s : State) (rails : Bool) : HkCodes :=
  let m := hkMean (s.hk.conv.take (hkChannels rails).length)
  { v1 := m 0x38, v2 := m 0x39, rails := if rails then (List.range 8).map fun i => m (0x3A + i) else [], refchk := m 0x42, zero := m 0x43 }

/-- Every conversion of the reading has ended (R449). -/
def State.hkDone (s : State) (rails : Bool) : Bool := decide ((hkChannels rails).length ≤ s.hk.conv.length)

/-- A rail's result in mV, of a code in the LSB of Table 08-1. -/
def railMv (i : Nat) (code : Int) : Int :=
  if i < 2 then code else roundHalfAway ((code : Rat) / (if i < 6 then 10 else 2))

/-- The results of the eight rails in mV. -/
def HkCodes.railsMv (o : HkCodes) : List Int := o.rails.mapIdx railMv

/-- The converter checks (R457): REFCHK within 1 % of 2.250 V, ZERO within 16. -/
def hkRefOk (o : HkCodes) : Bool :=
  let v : Rat := (o.refchk : Rat) * 25 / 655360
  22275 / 10000 ≤ v && v ≤ 22725 / 10000
def hkZeroOk (o : HkCodes) : Bool := decide (o.zero.natAbs ≤ 16)

/-- Why the diode is out of its windows (Table 21-4): 3 open, 4 short, 5 ratio; 0 when it is within them. -/
def hkDiodeWhy (o : HkCodes) : Nat :=
  let dv := o.v2 - o.v1
  if o.v1 > 48000 then 3 else if o.v1 < 8000 then 4 else if dv < 2000 || dv > 4400 then 5 else 0

/-- A valid reading (R451). -/
def hkValid (o : HkCodes) : Bool := (hkDiodeWhy o) == 0 && (hkRefOk o) && (hkZeroOk o)

/-! ### Records and shutdown (R454 to R458) -/

/-- A thermal record (Table 21-4), dated with the posting quantum of the reading or the quantum of the clear. -/
def State.thermRecord (kind cause units dur at_ : Nat) (s : State) : Bytes :=
  let h := s.hk
  le 1 kind ++ le 1 cause ++ le 1 s.aon.shutStamps.length ++ [0] ++ le 6 at_ ++
    le 4 (if s.cal.isSet then s.cal.secs else 0) ++ le 4 s.epoch ++ wBytes (nth h.newest 0 noVal) ++
    wBytes (nth h.newest 1 noVal) ++ wBytes h.tmax ++ le 2 h.v1 ++ le 2 h.v2 ++ le 2 h.vact ++ le 2 s.pw.pline ++
    le 2 units ++ le 4 dur

/-- A record to be appended within 2 beats. -/
def State.thermLog (kind cause units dur at_ : Nat) (s : State) : State :=
  let r := s.thermRecord kind cause units dur at_
  s.onHk fun h => { h with toLog := h.toLog ++ [r] }

/-- Shutdown (R454): the start and a latch belong to the reading's quantum, the action to the next. [DEDUCED, log 81] -/
def State.shutdown (cause : Nat) (s : State) : State :=
  let units := s.pw.pmun.toNat
  let stamps := (s.tb :: s.aon.shutStamps).take 3
  let latch := match stamps with
    | [t, _, t0] => inWindow t t0 86400000000
    | _ => false
  let s := { s with aon := { s.aon with
    shutStamps := stamps, shuts := satInc s.aon.shuts 65535, thermLatched := s.aon.thermLatched || latch } }
  let s := s.onHk fun h => { h with cause := cause, shutAt := s.tb, runAt := none }
  let s := s.thermLog 1 cause units 0 s.tb
  let s := if latch then (s.thermLog 3 cause units 0 s.tb).raise 60 else s
  let s := s.pass 1
  (s.onHk fun h => { h with shut := true }).driveStop.raise 58

/-- Re-arm (R455); its record is dated with the newest reading, or with the clear that it follows (Table 21-4). [DEDUCED, log 81] -/
def State.rearm (at_ : Nat) (s : State) : State :=
  let dur := tbSub s.tb s.hk.shutAt / 1000
  let s := s.thermLog 2 0 s.pw.pmun.toNat dur at_
  let s := (s.onHk fun h => { h with shut := false, runAt := none, tmax := noVal, cause := 0 }).raise 59
  s.driveRestart

/-! ### A reading (R449 to R457) -/

/-- The rails with a window, in the order of RFLAGS, and the checks: whether each is within it (R457). -/
def hkWithin (o : HkCodes) : List Bool :=
  let within := fun (i : Nat) (lo hi : Int) => decide (lo ≤ o.rails[i]?.getD 0) && decide (o.rails[i]?.getD 0 ≤ hi)
  [within 1 11400 12600, within 2 31350 34650, within 3 8550 9450, within 4 28500 31500, hkRefOk o, hkZeroOk o]

/-- Rail and converter checks of a reading, a start reading's of the checks alone (R449): two consecutive readings outside set a flag, two
within clear it (R457). [DEDUCED, log 45] -/
def State.railChecks (o : HkCodes) (round : Bool) (s : State) : State :=
  let ok := fun (i : Nat) => (hkWithin o)[i]?.getD true
  let read := fun (i : Nat) => round || 4 ≤ i
  let bad := updAll s.hk.railBad fun i n => if !read i then n else if ok i then 0 else min 2 (n + 1)
  let good := updAll s.hk.railGood fun i n => if !read i then n else if ok i then min 2 (n + 1) else 0
  let fl := (List.range 6).foldl (fun (f : BitVec 6) i =>
    if nth bad i 0 = 2 then putBit f i true else if nth good i 0 = 2 then putBit f i false else f) s.hk.rflags
  let new := fl &&& ~~~s.hk.rflags
  (s.onHk fun h => { h with railBad := bad, railGood := good, rflags := fl }).raiseIf (new != 0) 62

/-- The results of a valid reading: TDRV, DTRISE, and in a round the rails (Table 21-1). -/
def State.postReading (o : HkCodes) (round : Bool) (s : State) : State :=
  let t := junction (o.v2 - o.v1) s.unit.nf
  let rise : Option Int := if !round then none else (s.hk.hist[9]?.bind id).bind fun old =>
    if (s.hk.hist.take 10).all Option.isSome then some (t - old) else none
  let rails := o.railsMv
  s.onHk fun h => { h with
    posted := true, badRun := 0, diodeFault := false, v1 := o.v1.toNat, v2 := o.v2.toNat
    vact := if round then (rails[0]?.getD 0).toNat else h.vact
    newest := updAll h.newest fun i w =>
      if i = 0 then wI t else if i = 1 then (rise.map wI).getD noVal else if round then (rails[i - 2]?.map wI).getD w else w
    tmax := if h.tmax = noVal || h.tmax.toInt < t then wI t else h.tmax
    hist := if round then (some t :: h.hist).take 10 else h.hist }

/-- Warning entered and left at a valid reading (R453). -/
def State.warnCheck (s : State) : State :=
  let c := s.applied.therm
  let t := (nth s.hk.newest 0 noVal).toInt
  let r := nth s.hk.newest 1 noVal
  let enter := t ≥ 100 * c.twarn || (r != noVal && r.toInt ≥ 100 * c.rwarn)
  let leave := t < 100 * (c.twarn : Int) - 5000 && (r == noVal || 2 * r.toInt < 100 * c.rwarn)
  if enter then (s.onHk fun h => { h with warn := true }).raiseIf (!s.hk.warn) 57
  else if leave then s.onHk fun h => { h with warn := false }
  else s

/-- The cause of a shutdown at a valid reading, if any. [DEDUCED, log 81] -/
def State.shutCause (s : State) : Option Nat :=
  let c := s.applied.therm
  let r := nth s.hk.newest 1 noVal
  if (nth s.hk.newest 0 noVal).toInt ≥ 100 * c.tshut then some 1
  else if r != noVal && r.toInt ≥ 100 * c.rshut then some 2 else none

/-- The run that leads to re-arm (R455): it goes on or starts at a reading that is cool enough. A reading of the expiry quantum is no part of
it, and ends it by a shutdown condition alone. -/
def State.rearmRun (valid hot : Bool) (s : State) : State :=
  let c := s.applied.therm
  let r := nth s.hk.newest 1 noVal
  let cool := valid && (nth s.hk.newest 0 noVal).toInt < 100 * (c.tshut : Int) - 25000 && r != noVal && r.toInt < 100 * c.rwarn
  let lasted := !hot && !s.aon.thermLatched && s.hk.runAt.any fun t => tbSub s.tb t == 60000000
  s.onHk fun h => { h with runAt := if h.shut && (cool || lasted) then some (h.runAt.getD s.tb) else none }

/-- A reading taken: an invalid one posts nothing, and two in succession are a diode fault (R451, R453, R454); why is the cause where the
converter checks alone make the reading invalid, which Table 21-4 does not give. [DESIGN CHOICE, log 7] [DEDUCED, log 45] -/
def State.takeReading (o : HkCodes) (round : Bool) (why : Nat) (s : State) : State :=
  let s := (s.railChecks o round).onHk fun h => { h with readAt := s.tb }
  if (hkValid o) then
    let s := (s.postReading o round).warnCheck
    let s := s.rearmRun true s.shutCause.isSome
    match s.shutCause with
    | none => s
    | some c => if s.hk.shut then s else s.shutdown c
  else
    let fault := s.hk.badRun ≥ 1 && !s.hk.diodeFault
    let cause := if hkDiodeWhy o = 0 then 3 + why % 3 else hkDiodeWhy o
    let s := s.onHk fun h => { h with
      badRun := h.badRun + 1, v1 := o.v1.toNat, v2 := o.v2.toNat, hist := if round then (none :: h.hist).take 10 else h.hist }
    let s := s.rearmRun false (fault || s.hk.diodeFault)
    if !fault then s
    else
      let s := (s.onHk fun h => { h with
        diodeFault := true, newest := updAll h.newest fun i w => if i < 2 then noVal else w }).raise 61
      if s.hk.shut then s else s.shutdown cause

/-- Conversions of a reading that a round boundary finds unfinished are given up. -/
def State.dropHkConversions (s : State) : State :=
  let s := s.onSar fun a =>
    let cur := match a.cur with
      | some (.hk c) => if c < 0x38 then some (.hk c) else none
      | c => c
    { a with hkq := a.hkq.filter fun c => decide (c < 0x38), cur := cur }
  s.onHk fun h => { h with conv := [], starting := false }

/-- The readbacks of the round: AOFB of every enabled output (R236). -/
def State.aoChannels (s : State) : List Nat := ((List.range 16).filter fun n => (s.aoConf n).en).map (0x14 + ·)

/-- HK_ROUND_START: the RC oscillator is trimmed against a stable crystal (R55), and while the SAR converter runs the
round's conversions are issued (R449). -/
def execHkRoundStart (s : State) : Out :=
  if !s.awake then .next s
  else
    let s := s.jump (if s.tb % 100000 = 0 && s.hk.lastRound != s.tb / 100000 then s.tb else nextMultiple 100000 s.tb)
    let r := s.tb / 100000
    let unfinished := s.hk.reading
    let follows := (s.hk.lastRound + 1) % (tbMod / 100000) = r
    let s := { s with pw := { s.pw with rctrim := s.pw.rctrim || s.xtalOk } }
    let s := s.onHk fun h => { h with
      lastRound := r, reading := s.runs 1
      hist := if !follows then [] else if h.reading then (none :: h.hist).take 10 else h.hist }
    let s := if unfinished then s.dropHkConversions else s
    .next (if s.runs 1 then s.onSar fun a => ({ a with hkq := a.hkq ++ hkChannels true ++ s.aoChannels } : Sar).begin else s)

/-- The first reading's conversions leave for its result. -/
def State.closeReading (rails : Bool) (s : State) : State :=
  s.onHk fun h => { h with
    reading := h.reading && !rails, starting := h.starting && rails, conv := h.conv.drop (hkChannels rails).length }

/-- HK_READING_POST, once the last conversion of the round's reading has ended. -/
def execHkReadingPost (why : Nat) (s : State) : Out :=
  if !s.hk.reading || s.hk.starting || !s.runs 1 || !s.hkDone true then .next s
  else .next (latchHold s (((s.closeReading true).raise 56).takeReading (s.hkCodes true) true why))

/-- HK_START_READING: of the diode and the checks, once the conversions made when the converter started have ended (R449).
[DEDUCED, log 45] -/
def execHkStartReading (why : Nat) (s : State) : Out :=
  if !s.hk.starting || !s.runs 1 || !s.hkDone false then .next s
  else .next (latchHold s ((s.closeReading false).takeReading (s.hkCodes false) false why))

/-- The converter starts: a start reading begins, nothing has posted. -/
def State.hkStart (s : State) : State :=
  (s.onHk fun h => { h with starting := true, reading := false, conv := [], posted := false, hist := [] }).onSar fun a =>
    ({ a with hkq := a.hkq ++ hkChannels false } : Sar).begin

/-- The converter stops: every HK point loses its value in that quantum (R450). -/
def State.hkStop (s : State) : State :=
  s.onHk fun h => { h with
    starting := false, reading := false, conv := [], posted := false, hist := [], newest := Vector.replicate 10 noVal, runAt := none }

/-- THERM_REARM: 60 s into an unbroken run of cool readings, unless latched. -/
def execThermRearm (s : State) : Out :=
  if !s.hk.shut || s.aon.thermLatched then .next s
  else
    match s.hk.runAt with
    | none => .next s
    | some t => .next ((s.jump (tbAdd t 60000000)).rearm s.hk.readAt)

/-- THERMAL_RECORD_APPEND: the oldest waiting record goes into LOG 0. -/
def execThermalRecordAppend (s : State) : Out :=
  match s.hk.toLog with
  | [] => .next s
  | r :: rest => .next ((s.onHk fun h => { h with toLog := rest }).logAppend 0 r)

/-- At recall: a latch kept by the always-on domain or by the log's newest record holds the device in shutdown (R456), since the start that
the domain holds. -/
def State.recallThermal (s : State) : State :=
  let last := (ringNewest (ringHits s.cells (logDef 0))).map fun h => u8 h.data 0
  let latched := s.aon.thermLatched || last = some 3
  let s := { s with aon := { s.aon with thermLatched := latched } }
  if latched then s.onHk fun h => { h with shut := true, shutAt := s.aon.shutStamps.headD s.tb } else s

/-! ### Commands (Table 21-5) -/

/-- A 16-bit field of a rail's newest result; without one it is a free value. [DESIGN CHOICE, log 8] -/
def State.railField (i : Nat) (s : State) : Bytes × State :=
  let w := nth s.hk.newest i noVal
  if w = noVal then
    let (f, s) := s.draw
    (le 2 f, s)
  else (le 2 w.toNat, s)

/-- HK_STATUS. -/
def cmdHkStatus (_c : Ctx) (s : State) : State × Ans :=
  let h := s.hk
  let st := if s.aon.thermLatched then 3 else if h.shut then 2 else if !h.posted then 4 else b2n h.warn
  let left := match h.runAt with
    | none => 0xFFFFFFFF
    | some t => timeLeft (tbAdd t 60000000) s.tb / 1000
  let (a, s) := s.railField 3
  let (b, s) := s.railField 4
  let (d, s) := s.railField 5
  let (e, s) := s.railField 6
  (s, .now stOk
    (le 1 st ++ le 1 h.cause ++ le 1 s.aon.shutStamps.length ++ [0] ++ wBytes (nth h.newest 0 noVal) ++
     wBytes (nth h.newest 1 noVal) ++ wBytes h.tmax ++ le 2 h.v1 ++ le 2 h.v2 ++ le 4 left ++ a ++ b ++ d ++ e ++
     le 1 h.rflags.toNat ++ le 2 s.aon.shuts))

/-- THERM_CONFIG. -/
def cmdThermConfig (c : Ctx) (s : State) : State × Ans :=
  let k := thermCfgOf c.p
  stagedCmd 0xE1
    [(k.twarn < 700 || k.twarn > 1300, badParam 0), (k.tshut < 900 || k.tshut > 1350, badParam 2),
     (k.rwarn < 2 || k.rwarn > 30, badParam 4), (k.rshut < 10 || k.rshut > 30, badParam 5),
     (k.twarn ≥ k.tshut || k.rwarn ≥ k.rshut, badParam 0xFF)] [] [] c s

/-- THERM_CLEAR: the latch and the stamps cleared; a run that has lasted 60 s re-arms at once (R456). -/
def cmdThermClear (_c : Ctx) (s : State) : State × Ans :=
  if !s.aon.thermLatched then (s, .now stOk [])
  else
    let s := { s with aon := { s.aon with thermLatched := false, shutStamps := [] } }
    let s := s.thermLog 4 0 s.pw.pmun.toNat 0 s.tb
    let due := match s.hk.runAt with
      | none => false
      | some t => s.hk.shut && tbSub s.tb t ≥ 60000000
    (if due then s.rearm s.tb else s, .now stOk [])

/-- THERM_LOG: LOG_READ of LOG 0 without its own LOG, COPY, OFFSET and COUNT. -/
def cmdThermLog (c : Ctx) (s : State) : State × Ans :=
  let r := ringRead (logDef 0) ([0] ++ c.p ++ [0, 0, 240]) s
  (r.1, match r.2 with
    | .now st [b] => if st = stBadParam && b != 0xFF then badParam (b.toNat - 1) else .now st [b]
    | a => a)

end Sys2Proof.Machine
end

