-- ==== Sys2Proof/Machine/Power.lean ====
section
/-! DEFINITION. The power manager: allotment and limiter, the Pavane's steps, supplies and the crystal, what holds a power
state, wake and descent (R20 to R26, R42 to R59, R62, R63). -/

namespace Sys2Proof.Machine

/-- A change of the power manager's state. -/
def State.onPw (f : Power → Power) (s : State) : State := { s with pw := f s.pw }

/-! ### Allotment, limiter, governor (R44 to R48) -/

/-- The power of a class in mW (Table 03-2). -/
def classMw (c : Nat) : Nat := [600, 1200, 2400, 4800][c]?.getD 600

/-- The limiter's limit in µA: P_class / V_line (R46). -/
def State.relimit (s : State) : State :=
  if s.pw.vline = 0 then s
  else s.onPw fun p => { p with limitUa := classMw p.allot.held * 100000 / p.vline }

/-- The class the governor budgets with: a coming lower one from the reception of its grant (Table 03-3).
[DEDUCED, log 25] -/
def State.budgetClass (s : State) : Nat := s.pw.allot.lowers.foldl (fun m l => min m l.1) s.pw.allot.held

/-- The backlight cap recomputed (R47); 0 while the limiter holds (R48). [DEDUCED, log 24] -/
def State.govern (s : State) : State :=
  let cap := if s.pw.limit then 0 else blCap (classMw s.budgetClass) s.pw.pline s.applied.pwr.blmw s.blDemand
  s.onDsp fun d => { d with cap := cap }

/-- A change of the exchange with the line supply. -/
def State.onAllot (f : Allot → Allot) (s : State) : State := s.onPw fun p => { p with allot := f p.allot }

/-- A class in force from this quantum. -/
def State.takeClass (c : Nat) (s : State) : State := ((s.onAllot fun a => { a with held := c }).relimit).govern

/-- A new request; while the controller only listens it waits (R352). [DEDUCED, log 25] -/
def State.askAllot (reason : Nat) (s : State) : State :=
  if s.applied.bus.listen then s.onBus fun b => { b with askReason := some reason } else s.requestAllot reason

/-- PWR_CONFIG in its apply quantum (Table 03-3): a lower class at once, then the request; a higher one is only requested.
A changed class begins a new series of requests. [DEDUCED, log 25] -/
def State.applyPwr (c : PwrCfg) (s : State) : State :=
  let old := s.applied.pwr.cls
  let s := { s with applied := { s.applied with pwr := c } }
  let s := if c.cls < s.pw.allot.held then s.takeClass c.cls else s
  let s := s.govern
  if c.cls = old then s
  else (s.onAllot fun a => { a with stopAsking := false, noneRaised := false, interval := 1 }).askAllot 2

/-! ### Units of the Pavane (Table 03-4) -/

/-- A unit's condition in the last column of Table 03-4, on the committed configuration. -/
def State.calledFor (s : State) (i : Nat) : Bool :=
  let c := s.com.cfg
  if i < 2 then true
  else if i < 6 then c.pt.running.getLsbD (i - 2)
  else if i = 7 then c.di.toList.any (·.en) || c.dout.toList.any (·.en)
  else if i = 8 then (if c.dsp.conf.mode = 1 then c.dsp.page < 16 else c.dsp.conf.mode == 2 && s.dspWork)
  else if i = 9 then c.dsp.lvl.toList.any (· > 0)
  else c.driveCalled.getLsbD i

/-- Presence sampling starts with step 2: in MODE 0, in a cold Pavane for the AWAKE period, where it has been asked for, and where the
AWAKE seconds of the last motion have not lapsed (R188, R196). -/
def State.presenceStart (cold : Bool) (s : State) : State :=
  if cold then s.wantSampling else if s.applied.pr.mode = 0 || s.pres.sampling || s.prAwake then s.startSampling else s

/-- A unit starts with its step, whichever command brought it. [DESIGN CHOICE, log 97] -/
def State.startUnit (i : Nat) (cold : Bool) (s : State) : State :=
  let s := s.onPw fun p => { p with
    pmun := putBit p.pmun i true, pmEver := putBit p.pmEver i true
    barUnits := putBit p.barUnits i false, halted := putBit p.halted i false }
  if i = 1 then
    let s := ((s.onSar Sar.clear).busStart).prBias
    (s.presenceStart cold).hkStart
  else if 2 ≤ i && i < 6 then s.startGroupPt (i - 2)
  else if i = 6 then
    let off := s.pw.driveOff
    (s.onPw fun p => { p with driveOff := false }).moveOuts.wakeDrives off
  else if i = 7 then s.startField
  else if i = 8 then s.dspUnitStarted
  else if i = 9 then (if s.pw.allot.noneRaised && !s.pw.allot.granted then s.onDsp fun d => { d with cap := 0 } else s)
  else if 10 ≤ i && i < 14 then s.startBank (i - 10)
  else s

/-- A unit stops; its pads return to their NAP state (R52). -/
def State.stopUnit (i : Nat) (s : State) : State :=
  if !s.runs i then s
  else
    let s := s.onPw fun p => { p with pmun := putBit p.pmun i false }
    if i = 8 then (s.onPw fun p => { p with pmun := putBit p.pmun 8 true }).dspRailsDown
    else if i = 1 then (((((s.onSar Sar.clear).busStop).stopPresence).prBias).stopHu).hkStop
    else if 2 ≤ i && i < 6 then s.stopGroupPt (i - 2)
    else if i = 6 then
      State.trackDrives { s with out := { s.out with
          ao := updAll s.out.ao fun n c => { c with slewing := false, pending := 1000 * s.aoWant n != c.lvl }
          fn := updAll s.out.fn fun _ c => c.halt s.tb } }
    else if i = 7 then s.stopField
    else if 10 ≤ i && i < 14 then s.stopBank (i - 10)
    else s

/-- Units stopped in the reverse of the Pavane order, in one quantum (R21, R52). -/
def State.stopUnits (mask : BitVec 14) (s : State) : State :=
  (List.range 14).reverse.foldl (fun s i => if mask.getLsbD i then s.stopUnit i else s) s

/-! ### The Pavane (R50 to R53) -/

/-- Unit i has a place still to come in a Pavane: asked for, or in a cold one called for, and not running.
[DEDUCED, log 27] [DESIGN CHOICE, log 105] -/
def State.pavWants (s : State) (p : Pavane) (i : Nat) : Bool :=
  i + 1 > p.last && !s.runs i && (p.todo.getLsbD i || (p.cold && s.calledFor i && !p.skip.getLsbD i))

/-- The next unit a Pavane takes. [DEDUCED, log 27] -/
def State.pavNext (s : State) (p : Pavane) : Option Nat :=
  (List.range 14).find? fun i => s.pavWants p i && !s.barred.getLsbD i

/-- The step waits: drive-die bias for a posted reading (R449), the steps after 8 of a cold Pavane for a grant or
ALLOT_NONE (R51), every step in an overload (R48). [DEDUCED, log 27] -/
def State.pavWaits (s : State) (p : Pavane) (i : Nat) : Bool :=
  s.pw.overload || (i = 6 && !s.hk.posted) ||
  (p.cold && i ≥ 8 && p.last ≤ 8 && !s.pw.allot.granted && !s.pw.allot.noneRaised)

/-- The spacing between steps (R50). -/
def Pavane.spacing (p : Pavane) : Nat := if p.cold then 2000 else 250

/-- The last step of a Pavane has started: PAVANE_DONE; units whose place had passed start in a warm Pavane 250 µs later
(R51, R53). Called-for units held stopped meanwhile start when what holds them ends. -/
def State.pavEnd (p : Pavane) (s : State) : State :=
  let held := unitMask ((List.range 14).filter fun i => s.pavWants p i && s.barred.getLsbD i)
  let s := s.onPw fun w => { w with
    pav := if p.next = 0 then none else some { todo := p.next, due := tbAdd s.tb 250 }
    coldDone := w.coldDone || p.cold, barUnits := w.barUnits ||| held }
  let s := s.raise 1
  if p.cold && !s.dsp.started then s.dspStart else s

/-- After a step: the Pavane goes on, or has ended with it. -/
def State.pavAfter (p : Pavane) (s : State) : State :=
  match s.pavNext p with
  | none => s.pavEnd p
  | some _ => s.onPw fun w => { w with pav := some p }

/-- One step of the Pavane in progress, if it may be taken: at its spacing, or at once where it waited longer. One from which the last unit
was taken out ends with the next step that falls due. [DESIGN CHOICE, log 105] -/
def State.pavTake (s : State) : State :=
  match s.pw.pav with
  | none => s
  | some p =>
    if s.pw.pllStart || s.phase != .run then s
    else
      match s.pavNext p with
      | none => s.pavEnd p
      | some i =>
        if s.pavWaits p i then s
        else
          let s := s.jump p.due
          let s := s.startUnit i p.cold
          match s.pw.pav with
          | none => s
          | some p => s.pavAfter { p with last := i + 1, due := tbAdd s.tb p.spacing }

/-- PAVANE_STEP. [DESIGN CHOICE, log 2] [DEDUCED, log 27] -/
def execPavaneStep (s : State) : Out := .next (latchHold s s.pavTake)

/-- A cold Pavane that waited for the line supply goes on in this quantum, if its spacing has passed (R51). -/
def State.pavResume (s : State) : State :=
  match s.pw.pav with
  | none => s
  | some p => if p.cold && p.last ≤ 8 && timeLeft p.due s.tb = 0 && ((s.pavNext p).any fun i => decide (i ≥ 8)) then s.pavTake else s

/-- PLL_LOCK: RUN; step 1 counts as started in this quantum (R22, R50). -/
def execPllLock (s : State) : Out :=
  if !s.pw.pllStart || !s.awake then .next s
  else
    let s := { s with phase := .run, pw := { s.pw with pllStart := false, pmun := putBit s.pw.pmun 0 true } }
    match s.pw.pav with
    | none => .next s
    | some p => .next (s.pavAfter { p with last := 1, due := tbAdd s.tb p.spacing })

/-! ### Events of the allotment (Table 03-3, R330, R331) -/

/-- The CLASS and FLAGS of a grant frame addressed to this device, if it is one that may be taken. -/
def State.grantOf (s : State) (f : Frame) : Option (Nat × Nat) :=
  if f.ide && !f.remote && f.fdf && !f.brs && f.id == 0x1EF00000 + low s.unit.serial.toNat 20 && f.data.length == 12 &&
      leVal (slice f.data 0 8) == s.unit.serial.toNat && u8 f.data 8 < 4 then some (u8 f.data 8, u8 f.data 9)
  else none

/-- ALLOT_GRANT_FRAME. A grant higher than the class requested raises only to that class; one that answers no request
lowers nothing without LOWER, and with LOWER only to a lower class than the one held. An ordinary grant ends lowerings that wait.
[DEDUCED, log 25] [DESIGN CHOICE, log 105] -/
def execAllotGrantFrame (f : Frame) (s : State) : Out :=
  if !s.frameArrives then .next s
  else
    match s.grantOf f with
    | none => .next s
    | some (c, fl) =>
      let a := s.pw.allot
      let req := s.applied.pwr.cls
      if bit fl 0 then
        if c < a.held then
          .next (((s.onAllot fun a => { a with lowers := a.lowers ++ [(c, tbAdd s.tb 10000)] }).govern).raise 4)
        else .next s
      else if !a.outstanding then .next s
      else
        let s := s.onAllot fun a => { a with
          granted := true, outstanding := false, interval := 1, stopAsking := c < req, lowers := [] }
        let s := ((s.takeClass (min c req)).raise 2).raiseIf (c < req) 4
        .next (latchHold s s.pavResume)

/-- ALLOT_GRANT_TIMEOUT: 200 ms after a request; ALLOT_NONE once per series (R45). -/
def execAllotGrantTimeout (s : State) : Out :=
  let a := s.pw.allot
  if !a.outstanding || a.noneRaised || !s.awake then .next s
  else
    let s := s.jump (tbAdd a.reqAt 200000)
    let s := (s.onAllot fun a => { a with noneRaised := true }).raise 3
    .next (latchHold s s.pavResume)

/-- ALLOT_REQUEST_REPEAT: after the interval since the previous request, which doubles up to 64 s (R45). -/
def execAllotRequestRepeat (s : State) : Out :=
  let a := s.pw.allot
  if !a.outstanding || !a.noneRaised || a.stopAsking || !s.awake then .next s
  else
    let s := s.jump (tbAdd a.reqAt (1000000 * a.interval))
    .next ((s.askAllot 1).onAllot fun a => { a with interval := min 64 (2 * a.interval) })

/-- ALLOT_LOWER_APPLY: 10 ms after a grant with LOWER; the class in force is never raised by it. [DEDUCED, log 25] -/
def execAllotLowerApply (s : State) : Out :=
  match s.pw.allot.lowers with
  | [] => .next s
  | (c, t) :: rest =>
    let s := s.jump t
    .next ((s.onAllot fun a => { a with lowers := rest }).takeClass (min c s.pw.allot.held))

/-! ### Line, limiter, supplies, crystal -/

/-- LINE_MEASURE: V_line in 10 mV, the limit recomputed (R46). -/
def execLineMeasure (line10mV : Nat) (s : State) : Out :=
  .next (if s.awake then (s.onPw fun p => { p with vline := line10mV % 65536 }).relimit else s)

/-- LIMITER_HOLD: at the limit for 1 ms (R48). [DESIGN CHOICE, log 23] -/
def execLimiterHold (s : State) : Out :=
  if !s.awake then .next s
  else .next (((s.onPw fun p => { p with limit := true, limAt := some s.tb, ovAt := none }).raise 5).onDsp fun d => { d with cap := 0 })

/-- LIMITER_OVERLOAD: still at the limit 20 ms later, once for each hold (R48). [DESIGN CHOICE, log 23] -/
def execLimiterOverload (s : State) : Out :=
  match s.pw.limAt with
  | none => .next s
  | some t =>
    if !s.pw.limit || s.pw.ovAt.isSome || !s.awake then .next s
    else
      let s := s.jump (tbAdd t 20000)
      .next ((s.onPw fun p => { p with overload := true, ovAt := some s.tb }).raise 6)

/-- LIMITER_RELEASE: released for 10 ms (R48). [DESIGN CHOICE, log 23] -/
def execLimiterRelease (s : State) : Out :=
  .next ((s.onPw fun p => { p with limit := false, limAt := none, ovAt := none, overload := false, relAt := some s.tb }).startPll)

/-- A stop of the display rails before an update or a recovery has them: it is cut short as one in progress is (R59, R431). -/
def State.cutJob (s : State) : State := if s.dsp.job = .none then s else s.dspRailsDown

/-- POWER_FAIL_WARNING (R59, R396). [DEDUCED, log 26] -/
def execPowerFailWarning (pagesDone : Nat) (s : State) : Out :=
  if s.pw.pfw || !(s.awake || s.phase == .doze) then .next s
  else
    let s := (((s.stopUnits pfwStops).takeOut pfwStops).cutJob).onPw fun p => { p with pfw := true }
    .next ((s.stopStore pagesDone).raise 7)

/-- What the store had stopped goes on, what it owes begins, and what waited for a persistence is answered (R71, R396). -/
def State.resumeAll (s : State) : State :=
  let held := s.imageHeld
  let r := s.resumeStore.resumeImage.payOwed
  let s := if r.2 then r.1.linkQueue 0x20 (le 4 r.1.epoch) else r.1
  if held && s.applyDue.isNone then s.postApplied else s

/-- POWER_FAIL_WARNING_CLEAR: the three units restart, called for or not (R50, R59); in MODE 2 the rails by the check of R431.
[DEDUCED, log 26] -/
def execPowerFailWarningClear (s : State) : Out :=
  if !s.pw.pfw then .next s
  else
    let bi := s.dspMode = 2
    let s := (s.onPw fun p => { p with pfw := false, barUnits := p.barUnits &&& ~~~pfwStops }).resumeAll
    let s := s.callUnits (if bi then putBit pfwStops 8 false else pfwStops)
    .next (if bi && s.pw.coldDone then s.dspStart else s)

/-- VACT_LOW: VACT leaves its window (R49); whether it is still present is no longer known. [DEDUCED, log 28] -/
def execVactLow (s : State) : Out :=
  let s := s.onPw fun p => { p with vact := false }
  if !s.pw.vactOk then .next s
  else
    let s := s.onPw fun p => { p with vactOk := false }
    .next (((s.raise 8).driveStop).noteIlk)

/-- VACT_OK: in its window for 10 ms (R49); not in a thermal shutdown. In reset it is there and not reported (R31).
[DEDUCED, log 28] -/
def execVactOk (s : State) : Out :=
  let s := s.onPw fun p => { p with vact := true }
  if s.pw.vactOk || !(s.awake || s.phase == .doze) then .next s
  else
    let s := ((s.onPw fun p => { p with vactOk := true }).raise 9).noteIlk
    .next (if s.hk.shut then s else s.driveRestart)

/-- XTAL_FAIL; in DOZE it is not raised, then or later (R56, R127). [DEDUCED, log 20] -/
def execXtalFail (s : State) : Out :=
  .next (if s.phase == .unpowered then s
    else ({ s with xtalOk := false, pw := { s.pw with rctrim := false } } : State).raise 12)

/-- XTAL_STABLE: no event (R56). -/
def execXtalStable (s : State) : Out := .next (if s.phase == .unpowered then s else { s with xtalOk := true })

/-- WAKE_PIN_RISE. -/
def execWakePinRise (s : State) : Out :=
  .next (if s.awake || s.phase == .doze then (s.onPw fun p => { p with wakePin := true }).raise 14 else s)

/-! ### What holds a power state (R20, Table 01-6) -/

/-- The bus controller is not asleep or has frames to send, or a pair or caller is supervised: conditions that hold RUN and need the
converter's step (Table 01-6). -/
def State.busNeeds (s : State) : BitVec 14 :=
  if s.bus.phase != .sleep || !s.bus.fifo.isEmpty || s.supervised then unitMask [1] else 0

/-- The units that the other RUN conditions of Table 01-6 name, as the device now stands; an update calls for the rails once its marker is
verified (R429). [DEDUCED, log 22] [DESIGN CHOICE, log 89] -/
def State.runUnits (s : State) : BitVec 14 :=
  let banks := (List.range 4).filter fun b => (bankChans b).any fun n => (s.vlCh n).phase != .off
  let fans := (List.range 8).any s.fnRunning
  let page := s.dspMode = 1 && s.applied.dsp.page < 16
  let groups := (List.range 4).filter fun g => s.applied.pt.running.getLsbD g || (nth s.prm.groups g {}).state != 0
  let seqs := s.prm.sweep || (s.applied.pt.period = 0 && !s.applied.pt.huEnabled.isEmpty) || s.applied.sar.started != 0
  let pres := (s.pres.sampling || s.applied.pr.mode = 0) && s.applied.pr.chans.toList.any (·.en)
  let job := s.dsp.job == .recovery || (s.dsp.job == .update && s.dsp.verified)
  let lit := s.applied.dsp.lvl.toList.any (· > 0)
  unitMask (banks.map (10 + ·) ++ (if fans then [6] else []) ++ (if page && !s.dsp.fault || job then [8] else []) ++
    groups.map (2 + ·) ++ (if seqs || pres then [1] else []) ++ (if lit then [9] else []))

/-- The units that the RUN conditions need (R22), but for those that a STOP_GROUP has stopped (R62). [DEDUCED, log 22]
[DESIGN CHOICE, log 89] -/
def State.runNeeds (s : State) : BitVec 14 := withNeeds ((s.runUnits &&& ~~~s.pw.halted) ||| s.busNeeds)

/-- A condition that holds RUN. A Pavane in progress is one, a sink still on, a valve in any phase and a running fan (R20, R239); else a
unit that is held stopped, or has been stopped by a STOP_GROUP, holds nothing. [DEDUCED, log 22] -/
def State.runCond (s : State) : Bool :=
  s.pw.pav.isSome || s.busNeeds != 0 || s.prm.sweep || (s.runs 1 && s.huDueNow) || (s.runs 8 && (s.dsp.frameDue.isSome || s.dsp.job != .none)) ||
  (List.range 4).any (fun i => 0 < s.blDuty i) || (List.range 16).any (fun n => (s.vlCh n).phase != .off) ||
  (List.range 8).any s.fnRunning || s.runUnits &&& ~~~s.pw.halted &&& ~~~s.barred != 0

/-- Units for what has changed since a state before (R22, R53): a condition that holds RUN and did not before, in NAP any that holds. A
stop keeps nothing down once its condition has ended. -/
def State.callNew (s before : State) : State :=
  let new := s.runUnits &&& ~~~before.runUnits
  let s := s.onPw fun p => { p with halted := p.halted &&& s.runUnits &&& ~~~new }
  s.callUnits (if s.phase == .run then new ||| (s.busNeeds &&& ~~~before.busNeeds) else s.runNeeds)

/-- VL_DUTY_WINDOW_START (R224); a channel that it lets go is a RUN condition (R20, R22). -/
def execVlDutyWindowStart (ch : Nat) (s : State) : Out :=
  if ch ≥ 16 then .fault .noSuchUnit
  else
    match (s.vlCh ch).winDue with
    | none => .next s
    | some t => .next ((s.dutyWindow ch t).callNew s)

/-- A condition that holds at least NAP; a management restart, an apply quantum to come, a DEV_RESET and a thermal record owed hold it too.
[DEDUCED, log 22] -/
def State.napCond (s : State) : Bool :=
  let ao := (List.range 16).any fun n => (s.aoConf n).en && (s.aoOwn n > 0 || s.aoWant n > 0)
  let dout := (List.range 8).any fun n => (s.doCh n).pad
  ao || dout || s.pw.wakePin || !s.link.mbox.isEmpty || !s.link.replies.isEmpty || !s.rem.box.isEmpty || !s.staged.isEmpty ||
  s.writing.isSome || s.applyDue.isSome || !s.hk.toLog.isEmpty || s.mgmt.restarting || s.pw.devReset.isSome

/-- A round has work: an enabled zone, a running loop or rule, a publication, an armed alarm, a rail or output to retry.
[DEDUCED, log 29] -/
def State.roundWork (s : State) : Bool :=
  let run := fun (b : Bytes) => u8 b 0 % 4 = 1
  (s.pers == .service &&
    ((s.com.kindBodies 1).any (fun e => enBit e.2) || (s.com.kindBodies 2).any (fun e => run e.2) ||
     (s.com.kindBodies 5).any (fun e => run e.2) || s.com.cfg.pub.zones != 0 || s.com.cfg.pub.pper > 0)) || s.dsp.fault ||
  (List.range 16).any (fun n => (s.aoCh n).fault) || (List.range 8).any (fun n => (s.doCh n).short && (s.doConf n).retry) ||
  !s.cal.pending.isEmpty

/-- The next quantum at which scheduled work falls due, if any (R23): a round with work, a sweep, or the alarm. [DEDUCED, log 29] -/
def State.scheduledAt (s : State) : Option Nat :=
  let next := nextMultiple 1000000 s.tb
  let alarm := match s.cal.alarm with
    | none => none
    | some a =>
      if !s.xtalOk || s.cal.ended || a ≤ s.cal.secs then none else some (tbAdd next (1000000 * (a - s.cal.secs - 1)))
  let sooner := fun (x y : Option Nat) => match x, y with
    | some a, some b => some (if timeLeft a s.tb ≤ timeLeft b s.tb then a else b)
    | some a, none => some a
    | none, y => y
  sooner (if s.roundWork then some next else none) (sooner s.huDueAt alarm)

/-- Entry to DOZE: key counts and TBWAKE cleared, the levels of the field inputs and of the interrupt pads kept (R127, R128,
R254). [DEDUCED, log 15] [DEDUCED, log 20] -/
def State.enterDoze (s : State) : State :=
  let s := { s with
    phase := .doze, tbFrac := 0
    ev := { s.ev with
      wakeValid := false, wakeSrc := 0xFF, firstWake := none, dozeA := s.irqLow false, dozeB := s.irqLow true } }
  (s.onKeys fun k => { k with since := [] }).dozeField.countFrames

/-- POWER_STATE_DESCENT at a beat boundary (R21). Whether WAKE has fallen since it rose is not told by any event: a free
choice while nothing else holds NAP. [DESIGN CHOICE, log 8] [DEDUCED, log 22] -/
def State.descend (s : State) : State :=
  if s.phase == .run then
    if s.runCond then s
    else
      let s := s.stopUnits (BitVec.allOnes 14)
      ({ s with phase := .nap, pw := { s.pw with pllStart := false } } : State).callOuts
  else if s.phase == .nap && !s.runCond && s.xtalOk && s.store.recalled then
    let (f, t) := if s.pw.wakePin then s.draw else (0, s)
    let t := t.onPw fun p => { p with wakePin := p.wakePin && f % 2 = 1 }
    let soon := match t.scheduledAt with
      | none => false
      | some d => timeLeft d t.tb < 20000
    if t.napCond || soon then t else t.enterDoze
  else s

/-! ### Wake (R22 to R24, R57, R129) -/

/-- DOZE left for NAP: what was detected is raised in this quantum, TBWAKE records the wake, the interlock evaluator resumes
with every count restarted (R129, R296), the PLL starts and with it what the device needs. [DEDUCED, log 20]
[DEDUCED, log 22] [DEDUCED, log 54] -/
def State.wake (src : Nat) (stamp : Nat) (s : State) : State :=
  let held := s.ev.heldWake
  let s := { s with
    phase := .nap
    mgmt := { s.mgmt with wdogAt := s.tb }
    ev := { s.ev with heldWake := 0, firstWake := none, wakeValid := true, wakeSrc := src, wakeTs := wN stamp } }
  let s := (List.range 128).foldl (fun s n => s.raiseIf (held.getLsbD n) n) s
  let s := s.onKeys fun k => { k with encWoke := true }
  let s := { s with ilk := { s.ilk with run := updAll s.ilk.run fun _ r => { r with trueAt := none, falseAt := none, was := none } } }
  let s := s.noteIlk
  let s := s.raiseIf s.pres.owed 52
  let s := { s with pres := { s.pres with owed := false } }
  let s := if held.getLsbD 53 && s.applied.pr.mode = 1 then s.wantSampling else s
  let s := s.restartFilters.countFrames.moveOuts.moveDos
  s.callUnits (unitMask [1] ||| s.runNeeds ||| s.aoNeeds)

/-- A wake-capable source has its routing enabled (R128). -/
def State.wakes (s : State) (n : Nat) : Bool :=
  match wakeSources.idxOf? n with
  | none => false
  | some i => s.ev.wken.getLsbD i

/-- WAKE_FROM_DOZE: the first enabled source detected wakes the device; where none has been, the source named fires now, but for
RTC_ALARM, which only a round boundary raises (R136).
[DEDUCED, log 20] -/
def execWakeFromDoze (src : Nat) (s : State) : Out :=
  if s.phase != .doze then .next s
  else
    match s.ev.firstWake with
    | some (n, t) => .next (latchHold s (s.wake n t))
    | none => if src != 63 && s.wakes src then .next (latchHold s ((s.raise src).wake src s.tb)) else .next s

/-- SCHEDULED_WAKE: 4 crystal periods before the last that scheduled work leaves (R23); TBWAKE holds an enabled source detected before
it (R129). From NAP the device reaches RUN in the same way. [DEDUCED, log 29] [DEDUCED, log 20] -/
def execScheduledWake (s : State) : Out :=
  if s.phase == .nap then
    match s.scheduledAt with
    | none => .next s
    | some d =>
      let lead := 4 * 15625 / 512
      .next (if timeLeft d s.tb ≥ lead then (s.pass (timeLeft d s.tb - lead)).callUnits (unitMask [1]) else s.callUnits (unitMask [1]))
  else if s.phase != .doze then .next s
  else
    match s.scheduledAt with
    | none => .next s
    | some d =>
      let s := s.crystal ((512 * timeLeft d s.tb - s.tbFrac) / 15625 - 4)
      match s.ev.firstWake with
      | some (n, t) => .next (latchHold s (s.wake n t))
      | none => .next (latchHold s (s.wake 0xFE s.tb))

/-! ### START_GROUP and STOP_GROUP in their apply quantum (R50, R52, R53) -/

/-- START_GROUP. -/
def State.applyStartGroup (p : Bytes) (s : State) : State := s.callUnits (BitVec.ofNat 14 (u16 p 0))

/-- STOP_GROUP: running units stop in reverse order, those not yet reached leave the Pavane, and the channels of a bank so named go off
(R53, R225); a bank still to come then starts without a unit so taken out. [DESIGN CHOICE, log 105] -/
def State.applyStopGroup (p : Bytes) (s : State) : State :=
  let m := BitVec.ofNat 14 (u16 p 0)
  let s := (s.stopUnits m).dropUnits m
  let s := if m.getLsbD 8 then s.cutJob else s
  let s := (List.range 4).foldl (fun s b => if m.getLsbD (10 + b) && !s.bankRuns b then s.stopBank b else s) s
  s.onPw fun p => { p with halted := p.halted ||| m, pav := p.pav.map fun q => { q with skip := q.skip ||| m } }

/-! ### Registers (R63) -/

/-- The limiter is at its limit in this quantum (R63): not in reset (R9). LIMITER_HOLD, LIMITER_OVERLOAD and LIMITER_RELEASE tell it for
their own quanta; at others nothing does, and the bit is a free value. [DESIGN CHOICE, log 23] -/
def State.atLimit (s : State) : Bool :=
  if !s.awake && s.phase != .doze then false
  else if s.pw.limAt = some s.tb || s.pw.ovAt = some s.tb then true else if s.pw.relAt = some s.tb then false else Config.limiterNow s.free s.tb

/-- PMST. -/
def State.pmst (s : State) : Nat :=
  let p := s.pw
  let step := match p.pav with
    | none => 0
    | some q => if p.pllStart then max 1 q.last else q.last
  let cold := (p.pav.map Pavane.cold).getD false
  step * 2 ^ 24 + b2n cold * 2 ^ 23 + p.allot.held * 2 ^ 18 + s.applied.pwr.cls * 2 ^ 16 + b2n p.allot.granted * 2 ^ 15 +
  b2n s.atLimit * 2 ^ 14 + b2n p.pfw * 2 ^ 13 + b2n p.vactOk * 2 ^ 12 + b2n s.fio.lpres * 2 ^ 11 + b2n s.xtalOk * 2 ^ 10 +
  b2n p.rctrim * 2 ^ 9 + (if s.phase == .run then 2 else 1)

/-- PMLN. -/
def State.pmln (s : State) : Nat := s.pw.vline * 65536 + s.pw.pline

/-! ### Commands (Table 03-9) -/

/-- DEV_RESET: due 10 ms after its reply became readable, or once it has been read (R62). [DEDUCED, log 82] -/
def cmdDevReset (c : Ctx) (s : State) : State × Ans :=
  let id := match c.org with
    | .host i => some i
    | .remote _ => none
  guarded [(u16 c.p 0 != 0xC35A, badParam 0)] s
    (s.onPw fun p => { p with devReset := some (tbAdd s.tb 10000), devResetCmd := id }, .now stOk [])

/-- PWR_CONFIG. -/
def cmdPwrConfig (c : Ctx) (s : State) : State × Ans :=
  stagedCmd 0x03 [(u8 c.p 0 > 3, badParam 0), (u16 c.p 1 > 2000, badParam 1)] [] [] c s

/-- PWR_STATUS. -/
def cmdPwrStatus (_c : Ctx) (s : State) : State × Ans :=
  let st := s.pmst
  (s, .now stOk
    (le 1 (st % 4) ++ le 1 s.applied.pwr.cls ++ le 1 s.pw.allot.held ++ le 1 (st / 256) ++ le 2 s.pw.vline ++ le 2 s.pw.pline ++
     le 2 s.pw.pmun.toNat ++ le 1 s.pmrc.toNat))

/-- START_GROUP; a thermal shutdown latched refuses drive-die units (R456). -/
def cmdStartGroup (c : Ctx) (s : State) : State × Ans :=
  let m := BitVec.ofNat 14 (u16 c.p 0)
  stagedCmd 0x05
    [(u16 c.p 0 ≥ 2 ^ 14, badParam 1), (s.aon.thermLatched && m &&& driveUnits != 0, refused stLocked)] [] [] c s

/-- A stop of units that a running unit not named needs (Table 03-9). -/
def State.stopNeeded (s : State) (m : BitVec 14) : Bool :=
  (List.range 14).any fun i => s.runs i && !m.getLsbD i && unitNeeds i &&& m != 0

/-- STOP_GROUP. -/
def cmdStopGroup (c : Ctx) (s : State) : State × Ans :=
  let m := BitVec.ofNat 14 (u16 c.p 0)
  stagedCmd 0x06 [(u16 c.p 0 ≥ 2 ^ 14, badParam 1)] [(m.getLsbD 0 || s.stopNeeded m, refused stConflict)] [] c s

end Sys2Proof.Machine
end

