-- ==== Sys2Proof/Machine/Reset.lean ====
section
/-! DEFINITION. Power-on, device resets and their causes, management restarts, the safe state (R1, R2, R18, R43, R58 to R61,
R304). -/

namespace Sys2Proof.Machine

/-- Every output brought to what Table 14-4 lets it take. -/
def State.moveAll (s : State) : State :=
  let s := (List.range 16).foldl (fun s n => s.reconcile n) s
  ((s.moveOuts.moveDos).gateDrives).settleBanks

/-- A change of outputs that belongs to the next quantum: its times are those of that quantum, and the pads still stand as they were in
this one. [DEDUCED, log 47] -/
def State.inNext (f : State → State) (s : State) : State :=
  let same := match s.ilk.still with
    | none => none
    | some k => if k.1 = s.tb then some k else none
  let t := f { s with tb := tbAdd s.tb 1 }
  { t with tb := s.tb, ilk := { t.ilk with still := some (same.getD (s.tb, s.vl, s.out, s.fio)) } }

/-- After a trip, a release or a change of the safe state: every output in the next quantum, with the units that one of them needs (R22,
R235, R300, R302, R304). [DEDUCED, log 47] -/
def State.moveGates (s : State) : State := s.inNext fun t => t.moveAll.callOuts.callNew s

/-! ### Device resets (Table 03-8) -/

/-- Coils that conduct as their switches go off with a reset: their current decays through the clamp (R31). [DESIGN CHOICE, log 99] -/
def State.coilsConducting (s : State) : BitVec 16 :=
  (List.range 16).foldl (fun (m : BitVec 16) n => if (s.vlCh n).energised then putBit m n true else m) s.vl.clamp

/-- What a device reset leaves: TB, the calendar, the crystal's state, PMRC with one more cause and the rest of the always-on
domain, the store and the unit area, the supplies as they are; all else at its Reset value (R9, R43, R58, R61).
[DEDUCED, log 18] -/
def State.resetBy (cause : Nat) (s : State) : State :=
  { phase := .reset, tb := s.tb, tbFrac := s.tbFrac, free := s.free, era := s.era, pmrc := putBit s.pmrc cause true, xtalOk := s.xtalOk
    ev := { tbhi := s.ev.tbhi }, cal := s.cal, beatAt := s.beatAt
    pw := { lineBo := s.pw.lineBo, vpreBo := s.pw.vpreBo, vact := s.pw.vact, wakePin := s.pw.wakePin }
    vl := { clamp := s.coilsConducting }
    svc := { roundAt := s.svc.roundAt }, unit := s.unit, unitStore := s.unitStore
    areaA := s.areaA, areaB := s.areaB, cells := s.cells, badGroups := s.badGroups, worn := s.worn, unsteady := s.unsteady, aon := s.aon
    store := { switchOnly := s.store.switchOnly, switches := s.store.switches, lastSwitch := s.store.lastSwitch }
    pending := s.pending }

/-- DEVICE_UNPOWERED: the always-on domain loses every value it holds; what the ferroelectric cells hold stays, a write in progress cut
(R43, R397). -/
def execDeviceUnpowered (s : State) : Out :=
  let s := s.cutFreely
  .next { phase := .unpowered, pmrc := 0, free := s.free, era := s.era + 1, unit := s.unit, unitStore := s.unitStore, areaA := s.areaA, areaB := s.areaB
          cells := s.cells, badGroups := s.badGroups, worn := s.worn, unsteady := s.unsteady, pending := s.pending }

/-- POWER_ON: TB 0, PMRC 0x00000001, intake within class A (R43, R44, R130). [DEDUCED, log 18] -/
def execPowerOn (s : State) : Out :=
  .next (if s.phase == .unpowered then { s with phase := .reset, pmrc := 1 } else s)

/-- LINE_BROWN_OUT by the line or by VPRE; what a power-fail warning has not stopped is cut (R396, R397). -/
def execLineBrownOut (byVpre : Bool) (s : State) : Out :=
  if s.phase == .unpowered then .next s
  else
    .next ((s.cutFreely.resetBy 1).onPw fun p => { p with lineBo := p.lineBo || !byVpre, vpreBo := p.vpreBo || byVpre })

/-- LINE_BROWN_OUT_END. -/
def execLineBrownOutEnd (s : State) : Out := .next (s.onPw fun p => { p with lineBo := false, vpreBo := false })

/-- RAIL_BROWN_OUT; a store write in progress is cut without warning (R397). -/
def execRailBrownOut (cut : Option StoreCut) (s : State) : Out :=
  .next (if s.phase == .unpowered then s else (s.cutStore cut).resetBy 2)

/-- RESET_N_ASSERT: pulses under 200 ns are ignored, from 1 µs always taken, between taken or not (R58). -/
def execResetNAssert (widthNs : Nat) (taken : Bool) (cut : Option StoreCut) (s : State) : Out :=
  .next (if s.phase == .unpowered || widthNs < 200 || (widthNs < 1000 && !taken) then s else (s.cutStore cut).resetBy 3)

/-- DEV_RESET_BEGIN (R62). [DEDUCED, log 82] -/
def execDevResetBegin (s : State) : Out :=
  match s.pw.devReset with
  | none => .next s
  | some t => .next ((s.jump t).resetBy 4)

/-- RESET_RELEASE: the straps fix personality and configuration; a reserved value, or TMODE high, keeps the device in reset
(R1, R2, R37, R43). The end of RESET_N and of a rail brown-out is this release itself. [DEDUCED, log 17] -/
def execResetRelease (straps : Nat) (tmode : Bool) (s : State) : Out :=
  if s.phase != .reset || s.pw.lineBo || s.pw.vpreBo then .next s
  else
    let s := s.onPw fun p => { p with strap := straps % 8, tmode := tmode }
    let s := { s with vl := { s.vl with clamp := 0 } }
    if straps % 8 ≥ 5 || tmode then .next { s with phase := .held }
    else .next ((({ s with phase := .nap, mgmt := { wdogAt := s.tb } } : State).raise 0).releaseField)

/-! ### Management restarts (R18, R60) -/

/-- The management complex restarts: mailbox, unread replies and staged writes are discarded, open groups are lost, the
round's work is discarded with its counters, a full mailbox has space again, the measured points have no value until they latch
again (R60, R71, R79, R121, R269, R289); the data plane goes on. The next commit follows the epoch committed last, persisted or not. [DEDUCED, log 19]
[DESIGN CHOICE, log 104] -/
def State.mgmtRestart (cause : Nat) (s : State) : State :=
  let lost := s.groups.toList.any Option.isSome
  let full := s.link.mbox.length ≥ 8
  let v := s.svc
  let undone := fun (i : Nat) => v.left.contains i || s.staged.any fun w => w.service && v.workUids.contains w.uid &&
    (match w.w with
     | .status 2 j _ d => i == j && (u8 d 0 == 1 || u8 d 0 == 3)
     | _ => false)
  let svc : Services := { v with
    left := [], workUids := [], pubDue := false, overruns := 0, pubskip := 0
    loop := updAll v.loop fun i l => { skipped := l.skipped || undone i, badAt := l.badAt, cycle := l.cycle }
    prRuns := Vector.replicate 4 0, prSkips := Vector.replicate 4 0 }
  let s := { s with
    pmrc := putBit s.pmrc cause true
    mgmt := { s.mgmt with restarting := true, seriesAt := some (s.mgmt.seriesAt.getD s.tb) }
    link := { s.link with mbox := [], replies := [] }
    rem := { s.rem with box := [] }
    store := { s.store with asked := none, owed := s.store.owed.map unanswered }
    staged := [], waits := [], groups := Vector.replicate 8 none, snaps := Vector.replicate 4 none, tbc := 0, latched := {}
    svc := svc }
  ((s.flag 0x84 (wN (2 ^ cause))).raiseIf lost 17).raiseIf full 23

/-- MGMT_WATCHDOG_EXPIRY: 50 ms after the last service; it does not count while a restart runs. -/
def execMgmtWatchdogExpiry (s : State) : Out :=
  if !s.awake || s.mgmt.restarting then .next s
  else .next ((s.jump (tbAdd s.mgmt.wdogAt 50000)).mgmtRestart 5)

/-- LOCKSTEP_MISMATCH: one before a restart has ended joins its series; the next vigil is a FAULT vigil (R18). -/
def execLockstepMismatch (s : State) : Out :=
  .next (if s.awake then ({ s with mgmt := { s.mgmt with vigilFault := some s.beatAt } } : State).mgmtRestart 6 else s)

/-- MGMT_RESTART_END: the series ends, the watchdog counts afresh. [DEDUCED, log 19] -/
def execMgmtRestartEnd (s : State) : Out :=
  if !s.mgmt.restarting then .next s
  else .next (({ s with mgmt := { s.mgmt with wdogAt := s.tb, restarting := false, seriesAt := none } } : State).raise 13)

/-- SAFE_STATE_ENTRY: 2 rounds after the first restart of a series that has not ended; an end in the round of expiry wins (R134, R304).
[DEDUCED, log 47] [DEDUCED, log 90] -/
def execSafeStateEntry (s : State) : Out :=
  match s.mgmt.seriesAt with
  | none => .next s
  | some t =>
    if !s.mgmt.restarting || s.ilk.safe then .next s
    else
      let s := s.jump (nextMultiple 1000000 (tbAdd t 2000000))
      .next (({ s with ilk := { s.ilk with safe := true } } : State).raise 94).moveGates

/-- SAFE_STATE_EXIT at the apply quantum of the first commit after the management complex runs again (R304). -/
def State.leaveSafe (commit : Bool) (s : State) : State :=
  if s.ilk.safe && !s.mgmt.restarting && commit then ({ s with ilk := { s.ilk with safe := false } } : State).raise 94 else s

end Sys2Proof.Machine
end

