-- ==== Sys2Proof/Machine/Sched.lean ====
section
/-! DEFINITION. Local time, daylight time, the almanac and the scheduled mode (R273 to R279). Instants are seconds UTC since
2000-01-01 00:00:00; local times are counted from the same date. -/

namespace Sys2Proof.Machine

/-! ### Dates: days counted from 2000-01-01, before and after it -/

/-- Days from 1996-01-01, the start of a cycle of four years, to a day; 2100-02-29, which does not exist, is out of reach. -/
def cycleDay (d : Int) : Nat := (d + 1461).toNat

/-- Year, month and day of a day. -/
def dateOfDay (d : Int) : Nat × Nat × Nat :=
  let n := cycleDay d
  let r := n % 1461
  let k := if r < 366 then 0 else 1 + (r - 366) / 365
  let y := 1996 + 4 * (n / 1461) + k
  let md := monthOf y (if k = 0 then r else (r - 366) % 365)
  (y, md.1, md.2)

/-- The day of a date. -/
def dayOf (y m d : Nat) : Int :=
  let k := y - 1996
  let start := 1461 * (k / 4) + (if k % 4 = 0 then 0 else 366 + 365 * (k % 4 - 1))
  ((start + monthDays y m + (d - 1) : Nat) : Int) - 1461

/-- The weekday of a day: 0 Monday to 6 Sunday; 1996-01-01 was a Monday. -/
def weekdayOf (d : Int) : Nat := cycleDay d % 7

/-! ### Daylight time (R277) -/

/-- The day a rule names in a year. [DEDUCED, log 68] -/
def DstRule.dayIn (r : DstRule) (y : Nat) : Int :=
  let first := dayOf y r.month 1
  let off := (r.wday + 7 - weekdayOf first) % 7
  let len := daysIn y r.month
  let d := if r.week < 5 then off + 7 * (r.week - 1) else off + 7 * ((len - 1 - off) / 7)
  first + d

/-- The instants at which daylight time begins and ends in a year. -/
def TzCfg.begins (z : TzCfg) (y : Nat) : Int := 86400 * z.start.dayIn y + 60 * z.start.min - 60 * z.stdofs
def TzCfg.ends (z : TzCfg) (y : Nat) : Int := 86400 * z.stop.dayIn y + 60 * z.stop.min - 60 * z.stdofs - 60 * (z.dstofs : Int)

/-- Daylight time is in force at an instant: between a beginning and the end after it, of this year or one beside it.
[DEDUCED, log 68] -/
def TzCfg.dst (z : TzCfg) (u : Int) : Bool :=
  let y := (dateOfDay ((u + 60 * z.stdofs) / 86400)).1
  z.dstofs != 0 && [y - 1, y, y + 1].any fun k =>
    decide (z.begins k ≤ u) && decide (u < z.ends (if z.start.month ≤ z.stop.month then k else k + 1))

/-- Local time of an instant. -/
def TzCfg.local_ (z : TzCfg) (u : Int) : Int := u + 60 * z.stdofs + (if z.dst u then 60 * (z.dstofs : Int) else 0)

/-- The local date of an instant. -/
def TzCfg.dateAt (z : TzCfg) (u : Int) : Int := z.local_ u / 86400

/-- The instant of a local minute of a day: its first occurrence, or the transition that skips it (R279 step 4). -/
def TzCfg.instant (z : TzCfg) (d : Int) (m : Nat) : Int :=
  let std := 86400 * d + 60 * (m : Int) - 60 * z.stdofs
  let day := std - 60 * (z.dstofs : Int)
  if z.dst day then day
  else if !z.dst std then std
  else
    let y := (dateOfDay d).1
    (([y - 1, y, y + 1].map z.begins).find? fun t => decide (day < t) && decide (t ≤ std)).getD std

/-! ### Almanac (R276, R278) -/

/-- An almanac day applies to schedule k on a local date. -/
def almApplies (b : Bytes) (k : Nat) (d : Int) : Bool :=
  let from_ := fun (y : Nat) =>
    let ok := u8 b 7 ≤ daysIn y (u8 b 6) && !(u8 b 6 = 2 && u8 b 7 = 29 && y % 4 != 0)
    let st := dayOf y (u8 b 6) (u8 b 7)
    ok && st ≤ d && d < st + u8 b 3
  let y := (dateOfDay d).1
  u8 b 0 != 0 && bit (u32 b 8) k && (if u16 b 4 = 0 then from_ y || from_ (y - 1) else from_ (u16 b 4))

/-- The almanac day chosen for a date: highest PRIO, then lowest index. -/
def Com.almDay (c : Com) (k : Nat) (d : Int) : Option (Nat × Bytes) :=
  (c.kindBodies 4).foldl (fun m e =>
    if !almApplies e.2 k d then m
    else
      match m with
      | none => some e
      | some x => if u8 e.2 2 > u8 x.2 2 then some e else m) none

/-! ### The scheduled mode (R275, R279) -/

/-- The entries of a weekday as minute and mode, by slot. -/
def schedDay (b : Bytes) (w : Nat) : List (Nat × Nat) :=
  (List.range 8).filterMap fun k =>
    let e := u16 b (16 + 16 * w + 2 * k)
    if e % 2048 = 0x7FF || e / 8192 = 0 then none else some (e % 2048, e / 8192)

/-- What decides a stretch of time: the mode, and the almanac day that decided it. -/
abbrev Decided := Nat × Option Nat

/-- The latest of a day's switches at or before an instant, none bounding it at the day's end; a higher slot wins a tie. -/
def latestSwitch (sw : List (Int × Decided)) (u : Option Int) : Option (Int × Decided) :=
  sw.foldl (fun m e =>
    if (match u with
        | none => false
        | some x => decide (e.1 > x)) then m
    else
      match m with
      | none => some e
      | some x => if e.1 ≥ x.1 then some e else m) none

/-- The switches that the entries of a date make, an interval of a KIND 3 day apart. -/
def daySwitches (z : TzCfg) (c : Com) (k : Nat) (b : Bytes) (d : Int) : List (Int × Decided) :=
  let own := fun (w : Nat) (by_ : Option Nat) => (schedDay b w).map fun e => (z.instant d e.1, (e.2, by_))
  match (if u8 b 2 = 1 then c.almDay k d else none) with
  | none => own (weekdayOf d) none
  | some (i, a) =>
    if u8 a 0 = 1 then own (u8 a 1) (some i)
    else if u8 a 0 = 2 then [(z.instant d 0, (u8 a 1, some i))]
    else own (weekdayOf d) none

/-- The KIND 3 day of a date: its interval in local minutes, with its mode and index. -/
def dayInterval (c : Com) (k : Nat) (b : Bytes) (d : Int) : Option (Nat × Nat × Decided) :=
  match (if u8 b 2 = 1 then c.almDay k d else none) with
  | none => none
  | some (i, a) => if u8 a 0 != 3 then none else some (u16 a 12, u16 a 14, (u8 a 1, some i))

/-- What a KIND 3 day decides at an instant: its mode in [START, END) of local time, in the repeated hour both times. [DEDUCED, log 68] -/
def inInterval (z : TzCfg) (c : Com) (k : Nat) (b : Bytes) (u : Int) : Option Decided :=
  let m : Nat := (z.local_ u % 86400 / 60).toNat
  match dayInterval c k b (z.dateAt u) with
  | none => none
  | some (x, y, r) => if x ≤ m && m < y then some r else none

/-- The mode that a date gives at an instant of it, or at its end. -/
def dayMode (z : TzCfg) (c : Com) (k : Nat) (b : Bytes) (d : Int) (u : Option Int) : Option Decided :=
  (inInterval z c k b (u.getD (z.instant (d + 1) 0 - 1))).or ((latestSwitch (daySwitches z c k b d) u).map (·.2))

/-- The instants at which a KIND 3 day of a date begins or stops to decide: where its local minutes begin, either time they occur,
or a transition of daylight time, if what it decides changes there. [DEDUCED, log 68] -/
def intervalSwitches (z : TzCfg) (c : Com) (k : Nat) (b : Bytes) (d : Int) : List Int :=
  match dayInterval c k b d with
  | none => []
  | some (x, y, _) =>
    let yr := (dateOfDay d).1
    let std := fun (m : Nat) => 86400 * d + 60 * (m : Int) - 60 * z.stdofs
    ([x, y].flatMap (fun m => [std m - 60 * (z.dstofs : Int), std m]) ++ [yr - 1, yr, yr + 1].flatMap fun q => [z.begins q, z.ends q]).filter
      fun t => inInterval z c k b t != inInterval z c k b (t - 1)

/-- The mode in force at the end of a day, going back n days more. -/
def modeBack (z : TzCfg) (c : Com) (k : Nat) (b : Bytes) : Nat → Int → Option Decided
  | 0, _ => none
  | n + 1, d =>
    match dayMode z c k b d none with
    | some m => some m
    | none => modeBack z c k b n (d - 1)

/-- The scheduled mode of schedule k, body b, at an instant; DEFAULT where a week shows none, and while suspended.
[DEDUCED, log 68] -/
def schedMode (z : TzCfg) (c : Com) (k : Nat) (b : Bytes) (u : Int) : Decided :=
  let d := z.dateAt u
  if bit (u8 b 0) 1 then (u8 b 1, none)
  else
    match dayMode z c k b d (some u) with
    | some m => m
    | none => (modeBack z c k b 7 (d - 1)).getD (u8 b 1, none)

/-- The switch instants after u and up to u + n seconds. [DEDUCED, log 68] -/
def switchesIn (z : TzCfg) (c : Com) (k : Nat) (b : Bytes) (u : Int) (n : Nat) : List Int :=
  if bit (u8 b 0) 1 then []
  else
    let d := z.dateAt u
    let days := (List.range (n / 86400 + 3)).map fun (i : Nat) => d - 1 + (i : Int)
    (days.flatMap fun d =>
      (daySwitches z c k b d).map (·.1) ++ intervalSwitches z c k b d).filter fun t => u < t && t ≤ u + n

/-- The earliest of a list of instants. -/
def earliest (ts : List Int) : Option Int :=
  ts.foldl (fun m t => match m with
    | none => some t
    | some x => some (min x t)) none

/-- The scheduled mode becomes COMFORT at an instant. -/
def comfortStart (z : TzCfg) (c : Com) (k : Nat) (b : Bytes) (t : Int) : Bool :=
  (schedMode z c k b t).1 = 1 && (schedMode z c k b (t - 1)).1 != 1

/-- The schedule a zone uses, present and enabled (Table 13-3 step 4). -/
def Com.schedOf (c : Com) (zb : Bytes) : Option (Nat × Bytes) :=
  if u8 zb 1 ≥ 32 then none else ((c.body 3 (u8 zb 1)).filter fun b => enBit b).map fun b => (u8 zb 1, b)

/-! ### Commands -/

/-- SCHED_RESOLVE: steps 2, 4 and 5 of Table 13-3. Without a next switch NMODE is a free value. [DESIGN CHOICE, log 8]
[DEDUCED, log 68] -/
def cmdSchedResolve (c : Ctx) (s : State) : State × Ans :=
  let zi := u8 c.p 0
  let t := u32 c.p 1
  let u : Int := if t = 0xFFFFFFFF then s.cal.secs else t
  let z := s.svc.tz
  match (if zi < 16 then s.com.body 1 zi else none) with
  | none => (s, badParam 0)
  | some zb =>
    let sch := s.com.schedOf zb
    let r : Nat × Nat × Option Nat :=
      if !s.clockOk then (u8 zb 19, 7, none)
      else
        match sch with
        | none => (u8 zb 19, 7, none)
        | some (k, b) =>
          let m := schedMode z s.com k b u
          (m.1, if m.2.isSome then 3 else 2, m.2)
    let next := match sch with
      | none => none
      | some (k, b) => (earliest (switchesIn z s.com k b u 691200)).map fun x => (x, (schedMode z s.com k b x).1)
    let (f, s') := s.draw
    let tail := match next with
      | none => le 4 0xFFFFFFFF ++ le 1 f
      | some (x, m) => leI 4 x ++ le 1 m
    guarded [(t != 0xFFFFFFFF && t > calendarEnd, badParam 1)] s
      (if next.isNone then s' else s,
       .now stOk (le 1 r.1 ++ le 1 r.2.1 ++ le 1 (r.2.2.getD 0xFF) ++ le 1 (b2n (z.dst u)) ++ leI 4 (z.local_ u) ++ tail))

/-- TZ_CONFIG's PARAMS. [DEDUCED, log 68] -/
def tzCfgOf (p : Bytes) : TzCfg :=
  let rule := fun (o : Nat) => ({ month := u8 p o, week := u8 p (o + 1), wday := u8 p (o + 2), min := u16 p (o + 3) } : DstRule)
  { stdofs := s16 p 0, dstofs := u8 p 2, start := rule 3, stop := rule 8 }

/-- TZ_CONFIG. -/
def cmdTzConfig (c : Ctx) (s : State) : State × Ans :=
  let p := c.p
  let ofs := s16 p 0
  let rule := fun (o : Nat) => ([(u8 p o < 1 || u8 p o > 12, badParam o), (u8 p (o + 1) < 1 || u8 p (o + 1) > 5, badParam (o + 1)),
    (u8 p (o + 2) > 6, badParam (o + 2)), (u16 p (o + 3) > 1439, badParam (o + 3))] : Checks)
  stagedCmd 0x72
    (([(decide (ofs < -720) || decide (ofs > 840) || ofs % 15 != 0, badParam 0),
       (!([0, 30, 60, 120].contains (u8 p 2)), badParam 2)] : Checks) ++ rule 3 ++ rule 8 ++
      chk (u8 p 2 != 0 && slice p 3 5 == slice p 8 5) (badParam 0xFF)) [] [] c s

/-- The byte of a MASK whose lowest bit names what is not there (R97). [DEDUCED, log 37] -/
def absentBit (m n : Nat) (there : Nat → Bool) : Option Nat :=
  ((List.range n).find? fun i => bit m i && !there i).map (· / 8)

/-- SCHED_RUN. -/
def cmdSchedRun (c : Ctx) (s : State) : State × Ans :=
  let m := u32 c.p 0
  let absent := absentBit m 32 fun i => (s.com.body 3 i).isSome
  stagedCmd 0x70 [(absent.isSome, badParam (absent.getD 0)), (u8 c.p 4 > 1, badParam 4)] [] [] c s

end Sys2Proof.Machine
end

