-- ==== Sys2Proof/Machine/Zones.lean ====
section
/-! DEFINITION. The round work of the zone services: zones, loops, rules, thermal models, publication, and their commands
(R266 to R295, R306 to R310, R312). -/

namespace Sys2Proof.Machine

/-- A change of the services' own state. -/
def State.onSvc (f : Services → Services) (s : State) : State := { s with svc := f s.svc }
def State.onZone (z : Nat) (f : ZoneRun → ZoneRun) (s : State) : State := s.onSvc fun v => { v with zone := upd v.zone z f }
def State.onLoop (i : Nat) (f : LoopStat → LoopStat) (s : State) : State := s.onSvc fun v => { v with loop := upd v.loop i f }
def State.zoneRun (s : State) (z : Nat) : ZoneRun := nth s.svc.zone z {}
def State.loopStat (s : State) (i : Nat) : LoopStat := nth s.svc.loop i {}

/-! ### Zones (R270 to R274, R280 to R282, R291, R292) -/

/-- What a zone has resolved in a round. Set-points in 0.01 °C, none for 0x8000. -/
structure ZoneRes where
  mode : Nat
  src : Nat
  occ : Nat
  flags : Nat
  temp : W32
  hum : W32
  sph : Option Int
  spc : Option Int
  lead : Nat
deriving DecidableEq, Repr

/-- A set-point field. [DEDUCED, log 64] -/
def setpoint (b : Bytes) (o : Nat) : Option Int := if u16 b o = 0x8000 then none else some (s16 b o)

/-- SPH and SPC of a mode: SPC at least MINDB above SPH (R274). A sum beyond the field is a free value. -/
def modeSets (b : Bytes) (mode : Nat) (s : State) : Option Int × Option Int × State :=
  if mode < 1 || mode > 4 then (none, none, s)
  else
    let h := setpoint b (20 + 4 * (mode - 1))
    let c := setpoint b (22 + 4 * (mode - 1))
    match h, c with
    | some x, some y =>
      let z := x + (u16 b 36 : Int)
      if y < z && z > 32767 then
        let (f, s) := s.draw
        (h, some (signed 2 (f % 65536)), s)
      else (h, some (max y z), s)
    | _, _ => (h, c, s)

/-- A value that is one. -/
def someVal (w : W32) : Option Int := if w = noVal then none else some w.toInt

/-- The value of an optional point field. -/
def State.optVal (s : State) (p : Nat) : Option Int := if p = 0xFFFF then none else someVal (s.point p)

/-- TEMP: the mean of the valid values (R271). [DEDUCED, log 64] -/
def State.zoneTemp (s : State) (b : Bytes) : W32 :=
  match s.optVal (u16 b 4), s.optVal (u16 b 6) with
  | some x, some y => wI (roundHalfAway ((x + y : Int) / 2))
  | some x, none => wI x
  | none, some y => wI y
  | none, none => noVal

/-- The outdoor temperature in 0.001 °C (R290). -/
def State.outdoor (s : State) (b : Bytes) : Int := (s.optVal (u16 b 12)).getD (10 * s16 b 42)

/-- ALPHA and BETA as they stand, or as they begin (Table 13-2). -/
def modelParams (b : Bytes) : W32 × W32 :=
  if w32 b 88 != 0 then (w32 b 88, w32 b 92)
  else (if w32 b 44 = 0 then toF32 (2 / 1000) else w32 b 44, if w32 b 48 = 0 then toF32 (6 / 100) else w32 b 48)

/-- The least number of factors that brings p to q or below, within fuel. [DEDUCED, log 67] -/
def decayCount (a q : Rat) : Nat → Nat → Rat → Nat
  | 0, n, _ => n
  | fuel + 1, n, p => if p ≤ q then n else decayCount a q fuel (n + 1) (p * a)

/-- The lead in minutes (R291): ⌈ln x / ln (1 − α)⌉ is the least n with (1 − α)^n ≤ x. [DEDUCED, log 64] -/
def State.leadOf (s : State) (zi : Nat) (b : Bytes) (temp : Int) (sph spc : Option Int) : Nat :=
  let maxL := u16 b 38
  let t0 : Rat := (temp : Rat) / 1000
  let rate : Rat := (u16 b 40 : Rat) / 100
  let (aw, bw) := modelParams b
  let a := (f32 aw).getD 0
  let tInf : Rat := (s.outdoor b : Rat) / 1000 + (f32 bw).getD 0 / a
  let valid := (nth s.com.models zi {}).kept ≥ 120
  let slow := fun (d : Rat) => if rate = 0 then maxL else (60 * d / rate).ceil.toNat
  let l :=
    match sph, spc with
    | some h, _ =>
      let h : Rat := (h : Rat) / 100
      if t0 < h then
        if !valid then slow (h - t0)
        else if tInf > h then decayCount (1 - a) ((tInf - h) / (tInf - t0)) maxL 0 1
        else maxL
      else
        match spc with
        | some c => if t0 > (c : Rat) / 100 then slow (t0 - (c : Rat) / 100) else 0
        | none => 0
    | none, some c => if t0 > (c : Rat) / 100 then slow (t0 - (c : Rat) / 100) else 0
    | none, none => 0
  min l maxL

/-- The occupancy sources of a zone as their latched values: presence inputs that name it, then OCCDI (R280).
[DEDUCED, log 64] -/
def State.occSources (s : State) (zi : Nat) (b : Bytes) : List W32 × List W32 :=
  (((List.range 16).filter fun n => (nth s.com.cfg.pr.chans n {}).zone = zi).map fun n => s.point (0x20 + n),
   if u16 b 10 = 0xFFFF then [] else [s.point (u16 b 10)])

/-- OCC in this round, and the last boundary with evidence (R280, R281); what was decided last counts, staged or not. A zone that is occupied with no boundary known
counts from this one. [DEDUCED, log 64] -/
def State.occupancy (s : State) (zi : Nat) (b : Bytes) (begins comfort : Bool) : Nat × Option Nat :=
  let (prs, di) := s.occSources zi b
  let usable := fun (l : List W32) => l.filter (· != noVal)
  let evidence := decide (((usable prs).map (·.toInt)).sum ≥ (u8 b 14 : Int)) || (usable di).any (· != 0) || begins
  let was := (s.zoneRun zi).occ.getD (u8 b 70)
  let evid := if evidence then some s.tb else match (s.zoneRun zi).evidAt with
    | none => if was = 1 then some s.tb else none
    | e => e
  let occ :=
    if prs.isEmpty && di.isEmpty then 4
    else if (usable prs).isEmpty && (usable di).isEmpty then
      (if u8 b 15 = 0 then 2 else if u8 b 15 = 1 then 3 else if comfort then 2 else 3)
    else if evidence then 1
    else if was = 0 then 0
    else
      match evid with
      | none => 0
      | some t => if tbSub s.tb t ≥ 1000000 * u16 b 16 then 0 else 1
  (occ, evid)

/-- Step 2 of the round work for one zone (Table 13-3). A service that has not resolved the zone yet takes up a PRESTART that its
committed FLAGS show, for the next COMFORT start (R292). [DEDUCED, log 64] -/
def State.resolveZone (zi : Nat) (b : Bytes) (s : State) : ZoneRes × State :=
  let u : Int := s.cal.secs
  let tz := s.svc.tz
  let clock := s.clockOk
  let sch := if clock then s.com.schedOf b else none
  let sm := sch.map fun e => schedMode tz s.com e.1 e.2 u
  let begins := match sch with
    | none => false
    | some e => comfortStart tz s.com e.1 e.2 u
  let (occ, evid) := s.occupancy zi b begins ((sm.map (·.1)) == some 1)
  let temp := s.zoneTemp b
  let ovr := u32 b 58 != 0 && decide (u < (u32 b 58 : Int))
  let (m, src, step5) : Nat × Nat × Bool :=
    if u8 b 55 != 0 then (u8 b 55, 0, false)
    else if !clock then (u8 b 19, 7, false)
    else if ovr then (u8 b 56, 1, false)
    else match sm with
      | none => (u8 b 19, 7, false)
      | some d => (d.1, if d.2.isSome then 3 else 2, true)
  let (ch, cc, s) := modeSets b 1 s
  let starts := if !step5 || !bit (u8 b 54) 0 || u16 b 38 = 0 then [] else match sch with
    | none => []
    | some e => (switchesIn tz s.com e.1 e.2 u (60 * u16 b 38)).filter (comfortStart tz s.com e.1 e.2)
  let tc := earliest starts
  let lead := match tc, someVal temp with
    | some t, some x => some (t, s.leadOf zi b x ch cc)
    | _, _ => none
  let kept := if (s.zoneRun zi).occ.isNone && bit (u8 b 71) 1 then tc else (s.zoneRun zi).preTc
  let held := match kept, sch with
    | some t, some e => if step5 && u < t && (schedMode tz s.com e.1 e.2 t).1 = 1 then some t else none
    | _, _ => none
  let pre := match held, lead with
    | some t, _ => some t
    | none, some (t, l) => if u ≥ t - 60 * (l : Int) then some t else none
    | none, none => none
  let occd := occ = 1 || occ = 2
  let vac := occ = 0 || occ = 3
  let (m, src) : Nat × Nat :=
    if !step5 then (m, src)
    else if pre.isSome then (1, 6)
    else if occd && ((m = 2 && u8 b 18 ≥ 1) || (m = 3 && u8 b 18 = 2)) then (1, 4)
    else if vac && bit (u8 b 54) 2 && m = 1 then (2, 5)
    else (m, src)
  let (sph, spc, s) := modeSets b m s
  let hum := if u16 b 8 = 0xFFFF then noVal else s.point (u16 b 8)
  let names := [u8 b 2, u8 b 3].any fun i => decide (i < 32) && (s.loopStat i).skipped
  let flags := b2n (temp == noVal) + 2 * b2n pre.isSome + 4 * b2n ((nth s.com.models zi {}).kept ≥ 120) +
    8 * b2n (clock && tz.dst u) + 16 * b2n (src = 1) + 32 * b2n (u8 b 55 = 0 && !clock) + 64 * b2n names +
    128 * b2n (u16 b 8 != 0xFFFF && hum == noVal)
  let changed := u8 b 68 != m || u8 b 70 != occ || u8 b 71 != flags
  let s := s.onZone zi fun z => { z with evidAt := evid, occ := some occ, preTc := pre, changed := changed }
  ({ mode := m, src := src, occ := occ, flags := flags, temp := temp, hum := hum, sph := sph, spc := spc
     lead := (lead.map (·.2)).getD 0xFFFF }, s)

/-- Set-point bytes. -/
def spBytes (o : Option Int) : Bytes := match o with
  | none => le 2 0x8000
  | some x => leI 2 x

/-- Status bytes 68 to 87 of a zone. -/
def ZoneRes.bytes (z : ZoneRes) (demand : Int) : Bytes :=
  le 1 z.mode ++ le 1 z.src ++ le 1 z.occ ++ le 1 z.flags ++ wBytes z.temp ++ wBytes z.hum ++ spBytes z.sph ++ spBytes z.spc ++
  leI 2 demand ++ le 2 z.lead

/-! ### Loops (R283 to R288, R310) -/

/-- v held between lo and hi. -/
def clampR (lo hi v : Rat) : Rat := max lo (min hi v)

/-- The zone that a loop serves: the one whose HLOOP or CLOOP names it, an enabled one before another (R283, R286). -/
def Com.zoneOf (c : Com) (i role : Nat) : Option (Nat × Bytes) :=
  let zs := (c.kindBodies 1).filter fun e => if role = 0 then u8 e.2 2 = i else role = 1 && u8 e.2 3 = i
  match zs.find? fun e => enBit e.2 with
  | some e => some e
  | none => zs.head?

/-- The zone loop has no zone in a mode other than OFF (Table 13-7). -/
def loopInactive (c : Com) (zs : List (Nat × ZoneRes)) (i : Nat) (b : Bytes) : Bool :=
  u8 b 2 < 2 && (match c.zoneOf i (u8 b 2) with
    | none => true
    | some (z, _) => match mget zs z with
      | none => true
      | some r => r.mode == 5)

/-- PV and SP of a loop as it would use them. -/
def State.loopInputs (s : State) (zs : List (Nat × ZoneRes)) (i : Nat) (b : Bytes) : W32 × W32 :=
  let role := u8 b 2
  let z := (s.com.zoneOf i role).bind fun e => mget zs e.1
  let pv := if u16 b 6 = 0xFFFF then (z.map (·.temp)).getD noVal else s.point (u16 b 6)
  let sp := if role ≥ 2 then (if u16 b 8 = 0xFFFF then noVal else s.point (u16 b 8))
    else match z.bind fun r => if role = 0 then r.sph else r.spc with
      | none => noVal
      | some x => wI (10 * x)
  (pv, sp)

/-- A loop is due in round r: its period, or its previous due run was skipped (R268). [DEDUCED, log 65] -/
def State.loopDue (s : State) (r i : Nat) (b : Bytes) : Bool :=
  let per := max 1 (u8 b 4)
  enBit b && ((s.loopStat i).skipped || (r + per * 60 - u8 b 5) % per = 0)

/-- The output equation (R285), with R310 for a gated target: OUT, INTEG and flags. [DEDUCED, log 65] -/
def loopEquation (b : Bytes) (pv sp : Int) (f : Option Int) (dt : Nat) (gated : Bool) : Int × Int × Nat :=
  let role := u8 b 2
  let e : Int := if role = 0 || role = 3 then sp - pv else pv - sp
  let db : Int := u16 b 16
  let inDb := e.natAbs ≤ u16 b 16
  let e' : Int := if inDb then 0 else if e > 0 then e - db else e + db
  let p := b64 (b64 ((u32 b 10 : Rat) * e') / 1000)
  let ff : Rat := match f with
    | none => 0
    | some x => b64 (b64 ((s32 b 20 : Rat) * (x - s32 b 24)) / 1000)
  let lo : Rat := u16 b 28
  let hi : Rat := u16 b 30
  let i0 : Rat := (s32 b 56 : Rat) / 256
  let ti := u16 b 14
  let ic := b64 (i0 + b64 (b64 (p * dt) / ti))
  let v0 := b64 (b64 (ff + p) + ic)
  let ic := if (v0 > hi && ic > i0) || (v0 < lo && ic < i0) then i0 else ic
  let i := if gated then i0 else if ti = 0 then 0 else clampR (b64 (lo - ff)) (b64 (hi - ff)) ic
  let raw := if gated || ti = 0 then b64 (ff + p) else b64 (b64 (ff + p) + i)
  let v := clampR lo hi raw
  let out : Rat := u16 b 46
  let step : Rat := ((u16 b 32 * dt : Nat) : Rat)
  let w := if u16 b 32 = 0 then v else clampR (out - step) (out + step) v
  let flags := b2n (raw < lo) + 2 * b2n (raw > hi) + 4 * b2n (w != v) + 8 * b2n inDb + 32 * b2n f.isNone + 64 * b2n gated
  (roundHalfAway w, if gated then s32 b 56 else roundHalfAway (i * 256), flags)

/-- The rounds before TB wraps (R130, R269). -/
def roundMod : Nat := tbMod / 1000000

/-- Status bytes 44 to 63 of a loop (Table 13-5). -/
def loopStatus (st fl out : Nat) (pv sp : W32) (integ : Bytes) (last : Nat) : Bytes :=
  le 1 st ++ le 1 fl ++ le 2 out ++ wBytes pv ++ wBytes sp ++ integ ++ le 4 last

/-- The status of a loop that is disabled, suspended or inactive, which shows in every round, due or not (Table 13-7); none for one that
may run. [DEDUCED, log 65] -/
def State.loopShow (s : State) (zs : List (Nat × ZoneRes)) (i : Nat) (b : Bytes) : Option Bytes :=
  if !enBit b then some (le 1 0 ++ slice b 45 19)
  else if bit (u8 b 0) 1 then some (le 1 2 ++ slice b 45 19)
  else if loopInactive s.com zs i b then
    some (loopStatus 4 (16 * b2n (s.loopStat i).skipped) (u16 b 28) noVal noVal (le 4 0) (u32 b 60))
  else none

/-- A due loop that may run, in round r: its new status (Table 13-5, Table 13-7). [DEDUCED, log 65] -/
def State.runLoop (zs : List (Nat × ZoneRes)) (r i : Nat) (b : Bytes) (s : State) : Bytes × State :=
  let skip := 16 * b2n (s.loopStat i).skipped
  let (pv, sp) := s.loopInputs zs i b
  if pv = noVal || sp = noVal then
    let t := (s.loopStat i).badAt.getD r
    let out := if (r + roundMod - t) % roundMod ≥ 300 then u16 b 28 else u16 b 46
    (loopStatus 3 skip out pv sp (slice b 56 4) (u32 b 60), s.onLoop i fun l => { l with badAt := some t })
  else
    let dt := min ((r + roundMod - u32 b 60 % roundMod) % roundMod) (2 * u8 b 4)
    let gated := s.gatedPoint (u16 b 34)
    let (out, integ, fl) := loopEquation b pv.toInt sp.toInt (s.optVal (u16 b 18)) dt gated
    let (ib, s) := if -(2 ^ 31) ≤ integ && integ < 2 ^ 31 then (leI 4 integ, s) else
      let (f, s) := s.draw
      (le 4 f, s)
    (loopStatus 1 (skip + fl) out.toNat pv sp ib r, s.onLoop i fun l => { l with badAt := none })

/-- A loop's status in a round; the 300 s of LSTATE 3 count anew once it has left that state (Table 13-7): what shows whatever is due, else its run where it is due, else as it stands. -/
def State.handleLoop (zs : List (Nat × ZoneRes)) (r i : Nat) (b : Bytes) (s : State) : Bytes × State :=
  match s.loopShow zs i b with
  | some st => (st, s.onLoop i fun l => { l with badAt := none })
  | none => if s.loopDue r i b then s.runLoop zs r i b else (slice b 44 20, s)

/-- A due loop handled and staged: not skipped any more; one that ran counts (R268, R289). [DEDUCED, log 65] -/
def State.countRun (i prio lstate : Nat) (s : State) : State :=
  let s := s.onLoop i fun l => { l with consec := 0, skipped := false }
  if lstate != 1 then s
  else (s.onLoop i fun l => { l with runs := (l.runs + 1) % 2 ^ 32 }).onSvc fun v =>
    { v with prRuns := upd v.prRuns prio fun n => (n + 1) % 2 ^ 32 }

/-- The valve cycle of a MAP 3 loop in round r with its output (R288): begun at a cycle start only; where that round did not serve the
loop there is none, and the setpoint stands until the next. [DEDUCED, log 65] -/
def loopCycle (b : Bytes) (r out : Nat) (old : Option (Nat × Nat)) : Option (Nat × Nat) :=
  let c := 10 * u8 b 37
  let ton0 := (roundHalfAway (((c * out : Nat) : Rat) / 10000)).toNat
  let ton := if ton0 < u8 b 38 then 0 else if ton0 + u8 b 38 > c then c else ton0
  if r % c = 0 then some (r, ton) else old.filter fun e => e.1 = r - r % c

/-- The value a loop's output maps to (Table 13-6); none where it leaves TARGET as it is. -/
def mapOutput (b : Bytes) (r out : Nat) (cycle : Option (Nat × Nat)) : Option W32 :=
  match u8 b 36 with
  | 0 =>
    let lo : Rat := 100 * (u8 b 38 : Rat)
    let hi : Rat := 100 * (u8 b 39 : Rat)
    some (wI (roundHalfAway (lo + (hi - lo) * (out : Rat) / 10000)))
  | 2 => if out ≥ 100 * u8 b 37 then some 1 else if out ≤ 100 * u8 b 38 then some 0 else none
  | 3 => cycle.map fun c => wN (b2n (r - c.1 < c.2))
  | _ => some (wN out)

/-- A target's committed value; a valve's is its setpoint. -/
def State.targetVal (s : State) (p : Nat) : W32 :=
  if isVL p then wN (b2n (s.com.cfg.vl.setp.getLsbD (p - 0x40))) else s.com.getPoint p

/-- A service's write of a target; a valve's is a VL_SET (R288, R307). -/
def targetWrite (p : Nat) (v : W32) : Write :=
  if isVL p then .cmd 0x41 (le 1 1 ++ le 1 (p - 0x40) ++ le 1 v.toNat) else .point p v

/-! ### Rules (R306 to R309) -/

/-- A running rule: enabled, not suspended. [DEDUCED, log 66] -/
def ruleRuns (b : Bytes) : Bool := u8 b 0 % 4 = 1

/-- One rule evaluated in round r on latched values (R308). [DEDUCED, log 66] -/
def State.evalRule (r i : Nat) (b : Bytes) (s : State) : State :=
  let old := (mget s.com.rules i).getD {}
  let a := s.point (u16 b 4)
  let c := if u16 b 6 = 0xFFFF then w32 b 8 else s.point (u16 b 6)
  let bad := a = noVal || c = noVal
  let d := a.toInt - c.toInt
  let h : Int := u32 b 12
  let comp :=
    if bad then (if u8 b 23 = 0 then false else if u8 b 23 = 1 then true else old.comp)
    else match u8 b 1 with
      | 0 => if old.comp then decide (d > -h) else decide (d > 0)
      | 1 => if old.comp then decide (d < h) else decide (d < 0)
      | 2 => d == 0
      | _ => d != 0
  let ref := ((mget s.com.rules (u8 b 3)).map (·.result)).getD false
  let cond := if u8 b 2 = 1 then comp && ref else if u8 b 2 = 2 then comp || ref else comp
  let need := if cond then u16 b 16 else u16 b 18
  let cnt := if cond = old.result then 0 else if old.cond = cond then old.cnt + 1 else 1
  let turns := cond != old.result && cnt ≥ need
  let run : RuleRun :=
    { comp := comp, cond := cond, result := if turns then cond else old.result, invalid := bad
      cnt := if turns then 0 else cnt, a := a, b := c, lastchg := if turns then wN r else old.lastchg, writes := old.writes }
  { s with com := { s.com with rules := mset s.com.rules i run } }

/-- A rule at step 4, with the STATE that RULE_STATUS then reports of it (R308, R312); a disabled rule keeps nothing, a suspended one
its result. [DEDUCED, log 66] -/
def State.stepRule (r i : Nat) (b : Bytes) (s : State) : State :=
  if !enBit b then { s with com := { s.com with rules := mdel s.com.rules i } }
  else
    let s := if ruleRuns b then s.evalRule r i b else s
    let run := (mget s.com.rules i).getD {}
    let st := if !ruleRuns b then 2 else if run.invalid then 3 else 1
    { s with com := { s.com with rules := mset s.com.rules i { run with state := st } } }

/-- What a running rule writes after its evaluation. [DEDUCED, log 66] -/
def State.ruleWrite (s : State) (i : Nat) (b : Bytes) : Option (Nat × W32) :=
  let t := u16 b 20
  let res := ((mget s.com.rules i).map (·.result)).getD false
  if t = 0xFFFF || !ruleRuns b then none
  else if res then some (t, w32 b 24)
  else if u8 b 22 = 0 then some (t, w32 b 28) else none

/-- The value of an override rule whose result is true, of the highest index that names the target (R309). -/
def State.overrideOf (s : State) (t : Nat) : Option W32 :=
  (s.com.kindBodies 5).foldl (fun m e =>
    if ruleRuns e.2 && u8 e.2 22 = 1 && u16 e.2 20 = t && ((mget s.com.rules e.1).map (·.result)).getD false then some (w32 e.2 24)
    else m) none

/-- Step 4: every rule in ascending order. -/
def State.evalRules (r : Nat) (s : State) : State := (s.com.kindBodies 5).foldl (fun s e => s.stepRule r e.1 e.2) s

/-- The group of step 4: writes that differ from what their target then holds, in ascending order of rules.
[DEDUCED, log 66] -/
def State.ruleGroup (s : State) : List Write × State :=
  let r := (s.com.kindBodies 5).foldl (fun (acc : List (Nat × W32) × State) e =>
    match acc.2.ruleWrite e.1 e.2 with
    | none => acc
    | some (t, v) =>
      if (mget acc.1.reverse t).getD (acc.2.targetVal t) = v then acc
      else
        let s := acc.2
        let run := (mget s.com.rules e.1).getD {}
        (acc.1 ++ [(t, v)],
         { s with com := { s.com with rules := mset s.com.rules e.1 { run with writes := run.writes + 1 } } })) (([] : List (Nat × W32)), s)
  (r.1.map fun e => targetWrite e.1 e.2, r.2)

/-! ### Thermal models (R290) -/

/-- The status write of an object, where it differs from what is committed. -/
def statusWrite (kind idx off : Nat) (old new : Bytes) : List Write :=
  if slice old off new.length = new then [] else [.status kind idx off new]

/-- The round's contribution to the means of a zone's minute, staged in time or late (R268, R290); a minute with a round missing forms
no means, and the next one then has none before it. [DEDUCED, log 67] -/
def State.modelSample (zi : Nat) (b : Bytes) (z : ZoneRes) (demand : Int) (r : Nat) (s : State) : State :=
  let gated := [(0, u8 b 2), (1, u8 b 3)].any fun e => match (if e.2 < 32 then s.com.body 2 e.2 else none) with
    | none => false
    | some lb => s.gatedPoint (u16 lb 34)
  let to_ := s.outdoor b
  let learn := bit (u8 b 54) 1
  s.onZone zi fun v =>
    let ok := z.temp != noVal && !gated
    let v := if v.lastR = some ((r + roundMod - 1) % roundMod) then v
      else { v with sumT := 0, sumTo := 0, sumU := 0, n := 0, okRun := 0, mean := none, prevMean := none }
    let v := { v with
      lastR := some r, okRun := if ok then min 120 (v.okRun + 1) else 0, sumT := v.sumT + (if ok then z.temp.toInt else 0)
      sumTo := v.sumTo + to_, sumU := v.sumU + demand, n := v.n + 1 }
    if r % 60 != 0 then v
    else
      let m : Rat × Rat × Rat := ((v.sumT : Rat) / 60000, (v.sumTo : Rat) / 60000, (v.sumU : Rat) / 600000)
      let formed := learn && v.n = 60
      { v with sumT := 0, sumTo := 0, sumU := 0, n := 0, okMade := decide (v.okRun ≥ 120), mean := if formed then some m else none
               prevMean := if !formed then none else if v.mean.isSome then v.mean else v.prevMean }

/-- One step of recursive least squares with forgetting factor 0.999; none where its result is not kept.
[DEDUCED, log 67] -/
def rls (m : Model) (a b x1 x2 y : Rat) : Option (Rat × Rat × Model) :=
  let l : Rat := 999 / 1000
  let q1 := m.p11 * x1 + m.p12 * x2
  let q2 := m.p21 * x1 + m.p22 * x2
  let den := l + x1 * q1 + x2 * q2
  let k1 := q1 / den
  let k2 := q2 / den
  let e := y - (x1 * a + x2 * b)
  let a' := a + k1 * e
  let b' := b + k2 * e
  let r1 := x1 * m.p11 + x2 * m.p21
  let r2 := x1 * m.p12 + x2 * m.p22
  if 1 / 10000 ≤ a' && a' ≤ 2 / 10 && 0 ≤ b' && b' ≤ 2 then
    some (a', b', { p11 := (m.p11 - k1 * r1) / l, p12 := (m.p12 - k1 * r2) / l, p21 := (m.p21 - k2 * r1) / l
                    p22 := (m.p22 - k2 * r2) / l, kept := m.kept + 1 })
  else none

/-- Step 5 for one zone: the writes of a kept update; one that leaves ALPHA and BETA as they are changes the estimator alone (R267,
R290). [DEDUCED, log 67] -/
def State.modelStep (zi : Nat) (b : Bytes) (s : State) : List Write × State :=
  let v := s.zoneRun zi
  match v.mean with
  | none => ([], s)
  | some (t, to_, u) =>
    let s' := s.onZone zi fun v => { v with prevMean := some (t, to_, u), mean := none }
    match v.prevMean with
    | none => ([], s')
    | some (t0, o0, u0) =>
      let (aw, bw) := modelParams b
      let a := (f32 aw).getD 0
      let be := (f32 bw).getD 0
      if !v.okMade then ([], s')
      else
        match rls (nth s.com.models zi {}) a be (-(t0 - o0)) u0 (t - t0) with
        | none => ([], s')
        | some (a', b', m) =>
          let ws := statusWrite 1 zi 88 b (wBytes (toF32 a') ++ wBytes (toF32 b'))
          if ws.isEmpty then ([], { s' with com := { s'.com with models := upd s'.com.models zi fun _ => m } })
          else (ws ++ [.model zi m], s')

/-! ### The round's work (R266 to R268) -/

/-- Writes staged as one of the round's groups; nothing is staged where nothing changes (R267). [DEDUCED, log 63] -/
def State.stageRound (ws : List Write) (s : State) : State :=
  if ws.isEmpty then s
  else (s.onSvc fun v => { v with workUids := v.workUids ++ [s.nextUid] }).stage true ws

/-- The writes of one loop: its status and its target (R267, R287, R309). -/
def State.loopWrites (r i : Nat) (b new : Bytes) (s : State) : List Write × State :=
  let st := statusWrite 2 i 44 b new
  let lst := u8 new 0
  if lst = 0 || lst = 2 then (st, s.onLoop i fun l => { l with cycle := none })
  else
    let out := u16 new 2
    let cyc := if u8 b 36 = 3 then loopCycle b r out (s.loopStat i).cycle else none
    let s := s.onLoop i fun l => { l with cycle := cyc }
    let t := u16 b 34
    match (s.overrideOf t).or (mapOutput b r out cyc) with
    | none => (st, s)
    | some v => (st ++ (if s.targetVal t = v then [] else [targetWrite t v]), s)

/-- Writes of several loops: those handled with their new status, the others with the one they have. -/
def State.loopsWrites (r : Nat) (done : List (Nat × Bytes)) (ls : List (Nat × Bytes)) (s : State) : List Write × State :=
  ls.foldl (fun acc e =>
    let new := (mget done e.1).getD (slice e.2 44 20)
    let x := acc.2.loopWrites r e.1 e.2 new
    (acc.1 ++ x.1, x.2)) (([] : List Write), s)

/-- The heating OUT less the cooling OUT of a zone. -/
def zoneDemand (c : Com) (done : List (Nat × Bytes)) (b : Bytes) : Int :=
  let out := fun (i : Nat) => match mget done i with
    | some st => u16 st 2
    | none => ((if i < 32 then c.body 2 i else none).map fun lb => u16 lb 46).getD 0
  (out (u8 b 2) : Int) - out (u8 b 3)

/-- A loop that is not enabled has no previous due run (R268, R289). [DEDUCED, log 65] -/
def State.dropSkips (s : State) : State :=
  s.onSvc fun v => { v with loop := updAll v.loop fun i l =>
    { l with skipped := l.skipped && ((s.com.body 2 i).map enBit).getD false } }

/-- The round's work, with the time before beat 50 for n of its items: the enabled zones, the due loops, the rules as one, the model
updates. With zones left over nothing is staged; rules left over keep what they have, model updates move to the next round (R268).
[DEDUCED, log 63] -/
def State.roundWork_ (n : Nat) (s : State) : State :=
  let r := s.tb / 1000000
  let zones := (s.com.kindBodies 1).filter fun e => enBit e.2
  let loops := s.com.kindBodies 2
  let zr := (zones.take n).foldl (fun (acc : List (Nat × ZoneRes) × State) e =>
    let x := acc.2.resolveZone e.1 e.2
    (acc.1 ++ [(e.1, x.1)], x.2)) (([] : List (Nat × ZoneRes)), s)
  let zs := zr.1
  let s := zr.2.dropSkips
  let due := (List.range 4).flatMap fun p => (loops.filter fun e => s.loopDue r e.1 e.2).filter fun e => u8 e.2 3 % 4 = p
  if n < zones.length then
    s.onSvc fun v => { v with left := due.map (·.1), pubDue := true, zone := updAll v.zone fun _ z => { z with changed := false } }
  else
  let n := n - zones.length
  let all := n > due.length
  let left0 := (due.drop n).map (·.1)
  let dr := (loops.filter fun e => !left0.contains e.1).foldl (fun (acc : List (Nat × Bytes) × State) e =>
    let x := acc.2.handleLoop zs r e.1 e.2
    (mset acc.1 e.1 x.1, x.2)) (([] : List (Nat × Bytes)), s)
  let done := dr.1
  let s := if all then dr.2.evalRules r else dr.2
  let late := fun (e : Nat × Bytes) => left0.contains e.1 || (!all && (s.overrideOf (u16 e.2 34)).isSome)
  let mine := fun (z : Nat) => loops.filter fun e => ((s.com.zoneOf e.1 (u8 e.2 2)).map (·.1)) == some z
  let free := loops.filter fun e => (s.com.zoneOf e.1 (u8 e.2 2)).isNone
  let s := (s.com.kindBodies 1).foldl (fun s e =>
    let ls := mine e.1
    let tardy := ls.any late
    let x := if tardy then ([], s) else s.loopsWrites r done ls
    match mget zs e.1 with
    | none => x.2.stageRound x.1
    | some z =>
      if tardy then (s.onZone e.1 fun v => { v with changed := false }).modelSample e.1 e.2 z (s16 e.2 84) r
      else
        let d := zoneDemand s.com done e.2
        let ab := modelParams e.2
        let st := statusWrite 1 e.1 68 e.2 (z.bytes d) ++ statusWrite 1 e.1 88 e.2 (wBytes ab.1 ++ wBytes ab.2)
        (x.2.stageRound (st ++ x.1)).modelSample e.1 e.2 z d r) s
  let s := free.foldl (fun s e => if late e then s else
    let x := s.loopsWrites r done [e]
    x.2.stageRound x.1) s
  let s := if !all then s else
    let x := s.ruleGroup
    let s := x.2.stageRound x.1
    ((zones.filter fun e => (s.zoneRun e.1).mean.isSome).take (n - due.length - 1)).foldl (fun s e =>
      let x := s.modelStep e.1 e.2
      x.2.stageRound x.1) s
  let unstaged := fun (e : Nat × Bytes) => late e || (match s.com.zoneOf e.1 (u8 e.2 2) with
    | none => false
    | some z => (mine z.1).any late)
  let s := (due.filter fun e => !unstaged e).foldl (fun s e =>
    s.countRun e.1 (u8 e.2 3 % 4) (((mget done e.1).map fun st => u8 st 0).getD 0)) s
  s.onSvc fun v => { v with left := (due.filter unstaged).map (·.1), pubDue := true }

/-- A unit that round work is for: SERVICE, after the cold Pavane of a single device, on the unit of a pair that acts (R266). -/
def State.hasService (s : State) : Bool :=
  s.awake && s.pers == .service && (s.paired || s.pw.coldDone) && s.acting

/-- Round work runs: on such a unit, the management complex running, no handover under way (R266, R374). -/
def State.serves (s : State) : Bool := s.hasService && !s.mgmt.restarting && s.mayStage

/-- Due loops not staged count as skipped (R268, R269, R289, R374). -/
def State.skipLoops (left : List Nat) (s : State) : State :=
  let r := s.tb / 1000000
  let s := left.foldl (fun s i =>
    let p := ((s.com.body 2 i).map fun b => u8 b 3 % 4).getD 0
    (s.onLoop i fun l => { l with
      skips := (l.skips + 1) % 2 ^ 32, consec := satInc l.consec 65535, maxconsec := max l.maxconsec (satInc l.consec 65535)
      lastskip := r, skipped := true }).onSvc fun v =>
        { v with prSkips := upd v.prSkips p fun n => (n + 1) % 2 ^ 32 }) s
  if left.isEmpty then s else s.onSvc fun v => { v with left := [], overruns := (v.overruns + 1) % 2 ^ 32 }

/-- ROUND_WORK_OVERRUN at the boundary that opens beat 50 (R268, R289). [DEDUCED, log 63] -/
def execRoundWorkOverrun (s : State) : Out :=
  if s.svc.left.isEmpty || !s.awake then .next s
  else .next ((s.jump (tbAdd s.svc.roundAt 500000)).skipLoops s.svc.left)

/-! ### Publication (R293, R294) -/

/-- A zone is published in round r. -/
def State.publishes (s : State) (r zi : Nat) (b : Bytes) : Bool :=
  let c := s.com.cfg.pub
  let v := s.zoneRun zi
  let t := w32 b 72
  let moved := match someVal t, someVal v.pubTemp with
    | some x, some y => decide ((x - y).natAbs ≥ 10 * c.delta)
    | _, _ => false
  c.zones.getLsbD zi && ((c.zper > 0 && r % c.zper = 0) || (c.chg && ((enBit b && v.changed) || moved)))

/-- The frames of a round's publication, and the zones in them. -/
def State.pubFrames (s : State) (r : Nat) : List Frame × List (Nat × W32) :=
  let zs := (s.com.kindBodies 1).filter fun e => s.publishes r e.1 e.2
  let zf := zs.map fun e => s.ownFrame (frameId 8 e.1 s.nodeKey)
    (fit 48 ([0x01] ++ le 1 e.1 ++ le 4 s.epoch ++ slice (fit 96 e.2) 64 32))
  let c := s.com.cfg.pub
  let pf := if c.pper > 0 && r % c.pper = 0 && !c.points.isEmpty then
      [s.ownFrame (frameId 9 0 s.nodeKey)
        (fit 64 ([0x02] ++ le 1 c.points.length ++ le 4 s.epoch ++ c.points.flatMap fun p => le 2 p ++ wBytes (s.point p)))]
    else []
  (zf ++ pf, zs.map fun e => (e.1, w32 e.2 72))

/-- ZONE_PUBLICATION: once the round's groups have committed, or at beat 50. -/
def execZonePublication (s : State) : Out :=
  if !s.svc.pubDue || !s.awake then .next s
  else
    let open_ := !s.svc.left.isEmpty || s.staged.any fun w => s.svc.workUids.contains w.uid
    let s := if open_ then s.jump (tbAdd s.svc.roundAt 500000) else s
    let s := s.onSvc fun v => { v with pubDue := false }
    let (fs, zs) := s.pubFrames (s.svc.roundAt / 1000000)
    if fs.isEmpty then .next s
    else if s.bus.fifo.length + fs.length > 32 || !s.bus.onLine || !s.fifoOpen then
      .next (s.onSvc fun v => { v with pubskip := (v.pubskip + 1) % 2 ^ 32 })
    else
      let s := zs.foldl (fun s e => s.onZone e.1 fun z => { z with pubTemp := e.2 }) s
      .next (fs.foldl (fun s f => s.txEnter f 0 false none none) s)

/-! ### Commands (Table 13-9, Table 14-6) -/

/-- The zones a ZONE byte names, 0xFF for every configured one. -/
def Com.zonesNamed (c : Com) (z : Nat) : List Nat :=
  if z = 0xFF then (c.kindBodies 1).map (·.1) else if (c.body 1 z).isSome && z < 16 then [z] else []

/-- A ZONE byte that names no configured zone. -/
def zoneBad (c : Com) (z : Nat) : Bool := z ≥ 16 || (c.body 1 z).isNone

/-- ZONE_MODE. -/
def cmdZoneMode (c : Ctx) (s : State) : State × Ans :=
  stagedCmd 0x60 [(u8 c.p 0 != 0xFF && zoneBad s.com (u8 c.p 0), badParam 0), (u8 c.p 1 > 5, badParam 1)] [] [] c s

/-- ZONE_OVERRIDE. -/
def cmdZoneOverride (c : Ctx) (s : State) : State × Ans :=
  let d := u16 c.p 2
  stagedCmd 0x61
    [(zoneBad s.com (u8 c.p 0), badParam 0), (!isMode (u8 c.p 1), badParam 1), (d > 1440 && d != 0xFFFF, badParam 2)]
    [(!s.cal.isSet, refused stConflict)] [] c s

/-- LOOP_RUN. -/
def cmdLoopRun (c : Ctx) (s : State) : State × Ans :=
  let m := u32 c.p 0
  let absent := absentBit m 32 fun i => (s.com.body 2 i).isSome
  stagedCmd 0x62 [(absent.isSome, badParam (absent.getD 0)), (u8 c.p 4 > 1, badParam 4)] [] [] c s

/-- LOOP_STATS; CLEAR 1 clears what the reply reports. -/
def cmdLoopStats (c : Ctx) (s : State) : State × Ans :=
  let i := u8 c.p 0
  let v := s.svc
  let l := s.loopStat i
  let bytes :=
    if i = 0xFF then
      (List.range 4).flatMap (fun p => le 4 (nth v.prRuns p 0) ++ le 4 (nth v.prSkips p 0)) ++ le 4 v.overruns ++ le 4 v.pubskip
    else le 4 l.runs ++ le 4 l.skips ++ le 2 l.consec ++ le 2 l.maxconsec ++ le 4 l.lastskip
  let s' :=
    if u8 c.p 1 = 0 then s
    else if i = 0xFF then s.onSvc fun v => { v with
      prRuns := Vector.replicate 4 0, prSkips := Vector.replicate 4 0, overruns := 0, pubskip := 0 }
    else s.onLoop i fun l => { l with runs := 0, skips := 0, consec := 0, maxconsec := 0, lastskip := 0 }
  guarded [(i > 31 && i != 0xFF, badParam 0), (u8 c.p 1 > 1, badParam 1)] s (s', .now stOk bytes)

/-- MODEL_RESET. -/
def cmdModelReset (c : Ctx) (s : State) : State × Ans :=
  stagedCmd 0x64 [(u8 c.p 0 > 15 && u8 c.p 0 != 0xFF, badParam 0)] [] [] c s

/-- PUB_CONFIG's PARAMS. -/
def pubCfgOf (p : Bytes) : PubCfg :=
  { zones := BitVec.ofNat 16 (u16 p 0), zper := u16 p 2, chg := u8 p 4 = 1, delta := u16 p 5, pper := u16 p 7
    points := (List.range (u8 p 9)).map fun i => u16 p (10 + 2 * i) }

/-- PUB_CONFIG. -/
def cmdPubConfig (c : Ctx) (s : State) : State × Ans :=
  let p := c.p
  stagedCmd 0x65
    (([(u16 p 2 > 3600, badParam 2), (u8 p 4 > 1, badParam 4), (u16 p 5 < 1 || u16 p 5 > 1000, badParam 5),
       (u16 p 7 > 3600, badParam 7), (u8 p 9 > 9, badParam 9)] : Checks) ++
      (List.range (u8 p 9)).map fun i => (!validPoint (u16 p (10 + 2 * i)), badParam (10 + 2 * i))) [] [] c s

/-- RULE_RUN. -/
def cmdRuleRun (c : Ctx) (s : State) : State × Ans :=
  let m := un c.p 0 16
  let absent := absentBit m 128 fun i => (s.com.body 5 i).isSome
  stagedCmd 0x80 [(absent.isSome, badParam (absent.getD 0)), (u8 c.p 16 > 1, badParam 16)] [] [] c s

/-- The rules with a flag set, rule i in bit i. -/
def State.ruleMap (f : RuleRun → Bool) (s : State) : Nat :=
  ((List.range 128).map fun i => b2n (((mget s.com.rules i).map f).getD false) * 2 ^ i).sum

/-- RULE_STATUS: as the last completed step 4 left it (R312). -/
def cmdRuleStatus (c : Ctx) (s : State) : State × Ans :=
  let i := u8 c.p 0
  let r := (mget s.com.rules i).getD {}
  let bytes :=
    if i = 0xFF then le 16 (s.ruleMap RuleRun.result) ++ le 16 (s.ruleMap RuleRun.invalid)
    else le 1 r.state ++ le 1 (b2n r.result) ++ le 1 (b2n r.cond) ++ le 2 r.cnt ++ wBytes r.a ++ wBytes r.b ++ wBytes r.lastchg ++
      wBytes r.writes
  guarded [(i > 127 && i != 0xFF, badParam 0)] s (s, .now stOk bytes)

end Sys2Proof.Machine
end

