-- ==== Sys2Proof/Machine/Interlock.lean ====
section
/-! DEFINITION. Trips and releases of the interlock table, its commands, safe-state settings (R296 to R304, R312). -/

namespace Sys2Proof.Machine

def State.onIlk (f : Ilk → Ilk) (s : State) : State := { s with ilk := f s.ilk }
def State.ilkRun (s : State) (i : Nat) : IlkRun := nth s.ilk.run i {}
def State.ilkEntry (s : State) (i : Nat) : IlkEntry := nth s.applied.ilk.entries i {}

/-- An entry's latch in the always-on domain. -/
def State.keepLatch (i : Nat) (on : Bool) (s : State) : State :=
  { s with aon := { s.aon with ilkLatched := putBit s.aon.ilkLatched i on } }

/-- After entries have changed: masks and chained entries (R298). -/
def State.afterGates (s : State) : State := s.regate.noteIlk

/-- A condition true in every quantum up to the one in which an entry trips, or false up to its release: since when it has been, whatever
it turns to in that quantum itself (R299). -/
def heldSince (now was : Option Nat) (at_ len tb : Nat) : Option Nat :=
  match now, was with
  | some t, _ => some t
  | none, some t => if at_ = tb && tbAdd t len = tb && len != 0 then some t else none
  | none, none => none

/-- Since when an entry's condition has been true, or false, for a trip or a release that falls due now. -/
def IlkRun.trueSince (r : IlkRun) (len tb : Nat) : Option Nat :=
  match r.was with
  | none => r.trueAt
  | some (q, a, _) => heldSince r.trueAt a q len tb
def IlkRun.falseSince (r : IlkRun) (len tb : Nat) : Option Nat :=
  match r.was with
  | none => r.falseAt
  | some (q, _, b) => heldSince r.falseAt b q len tb

/-- ILK_TRIP: the condition has held for TON (R299). [DEDUCED, log 47] -/
def execIlkTrip (i : Nat) (s : State) : Out :=
  if i ≥ 32 then .fault .noSuchUnit
  else
    let e := s.ilkEntry i
    let r := s.ilkRun i
    match r.trueSince e.ton s.tb with
    | none => .next s
    | some t =>
      if !s.evaluates || !e.en || r.tripped then .next s
      else
        let s := s.jump (tbAdd t e.ton)
        let s := s.onIlk fun k => { k with
          run := upd k.run i fun r => { r with tripped := true, latched := e.latch, pendClear := false, falseAt := none, was := none }
          trips := satInc k.trips 65535, last := i, lastAt := s.tb }
        let s := if e.latch then s.keepLatch i true else s
        .next (s.raise 92).afterGates.moveGates

/-- An entry releases. -/
def State.releaseIlk (i : Nat) (s : State) : State :=
  ((s.onIlk fun k => { k with
    run := upd k.run i fun r => { r with tripped := false, latched := false, pendClear := false, was := none } }).keepLatch i false).raise 93

/-- ILK_RELEASE: by TOFF, or by a pending clear in a quantum in which the condition is false (R299). [DEDUCED, log 47] -/
def execIlkRelease (i : Nat) (s : State) : Out :=
  if i ≥ 32 then .fault .noSuchUnit
  else
    let r := s.ilkRun i
    match (if r.latched then r.falseAt else r.falseSince (s.ilkEntry i).toff s.tb) with
    | none => .next s
    | some t =>
      if !s.evaluates || !r.tripped || (r.latched && !r.pendClear) then .next s
      else
        let s := if r.latched then s else s.jump (tbAdd t (s.ilkEntry i).toff)
        .next (s.releaseIlk i).afterGates.moveGates

/-- An entry as ILK_WRITE carries it (Table 14-1). -/
def ilkEntryOf (p : Bytes) : IlkEntry :=
  { en := u8 p 1 = 1, combOr := u8 p 2 = 1, nt := u8 p 3
    terms := (List.range 4).map fun k => { src := u8 p (4 + 3 * k), pol := u8 p (5 + 3 * k) = 1, inv := u8 p (6 + 3 * k) }
    ton := u32 p 16, toff := u32 p 20, latch := u8 p 24 = 1
    vlMask := BitVec.ofNat 16 (u16 p 25), aoMask := BitVec.ofNat 16 (u16 p 27), fnMask := BitVec.ofNat 8 (u8 p 29)
    doMask := BitVec.ofNat 8 (u8 p 30), vlLvl := u8 p 31 = 1, aoLvl := u16 p 32, fnLvl := u16 p 34, doLvl := u8 p 36 = 1 }

/-- An entry as ILK_READ returns it. -/
def IlkEntry.bytes (e : IlkEntry) (i : Nat) : Bytes :=
  le 1 i ++ le 1 (b2n e.en) ++ le 1 (b2n e.combOr) ++ le 1 e.nt ++
  ((List.range 4).flatMap fun k =>
    let t := e.terms[k]?.getD {}
    le 1 t.src ++ le 1 (b2n t.pol) ++ le 1 t.inv) ++
  le 4 e.ton ++ le 4 e.toff ++ le 1 (b2n e.latch) ++ le 2 e.vlMask.toNat ++ le 2 e.aoMask.toNat ++ le 1 e.fnMask.toNat ++
  le 1 e.doMask.toNat ++ le 1 (b2n e.vlLvl) ++ le 2 e.aoLvl ++ le 2 e.fnLvl ++ le 1 (b2n e.doLvl)

/-- ILK_WRITE, ILK_ARM and SAFE_SET committed. [DEDUCED, log 69] -/
def setIlk (opc : Nat) (p : Bytes) (c : IlkCfg) : IlkCfg :=
  if opc = 0x88 then { c with entries := upd c.entries (u8 p 0) fun _ => ilkEntryOf p }
  else if opc = 0x8A then { c with armed := u8 p 0 = 1 }
  else
    let m := u16 p 1
    let o : SafeOut := { hold := u8 p 3 = 0, level := u16 p 4 }
    match u8 p 0 with
    | 0 => { c with safeVl := updAll c.safeVl fun n x => if bit m n then o else x }
    | 1 => { c with safeAo := updAll c.safeAo fun n x => if bit m n then o else x }
    | 2 => { c with safeFn := updAll c.safeFn fun n x => if bit m n then o else x }
    | _ => { c with safeDo := updAll c.safeDo fun n x => if bit m n then o else x }

/-- ILK_WRITE at its apply quantum: an entry set to EN 0 releases, one that is tripped stays so and is latched exactly with
LATCH 1; counts start again (R299). [DEDUCED, log 69] -/
def State.applyIlkWrite (p : Bytes) (s : State) : State :=
  let i := u8 p 0
  let e := ilkEntryOf p
  let r := s.ilkRun i
  let s := if r.tripped && !e.en then s.releaseIlk i else s
  let s := s.onIlk fun k => { k with run := upd k.run i fun r =>
    { r with
      trueAt := none, falseAt := none, was := none
      latched := r.tripped && e.latch, pendClear := r.pendClear && e.latch } }
  s.keepLatch i (r.tripped && e.en && e.latch)

/-- ILK_ARM at its apply quantum: disarming releases every gate; arming starts every count; CLEAR puts a pending clear on
latched entries (R299, Table 14-6). [DEDUCED, log 69] -/
def State.applyIlkArm (p : Bytes) (was : Bool) (s : State) : State :=
  let clear := u32 p 1
  if u8 p 0 = 0 then
    let any := s.ilk.run.toList.any (·.tripped)
    let s := s.onIlk fun k => { k with run := updAll k.run fun _ r =>
      { r with tripped := false, latched := false, pendClear := false, trueAt := none, falseAt := none, was := none } }
    ({ s with aon := { s.aon with ilkLatched := 0 } } : State).raiseIf any 93
  else
    s.onIlk fun k => { k with run := updAll k.run fun i r =>
      let r := if was then r else { r with trueAt := none, falseAt := none, was := none }
      { r with pendClear := r.pendClear || (r.latched && bit clear i) } }

/-- One of the three commands at its apply quantum; the outputs follow in the next. -/
def State.applyIlk (opc : Nat) (p : Bytes) (s : State) : State :=
  let was := s.applied.ilk.armed
  let s := { s with applied := { s.applied with ilk := setIlk opc p s.applied.ilk } }
  let s := if opc = 0x88 then s.applyIlkWrite p else if opc = 0x8A then s.applyIlkArm p was else s
  s.afterGates

/-- At the recall: the evaluator starts; entries the always-on domain kept latched, if the recovered table has them enabled
with LATCH 1, are tripped and latched from the first quantum (R296). -/
def State.recallIlk (s : State) : State :=
  let keep := fun (i : Nat) => s.aon.ilkLatched.getLsbD i && (s.ilkEntry i).en && (s.ilkEntry i).latch && s.applied.ilk.armed
  let s := s.onIlk fun k => { k with
    running := true, run := updAll k.run fun i r => if keep i then { r with tripped := true, latched := true } else r }
  let s := { s with aon := { s.aon with ilkLatched := (List.range 32).foldl (fun (m : BitVec 32) i => putBit m i (keep i)) 0 } }
  s.afterGates.moveAll

/-! ### Commands (Table 14-6) -/

/-- A listed term source, chained only to a lower entry (Table 14-2, R297). -/
def termSrcOk (i src : Nat) : Bool :=
  src < 0x20 || (src < 0x40 && src - 0x20 < i) || (0x40 ≤ src && src < 0x5A) || src = 0x60

/-- ILK_WRITE. -/
def cmdIlkWrite (c : Ctx) (s : State) : State × Ans :=
  let p := c.p
  let nt := u8 p 3
  stagedCmd 0x88
    (([(u8 p 0 > 31, badParam 0), (u8 p 1 > 1, badParam 1), (u8 p 2 > 1, badParam 2), (nt < 1 || nt > 4, badParam 3)] : Checks) ++
      ((List.range 4).flatMap fun k =>
        let o := 4 + 3 * k
        if k < nt then
          ([(!termSrcOk (u8 p 0) (u8 p o), badParam o), (u8 p (o + 1) > 1, badParam (o + 1)),
            (u8 p (o + 2) > 2, badParam (o + 2))] : Checks)
        else (List.range 3).map fun j => (u8 p (o + j) != 0, badParam (o + j))) ++
      ([(u32 p 16 > 60000000, badParam 16), (u32 p 20 > 60000000, badParam 20), (u8 p 24 > 1, badParam 24),
        (u8 p 31 > 1, badParam 31), (u16 p 32 > 10000, badParam 32), (u16 p 34 > 10000, badParam 34),
        (u8 p 36 > 1, badParam 36)] : Checks)) [] [] c s

/-- ILK_READ. -/
def cmdIlkRead (c : Ctx) (s : State) : State × Ans :=
  let i := u8 c.p 0
  let r := s.ilkRun i
  let st := if r.tripped then (if r.latched then 3 else 2) else b2n r.trueAt.isSome
  guarded [(i > 31, badParam 0)] s (s, .now stOk ((nth s.com.cfg.ilk.entries i {}).bytes i ++ le 1 st))

/-- ILK_ARM. -/
def cmdIlkArm (c : Ctx) (s : State) : State × Ans := stagedCmd 0x8A [(u8 c.p 0 > 1, badParam 0)] [] [] c s

/-- ILK_STATUS. -/
def cmdIlkStatus (_c : Ctx) (s : State) : State × Ans :=
  let m := fun (f : IlkRun → Bool) => ((List.range 32).filter fun i => f (s.ilkRun i)).foldl (fun n i => n + 2 ^ i) 0
  let k := s.ilk
  (s, .now stOk
    (le 4 (m (·.tripped)) ++ le 4 (m (·.latched)) ++ le 1 (b2n s.applied.ilk.armed) ++ le 1 (b2n k.safe) ++ le 2 k.gVl.toNat ++
     le 2 k.gAo.toNat ++ le 1 k.gFn.toNat ++ le 1 k.gDo.toNat ++ le 2 k.trips ++ le 1 k.last ++ le 6 k.lastAt))

/-- SAFE_SET. -/
def cmdSafeSet (c : Ctx) (s : State) : State × Ans :=
  let k := u8 c.p 0
  let max := if k = 0 || k = 3 then 1 else 10000
  stagedCmd 0x8C
    [(k > 3, badParam 0), (k ≥ 2 && u16 c.p 1 > 255, badParam 2), (u8 c.p 3 > 1, badParam 3), (decide (u16 c.p 4 > max), badParam 4)]
    [] [] c s

end Sys2Proof.Machine
end

