-- ==== Sys2Proof/Machine/Caller.lean ====
section
/-! DEFINITION. The caller of up to four pairs: vigils, election, verdicts (R362, R366 to R369, R389, R390). -/

namespace Sys2Proof.Machine

/-- Term a is newer than term b (R362). -/
def termNewer (a b : Nat) : Bool :=
  let d := (a + 65536 - b % 65536) % 65536
  1 ≤ d && d ≤ 0x7FFF

/-- As termNewer where terms that differ by exactly 0x8000 count as newer (R70). -/
def termNewerOr (a b : Nat) : Bool :=
  let d := (a + 65536 - b % 65536) % 65536
  1 ≤ d && d ≤ 0x8000

/-- A supervision frame: a function, FD, its length; VER 0x01 (R362). -/
def supervision (f : Frame) (func len : Nat) : Bool :=
  f.ide && !f.remote && f.fdf && frameFunc f == func && f.data.length == len && u8 f.data 0 == 1

/-! ### Slots -/

def State.onCaller (f : Caller → Caller) (s : State) : State := { s with caller := f s.caller }
def State.onSlot (p : Nat) (f : CallSlot → CallSlot) (s : State) : State :=
  s.onCaller fun c => { c with slots := upd c.slots p f }
def State.callSlot (s : State) (p : Nat) : CallSlot := nth s.caller.slots p {}
def State.slotConf (s : State) (p : Nat) : CallerSlotCfg := nth s.applied.caller p {}

/-- The unit a slot names, and the other one. -/
def CallSlot.act (k : CallSlot) : CallUnit := if k.actB then k.ub else k.ua
def CallSlot.other (k : CallSlot) : CallUnit := if k.actB then k.ua else k.ub

/-- One unit of a slot changed. -/
def CallSlot.onUnit (k : CallSlot) (unitB : Bool) (f : CallUnit → CallUnit) : CallSlot :=
  if unitB then { k with ub := f k.ub } else { k with ua := f k.ua }

/-- FLAGS of a slot's entry (Table 17-3). [DEDUCED, log 78] -/
def CallSlot.flags (k : CallSlot) : Nat :=
  match k.phase with
  | .elected => b2n k.actB + 4 * b2n k.act.alive + 8 * b2n (!k.other.alive) + 16 * b2n k.hand
  | .electing => 2
  | .listening => 2
  | .disabled => 0

/-- A slot changed; a change of its entry's FLAGS is to be sent with SUB 1 (R366). -/
def State.onEntry (p : Nat) (f : CallSlot → CallSlot) (s : State) : State :=
  let was := (s.callSlot p).flags
  let s := s.onSlot p f
  if (s.callSlot p).flags = was then s else s.onCaller fun c => { c with change := true }

/-- A new term for a slot, persisted before any verdict carries it (R366, R368). -/
def State.newTerm (p : Nat) (s : State) : State :=
  (s.writeUnit 7 { s.unit with callTerms := upd s.unit.callTerms p fun t => (t + 1) % 65536 }).onCaller
    fun c => { c with change := true }

/-- A unit named active under a new term; hand for a planned handover (R368, R369). What its vigils showed before does not
count towards a failure as the active. [DEDUCED, log 78] -/
def State.nameActive (p : Nat) (unitB hand : Bool) (s : State) : State :=
  let s := (s.newTerm p).onEntry p fun k =>
    { k with phase := .elected, actB := unitB, hand := hand, readyRaised := false
             ua := { k.ua with badAt := none }, ub := { k.ub with badAt := none } }
  s.raise 125

/-- The unit an electing slot elects: the newer epoch, on a tie the lower serial number (R70, R368). [DEDUCED, log 78] -/
def State.winner (s : State) (p : Nat) : Bool :=
  let k := s.callSlot p
  let c := s.slotConf p
  if !k.ua.alive then true
  else if !k.ub.alive then false
  else if newer k.ub.epoch k.ua.epoch then true
  else if newer k.ua.epoch k.ub.epoch then false
  else c.serB < c.serA

/-- Election, handover and PAIR_READY, after anything about a slot has changed (R368, R369, Table 17-10).
[DEDUCED, log 78] -/
def State.callJudge (p : Nat) (s : State) : State :=
  let k := s.callSlot p
  let s := match k.phase with
    | .electing => if k.ua.alive && k.ub.alive then s.nameActive p (s.winner p) false else s
    | .elected =>
      if k.act.handover && k.act.synced && k.other.alive && k.other.st = 2 then
        (s.nameActive p (!k.actB) true).onSlot p fun k => { k with switches := satInc k.switches 65535 }
      else s
    | .listening => s
    | .disabled => s
  let k := s.callSlot p
  let ready := k.phase == .elected && k.act.alive && k.act.synced && k.other.alive && k.other.st == 2
  (s.onSlot p fun k => { k with readyRaised := ready }).raiseIf (ready && !k.readyRaised) 124

/-- The active of a slot fails: the other unit, if it is alive, or electing again where no unit is (R367, R369).
[DEDUCED, log 78] -/
def State.activeFails (p : Nat) (s : State) : State :=
  let k := s.callSlot p
  let count := fun (k : CallSlot) => k.onUnit k.actB fun u => { u with fails := satInc u.fails 65535, badAt := none }
  if k.other.alive then
    (((s.onSlot p count).nameActive p (!k.actB) false).onSlot p fun k => { k with switches := satInc k.switches 65535 }).callJudge p
  else if k.act.alive then s
  else (s.onSlot p count).onEntry p fun k => { k with phase := .electing, electAt := s.tb, hand := false }

/-- A unit stops being alive (R367, Table 17-10). -/
def State.unitGone (p : Nat) (unitB : Bool) (s : State) : State :=
  let s := (s.onEntry p fun k => k.onUnit unitB fun u => { u with alive := false }).raise 126
  let k := s.callSlot p
  (if k.phase == .elected && k.actB == unitB then s.activeFails p else s).callJudge p

/-! ### Events -/

/-- The slot and the unit that a serial number is configured for. [DEDUCED, log 74] -/
def State.vigilOf (s : State) (ser : Nat) : Option (Nat × Bool) :=
  ((List.range 4).find? fun p => (s.slotConf p).en && ((s.slotConf p).serA == ser || (s.slotConf p).serB == ser)).map
    fun p => (p, (s.slotConf p).serB == ser)

/-- What a vigil tells of its sender (Table 17-2). -/
def CallUnit.hear (u : CallUnit) (d : Bytes) (t : Nat) : CallUnit :=
  let st := u8 d 1
  let passive := st = 0 || st = 2
  { u with
    alive := st != 4, seen := true, at_ := t, st := st, term := u16 d 4, epoch := u32 d 16
    synced := bit (u8 d 2) 1, handover := bit (u8 d 2) 2
    badAt := if passive then some (u.badAt.getD t) else none }

/-- VIGIL_AT_CALLER. -/
def execVigilAtCaller (f : Frame) (s : State) : Out :=
  if !s.frameArrives || s.pers != .caller || !supervision f 1 24 || frameSub f != 0 then .next s
  else
    match s.vigilOf (un f.data 8 8) with
    | none => .next s
    | some (p, b) =>
      let k := s.callSlot p
      let was := (if b then k.ub else k.ua).alive
      let e := u32 f.data 16
      let s := s.onEntry p fun k =>
        { k.onUnit b fun u => { u.hear f.data s.tb with alive := u.alive || u8 f.data 1 != 4 } with
          epochHi := if k.epochHi = 0 || newer e k.epochHi then e else k.epochHi }
      let s := if u8 f.data 1 = 4 then (if was then s.unitGone p b else s.onEntry p fun k => k.onUnit b fun u => { u with alive := false })
        else s
      .next (s.callJudge p)

/-- CALLER_LISTEN_END: 30 ms after integration (R366). -/
def execCallerListenEnd (s : State) : Out :=
  if !s.caller.listening || !s.awake then .next s
  else
    let s := s.jump (tbAdd s.caller.listenAt 30000)
    let s := s.onCaller fun c => { c with listening := false, listened := true, change := true }
    let shows := fun (u : CallUnit) => u.alive && (u.st = 1 || u.st = 3)
    .next ((List.range 4).foldl (fun s p =>
      let k := s.callSlot p
      if k.phase != .listening then s
      else if shows k.ua || shows k.ub then
        let b := !shows k.ua || (shows k.ub && termNewer k.ub.term k.ua.term)
        let t := if b then k.ub.term else k.ua.term
        let s := if termNewer t (nth s.unit.callTerms p 0) then
            s.writeUnit 7 { s.unit with callTerms := upd s.unit.callTerms p fun _ => t } else s
        (s.onSlot p fun k => { k with phase := .elected, actB := b }).callJudge p
      else (s.onSlot p fun k => { k with phase := .electing, electAt := s.tb }).callJudge p) s)

/-- UNIT_ALIVE_TIMEOUT: 30 000 µs after the last vigil (R367). -/
def execUnitAliveTimeout (slot : Nat) (unitB : Bool) (s : State) : Out :=
  if slot ≥ 4 then .fault .noSuchUnit
  else
    let k := s.callSlot slot
    let u := if unitB then k.ub else k.ua
    if !u.alive || !s.awake then .next s
    else .next ((s.jump (tbAdd u.at_ 30000)).unitGone slot unitB)

/-- ACTIVE_STATE_TIMEOUT: vigils with STATE 0 or 2 for 30 ms (R367). -/
def execActiveStateTimeout (slot : Nat) (s : State) : Out :=
  if slot ≥ 4 then .fault .noSuchUnit
  else
    let k := s.callSlot slot
    match k.act.badAt with
    | none => .next s
    | some t => if k.phase != .elected || !k.act.alive || !s.awake then .next s else .next ((s.jump (tbAdd t 30000)).activeFails slot)

/-- ELECTWAIT_EXPIRY: exactly one unit is alive (R368). -/
def execElectwaitExpiry (slot : Nat) (s : State) : Out :=
  if slot ≥ 4 then .fault .noSuchUnit
  else
    let k := s.callSlot slot
    if k.phase != .electing || k.ua.alive == k.ub.alive || !s.awake then .next s
    else
      let s := s.jump (tbAdd k.electAt (100000 * (s.slotConf slot).electwait))
      .next ((s.nameActive slot k.ub.alive false).callJudge slot)

/-! ### Verdicts (Table 17-3) -/

/-- The entry of a slot; all zero where it is disabled. -/
def State.verdictEntry (s : State) (p : Nat) : Bytes :=
  let c := s.slotConf p
  let k := s.callSlot p
  if !c.en then le 15 0
  else le 4 c.serA ++ le 4 c.serB ++ le 1 k.flags ++ le 2 (nth s.unit.callTerms p 0) ++ le 4 k.epochHi

/-- A verdict; SUB 1 on a change. -/
def State.verdict (s : State) (onChange : Bool) : Frame :=
  let en := ((List.range 4).map fun p => b2n (s.slotConf p).en * 2 ^ p).sum
  { ide := true, id := frameId 0 (b2n onChange) s.unit.serial.toNat, fdf := true, brs := true
    data := [0x01] ++ le 1 en ++ le 1 s.caller.cseq ++ [0x00] ++ (List.range 4).flatMap s.verdictEntry }

/-- A frame loaded into the vigil slot; one not sent is replaced, with VIGLATE (R345). -/
def State.loadVigilSlot (f : Frame) (s : State) : State :=
  let late := s.bus.vigil.isSome
  let s := s.onBus fun b => { b.mayHaveBegun with vigil := some f, viglate := b.viglate || late, cols := upd b.cols 0 fun _ => {} }
  if late then s.flag 0x2100 4 else s

/-- The next beat boundary: this quantum if it is one that has not passed. [DESIGN CHOICE, log 16] -/
def State.boundaryDue (s : State) : Nat := if s.tb % 10000 = 0 && s.beatAt != s.tb then s.tb else nextMultiple 10000 s.tb

/-- The vigil slot takes loads: the controller has integrated, and is not frozen (R345, R353). -/
def State.slotLoads (s : State) : Bool := s.bus.joined && s.bus.phase != .busOff && s.bus.phase != .recovering

/-- CALLER_VERDICT_LOAD: at a beat boundary, or in the quantum of a change, once listening has ended (R366). -/
def execCallerVerdictLoad (onChange : Bool) (s : State) : Out :=
  if s.pers != .caller || !s.caller.listened || !s.awake || !s.slotLoads || (onChange && !s.caller.change) then .next s
  else
    let s := if onChange || s.beatAt = s.tb then s else s.jump s.boundaryDue
    let s := s.loadVigilSlot (s.verdict onChange)
    .next (s.onCaller fun c => { c with change := false })

/-! ### CALLER_CONFIG and CALLER_STATUS (Table 17-9) -/

/-- CALLER_CONFIG committed. [DEDUCED, log 78] -/
def setCaller (p : Bytes) (v : Vector CallerSlotCfg 4) : Vector CallerSlotCfg 4 :=
  upd v (u8 p 0) fun _ => { en := u8 p 1 = 1, serA := un p 2 8, serB := un p 10 8, electwait := u8 p 18 }

/-- CALLER_CONFIG at its apply quantum: a slot enabled, or given other units, starts electing; before listening ends it
listens. -/
def State.applyCaller (p : Bytes) (s : State) : State :=
  let i := u8 p 0
  let old := s.slotConf i
  let s := { s with applied := { s.applied with caller := setCaller p s.applied.caller } }
  let new := s.slotConf i
  let s := s.onCaller fun c => { c with change := true }
  if !new.en then s.onSlot i fun k => { switches := k.switches }
  else if old.en && old.serA = new.serA && old.serB = new.serB then s
  else s.onSlot i fun k =>
    { phase := if s.caller.listened then .electing else .listening, electAt := s.tb, switches := k.switches }

/-- Slots the recalled configuration enables listen. -/
def State.recallCaller (s : State) : State :=
  s.onCaller fun c =>
    let f := fun (p : Nat) (k : CallSlot) => if (s.slotConf p).en then { k with phase := .listening } else k
    { c with slots := updAll c.slots f }

/-- The slots as the writes staged so far will leave them. -/
def State.callerNext (s : State) : Vector CallerSlotCfg 4 :=
  s.staged.foldl (fun v w =>
    match w.w with
    | .cmd opc p => if opc = 0xA3 then setCaller p v else v
    | _ => v) s.com.cfg.caller

/-- CALLER_CONFIG; the serials configured are those of the other slots that hold any, staged ones too. [DEDUCED, log 78] -/
def cmdCallerConfig (c : Ctx) (s : State) : State × Ans :=
  let p := c.p
  let i := u8 p 0
  let a := un p 2 8
  let b := un p 10 8
  let v := s.callerNext
  let others := ((List.range 4).filter fun j => j != i && (nth v j {}).serA != 0).flatMap fun j =>
    [low (nth v j {}).serA 32, low (nth v j {}).serB 32]
  stagedCmd 0xA3
    [(i > 3, badParam 0), (u8 p 1 > 1, badParam 1), (a == 0, badParam 2), (b == 0, badParam 10),
     (u8 p 18 < 5 || u8 p 18 > 50, badParam 18),
     (a == b || low a 32 == low b 32 || others.contains (low a 32) || others.contains (low b 32), badParam 0xFF)] [] [] c s

/-- PSTATE and ACT. [DEDUCED, log 78] -/
def CallSlot.pstate (k : CallSlot) : Nat :=
  match k.phase with
  | .disabled => 0
  | .listening => 1
  | .electing => if k.ua.alive || k.ub.alive then 2 else 5
  | .elected => if k.other.alive then 3 else 4

/-- The age of a unit's last vigil, saturating where there has been none. -/
def CallUnit.age (u : CallUnit) (t : Nat) : Nat := if u.seen then min 0xFFFFFFFF (tbSub t u.at_) else 0xFFFFFFFF

/-- CALLER_STATUS. -/
def cmdCallerStatus (c : Ctx) (s : State) : State × Ans :=
  let i := u8 c.p 0
  let k := s.callSlot i
  guarded [(i > 3, badParam 0)] s
    (s, .now stOk (le 1 k.pstate ++ le 1 (if k.phase == .elected then b2n k.actB else 0xFF) ++
      le 1 (b2n k.ua.alive + 2 * b2n k.ub.alive) ++ le 2 (nth s.unit.callTerms i 0) ++ le 4 k.ua.epoch ++ le 4 k.ub.epoch ++
      le 4 (k.ua.age s.tb) ++ le 4 (k.ub.age s.tb) ++ le 1 k.ua.st ++ le 1 k.ub.st ++ le 2 k.switches ++ le 2 k.ua.fails ++
      le 2 k.ub.fails))

end Sys2Proof.Machine
end

