-- ==== Sys2Proof/Machine/Apply.lean ====
section
/-! DEFINITION. The apply quantum: committed configuration and setpoints taking effect together in the data plane (R14, R15, R305),
and a standby taking a whole epoch (R311, R379, R385, R386). -/

namespace Sys2Proof.Machine

/-! ### What every apply quantum brings into force -/

/-- PT_START and PT_STOP, from the set of running groups committed (R157, R158). -/
def State.applyPtRunning (s : State) : State :=
  let old := s.applied.pt.running
  let new := s.com.cfg.pt.running
  let mask := fun (m : BitVec 4) => unitMask (((List.range 4).filter fun g => m.getLsbD g).map (2 + ·))
  let stop := mask (old &&& ~~~new)
  let s := (s.stopUnits stop).dropUnits stop
  s.callUnits (mask (new &&& ~~~old))

/-- Output points and output configuration (R235, R238, R256). -/
def State.applyOutputs (s : State) : State :=
  let c := s.com
  let s := { s with applied := { s.applied with ao := c.cfg.ao, fn := c.cfg.fn } }
  let s := { s with out := { s.out with
      ao := updAll s.out.ao fun n a => { a with applied := levelOf (nth c.ao n noVal) }
      fn := updAll s.out.fn fun n f => { f with applied := levelOf (nth c.fn n noVal) } } }
  let s := { s with fio := { s.fio with dout := updAll s.fio.dout fun n d => { d with cmd := nth c.dout n noVal == 1 } } }
  s.applyDoConf c.cfg.dout

/-- Keys held down when a configuration leaves no key columns are released, whatever EN is (R437). -/
def State.dropKeysAfter (before : State) (s : State) : State :=
  if before.keyColumns && !s.keyColumns then s.dropKeys else s

/-- Configuration that every unit takes from the committed state, whichever command changed it. -/
def State.takeConfig (s : State) : State :=
  let c := s.com.cfg
  let s := s.applyPtRunning
  let s := s.applyPt c.pt
  let s := s.applyPr c.pr
  let s := s.applyDi c.di
  let s := s.applyOutputs
  let s := s.applyFloat c.fd
  let s := s.applyDsp c.dsp
  let s := s.onBus fun b => { b with filters := s.com.kindBodies 6 }
  let s := if c.tz = s.applied.tz then s else s.onSvc fun v => { v with tzNext := some c.tz }
  { s with applied := { s.applied with tz := c.tz, pub := c.pub, therm := c.therm } }

/-- What follows the new setpoints in the same quantum: outputs, floating drives, interlock terms (R243, R305). -/
def State.settleAll (s : State) : State :=
  (((s.moveAll).steerChanged).noteIlk).callOuts

/-! ### Commands with an effect of their own in their apply quantum -/

/-- PT_START and PT_STOP of groups whatever the saved set held before: a group not running starts as START_GROUP starts it, one that
START_GROUP started stops (R157, R158). -/
def State.applyGroups (start : Bool) (p : Bytes) (s : State) : State :=
  let m := unitMask ((groupsIn (u8 p 0)).map (2 + ·))
  if start then s.callUnits m else (s.stopUnits m).dropUnits m

/-- A valve turned on in a bank that does not run adds the bank to a warm Pavane (R225). -/
def State.callBanks (s : State) : State :=
  s.callUnits (unitMask (((List.range 4).filter fun b => !s.bankRuns b && (bankChans b).any fun n => (s.vlCh n).phase == .wait).map (10 + ·)))

/-- PT_START and START_GROUP of units that already run change nothing. -/
def State.applyCmd (opc : Nat) (p : Bytes) (s : State) : State :=
  if opc = 0x21 || opc = 0x22 then s.applyGroups (opc == 0x21) p
  else if opc = 0x03 then s.applyPwr s.com.cfg.pwr
  else if opc = 0x05 then s.applyStartGroup p
  else if opc = 0x06 then s.applyStopGroup p
  else if opc = 0x0C then { s with cal := { s.cal with pending := s.cal.pending ++ [rtcActOf p] } }
  else if 0x30 ≤ opc && opc ≤ 0x34 then s.applySar opc p
  else if 0x40 ≤ opc && opc ≤ 0x47 then (if opc = 0x41 then (s.applyVl opc p).callBanks else s.applyVl opc p)
  else if opc = 0x50 then s.retryAo (u8 p 0)
  else if opc = 0x5B then s.applyFioClear p
  else if opc = 0x90 then s.applyBus s.com.cfg.bus
  else if opc = 0xA1 then
    s.writeUnit 7 { s.unit with pair := { ackto := u8 p 0, keyfwd := u8 p 1 = 1, ckey := u32 p 2 } }
  else if opc = 0xA3 then s.applyCaller p
  else if opc = 0xD0 || opc = 0xD1 || opc = 0xD2 || opc = 0x1D2 then s.applyKey opc p
  else s

/-- One committed write in its apply quantum; a write of an analog output's point is a retry of it (R237). -/
def State.applyWrite (w : Write) (s : State) : State :=
  match w with
  | .cmd opc p => s.applyCmd opc p
  | .point pt _ => if isAO pt then s.retryAo (pt - 0x50) else s
  | .obj _ _ _ _ _ => s
  | .status _ _ _ _ => s
  | .model _ _ => s

/-- The interlock commands among committed writes: ILK_WRITE, ILK_ARM, SAFE_SET. -/
def Write.ilk (w : Write) : Option (Nat × Bytes) :=
  match w with
  | .cmd opc p => if opc = 0x88 || opc = 0x8A || opc = 0x8C then some (opc, p) else none
  | .point _ _ => none
  | .obj _ _ _ _ _ => none
  | .status _ _ _ _ => none
  | .model _ _ => none

/-- The interlock commands of an apply quantum and the end of the safe state: what they gate or free moves in the next (R299, R302,
R304). -/
def State.applyGates (commit : Bool) (ws : List Write) (s : State) : State :=
  let cs := ws.filterMap Write.ilk
  let t := (cs.foldl (fun s c => s.applyIlk c.1 c.2) s).leaveSafe commit
  if cs.isEmpty && t.ilk.safe == s.ilk.safe then t else t.moveGates

/-- The apply quantum of an epoch: configuration, then commands in the order of their commit, then coil tests, the outputs, and the
interlock table. -/
def State.applyEpoch (s : State) : State :=
  let before := s
  let ws := s.toApply
  let commit := s.applyDue == some (tbAdd s.tbc 200)
  let s := { s with toApply := [], applyDue := none, appliedVp := s.com.vp }
  let s := s.takeConfig
  let s := ws.foldl (fun s w => s.applyWrite w) s
  let s := State.dropKeysAfter before s
  let s := s.queueDiags
  (s.settleAll.callNew before).applyGates commit ws

/-! ### A standby takes an epoch whole (R379, R381) -/

/-- Valve configuration on a unit whose valves are off (R384). [DEDUCED, log 76] -/
def State.adoptVl (s : State) : State :=
  let old := s.applied.vl
  let new := s.com.cfg.vl
  let s := { s with applied := { s.applied with vl := new } }
  let f := fun (n : Nat) (c : VlChan) =>
    let a := nth old.chans n {}
    let b := nth new.chans n {}
    let c := if a = b then c else
      { c with boosts := if a.en then c.boosts else 0, nopicnt := if a.en then c.nopicnt else 0, ihold := b.ihold
               newest := if a.en = b.en then c.newest else noVal }
    if nth old.duty n {} = nth new.duty n {} then c
    else { c with dutylim := false, inWin := false, used := 0, limitHit := false
                  winDue := if (nth new.duty n {}).win = 0 then none else some (nextMultiple 1000000 s.tb) }
  { s with vl := { s.vl with ch := updAll s.vl.ch f } }

/-- SAR sequences: those that changed or stopped lose their instance. [DEDUCED, log 76] -/
def State.adoptSar (s : State) : State :=
  let old := s.applied.sar
  let new := s.com.cfg.sar
  let s := { s with applied := { s.applied with sar := new } }
  (List.range 8).foldl (fun s k =>
    let was := old.started.getLsbD k
    let is := new.started.getLsbD k
    let same := decide (nth old.seqs k [] = nth new.seqs k [] ∧ nth old.trigs k {} = nth new.trigs k {})
    if same && was == is then s
    else if was then
      (s.onSeq k fun q => { q.drop with soft := if is then q.soft else [] }).onSar fun a =>
        ({ a with cur := if a.cur = some (.seq k) then none else a.cur } : Sar).begin
    else if is then
      (s.onSeq k fun q => { q with lastOvr := 0, trigAt := none }).softStart k
    else s) s

/-- The interlock table, its armed state and the safe-state settings. -/
def State.adoptIlk (s : State) : State :=
  let old := s.applied.ilk
  let new := s.com.cfg.ilk
  let s := (List.range 32).foldl (fun s i =>
    let e := nth new.entries i {}
    if nth old.entries i {} = e then s else s.applyIlk 0x88 (e.bytes i)) s
  let s := if old.armed = new.armed then s else s.applyIlk 0x8A (le 1 (b2n new.armed) ++ le 4 0)
  { s with applied := { s.applied with ilk := new } }

/-- Key configuration, encoders and the lock. -/
def State.adoptKeys (s : State) : State :=
  let old := s.applied.key
  let new := s.com.cfg.key
  let s := { s with applied := { s.applied with key := new } }
  let f := fun (n : Nat) (e : EncRun) => if nth old.enc n {} = nth new.enc n {} then e else { e with acc := 0 }
  let s := s.onKeys fun k => { k with enc := updAll k.enc f }
  if (old.locked && !new.locked) || old.codes != new.codes then s.onKeys fun k => { k with prog := 0 } else s

/-- The committed state of an epoch taken whole by a unit that does not commit: in one quantum, its apply quantum for the
epoch. [DEDUCED, log 76] -/
def State.adopt (new : Com) (s : State) : State :=
  let before := s
  let s := { s with com := new, appliedVp := new.vp }
  let s := if new.cfg.pwr = s.applied.pwr then s else s.applyPwr new.cfg.pwr
  let s := s.takeConfig
  let s := ((s.adoptVl.adoptSar).adoptIlk).adoptKeys
  let s := if new.cfg.bus = s.applied.bus then s else s.applyBus new.cfg.bus
  let s := State.dropKeysAfter before s
  (s.settleAll.callNew before).leaveSafe true

end Sys2Proof.Machine
end

