-- ==== Sys2Proof/Machine/Picture.lean ====
section
/-! DEFINITION. The committed picture while the writes of a boundary are put into it, one write after the other (R66, R74, R77,
R79, R482). -/

namespace Sys2Proof.Machine

/-! ### One staged write (R66, R74, R77, R482) -/

/-- The committed picture while a boundary's writes are put into it: the epoch it will carry, the calendar at the apply
quantum, objects written with the unit of writes that did so, and every object that a write of this commit has changed. -/
structure Picture where
  epoch : Nat
  clock : Nat
  com : Com
  unit : UnitArea
  wrote : List (Nat × Nat) := []
  changed : List Nat := []

/-- Configuration bytes of a configured object changed by a command. [DEDUCED, log 33] -/
def Com.editObj (c : Com) (kind idx epoch : Nat) (f : Bytes → Bytes) : Com :=
  match mget c.objs (objKey kind idx) with
  | none => c
  | some o => { c with objs := mset c.objs (objKey kind idx) { epochW := epoch, body := f o.body } }

/-- Status bytes of a configured object changed by a service, EPOCH_S with them (R267). [DEDUCED, log 33] -/
def Com.editStatus (c : Com) (kind idx epoch off : Nat) (d : Bytes) : Com :=
  match mget c.objs (objKey kind idx) with
  | none => c
  | some o =>
    let b := overlay (overlay o.body off d) (if kind = 1 then 64 else 40) (le 4 epoch)
    { c with objs := mset c.objs (objKey kind idx) { o with body := b } }

/-- SUSPEND written in the objects of a mask: 0 suspends, 1 resumes (Table 13-9, Table 14-6). -/
def Com.suspend (c : Com) (kind mask act epoch : Nat) : Com :=
  (List.range (kindCount kind)).foldl (fun c i =>
    if !bit mask i then c
    else c.editObj kind i epoch fun b =>
      let x := u8 b 0
      overlay b 0 (le 1 (if act = 0 then x / 4 * 4 + x % 2 + 2 else x / 4 * 4 + x % 2))) c

/-- ZONE_OVERRIDE's OVMODE and OVEND. [DEDUCED, log 34] -/
def overrideBytes (b p : Bytes) (clock : Nat) : Bytes :=
  let d := u16 p 2
  let min := if d = 0xFFFF then u16 b 52 else d
  overlay (overlay b 56 (slice p 1 1)) 58 (le 4 (if d = 0 then 0 else clock + 60 * min))

/-- MODEL_RESET of one zone (R290); EPOCH_S is that of the last change of ALPHA or BETA (R267). [DEDUCED, log 33] -/
def Com.resetModel (c : Com) (z epoch : Nat) : Com :=
  let c := { c with models := upd c.models z fun _ => {} }
  match c.body 1 z with
  | none => c
  | some b =>
    let ab := modelParams (overlay b 88 (le 8 0))
    let d := wBytes ab.1 ++ wBytes ab.2
    if slice b 88 8 = d then c else c.editStatus 1 z epoch 88 d

/-- PWR_CONFIG committed. -/
def pwrCfgOf (p : Bytes) : PwrCfg := { cls := u8 p 0, blmw := u16 p 1 }

/-- A configuration command committed into the configuration. -/
def setCfg (opc : Nat) (p : Bytes) (c : Cfg) : Cfg :=
  match opc with
  | 0x03 => { c with pwr := pwrCfgOf p }
  | 0x20 => { c with pt := setPtConfig p c.pt }
  | 0x21 => { c with pt := setPtRunning opc p c.pt }
  | 0x22 => { c with pt := setPtRunning opc p c.pt }
  | 0x24 => { c with pt := setPtLinear p c.pt }
  | 0x28 => { c with pt := setHuConfig p c.pt }
  | 0x30 => { c with sar := setSarSeq p c.sar }
  | 0x31 => { c with sar := setSarTrig p c.sar }
  | 0x33 => { c with sar := setSarStarted opc p c.sar }
  | 0x34 => { c with sar := setSarStarted opc p c.sar }
  | 0x38 => { c with pr := setPrConfig p c.pr }
  | 0x39 => { c with pr := setPrWake p c.pr }
  | 0x40 => { c with vl := setVlConfig p c.vl }
  | 0x41 => { c with vl := setVlSet p c.vl }
  | 0x42 => { c with vl := setVlDecay p c.vl }
  | 0x43 => { c with vl := setVlDuty p c.vl }
  | 0x44 => { c with vl := setVlBank p c.vl }
  | 0x50 => { c with ao := setAoConfig p c.ao }
  | 0x52 => { c with fn := setFnConfig p c.fn }
  | 0x54 => { c with fd := setFloatConfig p c.fd }
  | 0x58 => { c with di := setDiConfig p c.di }
  | 0x59 => { c with dout := setDoConfig p c.dout }
  | 0x65 => { c with pub := pubCfgOf p }
  | 0x72 => { c with tz := tzCfgOf p }
  | 0x88 => { c with ilk := setIlk opc p c.ilk }
  | 0x8A => { c with ilk := setIlk opc p c.ilk }
  | 0x8C => { c with ilk := setIlk opc p c.ilk }
  | 0x90 => { c with bus := busCfgOf p }
  | 0xA3 => { c with caller := setCaller p c.caller }
  | 0xC0 => { c with dsp := setDsp opc p c.dsp }
  | 0xC1 => { c with dsp := setDsp opc p c.dsp }
  | 0xC2 => { c with dsp := setDsp opc p c.dsp }
  | 0xC3 => { c with dsp := setDsp opc p c.dsp }
  | 0xC4 => { c with dsp := setDsp opc p c.dsp }
  | 0xD0 => { c with key := setKey opc p c.key }
  | 0xD1 => { c with key := setKey opc p c.key }
  | 0xD2 => { c with key := setKey opc p c.key }
  | 0x1D2 => { c with key := setKey opc p c.key }
  | 0xE1 => { c with therm := thermCfgOf p }
  | _ => c

/-- A command committed: services' objects, key slots, or configuration. [DEDUCED, log 31] -/
def Picture.command (x : Picture) (opc : Nat) (p : Bytes) : Picture :=
  match opc with
  | 0x08 => { x with unit := (setAuthKey opc p x.unit x.com).1, com := (setAuthKey opc p x.unit x.com).2 }
  | 0x09 => { x with unit := (setAuthKey opc p x.unit x.com).1, com := (setAuthKey opc p x.unit x.com).2 }
  | 0x60 => { x with com := (x.com.zonesNamed (u8 p 0)).foldl (fun c z =>
                c.editObj 1 z x.epoch fun b => overlay b 55 (slice p 1 1)) x.com }
  | 0x61 => { x with com := x.com.editObj 1 (u8 p 0) x.epoch fun b => overrideBytes b p x.clock }
  | 0x62 => { x with com := x.com.suspend 2 (u32 p 0) (u8 p 4) x.epoch }
  | 0x64 => { x with com := (if u8 p 0 = 0xFF then List.range 16 else [u8 p 0]).foldl (fun c z => c.resetModel z x.epoch) x.com }
  | 0x70 => { x with com := x.com.suspend 3 (u32 p 0) (u8 p 4) x.epoch }
  | 0x80 => { x with com := x.com.suspend 5 (un p 0 16) (u8 p 16) x.epoch }
  | _ => { x with com := { x.com with cfg := setCfg opc p x.com.cfg } }

/-- The conditional write is refused (R70, R77). [DEDUCED, log 31] -/
def ifEpochFails (epochW ifEpoch : Nat) : Bool :=
  newer epochW ifEpoch || (epochW + 2 ^ 32 - ifEpoch % 2 ^ 32) % 2 ^ 32 == 0x80000000

/-- The picture after a write that a command or a service makes: the objects it changes are noted. -/
def Picture.into (x y : Picture) : Picture :=
  { y with changed := x.changed ++ ((y.com.objs.filter fun e => mget x.com.objs e.1 != some e.2).map (·.1)) }

/-- One write of a unit put into the picture, or refused under R77; a point takes no write of no value (R12).
[DEDUCED, log 31] -/
def Picture.put (x : Picture) (uid : Nat) (w : Write) : Option Picture :=
  match w with
  | .point p v => some (if v = noVal then x else { x with com := x.com.setPoint p v })
  | .obj kind idx ie off d =>
    let key := objKey kind idx
    let old := mget x.com.objs key
    let late := match old with
      | none => false
      | some o => ifEpochFails o.epochW ie
    if ie != 0 && (late || x.changed.contains key) then none
    else
      let b := overlay ((old.map Obj.body).getD (List.replicate (kindSize kind) 0)) off d
      some { x with com := { x.com with objs := mset x.com.objs key { epochW := x.epoch, body := fit (kindSize kind) b } }
                    wrote := x.wrote ++ [(key, uid)], changed := x.changed ++ [key] }
  | .status kind idx off d => some (x.into { x with com := x.com.editStatus kind idx x.epoch off d })
  | .cmd opc p => some (x.into (x.command opc p))
  | .model z m => some { x with com := { x.com with models := upd x.com.models z fun _ => m } }

/-- All writes of a unit, or none of them (R74, R79). -/
def Picture.putAll (x : Picture) (uid : Nat) : List Write → Option Picture
  | [] => some x
  | w :: ws => (x.put uid w).bind fun y => y.putAll uid ws

end Sys2Proof.Machine
end

