-- ==== Sys2Proof/Machine/Pair.lean ====
section
/-! DEFINITION. Paired operation of one unit: roles, leases, vigils, the Minuet link, deltas and copies (R360 to R389). -/

namespace Sys2Proof.Machine

def State.onPair (f : Pair → Pair) (s : State) : State := { s with pair := f s.pair }

/-! ### Roles and leases -/

/-- A role taken, with ROLE_CHANGE where it differs (Table 17-10). -/
def State.setRole (r : Role) (s : State) : State :=
  if s.pair.role == r then s else (s.onPair fun p => { p with role := r }).raise 125

/-- The time left of a lease in a quantum, 0 where none is held (R361). -/
def leaseLeft (l : Option Nat) (t : Nat) : Nat :=
  match l with
  | none => 0
  | some e => timeLeft e t

/-- This unit's place in a verdict entry. -/
def State.unitB (s : State) : Bool := s.pw.strap == 3

/-- SYNCREQ, where the link is up (R382, R383). [DEDUCED, log 75] -/
def State.askSync (s : State) : State :=
  if s.pair.linkUp then s.linkQueue 0x21 (le 4 s.epoch ++ le 2 s.pair.heldTerm) else s

/-- MIRROR_FAULT. -/
def State.mirrorFault (s : State) : State :=
  (s.onPair fun p => { p with mirfaults := satInc p.mirfaults 65535 }).raise 127

/-- An incomplete delta or copy is discarded; the last complete epoch stays (R383). -/
def State.dropAssembly (s : State) : State :=
  if s.pair.inDelta.isNone && s.pair.inCopy.isNone then s
  else ((s.onPair fun p => { p with inDelta := none, inCopy := none, lost := true, mirror := 0 }).mirrorFault).askSync

/-- Leaving ACTIVE or SOLO: groups lost, every write that waits for its epoch or its acknowledgement answered
NOT_ACTIVE, remote records not yet taken discarded (R120), the round's work dropped with what loops keep of it (R375), no valve cycle in progress (R370).
[DEDUCED, log 77] [DEDUCED, log 65] -/
def State.leaveRole (s : State) : State :=
  let lost := s.groups.toList.any Option.isSome
  let gone := s.waits.filter fun w => !w.neverSolo
  let s := { s with
    groups := Vector.replicate 8 none
    staged := s.staged.filter fun w => w.w.anyRole
    waits := s.waits.filter (·.neverSolo)
    svc := { s.svc with
      left := [], workUids := [], pubDue := false
      loop := updAll s.svc.loop fun _ l => { l with cycle := none, skipped := false, badAt := none }
      zone := updAll s.svc.zone fun _ z => { pubTemp := z.pubTemp } }
    rem := { s.rem with box := s.rem.box.filter fun c => c.taken || c.done } }
  let s := s.raiseIf lost 17
  gone.foldl (fun s w => s.post w.org w.tag stNotActive []) s

/-- The pads of a unit that is not active (Table 17-7): valves off with the clamp alone, a decay in progress too, the other outputs
undriven. -/
def State.padsOff (s : State) : State :=
  let s := (List.range 16).foldl (fun s n => if (s.vlCh n).phase == .off && !(s.vlCh n).decaying then s else s.turnOff n (some 3)) s
  s.moveAll

/-- The handover's command, if it waits, is answered. [DEDUCED, log 77] -/
def State.endHandover (status : Nat) (s : State) : State :=
  let c := s.pair.handCmd
  let s := s.onPair fun p => { p with handoverAt := none, handCmd := none }
  match c with
  | none => s
  | some (org, tag) => s.post org tag status []

/-- STANDBY, with the mirror not synchronised (R371, R382). [DEDUCED, log 76] -/
def State.becomeStandby (s : State) : State :=
  let s := s.onPair fun p => { p with
    mirror := 0, readyRaised := false, copyReq := false, copyEpoch := none, deltas := [], unacked := [], copied := false, lost := false
    takeDue := none, releaseDue := none, pLease := none }
  (s.setRole .standby).askSync

/-- LEASE_LAPSE: the first quantum in which neither lease is valid (R361). [DEDUCED, log 77] -/
def execLeaseLapse (s : State) : Out :=
  if !s.paired || !s.acting || !s.awake then .next s
  else
    let c := leaseLeft s.pair.cLease s.tb
    let p := leaseLeft s.pair.pLease s.tb
    let s := s.pass (max c p)
    let s := s.onPair fun p => { p with cLease := none, pLease := none, mirror := 0, releaseDue := none, copyReq := false,
                                        copyEpoch := none, unacked := [], deltas := [] }
    let s := ((s.setRole .candidate).leaveRole).endHandover stNotActive
    .next (latchHold s s.padsOff)

/-! ### Verdicts (R364, R370, R371) -/

/-- The entry of a verdict that concerns this unit: its offset (R364). [DEDUCED, log 74] -/
def State.verdictAt (s : State) (d : Bytes) : Option Nat :=
  let own := low s.unit.serial.toNat 32
  let partner := low s.pair.pserial 32
  (List.range 4).map (fun p => 4 + 15 * p) |>.find? fun o =>
    let me := u32 d (if s.unitB then o + 4 else o)
    let other := u32 d (if s.unitB then o else o + 4)
    me == own && (s.pair.pserial == 0 || other == partner) && !termNewer s.unit.term (u16 d (o + 9))

/-- The verdict passes the checks on its sender (R364). -/
def State.callerOk (s : State) (f : Frame) : Bool :=
  let k := frameKey f
  if s.unit.pair.ckey != 0 then k == s.unit.pair.ckey else s.pair.ckey == 0 || k == s.pair.ckey

/-- An accepted entry acted on. [DEDUCED, log 74] [DEDUCED, log 75] -/
def State.takeVerdict (f : Frame) (o : Nat) (s : State) : State :=
  let d := f.data
  let fl := u8 d (o + 8)
  let term := u16 d (o + 9)
  let held := s.unit.term
  let fresh := termNewerOr term held
  let named := !bit fl 1
  let me := named && bit fl 0 == s.unitB
  let s := if fresh && term != s.unit.term then s.writeUnit 7 { s.unit with term := term } else s
  let s := s.onPair fun p => { p with ckey := if p.ckey = 0 then frameKey f else p.ckey, epochHi := u32 d (o + 11) }
  if me then
    let s := if bit fl 2 then s.onPair fun p => { p with cLease := some (tbAdd s.tb 40000) } else s
    if s.acting || !fresh then s
    else
      let s := s.onPair fun p => { p with takeDue := some (tbAdd s.tb 100) }
      let s := if s.pair.linkUp then s.linkQueue 0x03 (le 2 term) else s
      s.dropAssembly
  else if !named then s
  else if s.acting then (if fresh then s.onPair fun p => { p with releaseDue := some (tbAdd s.tb 100) } else s)
  else
    let s := s.onPair fun p => { p with takeDue := none, readyRaised := p.readyRaised && !(fresh && term != held) }
    if s.pair.role == .standby then s else s.becomeStandby

/-- VERDICT_FRAME; one that fails a check is ignored (R364). -/
def execVerdictFrame (f : Frame) (s : State) : Out :=
  if !s.frameArrives || !s.paired || !supervision f 0 64 || !s.callerOk f then .next s
  else
    match s.verdictAt f.data with
    | none => .next s
    | some o => .next (s.takeVerdict f o)

/-- TAKEOVER_QUANTUM: 100 µs after the verdict (R370, Table 17-5); a full copy goes to the standby newly named (R381). -/
def execTakeoverQuantum (s : State) : Out :=
  match s.pair.takeDue with
  | none => .next s
  | some t =>
    if !s.paired || s.acting || !s.awake then .next s
    else
      let s := s.jump t
      let s := s.onPair fun p => { p with
        takeDue := none, bump := true, readyRaised := false, acked := s.epoch, unacked := [], deltas := [], copyEpoch := none
        copyReq := true, copied := false, lost := false, pLease := none, takeovers := satInc p.takeovers 65535 }
      let s := s.setRole (if s.pair.mirror = 2 then .active else .solo)
      let s := s.unsureDrives fun k => (s.fdConf k).en
      let s := s.settleAll
      .next (latchHold s ((List.range 8).foldl (fun s k => if (s.fdConf k).en then s.steer k else s) s))

/-- ROLE_RELEASE: 100 µs after the newer verdict or TAKEOVER (R371, R374, R375). -/
def execRoleRelease (s : State) : Out :=
  match s.pair.releaseDue with
  | none => .next s
  | some t =>
    if !s.paired || !s.acting || !s.awake then .next s
    else
      let s := s.jump t
      let hand := if s.pair.handoverAt.isSome then stOk else stNotActive
      let s := ((s.becomeStandby).leaveRole).endHandover hand
      .next (latchHold s s.padsOff)

/-- HANDOVER_TIMEOUT: the role has not passed within 200 ms (R374). -/
def execHandoverTimeout (s : State) : Out :=
  match s.pair.handoverAt with
  | none => .next s
  | some t => .next ((s.jump (tbAdd t 200000)).endHandover stBusy)

/-! ### Vigils (R363, Table 17-2) -/

/-- The role's code. -/
def Role.code : Role → Nat
  | .candidate => 0
  | .active => 1
  | .standby => 2
  | .solo => 3

/-- The vigil slot composes the vigil itself: no content posted for 2 beats, a restart, a lockstep mismatch since the last vigil, or
a thermal shutdown (R18, R363). -/
def State.faultVigil (s : State) : Bool :=
  s.mgmt.restarting || s.mgmt.vigilFault.isSome || s.hk.shut || tbSub s.tb s.pair.postedAt ≥ 20000

/-- The vigil of this beat. -/
def State.vigil (s : State) : Frame :=
  let p := s.pair
  let grants := if s.acting then leaseLeft p.pLease s.tb > 0 else p.role == .standby && p.linkUp && p.takeDue.isNone
  let flags := b2n p.linkUp + 2 * b2n (p.mirror == 2) + 4 * b2n p.handoverAt.isSome + 8 * b2n s.unitB + 16 * b2n grants
  { ide := true, id := frameId 1 0 s.unit.serial.toNat, fdf := true, brs := true
    data := [0x01] ++ le 1 (if s.faultVigil then 4 else p.role.code) ++ le 1 flags ++ le 1 p.useq ++ le 2 s.unit.term ++ le 2 0 ++
      le 8 s.unit.serial.toNat ++ le 4 s.epoch ++ le 4 (if s.acting then p.acked else if p.role == .standby then s.epoch else 0) }

/-- VIGIL_LOAD: 100 µs after a beat boundary, from the first one after the controller has integrated (R363). A lockstep mismatch
makes the vigil of the next beat a FAULT vigil, whenever in its own beat it came (R18). -/
def execVigilLoad (s : State) : Out :=
  if !s.paired || !s.awake || !s.bus.vigilOn || !s.slotLoads then .next s
  else
    let s := s.jump (tbAdd s.beatAt 100)
    let t := s.loadVigilSlot s.vigil
    .next (if s.mgmt.vigilFault = some s.beatAt then t else { t with mgmt := { t.mgmt with vigilFault := none } })

/-! ### The Minuet link (R376, R377) -/

/-- MINUET_LINK_SEND: every 1 ms. [DESIGN CHOICE, log 62] -/
def execMinuetLinkSend (s : State) : Out :=
  if !s.linkRuns then .next s
  else
    let s := s.onPair fun p => { p with linkOut := p.linkOut.drop (p.linkOut.length - s.linkWaits) }
    .next (s.linkQueue 0x01 (le 8 s.unit.serial.toNat ++ le 1 s.pw.strap ++ le 2 s.unit.term ++ le 4 s.epoch))

/-- The link comes up: PSERIAL, and what a unit asks or owes its partner (R377, R380, R382). [DEDUCED, log 75] -/
def State.linkComesUp (serial : Nat) (s : State) : State :=
  let s := s.onPair fun p => { p with linkUp := true, pserial := if p.pserial = 0 then serial else p.pserial }
  if s.pair.role == .standby then s.askSync
  else if s.acting && s.pair.mirror = 3 then s.onPair fun p => { p with copyReq := true }
  else s

/-- MINUET_LINK_FRAME: up after 3 LINK frames of a unit with the other strap. -/
def execMinuetLinkFrame (lf : LinkFrame) (s : State) : Out :=
  match s.linkHeard lf with
  | none => .next s
  | some s =>
    if lf.typ != 1 || lf.payload.length != 15 || u8 lf.payload 8 + s.pw.strap != 5 then .next s
    else
      let s := s.onPair fun p => { p with linkGood := satInc p.linkGood 3 }
      .next (if s.pair.linkGood ≥ 3 && !s.pair.linkUp then s.linkComesUp (un lf.payload 0 8) else s)

/-- MINUET_LINK_DOWN: 3 ms without a valid frame; a mirror that was synchronised is broken, and the next synchronised one is
that of a role newly taken (R377, R382, R383). [DEDUCED, log 75] -/
def execMinuetLinkDown (s : State) : Out :=
  if !s.pair.linkUp then .next s
  else
    let s := s.jump (tbAdd s.pair.linkAt 3000)
    let s := (s.onPair fun p => { p with
      linkUp := false, linkGood := 0, copyEpoch := none, copied := false, readyRaised := false
      mirror := if s.acting then (if p.mirror = 0 then 0 else 3) else 0 }).raise 126
    let s := s.dropAssembly.onPair fun p => { p with lost := false }
    .next (if s.pair.role == .active then s.setRole .solo else s)

/-- LEASE_FRAME (R361). [DEDUCED, log 74] -/
def execLeaseFrame (lf : LinkFrame) (s : State) : Out :=
  match s.linkHeard lf with
  | none => .next s
  | some s =>
    if lf.typ != 2 || lf.payload.length != 2 || !s.acting then .next s
    else .next (s.onPair fun p => { p with pLease := some (tbAdd s.tb 39800) })

/-- TAKEOVER_FRAME (R371). [DEDUCED, log 74] -/
def execTakeoverFrame (lf : LinkFrame) (s : State) : Out :=
  match s.linkHeard lf with
  | none => .next s
  | some s =>
    if lf.typ != 3 || lf.payload.length != 2 || !s.acting || !termNewerOr (u16 lf.payload 0) s.unit.term then .next s
    else .next (s.onPair fun p => { p with releaseDue := some (p.releaseDue.getD (tbAdd s.tb 100)) })

/-! ### Deltas and copies, as the active sends them (R378, R381) -/

/-- One record of a delta. -/
def record (kind idx off : Nat) (data : Bytes) : Bytes := le 1 kind ++ le 2 idx ++ le 2 off ++ le 2 data.length ++ data

/-- The driven points whose committed value differs. -/
def changedPoints (a b : Com) : List Nat :=
  ((List.range 0x88).filter fun p => isAO p || isFN p || isDO p) ++ ((a.vp ++ b.vp).map (·.1)).eraseDups |>.filter
    fun p => a.getPoint p != b.getPoint p

/-- The latched value of a measured point. -/
def Latched.get (l : Latched) (p : Nat) : W32 :=
  if isPT p then nth l.pt p noVal
  else if isHU p then nth l.hu (p - 0x10) noVal
  else if isPR p then nth l.pr (p - 0x20) noVal
  else if isHK p then nth l.hk (p - 0x30) noVal
  else if isVL p then nth l.vl (p - 0x40) noVal
  else if isDI p then nth l.di (p - 0x70) noVal
  else noVal

/-- The latched value of a measured point set. -/
def Latched.set (l : Latched) (p : Nat) (v : W32) : Latched :=
  if isPT p then { l with pt := upd l.pt p fun _ => v }
  else if isHU p then { l with hu := upd l.hu (p - 0x10) fun _ => v }
  else if isPR p then { l with pr := upd l.pr (p - 0x20) fun _ => v }
  else if isHK p then { l with hk := upd l.hk (p - 0x30) fun _ => v }
  else if isVL p then { l with vl := upd l.vl (p - 0x40) fun _ => v }
  else if isDI p then { l with di := upd l.di (p - 0x70) fun _ => v }
  else l

/-- What the epoch now held carries. -/
def State.held (s : State) : Held := { com := s.com, latched := s.latched, keys := s.unit.keys, rtc := s.cal.carried }

/-- The KIND of a record of what is no item of Table 04-1: 0 a configuration command as committed, 1 a key slot, 2 its running
counter, 3 a rule's service state, 4 a zone's model, 5 the whole configuration in a full copy. Which codes these are is not
given: each part has one of its own, a free value. [DESIGN CHOICE, log 13] -/
def partKind (part : Nat) : Nat := 8 + 8 * (Config.kindBase % 31) + part

/-- The DATA of a key slot's record, empty for a cleared slot (R115). [DESIGN CHOICE, log 13] -/
def keySlotBytes (k : Option KeySlot) : Bytes :=
  match k with
  | none => []
  | some k => fit 32 k.key ++ le 2 k.mask.toNat ++ le 4 k.cnt0 ++ le 2 k.fails ++ le 1 (b2n k.exhausted)

/-- The key slot of a record. -/
def keySlotOf (d : Bytes) : Option KeySlot :=
  if d.isEmpty then none
  else some { key := slice d 0 32, mask := BitVec.ofNat 16 (u16 d 32), cnt0 := u32 d 34, fails := u16 d 38, exhausted := u8 d 40 = 1 }

/-- The DATA of a rule's record, empty for a rule without service state. [DESIGN CHOICE, log 13] -/
def ruleBytes (r : Option RuleRun) : Bytes :=
  match r with
  | none => []
  | some r => le 1 (b2n r.comp + 2 * b2n r.cond + 4 * b2n r.result + 8 * b2n r.invalid + 16 * (r.state % 4)) ++ le 4 r.cnt ++ wBytes r.a ++ wBytes r.b ++
      wBytes r.lastchg ++ wBytes r.writes

/-- A rule's service state from its record. -/
def ruleOf (d : Bytes) : RuleRun :=
  { state := u8 d 0 / 16 % 4, comp := bit (u8 d 0) 0, cond := bit (u8 d 0) 1, result := bit (u8 d 0) 2, invalid := bit (u8 d 0) 3, cnt := u32 d 1
    a := w32 d 5, b := w32 d 9, lastchg := w32 d 13, writes := w32 d 17 }

/-- A command's PARAMS are a part of the configuration, or an RTC_SET, that a standby takes with the epoch (R135, R378). Objects
and key slots go as their own records. -/
def mirroredCmd (opc : Nat) : Bool := !([0x08, 0x09, 0x60, 0x61, 0x62, 0x64, 0x70, 0x80, 0xA1].contains opc)

/-- The records of committed configuration commands. -/
def cmdRecords (ws : List Write) : Bytes :=
  ws.flatMap fun w => match w with
    | .cmd opc p => if mirroredCmd opc then record (partKind 0) opc 0 p else []
    | .point _ _ => []
    | .obj _ _ _ _ _ => []
    | .status _ _ _ _ => []
    | .model _ _ => []

/-- The records of changed service state: key slots, their counters, rules, zone models (R115, R378, R399). -/
def serviceRecords (a b : Held) : Bytes :=
  ((List.range 8).filter fun i => nth a.keys i none != nth b.keys i none).flatMap (fun i =>
    record (partKind 1) i 0 (keySlotBytes (nth b.keys i none))) ++
  ((List.range 8).filter fun i => nth a.com.keyCnt i 0 != nth b.com.keyCnt i 0).flatMap (fun i =>
    record (partKind 2) i 0 (le 4 (nth b.com.keyCnt i 0))) ++
  ((List.range 128).filter fun i => mget a.com.rules i != mget b.com.rules i).flatMap (fun i =>
    record (partKind 3) i 0 (ruleBytes (mget b.com.rules i))) ++
  ((List.range 16).filter fun i => nth a.com.models i {} != nth b.com.models i {}).flatMap (fun i =>
    record (partKind 4) i 0 (Config.modelBytes (nth b.com.models i {})))

/-- The records of an epoch: changed points, changed objects as their snapshot DATA (EPOCH_W, then the body), then
configuration and services. -/
def deltaBytes (a b : Held) (ws : List Write) : Bytes :=
  (measuredPoints.filter fun p => a.latched.get p != b.latched.get p).flatMap (fun p => record 0 p 0 (wBytes (b.latched.get p))) ++
  (changedPoints a.com b.com).flatMap (fun p => record 0 p 0 (wBytes (b.com.getPoint p))) ++
  (b.com.objs.filter fun e => mget a.com.objs e.1 != some e.2).flatMap (fun e =>
    record (e.1 / 65536) (e.1 % 65536) 0 (le 4 e.2.epochW ++ e.2.body)) ++
  cmdRecords ws ++ serviceRecords a b

/-- The bytes of a full copy: every part that differs from an empty state, and the whole configuration (R381).
[DESIGN CHOICE, log 13] -/
def copyBytes (h : Held) : Bytes := deltaBytes {} h [] ++ record (partKind 5) 0 0 (Config.cfgBytes h.com.cfg)

/-- A head, its blocks of 506 bytes, and a trailer (Table 17-6); typ is that of the head. -/
def State.sendBlocks (typ epoch prev : Nat) (data : Bytes) (s : State) : State :=
  let n := (data.length + 505) / 506
  let s := s.linkQueue typ (le 4 epoch ++ le 4 prev ++ le 2 n ++ le 4 data.length)
  let s := (List.range n).foldl (fun s i => s.linkQueue (typ + 1) (le 4 epoch ++ le 2 i ++ slice data (506 * i) 506)) s
  s.linkQueue (typ + 2) (le 4 epoch ++ le 2 n ++ le 4 data.length ++ le 4 (crc32 data))

/-- The blocks of a full copy of the epoch current now (R381). -/
def State.sendCopy (s : State) : State := s.sendBlocks 0x18 s.epoch 0 (copyBytes s.held)

/-- A full copy of the epoch current now starts; until its acknowledgement the mirror is not synchronised (R381, R382).
[DEDUCED, log 75] -/
def State.startCopy (s : State) : State :=
  let s := s.onPair fun p => { p with
    copyReq := false, copyEpoch := some s.epoch, mirror := 1
    copyCommit := (p.lastCommit.filter fun c => c.1 == s.epoch).map (·.2) }
  let s := if s.pair.role == .active then s.setRole .solo else s
  s.sendCopy

/-- The delta of the epoch just committed: sent and kept, or replaced by a full copy of it, which leaves the mirror synchronised as long as
it is acknowledged in time (R378, R380 to R382).
[DEDUCED, log 75] -/
def State.sendDelta (old : Held) (prev : Nat) (ws : List Write) (s : State) : State :=
  let d := deltaBytes old s.held ws
  let rec_ : Delta := { epoch := s.epoch, prev := prev, data := d, full := d.length > 61440 }
  let s := s.onPair fun p => { p with
    deltas := (p.deltas ++ [rec_]).drop ((p.deltas.length + 1) - 8)
    unacked := if p.mirror = 1 || p.mirror = 2 then p.unacked ++ [(s.epoch, s.tb)] else p.unacked }
  if !s.pair.linkUp then s
  else if s.pair.copyReq then s.startCopy
  else if rec_.full then s.sendCopy
  else s.sendBlocks 0x10 s.epoch prev d

/-- SYNCREQ_FRAME: the deltas after HELD again, or a full copy at the next beat boundary (R382). HELD of another term is that of a unit
that has newly become the standby: PAIR_READY is raised again once it is synchronised. [DEDUCED, log 75] -/
def execSyncreqFrame (lf : LinkFrame) (s : State) : Out :=
  match s.linkHeard lf with
  | none => .next s
  | some s =>
    if lf.typ != 0x21 || lf.payload.length != 6 || !s.acting then .next s
    else
      let held := u32 lf.payload 0
      let s := if u16 lf.payload 4 = s.unit.term then s else s.onPair fun p => { p with readyRaised := false }
      let later := (s.pair.deltas.dropWhile fun d => d.epoch != held).drop 1
      if u16 lf.payload 4 = s.unit.term && s.pair.deltas.any (fun d => d.epoch == held) && !later.any (·.full) then
        .next (later.foldl (fun s d => s.sendBlocks 0x10 d.epoch d.prev d.data) s)
      else .next (s.onPair fun p => { p with copyReq := true })

/-- Replies to writes of acknowledged epochs, OK (R380); FAULT where the epoch could not be persisted here (R402). -/
def State.postAcked (e : Nat) (s : State) : State :=
  let isIn := fun (w : Waiting) => match w.epoch with
    | none => false
    | some x => x == e || newer e x
  let ws := s.waits.filter isIn
  let s := { s with waits := s.waits.filter fun w => !isIn w }
  ws.foldl (fun s w =>
    if w.fault then s.post w.org w.tag stFault [] else s.postAt w.org w.tag stOk (w.epoch.getD e) w.results) s

/-- ACK_FRAME (R380, R382). [DEDUCED, log 75] -/
def execAckFrame (lf : LinkFrame) (s : State) : Out :=
  match s.linkHeard lf with
  | none => .next s
  | some s =>
    let e := u32 lf.payload 0
    let done := match s.pair.copyEpoch with
      | none => false
      | some c => c == e || newer e c
    if lf.typ != 0x20 || lf.payload.length != 4 || !s.acting || !(done || s.pair.mirror = 2) then .next s
    else
      let mine := s.pair.unacked.find? fun u => u.1 == e
      let s := s.onPair fun p => { p with
        acked := e
        unacked := p.unacked.filter fun u => newer u.1 e
        lastAck := match mine with
          | none => if p.copyEpoch = some e then (p.copyCommit.map fun q => tbSub s.tb q).getD p.lastAck else p.lastAck
          | some u => tbSub s.tb u.2
        copyEpoch := if done then none else p.copyEpoch
        mirror := if done then 2 else p.mirror }
      let s := if done then s.setRole .active else s
      let first := done && !s.pair.readyRaised
      let s := (s.onPair fun p => { p with readyRaised := p.readyRaised || done }).raiseIf first 124
      .next (s.postAcked e)

/-- ACK_TIMEOUT: ACKTO after the commit of the oldest epoch not acknowledged (R380). [DEDUCED, log 75] -/
def execAckTimeout (s : State) : Out :=
  match s.pair.unacked with
  | [] => .next s
  | u :: _ =>
    if !s.acting || !s.awake then .next s
    else
      let s := s.jump (tbAdd u.2 (10000 * s.unit.pair.ackto))
      let s := (s.onPair fun p => { p with mirror := 3, unacked := [], copyEpoch := none, copyReq := true }).mirrorFault
      let s := s.setRole .solo
      let isIn := fun (w : Waiting) => match w.epoch with
        | none => false
        | some x => x == u.1 || newer x u.1
      let ws := s.waits.filter isIn
      let s := { s with waits := s.waits.filter fun w => !isIn w }
      .next (ws.foldl (fun s w =>
        if w.fault then s.post w.org w.tag stFault [] else s.postAt w.org w.tag stSolo (w.epoch.getD s.epoch) w.results) s)

/-! ### Deltas and copies, as the standby takes them (R379, R381, R383) -/

/-- One record applied. [DEDUCED, log 75] -/
def applyRec (kind idx off : Nat) (d : Bytes) (epoch : Nat) (x : Held) : Held :=
  if kind = 0 then
    if measuredPoints.contains idx then { x with latched := x.latched.set idx (w32 d 0) }
    else { x with com := x.com.setPoint idx (w32 d 0) }
  else if kind ≤ 7 then
    let key := objKey kind idx
    let old := (mget x.com.objs key).getD { epochW := epoch, body := List.replicate (kindSize kind) 0 }
    let b := overlay (le 4 old.epochW ++ old.body) off d
    { x with com := { x.com with objs := mset x.com.objs key { epochW := u32 b 0, body := fit (kindSize kind) (b.drop 4) } } }
  else if kind = partKind 0 then
    if idx = 0x0C then { x with rtc := (epoch, (if x.rtc.1 = epoch then x.rtc.2 else []) ++ [rtcActOf d]) }
    else { x with com := { x.com with cfg := setCfg idx d x.com.cfg }, arms := if idx = 0x8A then x.arms ++ [d] else x.arms }
  else if kind = partKind 1 then { x with keys := upd x.keys idx fun _ => keySlotOf d }
  else if kind = partKind 2 then { x with com := { x.com with keyCnt := upd x.com.keyCnt idx fun _ => u32 d 0 } }
  else if kind = partKind 3 then
    { x with com := { x.com with rules := if d.isEmpty then mdel x.com.rules idx else mset x.com.rules idx (ruleOf d) } }
  else if kind = partKind 4 then { x with com := { x.com with models := upd x.com.models idx fun _ => Config.modelOf d } }
  else if kind = partKind 5 then { x with com := { x.com with cfg := Config.cfgOf d } }
  else x

/-- The records of a delta in order; n bounds their number. -/
def applyRecs : Nat → Nat → Bytes → Held → Held
  | 0, _, _, x => x
  | n + 1, epoch, bs, x =>
    if bs.length < 7 then x
    else
      let len := u16 bs 5
      applyRecs n epoch (bs.drop (7 + len)) (applyRec (u8 bs 0) (u16 bs 1) (u16 bs 3) (slice bs 7 len) epoch x)

/-- What the bytes of a full copy carry (R381). -/
def copyHeld (epoch : Nat) (data : Bytes) : Held := applyRecs data.length epoch data {}

/-- A complete delta or copy taken in one quantum, its key slots into this unit's own unit area (R379, R403); the RTC_SETs
of that epoch act here at the next round boundary (R135). What its ILK_ARMs clear is cleared here too (R311). TBC stays that of this
unit's own last commit: the spec gives a standby none with the epoch (R86). [DESIGN CHOICE, log 44] [DESIGN CHOICE, log 104] -/
def State.takeEpoch (e : Nat) (x : Held) (s : State) : State :=
  let acts := if x.rtc.1 = e then x.rtc.2 else []
  let s := { s with cal := { s.cal with pending := s.cal.pending ++ acts, carried := x.rtc } }
  let s := { s with latched := x.latched, epoch := e }
  let s := if x.keys = s.unit.keys then s else s.writeUnit 4 { s.unit with keys := x.keys }
  let s := s.onPair fun p => { p with heldTerm := s.unit.term, inDelta := none, inCopy := none }
  let s := s.adopt x.com
  x.arms.foldl (fun s p => s.applyIlk 0x8A p) s

/-- What fails an assembly: it is discarded once; the frames that follow of one already discarded change nothing more; one of which the
head did not come is asked for (R383). [DEDUCED, log 75] -/
def State.failAssembly (s : State) : State :=
  if s.pair.inDelta.isSome || s.pair.inCopy.isSome then s.dropAssembly
  else if s.pair.lost then s
  else ((s.onPair fun p => { p with mirror := 0, lost := true }).mirrorFault).askSync

/-- One frame of an assembly: a head begins one, a block must be the next, a trailer completes it. none where it fails. -/
def Assembly.step (a : Option Assembly) (kind : Nat) (d : Bytes) : Option (Assembly × Bool) :=
  if kind = 0 then
    (if a.isSome || d.length != 14 then none
     else some ({ epoch := u32 d 0, prev := u32 d 4, nblk := u16 d 8, bytes := u32 d 10 }, false))
  else
    match a with
    | none => none
    | some a =>
      if u32 d 0 != a.epoch then none
      else if kind = 1 then
        (if u16 d 4 != a.next || a.next ≥ a.nblk || d.length < 6 then none
         else some ({ a with next := a.next + 1, data := a.data ++ d.drop 6 }, false))
      else if d.length = 14 && u16 d 4 = a.nblk && a.next = a.nblk && u32 d 6 = a.bytes && a.data.length = a.bytes &&
          u32 d 10 = crc32 a.data then some (a, true)
      else none

/-- DELTA_FRAME: DHEAD, DBLOCK or DTRAIL (R379); a mirror once synchronised by a full copy is so again with the deltas resent (R382). -/
def execDeltaFrame (lf : LinkFrame) (s : State) : Out :=
  match s.linkHeard lf with
  | none => .next s
  | some s =>
    let e := u32 lf.payload 0
    let s := if lf.typ = 0x10 then s.onPair fun p =>
        { p with hdrEpoch := if p.hdrEpoch = 0 || newer e p.hdrEpoch then e else p.hdrEpoch } else s
    if s.pair.role != .standby || lf.typ < 0x10 || lf.typ > 0x12 then .next s
    else
      match Assembly.step s.pair.inDelta (lf.typ - 0x10) lf.payload with
      | none =>
        let s := s.failAssembly
        (match (if lf.typ = 0x10 then Assembly.step none 0 lf.payload else none) with
         | some (a, _) => .next (s.onPair fun p => { p with inDelta := some a, lost := false })
         | none => .next s)
      | some (a, false) => .next (s.onPair fun p => { p with inDelta := some a, lost := false })
      | some (a, true) =>
        if a.prev != s.epoch then .next s.failAssembly
        else
          let s := s.takeEpoch a.epoch (applyRecs a.data.length a.epoch a.data s.held)
          let s := s.onPair fun p => { p with mirror := if p.copied then 2 else p.mirror }
          let p := s.persistSoon a.epoch false true
          .next (if p.2 && !s.pw.pfw then p.1.linkQueue 0x20 (le 4 a.epoch) else p.1)

/-- COPY_FRAME: CHEAD, CBLOCK or CTRAIL; from its head on the area that takes it has no valid header, and a valid copy goes to the area that does not hold the last complete epoch and makes
it current; a standby in step stays so (R381, R382, R401). [DEDUCED, log 75] -/
def execCopyFrame (lf : LinkFrame) (s : State) : Out :=
  match s.linkHeard lf with
  | none => .next s
  | some s =>
    if s.pair.role != .standby || lf.typ < 0x18 || lf.typ > 0x1A then .next s
    else
      match Assembly.step s.pair.inCopy (lf.typ - 0x18) lf.payload with
      | none =>
        let s := s.failAssembly
        (match (if lf.typ = 0x18 then Assembly.step none 0 lf.payload else none) with
         | some (a, _) => .next (s.beginCopy.onPair fun p => { p with inCopy := some a, mirror := if p.mirror = 2 then 2 else 1, lost := false })
         | none => .next s)
      | some (a, false) =>
        let s := if lf.typ = 0x18 then s.beginCopy else s
        .next (s.onPair fun p => { p with inCopy := some a, mirror := if p.mirror = 2 then 2 else 1, lost := false })
      | some (a, true) =>
        let s := s.takeEpoch a.epoch (copyHeld a.epoch a.data)
        let p := s.persistSoon a.epoch true true
        let s := p.1
        if !p.2 then .next s
        else
          let first := !s.pair.readyRaised
          let s := (s.onPair fun p => { p with mirror := 2, copied := true, readyRaised := true }).raiseIf first 124
          .next (if s.pw.pfw then s else s.linkQueue 0x20 (le 4 a.epoch))

/-! ### Commands (Table 17-9) -/

/-- PAIR_STATUS. -/
def cmdPairStatus (_c : Ctx) (s : State) : State × Ans :=
  let p := s.pair
  let cl := leaseLeft p.cLease s.tb
  let pl := leaseLeft p.pLease s.tb
  let grants := if s.acting then pl > 0 else p.role == .standby && p.linkUp && p.takeDue.isNone
  let link := b2n p.linkUp + 2 * b2n (decide (cl > 0)) + 4 * b2n grants + 8 * b2n p.handoverAt.isSome
  let key := if s.unit.pair.ckey != 0 then s.unit.pair.ckey else p.ckey
  (s, .now stOk (le 1 p.role.code ++ le 1 p.mirror ++ le 1 link ++ le 2 s.unit.term ++ le 4 cl ++ le 4 pl ++ le 4 s.epoch ++
    le 4 (if s.acting then p.acked else if p.role == .standby then s.epoch else 0) ++ le 8 p.pserial ++ le 4 key ++
    le 2 p.takeovers ++ le 2 p.mirfaults ++ le 4 p.lastAck))

/-- PAIR_CONFIG: accepted in every role, persisted in this unit alone, never SOLO. -/
def cmdPairConfig (c : Ctx) (s : State) : State × Ans :=
  let p := c.p
  guarded
    [(u8 p 0 < 2 || u8 p 0 > 20, badParam 0), (u8 p 1 > 1, badParam 1), (u32 p 2 > 0xFFFFF, badParam 2),
     (s.stageFull 1, refused stBusy)] s
    (s, .commit [.cmd 0xA1 p] [])

/-- PAIR_HANDOVER (R374). [DEDUCED, log 77] -/
def cmdPairHandover (c : Ctx) (s : State) : State × Ans :=
  guarded [(!s.acting, refused stNotActive), (s.pair.role == .solo, refused stConflict)] s
    ((s.skipLoops s.svc.left).onPair fun p => { p with handoverAt := some s.tb, handCmd := some (c.org, c.tag) }, .later 4)

end Sys2Proof.Machine
end

