-- ==== Sys2Proof/Machine/Commit.lean ====
section
/-! DEFINITION. The beat boundary: latching, the commit of what was staged, the epoch, and what follows it (R14, R16, R66, R68 to
R80, R378, R399, R482). -/

namespace Sys2Proof.Machine

/-! ### The units of a boundary (R73, R79, R271) -/

/-- The staged units in order, each with its writes. -/
def unitsOf (ws : List Staged) : List (Nat × List Write) :=
  (ws.map (·.uid)).eraseDups.map fun u => (u, (ws.filter fun w => w.uid == u).map (·.w))

/-- Every unit but those excluded put into the picture; the units refused. -/
def putUnits (excl : List Nat) (us : List (Nat × List Write)) (x : Picture) : Picture × List Nat :=
  us.foldl (fun acc u =>
    if excl.contains u.1 then acc
    else match acc.1.putAll u.1 u.2 with
      | none => (acc.1, acc.2 ++ [u.1])
      | some y => (y, acc.2)) (x, [])

/-- The units whose objects the commit-time checks refuse in the picture all units lead to (R271, R275, R284, R307, R347).
[DEDUCED, log 30] -/
def Picture.badUnits (x : Picture) : List Nat :=
  ((x.wrote.filter fun e =>
    match mget x.com.objs e.1 with
    | none => false
    | some o => !checkObj x.com (e.1 / 65536) (e.1 % 65536) o.body).map (·.2)).eraseDups

/-- The picture once no unit is refused any more: refused units are left out and the others judged anew; n bounds the
rounds. [DEDUCED, log 30] -/
def settleUnits : Nat → List Nat → List (Nat × List Write) → Picture → Picture × List Nat
  | 0, excl, us, x => ((putUnits excl us x).1, excl ++ (putUnits excl us x).2)
  | n + 1, excl, us, x =>
    let r := putUnits excl us x
    let bad := r.1.badUnits
    if bad.isEmpty then (r.1, excl ++ r.2) else settleUnits n (excl ++ bad) us x

/-- Driven points of channels enabled or disabled (R66). -/
def Com.fillPoints (c : Com) : Com :=
  let f := fun (en : Bool) (v : W32) => if !en then noVal else if v = noVal then 0#32 else v
  { c with
    ao := updAll c.ao fun n v => f (nth c.cfg.ao n {}).en v
    fn := updAll c.fn fun n v => f (nth c.cfg.fn n {}).en v
    dout := updAll c.dout fun n v => f (nth c.cfg.dout n {}).en v }

/-! ### Latching (R16) -/

/-- A commit changes a measured channel so that its point must wait for a new result. -/
def reconfigured (a b : Cfg) (p : Nat) : Bool :=
  if isPT p then a.pt.chDiffers b.pt p
  else if isHU p then nth a.pt.hu (p - 0x10) {} != nth b.pt.hu (p - 0x10) {}
  else if isPR p then
    let key := fun (k : PrChCfg) => (k.load, k.gain, k.en, k.wen, k.wth)
    key (nth a.pr.chans (p - 0x20) {}) != key (nth b.pr.chans (p - 0x20) {})
  else if isVL p then (nth a.vl.chans (p - 0x40) {}).en != (nth b.vl.chans (p - 0x40) {}).en
  else if isDI p then (nth a.di (p - 0x70) {}).en != (nth b.di (p - 0x70) {}).en
  else false

/-- The measured points as this boundary leaves them. -/
def State.latchAll (s : State) (new : Cfg) : Latched :=
  let f := fun (p : Nat) => if reconfigured s.com.cfg new p then noVal else s.latchOf p
  { pt := Vector.ofFn fun i => f i.val
    hu := Vector.ofFn fun i => f (0x10 + i.val)
    pr := Vector.ofFn fun i => f (0x20 + i.val)
    hk := Vector.ofFn fun i => f (0x30 + i.val)
    vl := Vector.ofFn fun i => f (0x40 + i.val)
    di := Vector.ofFn fun i => f (0x70 + i.val) }

/-! ### The commit (R68, R71, R373) -/

/-- An epoch 16 after another, 0 left out (R68, R373). -/
def epochPlus16 (e : Nat) : Nat := if e + 16 ≥ 2 ^ 32 then e + 17 - 2 ^ 32 else e + 16

/-- The number the next commit takes. -/
def State.nextEpoch (s : State) : Nat :=
  if !s.pair.bump then epochSucc s.epoch
  else
    let m := fun (a b : Nat) => if b != 0 && (a = 0 || newer b a) then b else a
    epochPlus16 (m (m s.epoch s.pair.epochHi) s.pair.hdrEpoch)

/-- The calendar at the apply quantum of this boundary. [DESIGN CHOICE, log 16] [DEDUCED, log 34] -/
def State.applyClock (s : State) : Nat :=
  if s.tb % 1000000 = 0 && s.svc.roundAt != s.tb then s.calendarBoundary.cal.secs else s.cal.secs

/-- The replies of a boundary: refused units at once, the others given their epoch, FAULT where it could not be persisted
(R75, R77, R79, R402). [DEDUCED, log 30] -/
def State.settleWaits (done refusedU : List Nat) (epoch : Nat) (persisted : Bool) (s : State) : State :=
  let gone := s.waits.filter fun w => refusedU.contains w.uid
  let give := fun (w : Waiting) => if done.contains w.uid then { w with epoch := some epoch, fault := !persisted } else w
  let kept := (s.waits.filter fun w => !refusedU.contains w.uid).map give
  let s := { s with waits := kept }
  let s := gone.foldl (fun s w => s.post w.org w.tag stConflict []) s
  if s.paired && s.pair.mirror == 2 then
    (s.waits.filter fun w => done.contains w.uid && !w.neverSolo).foldl (fun s w => s.waitFor w.org 2) s
  else s

/-- A committed write loads or clears a key slot (R115, R121). -/
def Write.keySlot (w : Write) : Bool :=
  match w with
  | .cmd opc _ => opc == 0x08 || opc == 0x09
  | .point _ _ => false
  | .obj _ _ _ _ _ => false
  | .status _ _ _ _ => false
  | .model _ _ => false

/-- What the RTC_SETs among committed writes do (R136). [DESIGN CHOICE, log 44] -/
def rtcActs (ws : List Write) : List RtcAct :=
  ws.filterMap fun w => match w with
    | .cmd opc p => if opc = 0x0C then some (rtcActOf p) else none
    | .point _ _ => none
    | .obj _ _ _ _ _ => none
    | .status _ _ _ _ => none
    | .model _ _ => none

/-- A commit of this boundary, if there is anything to commit. [DEDUCED, log 32] -/
def State.commitNow (s : State) : State :=
  let now := s.staged.filter fun w => w.at_ != s.tb
  let us := unitsOf now
  let e := s.nextEpoch
  let r := settleUnits (us.length + 1) [] us { epoch := e, clock := s.applyClock, com := s.com, unit := s.unit }
  let done := us.filter fun u => !r.2.contains u.1
  let real := done.filter fun u => !u.2.all Write.anyRole
  let com := r.1.com.fillPoints
  let lat := s.latchAll com.cfg
  let old : Held := { com := (s.curArea.map fun a => a.content []).getD s.com, latched := s.latched, keys := s.unit.keys, rtc := s.cal.carried }
  let prev := s.epoch
  let rest := s.staged.filter fun w => w.at_ == s.tb
  let acts := s.toApply ++ done.flatMap fun u => u.2
  let s := { s with staged := rest, toApply := acts }
  let commits := !real.isEmpty || lat != s.latched
  let (s, persisted) := if !commits then (s, true)
    else
      let s := { s with epoch := e, tbc := s.tb, com := com, unit := r.1.unit, latched := lat }
      let s := s.onPair fun p => { p with bump := false, heldTerm := s.unit.term, lastCommit := some (e, s.tb) }
      let rtc := rtcActs (done.flatMap fun u => u.2)
      let s := if rtc.isEmpty then s else { s with cal := { s.cal with carried := (e, rtc) } }
      let keyed := done.any fun u => u.2.any Write.keySlot
      let p := (if keyed then (s.recordUnit 4 false).1 else s).persistSoon e false false
      let s := (p.1.raise 16).raiseIf keyed 30
      (if s.paired then s.sendDelta old prev (done.flatMap fun u => u.2) else s, p.2)
  let s := s.settleWaits (done.map fun u => u.1) r.2 s.epoch persisted
  if commits || !done.isEmpty then { s with applyDue := some (tbAdd s.tb 200) } else s

/-- PAIR_CONFIG on a unit that does not commit takes effect at the next apply quantum (R389). [DEDUCED, log 32] -/
def State.commitOwn (s : State) : State :=
  let now := s.staged.filter fun w => w.at_ != s.tb
  if now.isEmpty then s
  else
    let rest := s.staged.filter fun w => w.at_ == s.tb
    let acts := s.toApply ++ now.map fun w => w.w
    let s := { s with staged := rest, toApply := acts, applyDue := some (tbAdd s.tb 200) }
    s.settleWaits (now.map fun w => w.uid) [] s.epoch true

/-- What waits for an apply quantum beside a commit: coil tests and coefficients (R146, R226). [DEDUCED, log 36] -/
def State.otherDue (s : State) : Bool :=
  s.vl.ch.toList.any (·.diagReq.isSome) || s.prm.ch.toList.any (·.cal.applyDue) || s.prm.hu.toList.any (·.cal.applyDue)

/-- The management plane's part of a beat boundary. -/
def State.beatWork (s : State) : State :=
  let s := if s.acting then s.commitNow else s.commitOwn
  let s := s.armDiags
  let s := if s.otherDue then { s with applyDue := some (tbAdd s.tb 200) } else s
  let s := if s.paired && s.acting && s.pair.copyReq && s.pair.linkUp then s.startCopy else s
  { s with mgmt := { s.mgmt with wdogAt := s.tb }, pair := { s.pair with postedAt := s.tb } }

/-- The data plane's part: the line's figures, the governor, the display band, a standby's LEASE (R47, R63, R333, R376,
R426). -/
def State.beatData (obs : BeatObs) (s : State) : State :=
  let s := (s.onPw fun p => { p with pline := obs.intakeMw % 65536 }).govern
  let s := (s.onBus fun b => { b with dipmin := obs.dipMin, vigilOn := b.joined }).dspBand
  if s.paired && s.pair.role == .standby && s.pair.takeDue.isNone && s.pair.linkUp then s.linkQueue 0x02 (le 2 s.unit.term) else s

/-- BEAT_BOUNDARY. In DOZE the boundary passes and nothing commits (R25); before the recall and during a management restart
nothing commits either (R54, R60). [DESIGN CHOICE, log 16] [DEDUCED, log 35] -/
def execBeatBoundary (obs : BeatObs) (s : State) : Out :=
  if !(s.awake || s.phase == .doze) then .next s
  else
    let due := s.boundaryDue
    let s := s.jump due
    let s := { s with beatAt := due }
    if s.phase == .doze then .next s
    else
      let s := { s with worn := obs.worn ++ s.worn }
      let s := if s.store.recalled && !s.mgmt.restarting then s.beatWork else s
      .next (s.beatData obs).descend

/-- APPLY_QUANTUM: 200 µs after the boundary; then the replies of single devices, and SOLO in a pair whose mirror is not
synchronised, and FAULT for the writes of an epoch not persisted; none while a power-fail warning holds its persistence (R14, R75, R380,
R396, R402). -/
def execApplyQuantum (s : State) : Out :=
  match s.applyDue with
  | none => .next s
  | some t =>
    if !s.awake then .next s
    else
      let s := (s.jump t).applyEpoch
      .next (if s.imageHeld then s else s.postApplied)

end Sys2Proof.Machine
end

