-- ==== Sys2Proof/Machine/Recall.lean ====
section
/-! DEFINITION. The recall of the store after power good, the rotation of the unit area, and the round boundary (R54, R135, R193,
R266, R296, R398, R400, R404, R409, R415, R456). -/

namespace Sys2Proof.Machine

/-! ### NVM_RECALL_DONE (Table 18-3) -/

/-- The groups in error that decay has brought since the last scan, which any reading meets, and those whose bytes now read as others:
with an uncorrectable error, miscorrected, or with no report (R392, R395). [DESIGN CHOICE, log 85] -/
def State.decayed (obs : RecallObs) (s : State) : State :=
  let turn := fun (m : List Host.Cell) (g : Nat × Bytes) =>
    if g.1 % 8 = 0 && g.1 < Memory.size && keepsBytes g.1 then Memory.writeN m g.1 (g.2.take 8) else m
  let add := fun (k : Nat) (m : List (Nat × Nat)) (a : Nat) => if a % 8 = 0 && a < Memory.size then mset m a k else m
  { s with cells := obs.changed.foldl turn s.cells
           badGroups := obs.uncorrectable.foldl (add 2) (obs.corrected.foldl (add 1) s.badGroups) }

/-- One unit record recalled: the newer of its valid copies is taken, and a copy that fails its CRC is rewritten from the other. With both
failing the record stays as it was. [DESIGN CHOICE, log 100] -/
def State.recallRecord (obs : RecallObs) (r : Nat) (s : State) : State :=
  let k := s.unitRec r
  let newBad := obs.badUnits.contains (r, false)
  let oldBad := k.oldBad || obs.badUnits.contains (r, true)
  if newBad == oldBad then s
  else
    let x := s.unitStore
    let swapped : UnitStore := { newest := x.older.put r x.newest, older := x.newest.put r x.older
                                 recs := upd x.recs r fun k => { newB := !k.newB, seqNew := k.seqOld, seqOld := k.seqNew, polNew := k.polOld
                                                                 polOld := k.polNew } }
    let x := if newBad then swapped else x
    let s : State := { s with unitStore := x, store := { s.store with unitfix := true } }
    let bad := s.unitFailing r
    let s := s.rewritten (copyGroups r (!(s.unitRec r).newB)).contains
    let same : UnitStore := { x with older := x.newest.put r x.older
                                     recs := upd x.recs r fun k => { k with seqOld := k.seqNew, polOld := k.polNew, oldBad := false } }
    ({ s with unitStore := if bad.isEmpty then same else x.spoil r } : State).noteFails bad

/-- Step 1: the unit area read, each record's newest valid copy taken, torn copies repaired (R404). -/
def State.recallUnitArea (obs : RecallObs) (s : State) : State :=
  let s := s.lookAt [(0x18000, 0x4000)]
  let s := (List.range 8).foldl (fun s r => s.recallRecord obs r) s
  { s with unit := { s.unitStore.newest with rounds := s.unit.rounds }
           store := { s.store with unitfix := s.store.unitfix || obs.unitTorn } }

/-- The places that a recall finds bad in one area. -/
def ofArea (isB : Bool) (l : List (Bool × Nat)) : List Nat := (l.filter fun e => e.1 == isB).map (·.2)

/-- Step 2: the image areas read, the image chosen, its journal and marks replayed; the persisted epoch (R400). -/
def State.recallImage (obs : RecallObs) (s : State) : State :=
  let s := s.lookAt [(0x1C000, 0x20000)]
  let s := obs.badHdrs.foldl (fun s b => s.putArea b { s.area b with hdr := .bad }) s
  let c := chooseArea s.areaA s.areaB obs.badA obs.badB
  let blank := s.areaA.hdr == .zero && s.areaB.hdr == .zero
  let s := { s with store := { s.store with cur := c.1, fallback := c.2, imglost := c.1.isNone && !blank } }
  let s := if c.2 then (s.logError 4 (areaBase (c.1 == some false))).raise 122 else s
  match s.curArea with
  | none => s
  | some a =>
    let isB := s.store.cur == some true
    let e := a.newest (ofArea isB obs.badRecords) (ofArea isB obs.badMarks)
    let s := s.onCurArea fun a => { a with
      journal := a.replay (ofArea isB obs.badRecords)
      marks := a.marks.filter fun m => !(ofArea isB obs.badMarks).contains m.1 }
    { s with com := a.content (ofArea isB obs.badRecords), epoch := e, store := { s.store with pepoch := e } }

/-- Step 4: every ring and log repaired (R409). -/
def State.recallRings (s : State) : State :=
  let user := (List.range 64).filterMap fun r => s.ring r
  ((user ++ [logDef 0, logDef 1, logDef 2]) : List RingDef).foldl (fun s d => s.ringRepair d) s

/-- Step 5: the scan meets every group in error (R395). [DEDUCED, log 79] -/
def State.recallScan (s : State) : State :=
  let s := s.settled [(0, Memory.size)]
  let met := s.badGroups
  let s := met.foldl (fun s g => s.meetGroup g) s
  { s with store := { s.store with scanunc := (met.filter fun g => g.2 == 2).length % 65536 } }

/-- What the units take from the recalled state before any of them starts (Table 01-3, R176, R217, R224, R244). -/
def State.recallUnits (s : State) : State :=
  let c := s.com
  let s := { s with applied := c.cfg, appliedVp := c.vp }
  let s := s.onDsp fun d => { d with
    goal := c.pageBody c.cfg.dsp.page, pages := c.kindBodies 7
    bl := Vector.ofFn fun i => { from_ := nth c.cfg.dsp.lvl i.val 0, to_ := nth c.cfg.dsp.lvl i.val 0, at_ := s.tb } }
  let s := s.onBus fun b => { b with filters := c.kindBodies 6 }
  let s := s.onSvc fun v => { v with tz := c.cfg.tz }
  let f := fun (n : Nat) (v : VlChan) =>
    { v with ihold := (nth c.cfg.vl.chans n {}).ihold
             winDue := if (nth c.cfg.vl.duty n {}).win = 0 then none else some (nextMultiple 1000000 s.tb) }
  let s := { s with vl := { s.vl with ch := updAll s.vl.ch f } }
  let s := s.applyOutputs
  let s := s.unsureDrives fun k => (s.fdConf k).en
  let s := s.onPair fun p => { p with heldTerm := s.unit.term }
  (((s.recallPrm.recallCaller).recallThermal).prBias).govern

/-- NVM_RECALL_DONE: STEPOCH takes the persisted epoch, the evaluator starts, and the cold Pavane begins (R50, R296, R398); while a
power-fail warning stands a recall with something to repair or to log cannot begin it, and does not end (R396). [DEDUCED, log 79] -/
def execNvmRecallDone (obs : RecallObs) (s : State) : Out :=
  if !s.awake || s.store.recalled then .next s
  else
    let t := (((((s.decayed obs).recallUnitArea obs).recallImage obs).recallPatch).recallRings).recallScan
    if s.pw.pfw && (!t.store.owed.isEmpty || t.store.unitfix || t.store.ringfix) then .next s
    else
    let s := t.recallUnits
    let s := { s with store := { s.store with recalled := true } }
    let s := s.recallIlk.raise 123
    .next ((s.onPw fun p => { p with pav := some { cold := true, due := s.tb } }).startPll)

/-- UNIT_AREA_ROTATION, after 2 592 000 rounds in NAP or RUN: every record but the factory record is rewritten as it stands into
its older copy, in the polarity opposite to the copy it replaces (R404). [DEDUCED, log 79] -/
def execUnitAreaRotation (s : State) : Out :=
  if !s.awake || !s.store.recalled || s.unit.rounds < 2592000 then .next s
  else
    .next ((List.range 7).foldl (fun s r => (s.recordUnit (r + 1) true).1) { s with unit := { s.unit with rounds := 0 } })

/-! ### ROUND_BOUNDARY -/

/-- The next round boundary: this quantum if it is one that has not passed; in DOZE one that a crystal period has stepped over is taken
now (R24, R135). -/
def State.roundDue (s : State) : Nat :=
  let next := tbAdd s.svc.roundAt 1000000
  if s.phase == .doze && timeLeft next s.tb == 0 then next
  else if s.tb % 1000000 = 0 && s.svc.roundAt != s.tb then s.tb else nextMultiple 1000000 s.tb

/-- A round whose work is not begun: a planned handover keeps it from being staged, and its due loops count as skipped at once (R374); with
the management complex restarting they are skipped at the boundary that opens beat 50 (R268). [DEDUCED, log 65] -/
def State.skipRound (s : State) : State :=
  let due := ((s.com.kindBodies 2).filter fun e => s.loopDue (s.tb / 1000000) e.1 e.2).map (·.1)
  if s.mgmt.restarting then s.onSvc fun v => { v with left := due } else s.skipLoops due

/-- ROUND_BOUNDARY: while a reset source holds, the calendar alone goes on (R43, R135); else the calendar, the time zone, what units do once a round, and the round work, with the time for
loopsDone of its items before beat 50 (R135, R136, R153, R193, R212, R266 to R268, R277). [DESIGN CHOICE, log 16]
[DEDUCED, log 63] -/
def execRoundBoundary (loopsDone : Nat) (s : State) : Out :=
  if s.phase == .unpowered then .next s
  else if !(s.awake || s.phase == .doze) then
    let due := s.roundDue
    .next (((s.jump due).onSvc fun v => { v with roundAt := due }).calendarBoundary)
  else
    let due := s.roundDue
    let s := (s.jump due).onSvc fun v => { v with roundAt := due, tz := v.tzNext.getD v.tz, tzNext := none }
    let s := if s.awake then { s with unit := { s.unit with rounds := s.unit.rounds + 1 } } else s
    let s := (s.calendarBoundary.roundPrm).roundVl
    let s := latchHold s s.roundPresence
    if s.serves then .next (s.roundWork_ loopsDone)
    else if s.hasService then .next s.skipRound
    else .next s

end Sys2Proof.Machine
end

