-- ==== Sys2Proof/Machine/Window.lean ====
section
/-! DEFINITION. The direct window: what each register reads as, and what a window write does (R7, R8, R17, R63, R87, R94,
R112 to R114, R137, R165, R186, R233, R264, R332, R358, R447). -/

namespace Sys2Proof.Machine

/-! ### Which registers there are (Table 05-9) -/

/-- Instance i of a register at base + step × i, i below n, that stands at address a. -/
def inst (a base step n : Nat) : Option Nat :=
  if a ≥ base && (a - base) % step = 0 && (a - base) / step < n then some ((a - base) / step) else none

/-- Blocks of units that CALLER lacks, which behave as reserved (R112): the units of its refused classes that have a
window block [DEDUCED, log 70]. -/
def absentBlock (p : Pers) (a : Nat) : Bool :=
  p == .caller && ((0x400 ≤ a && a < 0x800) || (0xC00 ≤ a && a < 0x1000) || (0x3000 ≤ a && a < 0x3800))

/-- One bit per member of a table. -/
def mapBits {α : Type} {n : Nat} (v : Vector α n) (f : α → Bool) : Nat :=
  ((List.range n).map fun i => match v[i]? with
    | some x => b2n (f x) * 2 ^ i
    | none => 0).sum

/-! ### Reads, block by block -/

/-- 0x0000 to 0x00FF: identity, host link, state, power. [DESIGN CHOICE, log 11] [DEDUCED, log 43] [DESIGN CHOICE, log 101] -/
def State.readId (s : State) (a : Nat) : Nat :=
  let u := s.unit
  let b := s.bus
  if a = 0x00 then 0x74160001
  else if a = 0x04 then u.frev * 2 ^ 16 + u.drev * 2 ^ 8 + u.crev
  else if a = 0x08 then low u.serial.toNat 32
  else if a = 0x0C then u.serial.toNat / 2 ^ 32
  else if a = 0x20 then s.hlst
  else if a = 0x24 then s.hlcnt
  else if a = 0x28 then s.hldcnt
  else if a = 0x2C then s.rmcnt
  else if a = 0x40 then s.epoch
  else if a = 0x44 then s.ackedEpoch
  else if a = 0x48 then mapBits s.snaps Option.isSome * 2 ^ 28 + mapBits s.groups Option.isSome * 2 ^ 8
  else if a = 0x80 then s.pmst
  else if a = 0x84 then s.pmrc.toNat
  else if a = 0x88 then s.pmln
  else if a = 0x8C then s.pw.pmun.toNat
  else if a = 0x90 then
    s.vrestNow * 2 ^ 16 + b.faultLat.toNat * 2 ^ 8 + b2n (b.phase == .sleep) * 2 ^ 7 + b.faultNow.toNat * 4 + b2n s.lineDom.1 * 2 + b2n s.lineDom.2
  else if a = 0x94 then b.dipmin * 2 ^ 16 + b.wakes.toNat * 2 ^ 8 + b.lfcnt
  else 0

/-- 32 bits of a map of 128. -/
def slice32 (b : BitVec 128) (k : Nat) : Nat := (b.extractLsb' (32 * k) 32).toNat

/-- 0x0100 to 0x03FF: event fabric, TB, bus timestamp counter. [DESIGN CHOICE, log 86] -/
def State.readEv (s : State) (a : Nat) : Nat :=
  let e := s.ev
  if a < 0x110 then slice32 e.st ((a - 0x100) / 4)
  else if a < 0x120 then slice32 e.ov ((a - 0x110) / 4)
  else if a < 0x130 then slice32 e.routeA ((a - 0x120) / 4)
  else if a < 0x140 then slice32 e.routeB ((a - 0x130) / 4)
  else if a = 0x140 then e.wken.toNat
  else if a = 0x150 then b2n e.enB * 2 ^ 7 + b2n e.pulseB * 2 ^ 6 + b2n e.enA * 2 ^ 3 + b2n e.pulseA * 2 ^ 2
  else if a = 0x200 then low s.tb 32
  else if a = 0x204 then e.tbhi.toNat
  else if a = 0x210 then b2n e.wakeValid * 2 ^ 8 + e.wakeSrc
  else if a = 0x214 then e.wakeTs.toNat
  else if a = 0x240 then (s.busStamp 0).toNat
  else 0

/-- 0x0400 to 0x07FF: precision result mirror. -/
def State.readPrm (s : State) (a : Nat) : Nat :=
  let k := s.prm
  let c := s.applied.pt
  if a < 0x600 then
    let ch := nth k.ch ((a - 0x400) / 0x20) {}
    let o := a % 0x20
    if o = 0x00 then ch.seq.toNat * 2 ^ 16 + ch.gain * 2 ^ 8 + ch.flags
    else if o = 0x04 then ch.raw.toNat
    else if o = 0x08 then ch.ratio.toNat
    else if o = 0x0C then ch.val.toNat
    else if o = 0x10 then ch.res.toNat
    else if o = 0x14 then ch.stamp.toNat
    else if o = 0x1C then ch.seq.toNat * 2 ^ 16
    else 0
  else if a < 0x700 then
    let ch := nth k.hu ((a - 0x600) / 0x10) {}
    let o := a % 0x10
    if o = 0x0 then ch.seq.toNat * 2 ^ 16 + ch.flags
    else if o = 0x4 then ch.cap.toNat
    else if o = 0x8 then ch.val.toNat
    else ch.seq.toNat * 2 ^ 16
  else if a < 0x710 then
    let g := (a - 0x700) / 4
    let gr := nth k.groups g {}
    let four := fun (f : Nat → Bool) => ((List.range 4).map fun i => b2n (f (4 * g + i)) * 2 ^ i).sum
    four (fun n => (nth k.ch n {}).susp) * 2 ^ 12 + four (fun n => (nth c.chans n {}).en) * 2 ^ 8 + (nth c.groups g {}).rate * 2 ^ 4 +
      b2n gr.efault * 4 + gr.state
  else if a = 0x710 then mapBits c.hu (·.en) * 2 ^ 16 + c.tconv * 2 ^ 4 + c.period * 4 + b2n k.sweep
  else if a = 0x720 then k.new.toNat
  else if a = 0x724 then k.watch.toNat
  else if a = 0x728 then k.ovrl.toNat
  else if a = 0x72C then k.sfl.toNat
  else 0

/-- A single-register sample: CODE, SEQ, MISS, OVR. -/
def SarSample.word (x : SarSample) : Nat := (x.code % 65536).toNat * 2 ^ 16 + x.seq.toNat * 2 ^ 8 + b2n x.miss * 2 + b2n x.ovr

/-- 0x0800 to 0x0BFF: SAR results and calibration factors. -/
def State.readSar (s : State) (a : Nat) : Nat :=
  let k := s.sar
  let f := s.unit.factors
  if a < 0xA00 then
    let q := nth k.seqs ((a - 0x800) / 0x40) {}
    let o := a % 0x40
    if o = 0x00 then q.seq.toNat * 2 ^ 16 + q.cnt * 2 ^ 8 + q.ovrmap.toNat
    else if o = 0x04 then q.stamp.toNat
    else if o < 0x28 then (nth q.res ((o - 8) / 4) 0).toNat
    else if o = 0x3C then q.seq.toNat * 2 ^ 16
    else 0
  else if a < 0xA40 then (nth k.vl ((a - 0xA00) / 4) {}).word
  else if a < 0xA50 then (nth k.bk ((a - 0xA40) / 4) {}).word
  else if a < 0xA78 then { nth k.hk ((a - 0xA50) / 4) {} with miss := false }.word
  else if a = 0xB00 then f.gainU
  else if a = 0xB04 then (wI f.ofsU).toNat
  else if a = 0xB08 then f.gainD
  else if a = 0xB0C then (wI f.ofsD).toNat
  else if a = 0xB10 then k.calWhy * 2 ^ 4 + b2n f.src * 8 + b2n k.calFail * 4 + b2n k.calRun * 2
  else if a = 0xB14 then f.ts.toNat
  else if a = 0xB40 then
    s.applied.sar.started.toNat * 2 ^ 24 + mapBits k.seqs (·.pend) * 2 ^ 16 + (if k.calRun then 2 else b2n (s.runs 1))
  else if a = 0xB44 then k.new.toNat
  else if a = 0xB48 then k.regmiss.toNat * 2 ^ 16 + k.trgmiss.toNat
  else if a = 0xB4C then k.recgaps.toNat
  else 0

/-- 0x0C00 to 0x0FFF: valve status. -/
def State.readVl (s : State) (a : Nat) : Nat :=
  if a < 0xD00 then
    let n := (a - 0xC00) / 0x10
    let c := s.vlCh n
    let o := a % 0x10
    if o = 0x0 then s.vlst n
    else if o = 0x4 then (c.imean % 65536).toNat * 2 ^ 16 + c.duty100
    else if o = 0x8 then c.pitime * 2 ^ 16 + c.boostt
    else c.rcoil * 2 ^ 16 + c.lcoil
  else if a < 0xD40 then low ((s.vlCh ((a - 0xD00) / 4)).usedNow s.tb / 1000) 24
  else if a < 0xE00 then 0
  else if a < 0xE40 then
    let b := (a - 0xE00) / 0x10
    let o := a % 0x10
    if o = 0x0 then s.vlbkst b
    else if o = 0x4 then s.vlbkcur b
    else if o = 0x8 then (s.vlBk b).waitlast.toNat
    else 0
  else if a = 0xF00 then s.vl.diagnew.toNat * 2 ^ 16 + s.vl.pinew.toNat
  else if a = 0xF04 then s.vlfmap
  else 0

/-- The data length code of a length (Table 16-1). -/
def dlc (n : Nat) : Nat :=
  if n ≤ 8 then n
  else ([(12, 9), (16, 10), (20, 11), (24, 12), (32, 13), (48, 14), (64, 15)].lookup n).getD 15

/-- 0x1000 to 0x1EFF: receive buffers. -/
def State.readRx (s : State) (a : Nat) : Nat :=
  let x := nth s.bus.buf ((a - 0x1000) / 0x50) {}
  let o := (a - 0x1000) % 0x50
  if o = 0x0 then
    x.seq.toNat * 2 ^ 16 + b2n x.new * 2 ^ 7 + b2n x.ovw * 2 ^ 6 + b2n x.esi * 2 ^ 5 + b2n x.brs * 2 ^ 4 + b2n x.fdf * 2 ^ 3 +
      b2n x.ide * 2 ^ 2
  else if o = 0x4 then x.id
  else if o = 0x8 then x.filt * 2 ^ 24 + x.data.length * 2 ^ 8 + (if x.dlc ≠ 0 then x.dlc else dlc x.data.length)
  else if o = 0xC then x.stamp.toNat
  else u32 x.data (o - 0x10)

/-- 0x2000 to 0x2FFF: transmit window and filters; the staging registers are write-only. -/
def State.readTx (s : State) (a : Nat) : Nat :=
  let b := s.bus
  if a = 0x2100 then
    ((b.fifo.head?.map fun e => e.txseq.toNat).getD 0) * 2 ^ 16 + b.fifo.length * 2 ^ 8 + b.pfwhy * 2 ^ 4 + b2n b.pushfail * 8 +
      b2n b.viglate * 4 + b2n b.vigil.isSome * 2 + b2n b.allot.isSome
  else if a = 0x2104 then b.lastOutSeq.toNat * 2 ^ 16 + b.lastOut
  else if a = 0x2108 then b.lastTs.toNat
  else if a = 0x2400 then
    min 255 b.tec * 2 ^ 24 + b.rxec * 2 ^ 16 + b.lasterr * 2 ^ 8 + b2n (decide (b.tec ≥ 96) || decide (b.rxec ≥ 96)) * 2 ^ 4 +
      b2n s.applied.bus.listen * 8 + b.state
  else if a = 0x2408 then b.colId.toNat
  else if 0x2800 ≤ a && a < 0x2A00 then u32 ((s.com.body 6 ((a - 0x2800) / 0x10)).getD []) (a % 0x10)
  else if 0x2A00 ≤ a && a < 0x2A80 then
    let f := nth b.flt ((a - 0x2A00) / 4) {}
    f.matched.toNat * 2 ^ 16 + f.lost.toNat
  else if a = 0x2A80 then b.unmatched.toNat
  else if a = 0x2A84 then low (mapBits b.buf (·.new)) 32
  else if a = 0x2A88 then mapBits b.buf (·.new) / 2 ^ 32
  else 0

/-- 0x3000 to 0x33FF: key queue. -/
def State.readKq (s : State) (a : Nat) : Nat :=
  let k := s.keys
  if a = 0x3000 then
    k.wseq.toNat * 2 ^ 16 + b2n k.ovf * 2 ^ 15 + b2n s.applied.key.locked * 2 ^ 14 + k.count * 2 ^ 8 + k.wridx
  else if a = 0x3004 then k.ghosts.toNat * 2 ^ 16 + k.lost.toNat
  else if a = 0x3008 then low k.pressed.toNat 32
  else if a = 0x300C then k.pressed.toNat / 2 ^ 32
  else if a = 0x3010 then low k.withheld.toNat 32
  else if a = 0x3014 then k.withheld.toNat / 2 ^ 32
  else if 0x3020 ≤ a && a < 0x3030 then
    let e := nth k.enc ((a - 0x3020) / 4) {}
    e.pos.toNat * 2 ^ 16 + e.err.toNat * 2 ^ 8 + b2n e.a * 2 + b2n e.b
  else if 0x3100 ≤ a && a < 0x3200 then
    let e := nth k.q ((a - 0x3100) / 8) {}
    if a % 8 = 0 then e.word else e.stamp.toNat
  else 0

/-- 0x3400 to 0x37FF: field I/O status. [DESIGN CHOICE, log 21] -/
def State.readFist (s : State) (a : Nat) : Nat :=
  let f := s.fio
  if a = 0x3400 then s.lplusNow * 2 ^ 16 + s.frameErrors * 2 ^ 8 + s.fistLink
  else if a = 0x3404 then s.diValidMap * 2 ^ 16 + diMap s (·.level)
  else if a = 0x3408 then f.wbl.toNat * 2 ^ 16 + diMap s (·.wb)
  else if a = 0x340C then f.fall.toNat * 2 ^ 16 + f.rise.toNat
  else if a = 0x3410 then
    doMap s (·.openl) * 2 ^ 24 + s.ilk.gDo.toNat * 2 ^ 16 + doMap s (·.pad) * 2 ^ 8 + s.doCmdMap
  else if a = 0x3414 then f.ovtl.toNat * 2 ^ 16 + doMap s (·.ovt) * 2 ^ 8 + doMap s (·.short)
  else if 0x3440 ≤ a && a < 0x3480 then
    let d := s.diCh ((a - 0x3440) / 4)
    d.vin * 2 ^ 16 + d.iin
  else if 0x3480 ≤ a && a < 0x34A0 then
    s.doCurrent ((a - 0x3480) / 4) * 2 ^ 16 + (s.doCh ((a - 0x3480) / 4)).shorts
  else 0

/-- The unit behind a register has started since the reset; its block reads its reset values until then (R112). The units are
those that the Pavane starts (Table 03-4); flags that software sets or clears, and the always-on blocks, belong to none.
[DEDUCED, log 92] -/
def State.blockStarted (s : State) (a : Nat) : Bool :=
  let ever := fun (i : Nat) => s.pw.pmEver.getLsbD i
  if a = 0x240 then ever 1
  else if 0x400 ≤ a && a < 0x600 then ever (2 + (a - 0x400) / 0x80)
  else if 0x600 ≤ a && a < 0x700 then ever 1
  else if 0x700 ≤ a && a < 0x710 then ever (2 + (a - 0x700) / 4)
  else if a = 0x710 then ever 1
  else if 0x800 ≤ a && a < 0xC00 then ever 1 || (0xB00 ≤ a && a ≤ 0xB14)
  else if 0xC00 ≤ a && a < 0x1000 then ever 6
  else if 0x1000 ≤ a && a < 0x3400 then ever 1
  else true

/-- What the register at an address reads as in the present quantum; reserved addresses read 0 (R112). -/
def State.readReg (s : State) (a : Nat) : W32 :=
  let a := a / 4 * 4
  let absent := absentBlock s.pers a
  let s := if s.blockStarted a then s else State.reset
  wN (if absent then 0
    else if a < 0x100 then s.readId a
    else if a < 0x400 then s.readEv a
    else if a < 0x800 then s.readPrm a
    else if a < 0xC00 then s.readSar a
    else if a < 0x1000 then s.readVl a
    else if a < 0x1F00 then s.readRx a
    else if a < 0x2000 then 0
    else if a < 0x3000 then s.readTx a
    else if a < 0x3400 then s.readKq a
    else if a < 0x3800 then s.readFist a
    else 0)

/-- A read of TBLO latches TBHI (R132). -/
def State.latchTb (s : State) : State := { s with ev := { s.ev with tbhi := BitVec.ofNat 16 (s.tb / 2 ^ 32) } }

/-- The quanta that pass on the link before one register of a window transaction, and those before the registers after it (R94).
[DESIGN CHOICE, log 71] -/
def State.linkGap (gaps : List Nat) (s : State) : State × List Nat :=
  match gaps with
  | [] => (s, [])
  | d :: rest => (s.pass d, rest)

/-- The n registers of a window read from an address upwards: each as of the quantum in which it is sampled, 0x00 beyond 0xFFFC, and TBHI
as the TBLO read of the same transaction leaves it (R94, R132). [DESIGN CHOICE, log 71] -/
def State.windowRead : Nat → Nat → List Nat → State → Bytes × State
  | 0, _, _, s => ([], s)
  | n + 1, a, gaps, s =>
    let g := s.linkGap gaps
    let s := if a = 0x200 then g.1.latchTb else g.1
    let r := State.windowRead n (a + 4) g.2 s
    ((if a > 0xFFFC then [0, 0, 0, 0] else wBytes (s.readReg a)) ++ r.1, r.2)

/-- A window read (type 0x03): clocked is the number of bytes clocked after the type byte, ADDR and the turnaround among them, and a
register is sampled once its first byte is shifted out (Table 05-1, R94). HLST is that of the falling HCS_N.
[DESIGN CHOICE, log 71] -/
def State.windowTransaction (addr clocked : Nat) (gaps : List Nat) (s : State) : State :=
  let r := s.windowRead (clocked / 4) (addr / 4 * 4) gaps
  { r.2 with link := { r.2.link with hmiso := (s.shiftOut (fit clocked ([0, 0, 0] ++ r.1))).link.hmiso } }

/-- TBLO_READ: a window read of TBLO and TBHI (R132). [DESIGN CHOICE, log 71] -/
def execTbloRead (s : State) : Out := .next (if s.awake then s.windowTransaction 0x200 11 [] else s)

/-- UNKNOWN_TRANSACTION: a transaction that no other row of the table spells. An unlisted type is a link error; the window read (0x03)
and the link status (0x05) do what Table 05-1 gives; the other listed types have rows of their own (R92, R94).
[DESIGN CHOICE, log 71] -/
def execUnknownTransaction (x : Transaction) (s : State) : Out :=
  if !s.awake then .next s
  else if x.type = 3 then .next (s.windowTransaction x.addr x.clocked x.gaps)
  else if x.type = 5 then .next (s.shiftOut (le 4 s.hlst))
  else if 1 ≤ x.type.toNat && x.type.toNat ≤ 4 then .next s
  else .next (s.shiftOut []).linkError

/-! ### Writes, by access code (R7) -/

/-- W1C: the bits of a flag register that stay. -/
def keepBits {w : Nat} (flags : BitVec w) (clr : W32) (sh : Nat) : BitVec w := flags &&& ~~~((clr >>> sh).setWidth w)

/-- 32 bits of a map of 128 replaced. -/
def putSlice (b : BitVec 128) (k : Nat) (v : W32) : BitVec 128 := (b &&& ~~~(wide k 0xFFFFFFFF)) ||| wide k v

/-- One of the event fabric's registers written (R122, R123, R128). [DEDUCED, log 15] [DEDUCED, log 83] -/
def State.writeEv (a : Nat) (v : W32) (s : State) : State :=
  let e := s.ev.noteLow s.tb
  let e' : Events :=
    if a < 0x110 then e.clear false (wide ((a - 0x100) / 4) v) s.tb
    else if a < 0x120 then e.clear true (wide ((a - 0x110) / 4) v) s.tb
    else if a < 0x130 then { e with routeA := putSlice e.routeA ((a - 0x120) / 4) v }
    else if a < 0x140 then { e with routeB := putSlice e.routeB ((a - 0x130) / 4) v }
    else if a = 0x140 then { e with wken := v.setWidth 7 }
    else if a = 0x150 then
      { e with enB := v.getLsbD 7, pulseB := v.getLsbD 6, enA := v.getLsbD 3, pulseA := v.getLsbD 2 }
    else e
  { s with ev := e' }

/-- A staging register, TXFPUSH or TXFST written (R343, R344). -/
def State.writeTx (a : Nat) (v : W32) (s : State) : State :=
  if a = 0x2000 then s.onBus fun b => { b with txfid := v &&& 0x3FFFFFFF }
  else if a = 0x2004 then s.onBus fun b => { b with txfctl := v &&& 0xFFFFFF07 }
  else if a = 0x2008 then
    let s := if v.getLsbD 1 then s.flushIdle else s
    if v.getLsbD 0 then s.push else s
  else if a = 0x2100 then
    let clr := s.clearable a v
    s.onBus fun b => { b with pushfail := b.pushfail && !clr.getLsbD 3, viglate := b.viglate && !clr.getLsbD 2 }
  else
    match inst a 0x2040 4 16 with
    | some i => s.onBus fun b => { b with txfdat := upd b.txfdat i fun _ => v }
    | none => s

/-- A W1C or RW register outside the event fabric and the transmit window written. [DEDUCED, log 83] -/
def State.writeFlags (a : Nat) (v : W32) (s : State) : State :=
  let clr := s.clearable a v
  if a = 0x20 then
    { s with link := { s.link with refused := s.link.refused && !clr.getLsbD 4, lerr := s.link.lerr && !clr.getLsbD 3 } }
  else if a = 0x84 then { s with pmrc := keepBits s.pmrc clr 0 }
  else if a = 0x90 then s.onBus fun b => { b with faultLat := keepBits b.faultLat clr 8 }
  else if a = 0x720 then { s with prm := { s.prm with new := keepBits s.prm.new clr 0 } }
  else if a = 0x724 then { s with prm := { s.prm with watch := v } }
  else if a = 0x728 then { s with prm := { s.prm with ovrl := keepBits s.prm.ovrl clr 0 } }
  else if a = 0x72C then { s with prm := { s.prm with sfl := keepBits s.prm.sfl clr 0 } }
  else if a = 0xB44 then { s with sar := { s.sar with new := keepBits s.sar.new clr 0 } }
  else if a = 0xF00 then
    { s with vl := { s.vl with pinew := keepBits s.vl.pinew clr 0, diagnew := keepBits s.vl.diagnew clr 16 } }
  else if a = 0x3408 then { s with fio := { s.fio with wbl := keepBits s.fio.wbl clr 16 } }
  else if a = 0x340C then { s with fio := { s.fio with rise := keepBits s.fio.rise clr 0, fall := keepBits s.fio.fall clr 16 } }
  else if a = 0x3414 then { s with fio := { s.fio with ovtl := keepBits s.fio.ovtl clr 16 } }
  else if a = 0x3000 then { s with keys := { s.keys with ovf := s.keys.ovf && !clr.getLsbD 15 } }
  else
    match inst a 0x1000 0x50 48, inst a 0x3100 8 32 with
    | some n, _ => s.onBus fun b => { b with buf := upd b.buf n fun x => { x with new := x.new && !clr.getLsbD 7 } }
    | none, some i =>
      { s with keys := { s.keys with q := upd s.keys.q i fun e => { e with valid := e.valid && !clr.getLsbD 15 } } }
    | none, none => s

/-- One register written (R7, R112, R113). -/
def State.writeReg (a : Nat) (v : W32) (s : State) : State :=
  if absentBlock s.pers a then s
  else if 0x100 ≤ a && a < 0x400 then s.writeEv a v
  else if 0x2000 ≤ a && a < 0x2800 then (if s.acting then s.writeTx a v else s)
  else s.writeFlags a v

/-- The complete registers of a window write, from an address upwards, each in the quantum of its fourth byte (R94).
[DESIGN CHOICE, log 71] -/
def State.writeRegs : Nat → Nat → List Byte → List Nat → State → State
  | 0, _, _, _, s => s
  | n + 1, a, bs, gaps, s =>
    if bs.length < 4 || a > 0xFFFC then s
    else
      let g := s.linkGap gaps
      State.writeRegs n (a + 4) (bs.drop 4) g.2 (g.1.writeReg a (w32 bs 0))

/-- WINDOW_WRITE: the registers in ascending order; gaps gives the quanta that pass before the fourth byte of each.
[DESIGN CHOICE, log 71] -/
def execWindowWrite (addr : Nat) (data : WindowData) (s : State) : Out :=
  if !s.awake then .next s
  else
    .next ((s.shiftOut (List.replicate (data.bytes.length + 2) 0)).writeRegs data.bytes.length (addr / 4 * 4) data.bytes data.gaps)

end Sys2Proof.Machine
end

