-- ==== Sys2Proof/Machine/Commands.lean ====
section
/-! DEFINITION. The opcodes (Table 05-7) and the taking of commands from both mailboxes: the order of checks (Tables 05-4 and
00-2, R3, R54, R99, R105, R110, R374), and the authentication of remote records (R116 to R120, R338). -/

namespace Sys2Proof.Machine

/-! ### The opcode table -/

/-- A row of Table 05-7: LEN agrees with the layout (check 3 of R99); changes marks the commands that wait in the mailbox
during a handover (R374); hostOnly the restriction of that name. [DESIGN CHOICE, log 73] -/
structure OpRow where
  opc : Nat
  run : Handler
  len : Bytes → Bool
  changes : Bool := false
  hostOnly : Bool := false

/-- A fixed LEN. [DESIGN CHOICE, log 72] -/
def lenIs (n : Nat) (p : Bytes) : Bool := p.length == n

/-- A range of LEN. -/
def lenIn (lo hi : Nat) (p : Bytes) : Bool := lo ≤ p.length && p.length ≤ hi

/-- LEN of a layout with a count: base + size × the byte at an offset. [DESIGN CHOICE, log 72] -/
def counted (base at_ size : Nat) (p : Bytes) : Bool := p.length == base + size * u8 p at_

/-- LEN of a layout whose first byte, 0 or 1, chooses its form. Any other first byte has no layout, and is left to the check
of parameters (DESIGN CHOICE, log 72). -/
def formed (l0 l1 : Nat) (p : Bytes) : Bool :=
  match p with
  | [] => false
  | b :: _ => if b.toNat = 0 then p.length == l0 else if b.toNat = 1 then p.length == l1 else true

/-- Class 0x0: device commands. -/
def class0Rows : List OpRow :=
  [{ opc := 0x00, run := cmdNop, len := lenIs 0 },
   { opc := 0x02, run := cmdDevReset, len := lenIs 2 },
   { opc := 0x03, run := cmdPwrConfig, len := lenIs 3, changes := true },
   { opc := 0x04, run := cmdPwrStatus, len := lenIs 0 },
   { opc := 0x05, run := cmdStartGroup, len := lenIs 2, changes := true },
   { opc := 0x06, run := cmdStopGroup, len := lenIs 2, changes := true },
   { opc := 0x08, run := cmdAuthKeyLoad, len := lenIs 39, changes := true, hostOnly := true },
   { opc := 0x09, run := cmdAuthKeyClear, len := lenIs 1, changes := true, hostOnly := true },
   { opc := 0x0A, run := cmdAuthStatus, len := lenIs 1, hostOnly := true },
   { opc := 0x0C, run := cmdRtcSet, len := lenIs 8, changes := true },
   { opc := 0x0D, run := cmdRtcGet, len := lenIs 0 }]

/-- Class 0x1: state commands. -/
def class1Rows : List OpRow :=
  [{ opc := 0x10, run := cmdEpochGet, len := lenIs 0 },
   { opc := 0x11, run := cmdPointWrite, len := counted 2 1 6, changes := true },
   { opc := 0x12, run := cmdObjWrite, len := lenIn 11 246, changes := true },
   { opc := 0x13, run := cmdGroupOpen, len := lenIs 0, changes := true },
   { opc := 0x14, run := cmdGroupClose, len := lenIs 2, changes := true },
   { opc := 0x15, run := cmdSnapTake, len := counted 1 0 3 },
   { opc := 0x16, run := cmdSnapRead, len := lenIs 4 },
   { opc := 0x17, run := cmdSnapFree, len := lenIs 1 }]

/-- Class 0x2: precision measurement commands. -/
def class2Rows : List OpRow :=
  [{ opc := 0x20, run := cmdPtConfig, len := formed 6 19, changes := true },
   { opc := 0x21, run := cmdPtStart, len := lenIs 1, changes := true },
   { opc := 0x22, run := cmdPtStop, len := lenIs 1, changes := true },
   { opc := 0x23, run := cmdPtCal, len := lenIs 7 },
   { opc := 0x24, run := cmdPtLinear, len := lenIs 20, changes := true },
   { opc := 0x25, run := cmdPtStatus, len := lenIs 1 },
   { opc := 0x28, run := cmdHuConfig, len := formed 3 16, changes := true },
   { opc := 0x29, run := cmdHuCal, len := lenIs 7 },
   { opc := 0x2A, run := cmdHuStatus, len := lenIs 1 }]

/-- Class 0x3: SAR and presence commands. -/
def class3Rows : List OpRow :=
  [{ opc := 0x30, run := cmdSarSeq, len := counted 2 1 2, changes := true },
   { opc := 0x31, run := cmdSarTrig, len := lenIs 13, changes := true },
   { opc := 0x32, run := cmdCalSelf, len := lenIs 0 },
   { opc := 0x33, run := cmdSarStart, len := lenIs 1, changes := true },
   { opc := 0x34, run := cmdSarStop, len := lenIs 1, changes := true },
   { opc := 0x38, run := cmdPrConfig, len := formed 5 14, changes := true },
   { opc := 0x39, run := cmdPrWake, len := lenIs 4, changes := true },
   { opc := 0x3A, run := cmdPrStatus, len := lenIs 1 }]

/-- Class 0x4: valve commands. -/
def class4Rows : List OpRow :=
  [{ opc := 0x40, run := cmdVlConfig, len := lenIs 12, changes := true },
   { opc := 0x41, run := cmdVlSet, len := counted 1 0 2, changes := true },
   { opc := 0x42, run := cmdVlDecay, len := lenIs 6, changes := true },
   { opc := 0x43, run := cmdVlDuty, len := lenIs 4, changes := true },
   { opc := 0x44, run := cmdVlBank, len := lenIs 5, changes := true },
   { opc := 0x45, run := cmdVlDiag, len := lenIs 2, changes := true },
   { opc := 0x46, run := cmdVlStatus, len := lenIs 1 },
   { opc := 0x47, run := cmdVlClear, len := lenIs 3, changes := true }]

/-- Class 0x5: modulating output and field I/O commands. -/
def class5Rows : List OpRow :=
  [{ opc := 0x50, run := cmdAoConfig, len := lenIs 5, changes := true },
   { opc := 0x51, run := cmdAoStatus, len := lenIs 1 },
   { opc := 0x52, run := cmdFnConfig, len := lenIs 13, changes := true },
   { opc := 0x53, run := cmdFnStatus, len := lenIs 1 },
   { opc := 0x54, run := cmdFloatConfig, len := lenIs 12, changes := true },
   { opc := 0x58, run := cmdDiConfig, len := lenIs 7, changes := true },
   { opc := 0x59, run := cmdDoConfig, len := lenIs 4, changes := true },
   { opc := 0x5A, run := cmdFioStatus, len := lenIs 0 },
   { opc := 0x5B, run := cmdFioClear, len := lenIs 1, changes := true }]

/-- Class 0x6: zone and loop commands. -/
def class6Rows : List OpRow :=
  [{ opc := 0x60, run := cmdZoneMode, len := lenIs 2, changes := true },
   { opc := 0x61, run := cmdZoneOverride, len := lenIs 4, changes := true },
   { opc := 0x62, run := cmdLoopRun, len := lenIs 5, changes := true },
   { opc := 0x63, run := cmdLoopStats, len := lenIs 2 },
   { opc := 0x64, run := cmdModelReset, len := lenIs 1, changes := true },
   { opc := 0x65, run := cmdPubConfig, len := counted 10 9 2, changes := true }]

/-- Class 0x7: schedule commands. -/
def class7Rows : List OpRow :=
  [{ opc := 0x70, run := cmdSchedRun, len := lenIs 5, changes := true },
   { opc := 0x71, run := cmdSchedResolve, len := lenIs 5 },
   { opc := 0x72, run := cmdTzConfig, len := lenIs 13, changes := true }]

/-- Class 0x8: rule and interlock commands. -/
def class8Rows : List OpRow :=
  [{ opc := 0x80, run := cmdRuleRun, len := lenIs 17, changes := true },
   { opc := 0x81, run := cmdRuleStatus, len := lenIs 1 },
   { opc := 0x88, run := cmdIlkWrite, len := lenIs 37, changes := true },
   { opc := 0x89, run := cmdIlkRead, len := lenIs 1 },
   { opc := 0x8A, run := cmdIlkArm, len := lenIs 5, changes := true },
   { opc := 0x8B, run := cmdIlkStatus, len := lenIs 0 },
   { opc := 0x8C, run := cmdSafeSet, len := lenIs 6, changes := true }]

/-- Class 0x9: bus commands. -/
def class9Rows : List OpRow :=
  [{ opc := 0x90, run := cmdBusConfig, len := lenIs 13, changes := true },
   { opc := 0x91, run := cmdBusStart, len := lenIs 1 },
   { opc := 0x92, run := cmdBusSleep, len := lenIs 1 },
   { opc := 0x93, run := cmdBusSend, len := counted 8 5 1 },
   { opc := 0x94, run := cmdBusStatus, len := lenIs 0 },
   { opc := 0x95, run := cmdBusRecover, len := lenIs 1 }]

/-- Class 0xA: pairing commands. -/
def classARows : List OpRow :=
  [{ opc := 0xA0, run := cmdPairStatus, len := lenIs 0 },
   { opc := 0xA1, run := cmdPairConfig, len := lenIs 6 },
   { opc := 0xA2, run := cmdPairHandover, len := lenIs 0 },
   { opc := 0xA3, run := cmdCallerConfig, len := lenIs 19 },
   { opc := 0xA4, run := cmdCallerStatus, len := lenIs 1 }]

/-- Class 0xB: store commands. -/
def classBRows : List OpRow :=
  [{ opc := 0xB0, run := cmdNvmRead, len := lenIs 5 },
   { opc := 0xB1, run := cmdNvmWrite, len := lenIn 5 244 },
   { opc := 0xB2, run := cmdNvmProtect, len := lenIs 1 },
   { opc := 0xB3, run := cmdRingConfig, len := lenIs 12 },
   { opc := 0xB4, run := cmdRingAppend, len := lenIn 2 248 },
   { opc := 0xB5, run := cmdRingRead, len := lenIs 9 },
   { opc := 0xB6, run := cmdLogRead, len := lenIs 9 },
   { opc := 0xB7, run := cmdPatchLoad, len := lenIn 5 244, hostOnly := true },
   { opc := 0xB8, run := cmdPatchActivate, len := lenIs 1, hostOnly := true },
   { opc := 0xB9, run := cmdNvmStatus, len := lenIs 0 }]

/-- Class 0xC: display commands. -/
def classCRows : List OpRow :=
  [{ opc := 0xC0, run := cmdDspConfig, len := lenIs 44, changes := true },
   { opc := 0xC1, run := cmdDspShow, len := lenIs 1, changes := true },
   { opc := 0xC2, run := cmdDspOverdrive, len := formed 18 6, changes := true },
   { opc := 0xC3, run := cmdDspFigure, len := lenIs 19, changes := true },
   { opc := 0xC4, run := cmdDspBacklight, len := lenIs 10, changes := true },
   { opc := 0xC5, run := cmdDspStatus, len := lenIs 0 }]

/-- Class 0xD: key commands. -/
def classDRows : List OpRow :=
  [{ opc := 0xD0, run := cmdKeyConfig, len := formed 13 9, changes := true },
   { opc := 0xD1, run := cmdEncConfig, len := lenIs 18, changes := true },
   { opc := 0xD2, run := cmdKeyLock, len := lenIs 12, changes := true },
   { opc := 0xD3, run := cmdKeyStatus, len := lenIs 0 }]

/-- Class 0xE: housekeeping commands. -/
def classERows : List OpRow :=
  [{ opc := 0xE0, run := cmdHkStatus, len := lenIs 0 },
   { opc := 0xE1, run := cmdThermConfig, len := lenIs 6, changes := true },
   { opc := 0xE2, run := cmdThermClear, len := lenIs 0, hostOnly := true },
   { opc := 0xE3, run := cmdThermLog, len := lenIs 5 }]

/-- Class 0xF: capability and diagnostics commands. -/
def classFRows : List OpRow :=
  [{ opc := 0xF0, run := cmdCapFirst, len := lenIs 0 },
   { opc := 0xF1, run := cmdCapNext, len := lenIs 2 },
   { opc := 0xF2, run := cmdLinkStats, len := lenIs 0 },
   { opc := 0xF3, run := cmdLinkClear, len := lenIs 0 }]

/-- Table 05-7. -/
def opTable : List OpRow :=
  class0Rows ++ class1Rows ++ class2Rows ++ class3Rows ++ class4Rows ++ class5Rows ++ class6Rows ++ class7Rows ++
  class8Rows ++ class9Rows ++ classARows ++ classBRows ++ classCRows ++ classDRows ++ classERows ++ classFRows
/-- The row of an opcode. -/
def opRow (opc : Nat) : Option OpRow := opTable.find? fun r => r.opc == opc

/-! ### The checks before a command's own (Table 05-4, checks 1 to 4) -/

/-- Class and restriction are allowed in the personality and configuration (R3, R110). -/
def State.opcAllowed (s : State) (opc : Nat) : Bool :=
  bit (classMask s.pers) (opc / 16) &&
  (if opc / 16 = 8 then s.pers == .service || decide (opc ≥ 0x88)
   else if opc / 16 = 0xA then (if opc ≤ 0xA2 then s.paired else s.pers == .caller)
   else true)

/-- A class answered during the recall (R54). -/
def recallClass (opc : Nat) : Bool := opc / 16 == 0 || opc / 16 == 0xE || opc / 16 == 0xF || opc == 0xB9

/-- A remote command whose results could exceed 44 bytes (R119): by its COUNT, or THERM_LOG with its 49 bytes.
[DEDUCED, log 42] -/
def resultsTooLong (opc : Nat) (p : Bytes) : Bool :=
  if opc = 0x16 then u8 p 3 > 44
  else if opc = 0xB0 then u8 p 4 > 43
  else if opc = 0xB5 || opc = 0xB6 then u8 p 8 > 39
  else opc == 0xE3

/-- Where a command came from over the bus. -/
def Origin.isRemote (o : Origin) : Bool :=
  match o with
  | .host _ => false
  | .remote _ => true

/-- What a taken command comes to: checks 1 to 4, then its own (R99). [DEDUCED, log 42] -/
def State.answerOf (opc : Nat) (c : Ctx) (s : State) : State × Ans :=
  match opRow opc with
  | none => (s, refused stBadOpcode)
  | some r =>
    guarded
      [(!s.opcAllowed opc, refused stWrongPers),
       (!r.len c.p || (c.org.isRemote && resultsTooLong opc c.p), refused stBadLength),
       (!s.store.recalled && !recallClass opc, refused (if opc / 16 = 0xB then stNvmBusy else stBusy))]
      s (r.run c s)

/-- A check refuses the command: it needs no page cycle of the store. -/
def Ans.refuses (a : Ans) : Bool :=
  match a with
  | .now st _ => st != stOk && st != stFault
  | .nowAt _ _ => false
  | .commit _ _ => false
  | .later _ => false

/-- The quantum in which the last write into the cells ends, at 160 ns each page (R393, R399). -/
def State.writeEnd (s : State) : Nat :=
  match s.store.inflight with
  | none => s.tb
  | some op => tbAdd op.at_ ((partsOf op.pieces).length * 160 / 1000)

/-- What has been written is told by a reply. [DEDUCED, log 55] -/
def State.tellCells (s : State) : State :=
  { s with store := { s.store with inflight := s.store.inflight.map fun op => { op with told := (partsOf op.pieces).length } } }

/-- The answer of a command that writes the store: posted once its write has ended, in this quantum or in a later one (R107, R417).
[DESIGN CHOICE, log 100] -/
def State.finishWrite (c : Ctx) (r : State × Ans) : State :=
  match r.2 with
  | .now st rs =>
    if r.2.refuses then finish c r
    else if r.1.writing.isSome && r.1.writeEnd != r.1.tb then
      ({ r.1 with store := { r.1.store with asked := some { org := c.org, tag := c.tag, status := st, results := rs } } } : State).waitFor c.org 3
    else finish c (r.1.tellCells, r.2)
  | .nowAt _ _ => finish c r
  | .commit _ _ => finish c r
  | .later _ => finish c r

/-- The reply that waited for the end of a write, posted at its end. [DESIGN CHOICE, log 100] -/
def State.tellAsked (s : State) : State :=
  match s.store.asked with
  | none => s
  | some a =>
    let s := (s.jump s.writeEnd).tellCells
    ({ s with store := { s.store with asked := none } } : State).post a.org a.tag a.status a.results

/-- A taken command answered; one that no check refuses waits, taken, while it needs the store and a power-fail warning holds it (R107,
R396). [DESIGN CHOICE, log 100] [DEDUCED, log 42] -/
def State.runCommand (opc : Nat) (c : Ctx) (s : State) : State :=
  let r := s.answerOf opc c
  if s.waitsStore opc && !r.2.refuses then s.waitFor c.org 3
  else if storeWrites opc then State.finishWrite c r
  else finish c r

/-- A command goes on or is begun: one whose write has been begun is answered at its end. -/
def State.carryOn (opc : Nat) (c : Ctx) (s : State) : State := if s.asks c.org then s.tellAsked else s.runCommand opc c

/-! ### The host-link mailbox (R105) -/

/-- A command waits while a handover runs, if it would change state (R374); what follows it in its mailbox waits behind it
(R105). [DESIGN CHOICE, log 73] -/
def State.waitsHandover (s : State) (opc : Nat) : Bool :=
  s.pair.handoverAt.isSome && (opc == 0xA2 || ((opRow opc).map OpRow.changes).getD false)

/-- The management processor takes commands: awake, not restarting. -/
def State.takes (s : State) : Bool := s.awake && !s.mgmt.restarting

/-- A command of the mailbox that may be worked on: not yet taken, or taken and able to go on (R106). -/
def State.open_ (s : State) (c : MboxCmd) : Bool := !c.done && (!c.taken || s.goesOn (.host c.id) c.taken c.wait c.opc)

/-- The next command of the mailbox: one that was taken and waits for the store goes on where it can, else the oldest is taken and answered,
if one may be taken; waiting for the store holds no other command (R105, R106). [DESIGN CHOICE, log 73] -/
def State.takeHost (s : State) : State :=
  if !s.takes then s
  else
    match s.link.mbox.find? s.open_ with
    | none => s
    | some c =>
      if !c.taken && s.waitsHandover c.opc then s
      else
      let s := { s with link := s.link.onCmd c.id fun x => { x with taken := true } }
      let x : Ctx := { org := .host c.id, tag := c.tag, p := c.params }
      if c.taken then s.carryOn c.opc x else s.runCommand c.opc x

/-- COMMAND_TAKE. [DESIGN CHOICE, log 40] -/
def execCommandTake (s : State) : Out := .next s.takeHost

/-- The command that is next writes the store: its reply follows in a taking of its own. -/
def State.nextWrites (s : State) : Bool := ((s.link.mbox.find? s.open_).map fun c => storeWrites c.opc).getD false

/-- Several takings one after the other. [DESIGN CHOICE, log 40] -/
def takeMany : Nat → State → State
  | 0, s => s
  | n + 1, s => takeMany n (if s.nextWrites then s.takeHost.takeHost else s.takeHost)

/-- A host command received into the mailbox, or refused with the mailbox full (R98, R102), and taken after those that
wait before it (R105). [DESIGN CHOICE, log 40] -/
def State.hostCommand (opc : Nat) (tag : Byte) (params : Bytes) (s : State) : State :=
  if !s.awake then s
  else
    let s := s.shiftOut (List.replicate (params.length + 6) 0)
    if s.link.mbox.length ≥ 8 then s.refuseCommand
    else
    let s := s.receiveCommand opc tag params
    takeMany (s.link.mbox.filter s.open_).length s

/-! ### The remote mailbox (R115 to R120, R338) -/

/-- A record discarded. -/
def State.dropRecord (id : Nat) (s : State) : State :=
  { s with rem := { s.rem with box := s.rem.box.filter fun c => c.id != id } }

/-- A record discarded for slot, length or MAC. -/
def State.authFailed (id : Nat) (s : State) : State :=
  (({ s with rem := { s.rem with authFail := satInc s.rem.authFail 255 } } : State).dropRecord id).raise 27

/-- The MAC of a record's bytes before it (R116). -/
def recordMac (key : Bytes) (serial : Nat) (body : Bytes) : Bytes := (hmac key (le 8 serial ++ body)).take 8

/-- The length is as R117 and R338 ask: the smallest FD length that holds the record, zeros after MAC, no classic frame.
[DEDUCED, log 41] -/
def RemoteCmd.lengthOk (c : RemoteCmd) : Bool :=
  let n := u8 c.data 5 + 16
  !c.classic && decide (n ≤ 64) && c.data.length == fdLen n && (c.data.drop n).all (· == 0)

/-- The command that a record carries (Table 05-10). -/
def RemoteCmd.ctx (c : RemoteCmd) : Ctx := { org := .remote c.id, tag := c.data[6]?.getD 0, p := slice c.data 8 (u8 c.data 5) }

/-- A record that passed step 1, with its slot: MAC, counter, then the command (R117, R118). [DEDUCED, log 41] -/
def State.takeRecord (c : RemoteCmd) (i : Nat) (k : KeySlot) (s : State) : State :=
  let n := u8 c.data 5
  let cnt := u32 c.data 1
  let opc := u8 c.data 7
  if slice c.data (8 + n) 8 != recordMac k.key s.addressedSerial (c.data.take (8 + n)) then
    (s.countKey i fun k => { k with fails := satInc k.fails 65535 }).authFailed c.id
  else if k.exhausted || cnt ≤ nth s.com.keyCnt i 0 then
    (({ s with rem := { s.rem with replay := satInc s.rem.replay 255 } } : State).dropRecord c.id).raise 28
  else
    let s := s.countKey i fun k => { k with exhausted := cnt == 0xFFFFFFFF }
    let r := s.rem.onCmd c.id fun x => { x with taken := true, key := k.key }
    let s := { s with
      com := { s.com with keyCnt := upd s.com.keyCnt i fun _ => cnt }
      rem := r }
    let s := s.raise 26
    let x := c.ctx
    if !k.mask.getLsbD (opc / 16) || ((opRow opc).map OpRow.hostOnly).getD false then finish x (s, refused stLocked)
    else s.runCommand opc x

/-- REMOTE_RECORD_TAKE: one that was taken and waits for the store goes on where it can, else the oldest not yet taken; a unit of a pair
that is not active takes none (R105, R106, R117, R120). -/
def execRemoteRecordTake (s : State) : Out :=
  if !s.takes || !s.acting then .next s
  else
    match s.rem.box.find? fun c => !c.done && (!c.taken || s.goesOn (.remote c.id) c.taken c.wait (u8 c.data 7)) with
    | none => .next s
    | some c =>
      let i := u8 c.data 0
      if c.taken then .next (s.carryOn (u8 c.data 7) c.ctx)
      else if s.waitsHandover (u8 c.data 7) then .next s
      else .next (match c.lengthOk, nth s.unit.keys i none with
        | true, some k => s.takeRecord c i k
        | true, none => s.authFailed c.id
        | false, _ => s.authFailed c.id)

end Sys2Proof.Machine
end

