-- ==== Sys2Proof/Machine/Rows.lean ====
section
/-! DEFINITION. The command rows: each opcode of Table 05-7 as the host sends it with its parameters (R99, R105, R110). What a command
answers is its handler, named cmd with its name, in the file of its family. -/

namespace Sys2Proof.Machine

/-- NOP. -/
def execNop (tag : Byte) (params : List Byte) (s : State) : Out := .next (s.hostCommand 0x00 tag params)

/-- DEV_RESET. -/
def execDevReset (tag : Byte) (params : List Byte) (s : State) : Out := .next (s.hostCommand 0x02 tag params)

/-- PWR_CONFIG. -/
def execPwrConfig (tag : Byte) (params : List Byte) (s : State) : Out := .next (s.hostCommand 0x03 tag params)

/-- PWR_STATUS. -/
def execPwrStatus (tag : Byte) (params : List Byte) (s : State) : Out := .next (s.hostCommand 0x04 tag params)

/-- START_GROUP. -/
def execStartGroup (tag : Byte) (params : List Byte) (s : State) : Out := .next (s.hostCommand 0x05 tag params)

/-- STOP_GROUP. -/
def execStopGroup (tag : Byte) (params : List Byte) (s : State) : Out := .next (s.hostCommand 0x06 tag params)

/-- AUTH_KEY_LOAD. -/
def execAuthKeyLoad (tag : Byte) (params : List Byte) (s : State) : Out := .next (s.hostCommand 0x08 tag params)

/-- AUTH_KEY_CLEAR. -/
def execAuthKeyClear (tag : Byte) (params : List Byte) (s : State) : Out := .next (s.hostCommand 0x09 tag params)

/-- AUTH_STATUS. -/
def execAuthStatus (tag : Byte) (params : List Byte) (s : State) : Out := .next (s.hostCommand 0x0A tag params)

/-- RTC_SET. -/
def execRtcSet (tag : Byte) (params : List Byte) (s : State) : Out := .next (s.hostCommand 0x0C tag params)

/-- RTC_GET. -/
def execRtcGet (tag : Byte) (params : List Byte) (s : State) : Out := .next (s.hostCommand 0x0D tag params)

/-- EPOCH_GET. -/
def execEpochGet (tag : Byte) (params : List Byte) (s : State) : Out := .next (s.hostCommand 0x10 tag params)

/-- POINT_WRITE. -/
def execPointWrite (tag : Byte) (params : List Byte) (s : State) : Out := .next (s.hostCommand 0x11 tag params)

/-- OBJ_WRITE. -/
def execObjWrite (tag : Byte) (params : List Byte) (s : State) : Out := .next (s.hostCommand 0x12 tag params)

/-- GROUP_OPEN. -/
def execGroupOpen (tag : Byte) (params : List Byte) (s : State) : Out := .next (s.hostCommand 0x13 tag params)

/-- GROUP_CLOSE. -/
def execGroupClose (tag : Byte) (params : List Byte) (s : State) : Out := .next (s.hostCommand 0x14 tag params)

/-- SNAP_TAKE. -/
def execSnapTake (tag : Byte) (params : List Byte) (s : State) : Out := .next (s.hostCommand 0x15 tag params)

/-- SNAP_READ. -/
def execSnapRead (tag : Byte) (params : List Byte) (s : State) : Out := .next (s.hostCommand 0x16 tag params)

/-- SNAP_FREE. -/
def execSnapFree (tag : Byte) (params : List Byte) (s : State) : Out := .next (s.hostCommand 0x17 tag params)

/-- PT_CONFIG. -/
def execPtConfig (tag : Byte) (params : List Byte) (s : State) : Out := .next (s.hostCommand 0x20 tag params)

/-- PT_START. -/
def execPtStart (tag : Byte) (params : List Byte) (s : State) : Out := .next (s.hostCommand 0x21 tag params)

/-- PT_STOP. -/
def execPtStop (tag : Byte) (params : List Byte) (s : State) : Out := .next (s.hostCommand 0x22 tag params)

/-- PT_CAL. -/
def execPtCal (tag : Byte) (params : List Byte) (s : State) : Out := .next (s.hostCommand 0x23 tag params)

/-- PT_LINEAR. -/
def execPtLinear (tag : Byte) (params : List Byte) (s : State) : Out := .next (s.hostCommand 0x24 tag params)

/-- PT_STATUS. -/
def execPtStatus (tag : Byte) (params : List Byte) (s : State) : Out := .next (s.hostCommand 0x25 tag params)

/-- HU_CONFIG. -/
def execHuConfig (tag : Byte) (params : List Byte) (s : State) : Out := .next (s.hostCommand 0x28 tag params)

/-- HU_CAL. -/
def execHuCal (tag : Byte) (params : List Byte) (s : State) : Out := .next (s.hostCommand 0x29 tag params)

/-- HU_STATUS. -/
def execHuStatus (tag : Byte) (params : List Byte) (s : State) : Out := .next (s.hostCommand 0x2A tag params)

/-- SAR_SEQ. -/
def execSarSeq (tag : Byte) (params : List Byte) (s : State) : Out := .next (s.hostCommand 0x30 tag params)

/-- SAR_TRIG. -/
def execSarTrig (tag : Byte) (params : List Byte) (s : State) : Out := .next (s.hostCommand 0x31 tag params)

/-- CAL_SELF. -/
def execCalSelf (tag : Byte) (params : List Byte) (s : State) : Out := .next (s.hostCommand 0x32 tag params)

/-- SAR_START. -/
def execSarStart (tag : Byte) (params : List Byte) (s : State) : Out := .next (s.hostCommand 0x33 tag params)

/-- SAR_STOP. -/
def execSarStop (tag : Byte) (params : List Byte) (s : State) : Out := .next (s.hostCommand 0x34 tag params)

/-- PR_CONFIG. -/
def execPrConfig (tag : Byte) (params : List Byte) (s : State) : Out := .next (s.hostCommand 0x38 tag params)

/-- PR_WAKE. -/
def execPrWake (tag : Byte) (params : List Byte) (s : State) : Out := .next (s.hostCommand 0x39 tag params)

/-- PR_STATUS. -/
def execPrStatus (tag : Byte) (params : List Byte) (s : State) : Out := .next (s.hostCommand 0x3A tag params)

/-- VL_CONFIG. -/
def execVlConfig (tag : Byte) (params : List Byte) (s : State) : Out := .next (s.hostCommand 0x40 tag params)

/-- VL_SET. -/
def execVlSet (tag : Byte) (params : List Byte) (s : State) : Out := .next (s.hostCommand 0x41 tag params)

/-- VL_DECAY. -/
def execVlDecay (tag : Byte) (params : List Byte) (s : State) : Out := .next (s.hostCommand 0x42 tag params)

/-- VL_DUTY. -/
def execVlDuty (tag : Byte) (params : List Byte) (s : State) : Out := .next (s.hostCommand 0x43 tag params)

/-- VL_BANK. -/
def execVlBank (tag : Byte) (params : List Byte) (s : State) : Out := .next (s.hostCommand 0x44 tag params)

/-- VL_DIAG. -/
def execVlDiag (tag : Byte) (params : List Byte) (s : State) : Out := .next (s.hostCommand 0x45 tag params)

/-- VL_STATUS. -/
def execVlStatus (tag : Byte) (params : List Byte) (s : State) : Out := .next (s.hostCommand 0x46 tag params)

/-- VL_CLEAR. -/
def execVlClear (tag : Byte) (params : List Byte) (s : State) : Out := .next (s.hostCommand 0x47 tag params)

/-- AO_CONFIG. -/
def execAoConfig (tag : Byte) (params : List Byte) (s : State) : Out := .next (s.hostCommand 0x50 tag params)

/-- AO_STATUS. -/
def execAoStatus (tag : Byte) (params : List Byte) (s : State) : Out := .next (s.hostCommand 0x51 tag params)

/-- FN_CONFIG. -/
def execFnConfig (tag : Byte) (params : List Byte) (s : State) : Out := .next (s.hostCommand 0x52 tag params)

/-- FN_STATUS. -/
def execFnStatus (tag : Byte) (params : List Byte) (s : State) : Out := .next (s.hostCommand 0x53 tag params)

/-- FLOAT_CONFIG. -/
def execFloatConfig (tag : Byte) (params : List Byte) (s : State) : Out := .next (s.hostCommand 0x54 tag params)

/-- DI_CONFIG. -/
def execDiConfig (tag : Byte) (params : List Byte) (s : State) : Out := .next (s.hostCommand 0x58 tag params)

/-- DO_CONFIG. -/
def execDoConfig (tag : Byte) (params : List Byte) (s : State) : Out := .next (s.hostCommand 0x59 tag params)

/-- FIO_STATUS. -/
def execFioStatus (tag : Byte) (params : List Byte) (s : State) : Out := .next (s.hostCommand 0x5A tag params)

/-- FIO_CLEAR. -/
def execFioClear (tag : Byte) (params : List Byte) (s : State) : Out := .next (s.hostCommand 0x5B tag params)

/-- ZONE_MODE. -/
def execZoneMode (tag : Byte) (params : List Byte) (s : State) : Out := .next (s.hostCommand 0x60 tag params)

/-- ZONE_OVERRIDE. -/
def execZoneOverride (tag : Byte) (params : List Byte) (s : State) : Out := .next (s.hostCommand 0x61 tag params)

/-- LOOP_RUN. -/
def execLoopRun (tag : Byte) (params : List Byte) (s : State) : Out := .next (s.hostCommand 0x62 tag params)

/-- LOOP_STATS. -/
def execLoopStats (tag : Byte) (params : List Byte) (s : State) : Out := .next (s.hostCommand 0x63 tag params)

/-- MODEL_RESET. -/
def execModelReset (tag : Byte) (params : List Byte) (s : State) : Out := .next (s.hostCommand 0x64 tag params)

/-- PUB_CONFIG. -/
def execPubConfig (tag : Byte) (params : List Byte) (s : State) : Out := .next (s.hostCommand 0x65 tag params)

/-- SCHED_RUN. -/
def execSchedRun (tag : Byte) (params : List Byte) (s : State) : Out := .next (s.hostCommand 0x70 tag params)

/-- SCHED_RESOLVE. -/
def execSchedResolve (tag : Byte) (params : List Byte) (s : State) : Out := .next (s.hostCommand 0x71 tag params)

/-- TZ_CONFIG. -/
def execTzConfig (tag : Byte) (params : List Byte) (s : State) : Out := .next (s.hostCommand 0x72 tag params)

/-- RULE_RUN. -/
def execRuleRun (tag : Byte) (params : List Byte) (s : State) : Out := .next (s.hostCommand 0x80 tag params)

/-- RULE_STATUS. -/
def execRuleStatus (tag : Byte) (params : List Byte) (s : State) : Out := .next (s.hostCommand 0x81 tag params)

/-- ILK_WRITE. -/
def execIlkWrite (tag : Byte) (params : List Byte) (s : State) : Out := .next (s.hostCommand 0x88 tag params)

/-- ILK_READ. -/
def execIlkRead (tag : Byte) (params : List Byte) (s : State) : Out := .next (s.hostCommand 0x89 tag params)

/-- ILK_ARM. -/
def execIlkArm (tag : Byte) (params : List Byte) (s : State) : Out := .next (s.hostCommand 0x8A tag params)

/-- ILK_STATUS. -/
def execIlkStatus (tag : Byte) (params : List Byte) (s : State) : Out := .next (s.hostCommand 0x8B tag params)

/-- SAFE_SET. -/
def execSafeSet (tag : Byte) (params : List Byte) (s : State) : Out := .next (s.hostCommand 0x8C tag params)

/-- BUS_CONFIG. -/
def execBusConfig (tag : Byte) (params : List Byte) (s : State) : Out := .next (s.hostCommand 0x90 tag params)

/-- BUS_START. -/
def execBusStart (tag : Byte) (params : List Byte) (s : State) : Out := .next (s.hostCommand 0x91 tag params)

/-- BUS_SLEEP. -/
def execBusSleep (tag : Byte) (params : List Byte) (s : State) : Out := .next (s.hostCommand 0x92 tag params)

/-- BUS_SEND. -/
def execBusSend (tag : Byte) (params : List Byte) (s : State) : Out := .next (s.hostCommand 0x93 tag params)

/-- BUS_STATUS. -/
def execBusStatus (tag : Byte) (params : List Byte) (s : State) : Out := .next (s.hostCommand 0x94 tag params)

/-- BUS_RECOVER. -/
def execBusRecover (tag : Byte) (params : List Byte) (s : State) : Out := .next (s.hostCommand 0x95 tag params)

/-- PAIR_STATUS. -/
def execPairStatus (tag : Byte) (params : List Byte) (s : State) : Out := .next (s.hostCommand 0xA0 tag params)

/-- PAIR_CONFIG. -/
def execPairConfig (tag : Byte) (params : List Byte) (s : State) : Out := .next (s.hostCommand 0xA1 tag params)

/-- PAIR_HANDOVER. -/
def execPairHandover (tag : Byte) (params : List Byte) (s : State) : Out := .next (s.hostCommand 0xA2 tag params)

/-- CALLER_CONFIG. -/
def execCallerConfig (tag : Byte) (params : List Byte) (s : State) : Out := .next (s.hostCommand 0xA3 tag params)

/-- CALLER_STATUS. -/
def execCallerStatus (tag : Byte) (params : List Byte) (s : State) : Out := .next (s.hostCommand 0xA4 tag params)

/-- NVM_READ. -/
def execNvmRead (tag : Byte) (params : List Byte) (s : State) : Out := .next (s.hostCommand 0xB0 tag params)

/-- NVM_WRITE. -/
def execNvmWrite (tag : Byte) (params : List Byte) (s : State) : Out := .next (s.hostCommand 0xB1 tag params)

/-- NVM_PROTECT. -/
def execNvmProtect (tag : Byte) (params : List Byte) (s : State) : Out := .next (s.hostCommand 0xB2 tag params)

/-- RING_CONFIG. -/
def execRingConfig (tag : Byte) (params : List Byte) (s : State) : Out := .next (s.hostCommand 0xB3 tag params)

/-- RING_APPEND. -/
def execRingAppend (tag : Byte) (params : List Byte) (s : State) : Out := .next (s.hostCommand 0xB4 tag params)

/-- RING_READ. -/
def execRingRead (tag : Byte) (params : List Byte) (s : State) : Out := .next (s.hostCommand 0xB5 tag params)

/-- LOG_READ. -/
def execLogRead (tag : Byte) (params : List Byte) (s : State) : Out := .next (s.hostCommand 0xB6 tag params)

/-- PATCH_LOAD. -/
def execPatchLoad (tag : Byte) (params : List Byte) (s : State) : Out := .next (s.hostCommand 0xB7 tag params)

/-- PATCH_ACTIVATE. -/
def execPatchActivate (tag : Byte) (params : List Byte) (s : State) : Out := .next (s.hostCommand 0xB8 tag params)

/-- NVM_STATUS. -/
def execNvmStatus (tag : Byte) (params : List Byte) (s : State) : Out := .next (s.hostCommand 0xB9 tag params)

/-- DSP_CONFIG. -/
def execDspConfig (tag : Byte) (params : List Byte) (s : State) : Out := .next (s.hostCommand 0xC0 tag params)

/-- DSP_SHOW. -/
def execDspShow (tag : Byte) (params : List Byte) (s : State) : Out := .next (s.hostCommand 0xC1 tag params)

/-- DSP_OVERDRIVE. -/
def execDspOverdrive (tag : Byte) (params : List Byte) (s : State) : Out := .next (s.hostCommand 0xC2 tag params)

/-- DSP_FIGURE. -/
def execDspFigure (tag : Byte) (params : List Byte) (s : State) : Out := .next (s.hostCommand 0xC3 tag params)

/-- DSP_BACKLIGHT. -/
def execDspBacklight (tag : Byte) (params : List Byte) (s : State) : Out := .next (s.hostCommand 0xC4 tag params)

/-- DSP_STATUS. -/
def execDspStatus (tag : Byte) (params : List Byte) (s : State) : Out := .next (s.hostCommand 0xC5 tag params)

/-- KEY_CONFIG. -/
def execKeyConfig (tag : Byte) (params : List Byte) (s : State) : Out := .next (s.hostCommand 0xD0 tag params)

/-- ENC_CONFIG. -/
def execEncConfig (tag : Byte) (params : List Byte) (s : State) : Out := .next (s.hostCommand 0xD1 tag params)

/-- KEY_LOCK. -/
def execKeyLock (tag : Byte) (params : List Byte) (s : State) : Out := .next (s.hostCommand 0xD2 tag params)

/-- KEY_STATUS. -/
def execKeyStatus (tag : Byte) (params : List Byte) (s : State) : Out := .next (s.hostCommand 0xD3 tag params)

/-- HK_STATUS. -/
def execHkStatus (tag : Byte) (params : List Byte) (s : State) : Out := .next (s.hostCommand 0xE0 tag params)

/-- THERM_CONFIG. -/
def execThermConfig (tag : Byte) (params : List Byte) (s : State) : Out := .next (s.hostCommand 0xE1 tag params)

/-- THERM_CLEAR. -/
def execThermClear (tag : Byte) (params : List Byte) (s : State) : Out := .next (s.hostCommand 0xE2 tag params)

/-- THERM_LOG. -/
def execThermLog (tag : Byte) (params : List Byte) (s : State) : Out := .next (s.hostCommand 0xE3 tag params)

/-- CAP_FIRST. -/
def execCapFirst (tag : Byte) (params : List Byte) (s : State) : Out := .next (s.hostCommand 0xF0 tag params)

/-- CAP_NEXT. -/
def execCapNext (tag : Byte) (params : List Byte) (s : State) : Out := .next (s.hostCommand 0xF1 tag params)

/-- LINK_STATS. -/
def execLinkStats (tag : Byte) (params : List Byte) (s : State) : Out := .next (s.hostCommand 0xF2 tag params)

/-- LINK_CLEAR. -/
def execLinkClear (tag : Byte) (params : List Byte) (s : State) : Out := .next (s.hostCommand 0xF3 tag params)

end Sys2Proof.Machine
end

