-- ==== Sys2Proof/Machine/Dispatch.lean ====
section
/-! DEFINITION. One arm per command or event: a direct call of its meaning. -/

namespace Sys2Proof.Machine

def exec (i : Instr) (s : State) : Host.Outcome State Fault Refusal :=
  match i with
  | .powerOn => Sys2Proof.Machine.execPowerOn s
  | .lineBrownOut byVpre => Sys2Proof.Machine.execLineBrownOut byVpre s
  | .lineBrownOutEnd => Sys2Proof.Machine.execLineBrownOutEnd s
  | .railBrownOut cut => Sys2Proof.Machine.execRailBrownOut cut s
  | .resetNAssert widthNs taken cut => Sys2Proof.Machine.execResetNAssert widthNs taken cut s
  | .devResetBegin => Sys2Proof.Machine.execDevResetBegin s
  | .resetRelease straps tmode => Sys2Proof.Machine.execResetRelease straps tmode s
  | .pllLock => Sys2Proof.Machine.execPllLock s
  | .pavaneStep => Sys2Proof.Machine.execPavaneStep s
  | .wakeFromDoze src => Sys2Proof.Machine.execWakeFromDoze src s
  | .scheduledWake => Sys2Proof.Machine.execScheduledWake s
  | .allotGrantFrame f => Sys2Proof.Machine.execAllotGrantFrame f s
  | .allotGrantTimeout => Sys2Proof.Machine.execAllotGrantTimeout s
  | .allotRequestRepeat => Sys2Proof.Machine.execAllotRequestRepeat s
  | .allotLowerApply => Sys2Proof.Machine.execAllotLowerApply s
  | .lineMeasure line10mV => Sys2Proof.Machine.execLineMeasure line10mV s
  | .limiterHold => Sys2Proof.Machine.execLimiterHold s
  | .limiterOverload => Sys2Proof.Machine.execLimiterOverload s
  | .limiterRelease => Sys2Proof.Machine.execLimiterRelease s
  | .powerFailWarning pagesDone => Sys2Proof.Machine.execPowerFailWarning pagesDone s
  | .powerFailWarningClear => Sys2Proof.Machine.execPowerFailWarningClear s
  | .vactLow => Sys2Proof.Machine.execVactLow s
  | .vactOk => Sys2Proof.Machine.execVactOk s
  | .xtalFail => Sys2Proof.Machine.execXtalFail s
  | .xtalStable => Sys2Proof.Machine.execXtalStable s
  | .wakePinRise => Sys2Proof.Machine.execWakePinRise s
  | .mgmtWatchdogExpiry => Sys2Proof.Machine.execMgmtWatchdogExpiry s
  | .lockstepMismatch => Sys2Proof.Machine.execLockstepMismatch s
  | .mgmtRestartEnd => Sys2Proof.Machine.execMgmtRestartEnd s
  | .safeStateEntry => Sys2Proof.Machine.execSafeStateEntry s
  | .beatBoundary obs => Sys2Proof.Machine.execBeatBoundary obs s
  | .applyQuantum => Sys2Proof.Machine.execApplyQuantum s
  | .roundBoundary loopsDone => Sys2Proof.Machine.execRoundBoundary loopsDone s
  | .roundWorkOverrun => Sys2Proof.Machine.execRoundWorkOverrun s
  | .zonePublication => Sys2Proof.Machine.execZonePublication s
  | .groupExpiry g => Sys2Proof.Machine.execGroupExpiry g s
  | .snapExpiry h => Sys2Proof.Machine.execSnapExpiry h s
  | .commandWrite packet => Sys2Proof.Machine.execCommandWrite packet s
  | .replyRead clocked => Sys2Proof.Machine.execReplyRead clocked s
  | .unknownTransaction x => Sys2Proof.Machine.execUnknownTransaction x s
  | .windowWrite addr data => Sys2Proof.Machine.execWindowWrite addr data s
  | .evstClear k ovf bits => Sys2Proof.Machine.execEvstClear k ovf bits s
  | .tbloRead => Sys2Proof.Machine.execTbloRead s
  | .txfPush flushFirst => Sys2Proof.Machine.execTxfPush flushFirst s
  | .txfFlush => Sys2Proof.Machine.execTxfFlush s
  | .kqeFree idx => Sys2Proof.Machine.execKqeFree idx s
  | .irqPulseEnd padB => Sys2Proof.Machine.execIrqPulseEnd padB s
  | .commandTake => Sys2Proof.Machine.execCommandTake s
  | .deferredTimeout remote slot => Sys2Proof.Machine.execDeferredTimeout remote slot s
  | .deferredExpiry remote slot => Sys2Proof.Machine.execDeferredExpiry remote slot s
  | .replyExpiry => Sys2Proof.Machine.execReplyExpiry s
  | .remoteRecordArrival f => Sys2Proof.Machine.execRemoteRecordArrival f s
  | .remoteRecordTake => Sys2Proof.Machine.execRemoteRecordTake s
  | .nop tag params => Sys2Proof.Machine.execNop tag params s
  | .devReset tag params => Sys2Proof.Machine.execDevReset tag params s
  | .pwrConfig tag params => Sys2Proof.Machine.execPwrConfig tag params s
  | .pwrStatus tag params => Sys2Proof.Machine.execPwrStatus tag params s
  | .startGroup tag params => Sys2Proof.Machine.execStartGroup tag params s
  | .stopGroup tag params => Sys2Proof.Machine.execStopGroup tag params s
  | .authKeyLoad tag params => Sys2Proof.Machine.execAuthKeyLoad tag params s
  | .authKeyClear tag params => Sys2Proof.Machine.execAuthKeyClear tag params s
  | .authStatus tag params => Sys2Proof.Machine.execAuthStatus tag params s
  | .rtcSet tag params => Sys2Proof.Machine.execRtcSet tag params s
  | .rtcGet tag params => Sys2Proof.Machine.execRtcGet tag params s
  | .epochGet tag params => Sys2Proof.Machine.execEpochGet tag params s
  | .pointWrite tag params => Sys2Proof.Machine.execPointWrite tag params s
  | .objWrite tag params => Sys2Proof.Machine.execObjWrite tag params s
  | .groupOpen tag params => Sys2Proof.Machine.execGroupOpen tag params s
  | .groupClose tag params => Sys2Proof.Machine.execGroupClose tag params s
  | .snapTake tag params => Sys2Proof.Machine.execSnapTake tag params s
  | .snapRead tag params => Sys2Proof.Machine.execSnapRead tag params s
  | .snapFree tag params => Sys2Proof.Machine.execSnapFree tag params s
  | .ptConfig tag params => Sys2Proof.Machine.execPtConfig tag params s
  | .ptStart tag params => Sys2Proof.Machine.execPtStart tag params s
  | .ptStop tag params => Sys2Proof.Machine.execPtStop tag params s
  | .ptCal tag params => Sys2Proof.Machine.execPtCal tag params s
  | .ptLinear tag params => Sys2Proof.Machine.execPtLinear tag params s
  | .ptStatus tag params => Sys2Proof.Machine.execPtStatus tag params s
  | .huConfig tag params => Sys2Proof.Machine.execHuConfig tag params s
  | .huCal tag params => Sys2Proof.Machine.execHuCal tag params s
  | .huStatus tag params => Sys2Proof.Machine.execHuStatus tag params s
  | .sarSeq tag params => Sys2Proof.Machine.execSarSeq tag params s
  | .sarTrig tag params => Sys2Proof.Machine.execSarTrig tag params s
  | .calSelf tag params => Sys2Proof.Machine.execCalSelf tag params s
  | .sarStart tag params => Sys2Proof.Machine.execSarStart tag params s
  | .sarStop tag params => Sys2Proof.Machine.execSarStop tag params s
  | .prConfig tag params => Sys2Proof.Machine.execPrConfig tag params s
  | .prWake tag params => Sys2Proof.Machine.execPrWake tag params s
  | .prStatus tag params => Sys2Proof.Machine.execPrStatus tag params s
  | .vlConfig tag params => Sys2Proof.Machine.execVlConfig tag params s
  | .vlSet tag params => Sys2Proof.Machine.execVlSet tag params s
  | .vlDecay tag params => Sys2Proof.Machine.execVlDecay tag params s
  | .vlDuty tag params => Sys2Proof.Machine.execVlDuty tag params s
  | .vlBank tag params => Sys2Proof.Machine.execVlBank tag params s
  | .vlDiag tag params => Sys2Proof.Machine.execVlDiag tag params s
  | .vlStatus tag params => Sys2Proof.Machine.execVlStatus tag params s
  | .vlClear tag params => Sys2Proof.Machine.execVlClear tag params s
  | .aoConfig tag params => Sys2Proof.Machine.execAoConfig tag params s
  | .aoStatus tag params => Sys2Proof.Machine.execAoStatus tag params s
  | .fnConfig tag params => Sys2Proof.Machine.execFnConfig tag params s
  | .fnStatus tag params => Sys2Proof.Machine.execFnStatus tag params s
  | .floatConfig tag params => Sys2Proof.Machine.execFloatConfig tag params s
  | .diConfig tag params => Sys2Proof.Machine.execDiConfig tag params s
  | .doConfig tag params => Sys2Proof.Machine.execDoConfig tag params s
  | .fioStatus tag params => Sys2Proof.Machine.execFioStatus tag params s
  | .fioClear tag params => Sys2Proof.Machine.execFioClear tag params s
  | .zoneMode tag params => Sys2Proof.Machine.execZoneMode tag params s
  | .zoneOverride tag params => Sys2Proof.Machine.execZoneOverride tag params s
  | .loopRun tag params => Sys2Proof.Machine.execLoopRun tag params s
  | .loopStats tag params => Sys2Proof.Machine.execLoopStats tag params s
  | .modelReset tag params => Sys2Proof.Machine.execModelReset tag params s
  | .pubConfig tag params => Sys2Proof.Machine.execPubConfig tag params s
  | .schedRun tag params => Sys2Proof.Machine.execSchedRun tag params s
  | .schedResolve tag params => Sys2Proof.Machine.execSchedResolve tag params s
  | .tzConfig tag params => Sys2Proof.Machine.execTzConfig tag params s
  | .ruleRun tag params => Sys2Proof.Machine.execRuleRun tag params s
  | .ruleStatus tag params => Sys2Proof.Machine.execRuleStatus tag params s
  | .ilkWrite tag params => Sys2Proof.Machine.execIlkWrite tag params s
  | .ilkRead tag params => Sys2Proof.Machine.execIlkRead tag params s
  | .ilkArm tag params => Sys2Proof.Machine.execIlkArm tag params s
  | .ilkStatus tag params => Sys2Proof.Machine.execIlkStatus tag params s
  | .safeSet tag params => Sys2Proof.Machine.execSafeSet tag params s
  | .busConfig tag params => Sys2Proof.Machine.execBusConfig tag params s
  | .busStart tag params => Sys2Proof.Machine.execBusStart tag params s
  | .busSleep tag params => Sys2Proof.Machine.execBusSleep tag params s
  | .busSend tag params => Sys2Proof.Machine.execBusSend tag params s
  | .busStatus tag params => Sys2Proof.Machine.execBusStatus tag params s
  | .busRecover tag params => Sys2Proof.Machine.execBusRecover tag params s
  | .pairStatus tag params => Sys2Proof.Machine.execPairStatus tag params s
  | .pairConfig tag params => Sys2Proof.Machine.execPairConfig tag params s
  | .pairHandover tag params => Sys2Proof.Machine.execPairHandover tag params s
  | .callerConfig tag params => Sys2Proof.Machine.execCallerConfig tag params s
  | .callerStatus tag params => Sys2Proof.Machine.execCallerStatus tag params s
  | .nvmRead tag params => Sys2Proof.Machine.execNvmRead tag params s
  | .nvmWrite tag params => Sys2Proof.Machine.execNvmWrite tag params s
  | .nvmProtect tag params => Sys2Proof.Machine.execNvmProtect tag params s
  | .ringConfig tag params => Sys2Proof.Machine.execRingConfig tag params s
  | .ringAppend tag params => Sys2Proof.Machine.execRingAppend tag params s
  | .ringRead tag params => Sys2Proof.Machine.execRingRead tag params s
  | .logRead tag params => Sys2Proof.Machine.execLogRead tag params s
  | .patchLoad tag params => Sys2Proof.Machine.execPatchLoad tag params s
  | .patchActivate tag params => Sys2Proof.Machine.execPatchActivate tag params s
  | .nvmStatus tag params => Sys2Proof.Machine.execNvmStatus tag params s
  | .dspConfig tag params => Sys2Proof.Machine.execDspConfig tag params s
  | .dspShow tag params => Sys2Proof.Machine.execDspShow tag params s
  | .dspOverdrive tag params => Sys2Proof.Machine.execDspOverdrive tag params s
  | .dspFigure tag params => Sys2Proof.Machine.execDspFigure tag params s
  | .dspBacklight tag params => Sys2Proof.Machine.execDspBacklight tag params s
  | .dspStatus tag params => Sys2Proof.Machine.execDspStatus tag params s
  | .keyConfig tag params => Sys2Proof.Machine.execKeyConfig tag params s
  | .encConfig tag params => Sys2Proof.Machine.execEncConfig tag params s
  | .keyLock tag params => Sys2Proof.Machine.execKeyLock tag params s
  | .keyStatus tag params => Sys2Proof.Machine.execKeyStatus tag params s
  | .hkStatus tag params => Sys2Proof.Machine.execHkStatus tag params s
  | .thermConfig tag params => Sys2Proof.Machine.execThermConfig tag params s
  | .thermClear tag params => Sys2Proof.Machine.execThermClear tag params s
  | .thermLog tag params => Sys2Proof.Machine.execThermLog tag params s
  | .capFirst tag params => Sys2Proof.Machine.execCapFirst tag params s
  | .capNext tag params => Sys2Proof.Machine.execCapNext tag params s
  | .linkStats tag params => Sys2Proof.Machine.execLinkStats tag params s
  | .linkClear tag params => Sys2Proof.Machine.execLinkClear tag params s
  | .ptGroupFirstCycle g => Sys2Proof.Machine.execPtGroupFirstCycle g s
  | .ptResultPost ch obs => Sys2Proof.Machine.execPtResultPost ch obs s
  | .excitationFault g => Sys2Proof.Machine.execExcitationFault g s
  | .huSweepStart => Sys2Proof.Machine.execHuSweepStart s
  | .huResultPost ch obs => Sys2Proof.Machine.execHuResultPost ch obs s
  | .sarConversionEnd obs => Sys2Proof.Machine.execSarConversionEnd obs s
  | .regulationRequestDue unit inPhase => Sys2Proof.Machine.execRegulationRequestDue unit inPhase s
  | .regulationRequestDrop unit => Sys2Proof.Machine.execRegulationRequestDrop unit s
  | .sarTrigger k => Sys2Proof.Machine.execSarTrigger k s
  | .sarRecoveryGapEnd => Sys2Proof.Machine.execSarRecoveryGapEnd s
  | .calSelfDone obs => Sys2Proof.Machine.execCalSelfDone obs s
  | .hkRoundStart => Sys2Proof.Machine.execHkRoundStart s
  | .hkReadingPost why => Sys2Proof.Machine.execHkReadingPost why s
  | .hkStartReading why => Sys2Proof.Machine.execHkStartReading why s
  | .thermRearm => Sys2Proof.Machine.execThermRearm s
  | .thermalRecordAppend => Sys2Proof.Machine.execThermalRecordAppend s
  | .prSample ch obs => Sys2Proof.Machine.execPrSample ch obs s
  | .prCountWindowEnd ch => Sys2Proof.Machine.execPrCountWindowEnd ch s
  | .prHoldoffEnd ch => Sys2Proof.Machine.execPrHoldoffEnd ch s
  | .prArmed ch => Sys2Proof.Machine.execPrArmed ch s
  | .prBlankEnd ch => Sys2Proof.Machine.execPrBlankEnd ch s
  | .prFaultClear ch => Sys2Proof.Machine.execPrFaultClear ch s
  | .prAwakeLapse => Sys2Proof.Machine.execPrAwakeLapse s
  | .prWakeComparator ch => Sys2Proof.Machine.execPrWakeComparator ch s
  | .vlCarrierStart ch => Sys2Proof.Machine.execVlCarrierStart ch s
  | .vlRegulationSample ch obs => Sys2Proof.Machine.execVlRegulationSample ch obs s
  | .vlBoostAdmit bank => Sys2Proof.Machine.execVlBoostAdmit bank s
  | .vlTboostExpiry ch => Sys2Proof.Machine.execVlTboostExpiry ch s
  | .vlPiextEnd ch => Sys2Proof.Machine.execVlPiextEnd ch s
  | .vlFallTimeout ch => Sys2Proof.Machine.execVlFallTimeout ch s
  | .vlOpenCheck ch => Sys2Proof.Machine.execVlOpenCheck ch s
  | .vlMeanPost => Sys2Proof.Machine.execVlMeanPost s
  | .vlBankSingleReturn bank => Sys2Proof.Machine.execVlBankSingleReturn bank s
  | .vlBankWindow bank => Sys2Proof.Machine.execVlBankWindow bank s
  | .vlDutyWindowStart ch => Sys2Proof.Machine.execVlDutyWindowStart ch s
  | .vlDutyLimitReached ch => Sys2Proof.Machine.execVlDutyLimitReached ch s
  | .vlComparatorTrip ch => Sys2Proof.Machine.execVlComparatorTrip ch s
  | .vlClampFault ch => Sys2Proof.Machine.execVlClampFault ch s
  | .bankComparatorTrip bank => Sys2Proof.Machine.execBankComparatorTrip bank s
  | .vlDiagPhaseEnd ch obs => Sys2Proof.Machine.execVlDiagPhaseEnd ch obs s
  | .aoSlewStep ch => Sys2Proof.Machine.execAoSlewStep ch s
  | .aoReadback ch obs => Sys2Proof.Machine.execAoReadback ch obs s
  | .aoCurrentLimit ch => Sys2Proof.Machine.execAoCurrentLimit ch s
  | .aoRetry ch => Sys2Proof.Machine.execAoRetry ch s
  | .fnPeriodStart ch => Sys2Proof.Machine.execFnPeriodStart ch s
  | .ftEdge ch obs => Sys2Proof.Machine.execFtEdge ch obs s
  | .ftTimeout ch => Sys2Proof.Machine.execFtTimeout ch s
  | .fnTachLost ch => Sys2Proof.Machine.execFnTachLost ch s
  | .fnStall ch => Sys2Proof.Machine.execFnStall ch s
  | .fnStallRestart ch => Sys2Proof.Machine.execFnStallRestart ch s
  | .floatRunEnd fd => Sys2Proof.Machine.execFloatRunEnd fd s
  | .floatReversalEnd fd => Sys2Proof.Machine.execFloatReversalEnd fd s
  | .floatHomingEnd fd => Sys2Proof.Machine.execFloatHomingEnd fd s
  | .lplusPresent l10mV => Sys2Proof.Machine.execLplusPresent l10mV s
  | .lplusLost l10mV => Sys2Proof.Machine.execLplusLost l10mV s
  | .fieldLinkFault failed => Sys2Proof.Machine.execFieldLinkFault failed s
  | .fieldLinkReturn => Sys2Proof.Machine.execFieldLinkReturn s
  | .diFilteredChange ch obs => Sys2Proof.Machine.execDiFilteredChange ch obs s
  | .diCurrentMean ch ua v10mV => Sys2Proof.Machine.execDiCurrentMean ch ua v10mV s
  | .diWireBreakDeclare ch => Sys2Proof.Machine.execDiWireBreakDeclare ch s
  | .diWireBreakClear ch => Sys2Proof.Machine.execDiWireBreakClear ch s
  | .diDozeChange obs => Sys2Proof.Machine.execDiDozeChange obs s
  | .doShort ch => Sys2Proof.Machine.execDoShort ch s
  | .doRetry ch => Sys2Proof.Machine.execDoRetry ch s
  | .doOvertemp ch => Sys2Proof.Machine.execDoOvertemp ch s
  | .doOvertempEnd ch => Sys2Proof.Machine.execDoOvertempEnd ch s
  | .doOpen ch => Sys2Proof.Machine.execDoOpen ch s
  | .doOpenClear ch => Sys2Proof.Machine.execDoOpenClear ch s
  | .ilkTrip idx => Sys2Proof.Machine.execIlkTrip idx s
  | .ilkRelease idx => Sys2Proof.Machine.execIlkRelease idx s
  | .busIntegrated => Sys2Proof.Machine.execBusIntegrated s
  | .busConfigEffect => Sys2Proof.Machine.execBusConfigEffect s
  | .busSleepEnter => Sys2Proof.Machine.execBusSleepEnter s
  | .wakePatternSend => Sys2Proof.Machine.execWakePatternSend s
  | .frameReceived f => Sys2Proof.Machine.execFrameReceived f s
  | .txFrameSent k tdc age => Sys2Proof.Machine.execTxFrameSent k tdc age s
  | .txAttemptFail obs => Sys2Proof.Machine.execTxAttemptFail obs s
  | .collisionHoldEnd => Sys2Proof.Machine.execCollisionHoldEnd s
  | .txLifeExpiry => Sys2Proof.Machine.execTxLifeExpiry s
  | .busAutorecStart => Sys2Proof.Machine.execBusAutorecStart s
  | .busRecoveryDone => Sys2Proof.Machine.execBusRecoveryDone s
  | .btsWrap => Sys2Proof.Machine.execBtsWrap s
  | .vigilLoad => Sys2Proof.Machine.execVigilLoad s
  | .lineFaultDomto => Sys2Proof.Machine.execLineFaultDomto s
  | .lineFaultStuck => Sys2Proof.Machine.execLineFaultStuck s
  | .lineFaultRange vrest10mV => Sys2Proof.Machine.execLineFaultRange vrest10mV s
  | .lineFaultWeak dip10mV => Sys2Proof.Machine.execLineFaultWeak dip10mV s
  | .lineFaultEnd which => Sys2Proof.Machine.execLineFaultEnd which s
  | .busWakeDetect => Sys2Proof.Machine.execBusWakeDetect s
  | .busWakeSequenceTimeout => Sys2Proof.Machine.execBusWakeSequenceTimeout s
  | .verdictFrame f => Sys2Proof.Machine.execVerdictFrame f s
  | .vigilAtCaller f => Sys2Proof.Machine.execVigilAtCaller f s
  | .callerListenEnd => Sys2Proof.Machine.execCallerListenEnd s
  | .callerVerdictLoad onChange => Sys2Proof.Machine.execCallerVerdictLoad onChange s
  | .unitAliveTimeout slot unitB => Sys2Proof.Machine.execUnitAliveTimeout slot unitB s
  | .activeStateTimeout slot => Sys2Proof.Machine.execActiveStateTimeout slot s
  | .electwaitExpiry slot => Sys2Proof.Machine.execElectwaitExpiry slot s
  | .leaseLapse => Sys2Proof.Machine.execLeaseLapse s
  | .takeoverQuantum => Sys2Proof.Machine.execTakeoverQuantum s
  | .roleRelease => Sys2Proof.Machine.execRoleRelease s
  | .handoverTimeout => Sys2Proof.Machine.execHandoverTimeout s
  | .minuetLinkFrame lf => Sys2Proof.Machine.execMinuetLinkFrame lf s
  | .minuetLinkSend => Sys2Proof.Machine.execMinuetLinkSend s
  | .minuetLinkDown => Sys2Proof.Machine.execMinuetLinkDown s
  | .leaseFrame lf => Sys2Proof.Machine.execLeaseFrame lf s
  | .takeoverFrame lf => Sys2Proof.Machine.execTakeoverFrame lf s
  | .deltaFrame lf => Sys2Proof.Machine.execDeltaFrame lf s
  | .copyFrame lf => Sys2Proof.Machine.execCopyFrame lf s
  | .ackFrame lf => Sys2Proof.Machine.execAckFrame lf s
  | .ackTimeout => Sys2Proof.Machine.execAckTimeout s
  | .syncreqFrame lf => Sys2Proof.Machine.execSyncreqFrame lf s
  | .keyevtFrame lf => Sys2Proof.Machine.execKeyevtFrame lf s
  | .nvmRecallDone obs => Sys2Proof.Machine.execNvmRecallDone obs s
  | .unitAreaRotation => Sys2Proof.Machine.execUnitAreaRotation s
  | .lcdFrameStart => Sys2Proof.Machine.execLcdFrameStart s
  | .dspMarkerVerified => Sys2Proof.Machine.execDspMarkerVerified s
  | .dspRailUp => Sys2Proof.Machine.execDspRailUp s
  | .dspUpdateStart => Sys2Proof.Machine.execDspUpdateStart s
  | .dspFigureEnd seg => Sys2Proof.Machine.execDspFigureEnd seg s
  | .dspUpdateEnd => Sys2Proof.Machine.execDspUpdateEnd s
  | .dspRecoveryStart => Sys2Proof.Machine.execDspRecoveryStart s
  | .dspRecoveryEnd => Sys2Proof.Machine.execDspRecoveryEnd s
  | .dspRailFault => Sys2Proof.Machine.execDspRailFault s
  | .dspRailRetry => Sys2Proof.Machine.execDspRailRetry s
  | .railholdEnd => Sys2Proof.Machine.execRailholdEnd s
  | .keyColumnScan col rows => Sys2Proof.Machine.execKeyColumnScan col rows s
  | .encSample lines => Sys2Proof.Machine.execEncSample lines s
  | .autolockExpiry => Sys2Proof.Machine.execAutolockExpiry s
  | .keyWake code => Sys2Proof.Machine.execKeyWake code s
  | .encWake enc => Sys2Proof.Machine.execEncWake enc s
  | .deviceUnpowered => Sys2Proof.Machine.execDeviceUnpowered s
  | .fnStallClear ch => Sys2Proof.Machine.execFnStallClear ch s
  | .diInputValid ch mv => Sys2Proof.Machine.execDiInputValid ch mv s
  | .busReceiveError obs => Sys2Proof.Machine.execBusReceiveError obs s

end Sys2Proof.Machine
end

