-- ==== Sys2Proof/Machine/Idle.lean ====
section
/-! DEFINITION. What passes when nothing happens: time alone (R24, R130). -/

namespace Sys2Proof.Machine

/-- One count of time: a microsecond quantum of TB in NAP, RUN and reset; in DOZE a crystal period of 15625/512 µs, kept
with a fractional accumulator of 1/512 µs (R24). An unpowered device has no time. [DESIGN CHOICE, log 3] -/
def idle (s : State) : State :=
  match s.phase with
  | .unpowered => s
  | .reset => s.pass 1
  | .held => s.pass 1
  | .nap => s.pass 1
  | .run => s.pass 1
  | .doze => s.crystal 1

end Sys2Proof.Machine
end

