-- ==== Sys2Proof/Machine/Step.lean ====
section
/-! DEFINITION. One step: the command or event at the front of the queue, or the passing of time on an empty queue. -/

namespace Sys2Proof.Machine

/-- Takes the command at the front of the queue and executes it with the rest; on an empty queue a microsecond quantum
passes (DESIGN CHOICE, log 3). [DESIGN CHOICE, log 1] -/
def step (s : State) : Host.Outcome State Fault Refusal :=
  match s.pending with
  | [] => .next (idle s)
  | c :: rest => exec c { s with pending := rest }

/-- The state with the command that a word spells put at the front of the queue; no word spells one.
[DESIGN CHOICE, log 1] -/
def State.withFetchWord (s : State) (nbits w : Nat) : State :=
  match Sys2Proof.decodeTableWord nbits w with
  | some c => { s with pending := c :: s.pending }
  | none => s

end Sys2Proof.Machine
end

