-- ==== Sys2Proof/Machine/Pads.lean ====
section
/-! DEFINITION. The signal pads: their places on the package and the state each is in, which follows from the state of the
device (R28 to R32, R40, R85, R127, R203, R215, R246, R421 to R424, R427, R437). -/

namespace Sys2Proof.Machine

/-- The signals of Table 02-3, by number; en is encoder e, signal A or B. -/
inductive Signal where
  | seg (k : Nat) | com (c : Nat) | krow (r : Nat) | enc (e : Nat) (b : Bool) | bl (i : Nat)
  | vlcd | vepP | vepN | vepCom | hcsN | hsck | hmosi | hmiso | irqN (padB : Bool) | resetN | wake
  | cfg (i : Nat) | tmode | xt32I | xt32O | plkTxP | plkTxN | plkRxP | plkRxN | aux (i : Nat)
  | ptP (n : Nat) | ptN (n : Nat) | excP (g : Nat) | excN (g : Nat) | refP (g : Nat) | refN (g : Nat)
  | hux (i : Nat) | hu (n : Nat) | prb (g : Nat) | pr (n : Nat) | ao (n : Nat) | fn (n : Nat) | ft (n : Nat)
  | vhs (b : Nat) | vl (n : Nat) | di (n : Nat) | dout (n : Nat)
deriving DecidableEq, Repr

/-- The pads of a signal (Tables 02-3 and 02-4). [DESIGN CHOICE, log 84] -/
def Signal.pads : Signal → List Nat
  | .seg k => [k + 1]
  | .com c => [97 + c]
  | .krow r => [105 + r]
  | .enc e b => [113 + 2 * e + b2n b]
  | .bl i => [121 + i]
  | .vlcd => [125] | .vepP => [126] | .vepN => [127] | .vepCom => [128]
  | .hcsN => [129] | .hsck => [130] | .hmosi => [131] | .hmiso => [132]
  | .irqN b => [133 + b2n b]
  | .resetN => [135] | .wake => [136]
  | .cfg i => [137 + i]
  | .tmode => [140] | .xt32I => [141] | .xt32O => [142]
  | .plkTxP => [143] | .plkTxN => [144] | .plkRxP => [145] | .plkRxN => [146]
  | .aux i => [155 + i]
  | .ptP n => [161 + 2 * n]
  | .ptN n => [162 + 2 * n]
  | .excP g => [193 + 2 * g]
  | .excN g => [194 + 2 * g]
  | .refP g => [201 + 2 * g]
  | .refN g => [202 + 2 * g]
  | .hux i => [212 + i]
  | .hu n => [221 + n]
  | .prb g => [237 + g]
  | .pr n => [241 + n]
  | .ao n => [257 + n]
  | .fn n => [273 + n]
  | .ft n => [281 + n]
  | .vhs b => [301 + 16 * b, 302 + 16 * b, 303 + 16 * b, 304 + 16 * b]
  | .vl n => [305 + 16 * (n / 4) + 2 * (n % 4), 306 + 16 * (n / 4) + 2 * (n % 4)]
  | .di n => [361 + n]
  | .dout n => [381 + n]

/-- Row and column of a pad, and its centre from the left and the top edge in 0.01 mm (R28). -/
def padRow (n : Nat) : Nat := (n + 19) / 20
def padCol (n : Nat) : Nat := n - 20 * (padRow n - 1)
def padX (n : Nat) : Nat := 100 * (padCol n - 1) + 100
def padY (n : Nat) : Nat := if padRow n ≤ 18 then 100 * (padRow n - 1) + 100 else 2300 + 100 * (padRow n - 19)

/-- The switches at a coil (Table 10-1): high-side and bank freewheel at its VHS pads, low-side and channel freewheel at its VL pads. -/
structure Switches where
  hs : Bool := false
  bf : Bool := false
  ls : Bool := false
  cf : Bool := false
deriving DecidableEq, Repr

/-- How switches act (R204, R210, R212, R215): steady; chopping, with the duty of the period's centred on-interval, the period in µs, the
switches of the on-interval, and those of the off-interval with the share of it in % that each takes, in order; or two sets alternating
in 20 µs steps in the ratio of their shares. -/
inductive Drive where
  | steady (sw : Switches)
  | chop (duty : Rat) (period : Nat) (on : Switches) (off : List (Nat × Switches))
  | alternate (parts : List (Nat × Switches))
deriving DecidableEq, Repr

/-- The states of Table 02-3, with the level where the pad carries one: V0 to V4 of the LCD, a rail in mV, the duty of a
sink in 0.01 %, an analog level in µV, period and high time of a PWM in 5 ns counts, an excitation in mV or µA. valve is a channel's or a
bank's pad: its switches, whether the 48 V clamp is active, and whether its coil conducts. [DESIGN CHOICE, log 84] -/
inductive PadState where
  | low | high | off | highZ | pulledDown | discharged | starting | discharging | ignored | input | inputDisabled | notSensed | oscillating
  | wakeSensing | scanned | decoded | received | measured | sensed | changeDetector
  | loaded (ua : Nat) (watched : Bool)   -- sinking its load current (R187), its wake comparator on or its converter taking it
  | sampled                    -- taken by its converter when its turn comes
  | driven                     -- by the unit that owns it
  | bias
  | keyColumn                  -- at 0 V as the column of a key slot
  | lcd (quarters : Nat)
  | rail (mv : Int)
  | sink (duty : Nat)
  | level (uv : Nat)
  | pwm (period high : Nat)
  | voltage (mv : Int)         -- between EXCPg and EXCNg (Table 07-1)
  | current (ua : Int)         -- out of EXCPg, back into EXCNg
  | square (mv hz : Nat)       -- from 0 V
  | atGround
  | valve (d : Drive) (clamp conducts : Bool)
  | supply (on : Bool)         -- a field output
deriving DecidableEq, Repr

/-- The columns of Table 02-3 (R29, R30). -/
inductive PadColumn where
  | reset | doze | nap | run
deriving DecidableEq, Repr

/-- The column that applies to the pads of a unit, given whether it runs; without supply, the Reset column (R29, R30).
[DESIGN CHOICE, log 84] -/
def State.padColumn (s : State) (unitRuns : Bool) : PadColumn :=
  match s.phase with
  | .unpowered => .reset
  | .reset => .reset
  | .held => .reset
  | .doze => .doze
  | .nap => .nap
  | .run => if unitRuns then .run else .nap

/-! ### Panel pads (R421 to R424, R427, R437) -/

/-- Where a frame stands: the COM slot it is in and how far into it [µs], or the key slot after COM slot c (R421). -/
inductive FramePos where
  | comSlot (c into : Nat)
  | keySlot (c : Nat)
deriving DecidableEq, Repr

/-- The position t quanta into a frame; the last key slot takes what is left over (R421). -/
def framePos (c : DspCfg) (t : Nat) : FramePos :=
  let len := lcdSlot c + 50
  let j := min 7 (t / len)
  let into := t - j * len
  if into < lcdSlot c then .comSlot j into else .keySlot j

/-- The position of the LCD frame in progress, none while the engine gives no frames (R424). -/
def State.framePos (s : State) : Option FramePos :=
  if s.lcdSlots && s.runs 8 then some (Machine.framePos s.dsp.frameConf (tbSub s.tb s.dsp.frameAt)) else none

/-- The key column slot in progress: the LCD's, or the scanner's own in [2000k + 250c, 2000k + 250c + 50) (R437). -/
def State.keySlot (s : State) : Option Nat :=
  if !s.scans then none
  else if s.lcdSlots then
    match s.framePos with
    | some (.keySlot c) => some c
    | some (.comSlot _ _) => none
    | none => none
  else
    let t := s.tb % 2000
    if t % 250 < 50 then some (t / 250) else none

/-- The frame in progress is negative; neg is the polarity of the next (R421). -/
def State.frameNeg (s : State) : Bool := !s.dsp.neg

/-- A COM pad in a COM slot, in quarters of VLCD (Table 19-1). -/
def comQuarters (neg selected : Bool) : Nat :=
  match neg, selected with
  | false, true => 4
  | false, false => 1
  | true, true => 0
  | true, false => 3

/-- A SEG pad in a COM slot, in quarters of VLCD (Table 19-1): on-level for the first round(g × S / 15) µs (R421). -/
def segQuarters (neg : Bool) (g slot into : Nat) : Nat :=
  if (into : Int) < roundHalfAway ((g * slot : Nat) / (15 : Rat)) then (if neg then 4 else 0) else 2

/-- The level that LCD segment 96c + k is driven at (R420, R423). -/
def State.lcdDrive (s : State) (c k : Nat) : Nat := (s.dsp.segs[96 * c + k]?.getD {}).drive s.dsp.frameOd

/-- The VOLT of a figure t quanta after it began; 0 after its end (R427). -/
def figVolt : List (Nat × Nat) → Nat → Nat
  | [], _ => 0
  | (v, d) :: ph, t => if t < 10000 * d then v else figVolt ph (t - 10000 * d)

/-- A segment pad of the bistable panel: 0 V, VEP_P or VEP_N, in mV (R427). -/
def State.bistable (s : State) (k : Nat) : Int :=
  match s.dsp.figs.find? fun e => e.1 == k with
  | none => 0
  | some e =>
    match figVolt e.2 (tbSub s.tb s.dsp.figAt) with
    | 1 => 15000
    | 2 => -15000
    | _ => 0

/-- A SEG pad: 0 V in DOZE and, outside key slots, in NAP; columns in key slots; the panel's waveform in RUN. -/
def State.segPad (s : State) (k : Nat) : PadState :=
  let lcdKey := match s.framePos with
    | some (.keySlot _) => true
    | some (.comSlot _ _) => false
    | none => false
  if !s.awake then .low
  else if k < 8 && s.keySlot.isSome then (if s.keySlot = some k then .keyColumn else .highZ)
  else if lcdKey then .highZ
  else
    match s.padColumn (s.runs 8) with
    | .run =>
      if s.dspMode = 1 then
        match s.framePos with
        | some (.comSlot c into) =>
          if s.dsp.frameConf.segen.getLsbD k then .lcd (segQuarters s.frameNeg (s.lcdDrive c k) (lcdSlot s.dsp.frameConf) into) else .lcd 0
        | some (.keySlot _) => .highZ
        | none => .low
      else if s.dspMode = 2 && s.dsp.inReg then .rail (s.bistable k)
      else .low
    | .reset => .low
    | .doze => .low
    | .nap => .low

/-- A COM pad: the waveform in RUN in MODE 1, high-impedance in its key slots, else low (Table 02-3, R424). -/
def State.comPad (s : State) (c : Nat) : PadState :=
  match s.framePos with
  | some (.comSlot j _) => .lcd (comQuarters s.frameNeg (c == j))
  | some (.keySlot _) => .highZ
  | none => .low

/-! ### Drive pads -/

/-- The off-interval's switches of a decay mode (Table 10-4): FAST for the share of MIXPCT first under MIXED; the clamp alone, as a
fault takes it, is FAST. In shared mode HSb stays on. -/
def offParts (shared : Bool) (mode mixpct : Nat) : List (Nat × Switches) :=
  let fast : Switches := { hs := shared }
  let slow : Switches := if shared then { hs := true, cf := true } else { bf := true, ls := true }
  if mode = 0 then [(100, slow)] else if mode = 2 then [(mixpct, fast), (100 - mixpct, slow)] else [(100, fast)]

/-- A decay that lasts: FALL's and OFF's. -/
def lasting (parts : List (Nat × Switches)) : Drive :=
  match parts with
  | [(_, sw)] => .steady sw
  | _ => .alternate parts

/-- The drive of a channel's coil by its phase (Table 10-2); a coil test regulates with SLOW decay (R226). -/
def State.coilDrive (s : State) (n : Nat) : Drive :=
  let c := s.vlCh n
  let shared := (s.vlBk (n / 4)).shared
  let off := fun (mode : Nat) => offParts shared mode c.decay.mixpct
  let on : Switches := { hs := true, ls := true }
  match c.phase with
  | .off => if c.decaying then lasting (off c.offMode) else .steady { hs := shared }
  | .wait => .steady { hs := shared }
  | .rise => .steady on
  | .peak => .chop c.duty c.period on (off c.decay.boost)
  | .fall => lasting (off c.decay.fall)
  | .hold => .chop c.duty c.period on (off c.decay.hold)
  | .diag => if c.diagReg then .chop c.duty c.period on (off 0) else .steady on

/-- A drive with each set of switches changed. -/
def Drive.map (f : Switches → Switches) : Drive → Drive
  | .steady sw => .steady (f sw)
  | .chop d p on off => .chop d p (f on) (off.map fun e => (e.1, f e.2))
  | .alternate parts => .alternate (parts.map fun e => (e.1, f e.2))

/-- The switches of a bank act: it runs, or a coil of it still decays in RUN. -/
def State.bankActs (s : State) (b : Nat) : Bool :=
  s.phase == .run && (s.bankRuns b || (bankChans b).any fun n => (s.vlCh n).decaying)

/-- A channel's pads: low-side and channel freewheel switch, beside the clamp, which is active whenever VACT is present, in every state
(R31), known to be there while it is in its window; a coil that conducted when a reset took its switches off decays through it. [DESIGN CHOICE, log 99]
[DEDUCED, log 28] [DESIGN CHOICE, log 102] -/
def State.vlPad (s : State) (n : Nat) : PadState :=
  let d := if s.bankActs (n / 4) && s.acting then (s.coilDrive n).map fun w => { ls := w.ls, cf := w.cf } else .steady {}
  .valve d (s.pw.vact || s.sense 0 s.tb % 2 = 1) ((s.vlCh n).energised || s.vl.clamp.getLsbD n)

/-- A bank's high-side pads: HS on throughout in shared mode, and while a coil of a bank that has stopped still decays (Tables 10-4, 21-3); in single mode as the one energised channel's drive has them; off with the
bank's fault and on a unit of a pair that is not active (R203, R216, R229, Table 17-7). -/
def State.vhsPad (s : State) (b : Nat) : PadState :=
  let hb := fun (w : Switches) => ({ hs := w.hs, bf := w.bf } : Switches)
  let d : Drive :=
    if !s.bankActs b || (s.vlBk b).bfault || !s.acting then .steady {}
    else if (s.vlBk b).shared then .steady { hs := s.bankRuns b || !(s.energisedIn b 99).isEmpty }
    else
      match s.energisedIn b 99 with
      | [] => .steady {}
      | n :: _ => (s.coilDrive n).map hb
  .valve d false (!(s.energisedIn b 99).isEmpty)

/-! ### Rails (Table 19-4) -/

/-- How long ago the rails of a mode stopped, while a bound of their way down is not yet over. [DESIGN CHOICE, log 84] -/
def State.railFall (s : State) (mode : Nat) : Option Nat :=
  match s.dsp.railOff with
  | some (t, m) => if m = mode && s.awake && !s.runs 8 && tbSub s.tb t < 5000 then some (tbSub s.tb t) else none
  | none => none

/-- The rails of a mode are up or on their way up. -/
def State.railsUp (s : State) (mode : Nat) : Bool := s.phase == .run && s.runs 8 && s.dspMode == mode

/-- VLCD: from the unit's start, in regulation, and 1 ms on its way down. -/
def State.vlcdPad (s : State) : PadState :=
  if s.railsUp 1 then (if s.dsp.inReg then .rail s.dsp.vlcd else .starting)
  else if (s.railFall 1).any (· < 1000) then .discharging else .discharged

/-- VEP_P: 1.5 ms after VEP_N; first down, within 1 ms. -/
def State.vepPPad (s : State) : PadState :=
  if s.railsUp 2 then
    (if s.dsp.inReg then .rail 15000 else if tbSub s.tb s.dsp.railAt ≥ 1500 then .starting else .discharged)
  else if (s.railFall 2).any (· < 1000) then .discharging else .discharged

/-- VEP_N: from the unit's start; down 1 ms after VEP_P is, within 5 ms. -/
def State.vepNPad (s : State) : PadState :=
  if s.railsUp 2 then (if s.dsp.inReg then .rail (-15000) else .starting)
  else
    match s.railFall 2 with
    | some t => if t < 2000 then .rail (-15000) else .discharging
    | none => .discharged

/-- VEP_COM: at 0 V from the unit's start until 5 ms after its stop. -/
def State.vepComPad (s : State) : PadState :=
  if s.railsUp 2 || (s.railFall 2).isSome then .rail 0 else .discharged

/-- The load current that a presence input sinks [µA] (R187). -/
def prLoad (c : PrChCfg) : Nat := 5 * 2 ^ c.load

/-- PRBg is on: in RUN for an enabled input of the group, in NAP and DOZE for one with presence wake (R187). -/
def State.biasOn (s : State) (g : Nat) : Bool :=
  let ins := (List.range 4).map fun i => nth s.applied.pr.chans (4 * g + i) {}
  match s.padColumn (s.runs 1) with
  | .reset => false
  | .doze => ins.any fun c => c.en && c.wen
  | .nap => ins.any fun c => c.en && c.wen
  | .run => ins.any fun c => c.en

/-- An analog output's amplifier drives its pad: from drive-die bias on, in NAP too, but for an output without configuration or with FAULT,
VACT_LOW or a shutdown, and a unit of a pair that is not active (R49, R237, R245, R246). -/
def State.aoAmplifies (s : State) (n : Nat) : Bool :=
  s.awake && s.acting && s.pw.pmEver.getLsbD 6 && !s.pw.driveOff && (s.aoConf n).en && !(s.aoCh n).fault

/-! ### Table 02-3 -/

/-- The state of a signal's pads, with the outputs as s has them. A transaction on the host link is one command, so HMISO is at rest
between them. [DESIGN CHOICE, log 84] -/
def State.padNow (s : State) : Signal → PadState
  | .seg k => s.segPad k
  | .com c => s.comPad c
  | .krow _ => match s.padColumn true with | .reset => .input | .doze => .wakeSensing | .nap => .scanned | .run => .scanned
  | .enc _ _ => match s.padColumn true with | .reset => .input | .doze => .wakeSensing | .nap => .decoded | .run => .decoded
  | .bl i => if 0 < s.blDuty i then .sink (s.blDuty i) else .off
  | .vlcd => s.vlcdPad
  | .vepP => s.vepPPad
  | .vepN => s.vepNPad
  | .vepCom => s.vepComPad
  | .hcsN => if s.awake then .input else .ignored
  | .hsck => if s.awake then .input else .ignored
  | .hmosi => if s.awake then .input else .ignored
  | .hmiso => .highZ
  | .irqN b => if s.irqNow b then .low else .off
  | .resetN => .input
  | .wake => if s.phase = .doze then .wakeSensing else .input
  | .cfg _ => if s.padColumn true = .reset then .input else .inputDisabled
  | .tmode => if s.padColumn true = .reset then .input else .ignored
  | .xt32I => .oscillating
  | .xt32O => .oscillating
  | .plkTxP => if s.padColumn (s.runs 1) = .run && s.paired then .driven else .highZ
  | .plkTxN => if s.padColumn (s.runs 1) = .run && s.paired then .driven else .highZ
  | .plkRxP => if s.padColumn (s.runs 1) = .run && s.paired then .received else .ignored
  | .plkRxN => if s.padColumn (s.runs 1) = .run && s.paired then .received else .ignored
  | .aux _ => if s.padColumn (s.runs 1) = .run then .sampled else .highZ
  | .ptP n => if s.padColumn (s.runs (2 + n / 4)) = .run then .sampled else .highZ
  | .ptN n => if s.padColumn (s.runs (2 + n / 4)) = .run then .sampled else .highZ
  | .excP g => excPad s g
  | .excN g => excPad s g
  | .refP g => if s.padColumn (s.runs (2 + g)) = .run then .sampled else .highZ
  | .refN g => if s.padColumn (s.runs (2 + g)) = .run then .sampled else .highZ
  | .hux g => if s.padColumn (s.runs 1) = .run && s.huNow.any (fun n => n / 4 == g) then .square 2500 125000 else .off
  | .hu n =>
    if s.padColumn (s.runs 1) != .run then .highZ
    else if s.huNow.any (· != n) then .atGround else .sampled
  | .prb g => if s.biasOn g then .bias else .off
  | .pr n =>
    let c := nth s.applied.pr.chans n {}
    match s.padColumn (s.runs 1) with
    | .reset => .highZ
    | .doze => if c.en && c.wen then .loaded (prLoad c) true else .highZ
    | .nap => if c.en && c.wen then .loaded (prLoad c) true else .highZ
    | .run => if c.en then .loaded (prLoad c) false else .highZ
  | .ao n => if s.aoAmplifies n then .level (s.aoCh n).lvl else .pulledDown
  | .fn n =>
    if !s.acting && s.awake then .highZ
    else if s.padColumn (s.runs 6) = .run && (s.fnConf n).en then fnPad (s.fnCh n) (s.fnConf n).inv
    else .low
  | .ft _ =>
    match s.padColumn (s.runs 6) with
    | .reset => .input
    | .doze => .ignored
    | .nap => .ignored
    | .run => .measured
  | .vhs b => s.vhsPad b
  | .vl n => s.vlPad n
  | .di _ =>
    if !s.fio.lpres then .notSensed
    else match s.padColumn true with | .reset => .notSensed | .doze => .changeDetector | .nap => .sensed | .run => .sensed
  | .dout n => if s.awake && s.fio.lpres && (s.doCh n).pad then .supply true else .off
where
  /-- FNn: its PWM, inverted with INV 1; steady at duty 0 and 10000 (R238, R239). -/
  fnPad (c : FnChan) (inv : Bool) : PadState :=
    if c.high = 0 then (if inv then .high else .low)
    else if c.high ≥ c.per then (if inv then .low else .high)
    else .pwm c.per (if inv then c.per - c.high else c.high)
  /-- EXCPg and EXCNg: driven from the group's source while it starts or converts, reversed in phase B of each slot (R139, R140). -/
  excPad (s : State) (g : Nat) : PadState :=
    let k := nth s.applied.pt.groups g {}
    let sign : Int := if s.reversed g then -1 else 1
    if s.padColumn (s.runs (2 + g)) != .run || (nth s.prm.groups g {}).state = 0 then .off
    else if k.excMode = 0 then .voltage (sign * [500, 1000, 2000, 2500][k.excLvl]?.getD 500)
    else .current (sign * [10, 50, 100, 250, 500, 1000][k.excLvl]?.getD 10)

/-- The state of a signal's pads; in the quantum of a trip, of a release or of a change of the safe state the outputs still stand as they
did (R300, R302, R304). [DESIGN CHOICE, log 84] -/
def State.pad (s : State) (x : Signal) : PadState :=
  match s.ilk.still with
  | none => s.padNow x
  | some (t, v, o, f) => if t = s.tb then ({ s with vl := v, out := o, fio := f } : State).padNow x else s.padNow x

end Sys2Proof.Machine
end

