-- ==== Sys2Proof/WellFormed.lean ====
section
/-! DEFINITION. Which commands and events the outside can bring: the ranges of channel numbers, the sizes of packets and
the forms of frames. An event row that names a unit the part does not have is ill-formed, and exec stops on it. -/

namespace Sys2Proof

/-- A frame ISO 11898-1 and Table 16-1 allow. -/
def Frame.wf (f : Frame) : Bool :=
  (if f.ide then decide (f.id < 2 ^ 29) else decide (f.id < 2 ^ 11)) &&
  (if f.fdf then [0, 1, 2, 3, 4, 5, 6, 7, 8, 12, 16, 20, 24, 32, 48, 64].contains f.data.length
   else decide (f.data.length ≤ 8)) &&
  (f.fdf || !f.brs) && decide (f.age < 2 ^ 24)

/-- A frame of the Minuet link: TYPE one byte, SEQ two bytes, at most 512 bytes of payload (R376). -/
def LinkFrame.wf (f : LinkFrame) : Bool :=
  decide (f.typ < 256) && decide (f.seq < 65536) && decide (f.payload.length ≤ 512)

/-- A packet's parameters: 0 to 248 bytes (Table 05-2). -/
def paramsWf (p : List Byte) : Bool := decide (p.length ≤ 248)

/-- Well-formed commands and events. -/
def Instr.wf : Instr → Bool
  | .powerOn => true
  | .lineBrownOut _ => true
  | .lineBrownOutEnd => true
  | .railBrownOut _ => true
  | .resetNAssert _ _ _ => true
  | .devResetBegin => true
  | .resetRelease straps _ => decide (straps < 8)
  | .pllLock => true
  | .pavaneStep => true
  | .wakeFromDoze _ => true
  | .scheduledWake => true
  | .allotGrantFrame f => f.wf
  | .allotGrantTimeout => true
  | .allotRequestRepeat => true
  | .allotLowerApply => true
  | .lineMeasure _ => true
  | .limiterHold => true
  | .limiterOverload => true
  | .limiterRelease => true
  | .powerFailWarning _ => true
  | .powerFailWarningClear => true
  | .vactLow => true
  | .vactOk => true
  | .xtalFail => true
  | .xtalStable => true
  | .wakePinRise => true
  | .mgmtWatchdogExpiry => true
  | .lockstepMismatch => true
  | .mgmtRestartEnd => true
  | .safeStateEntry => true
  | .beatBoundary _ => true
  | .applyQuantum => true
  | .roundBoundary _ => true
  | .roundWorkOverrun => true
  | .zonePublication => true
  | .groupExpiry g => decide (1 ≤ g ∧ g ≤ 8)
  | .snapExpiry h => decide (h < 4)
  | .commandWrite _ => true
  | .replyRead _ => true
  | .unknownTransaction x => decide (x.addr < 65536)
  | .windowWrite addr _ => decide (addr < 65536)
  | .evstClear k _ _ => decide (k < 4)
  | .tbloRead => true
  | .txfPush _ => true
  | .txfFlush => true
  | .kqeFree i => decide (i < 32)
  | .irqPulseEnd _ => true
  | .commandTake => true
  | .deferredTimeout _ slot => decide (slot < 8)
  | .deferredExpiry _ slot => decide (slot < 8)
  | .replyExpiry => true
  | .remoteRecordArrival f => f.wf
  | .remoteRecordTake => true
  | .nop _ params => paramsWf params
  | .devReset _ params => paramsWf params
  | .pwrConfig _ params => paramsWf params
  | .pwrStatus _ params => paramsWf params
  | .startGroup _ params => paramsWf params
  | .stopGroup _ params => paramsWf params
  | .authKeyLoad _ params => paramsWf params
  | .authKeyClear _ params => paramsWf params
  | .authStatus _ params => paramsWf params
  | .rtcSet _ params => paramsWf params
  | .rtcGet _ params => paramsWf params
  | .epochGet _ params => paramsWf params
  | .pointWrite _ params => paramsWf params
  | .objWrite _ params => paramsWf params
  | .groupOpen _ params => paramsWf params
  | .groupClose _ params => paramsWf params
  | .snapTake _ params => paramsWf params
  | .snapRead _ params => paramsWf params
  | .snapFree _ params => paramsWf params
  | .ptConfig _ params => paramsWf params
  | .ptStart _ params => paramsWf params
  | .ptStop _ params => paramsWf params
  | .ptCal _ params => paramsWf params
  | .ptLinear _ params => paramsWf params
  | .ptStatus _ params => paramsWf params
  | .huConfig _ params => paramsWf params
  | .huCal _ params => paramsWf params
  | .huStatus _ params => paramsWf params
  | .sarSeq _ params => paramsWf params
  | .sarTrig _ params => paramsWf params
  | .calSelf _ params => paramsWf params
  | .sarStart _ params => paramsWf params
  | .sarStop _ params => paramsWf params
  | .prConfig _ params => paramsWf params
  | .prWake _ params => paramsWf params
  | .prStatus _ params => paramsWf params
  | .vlConfig _ params => paramsWf params
  | .vlSet _ params => paramsWf params
  | .vlDecay _ params => paramsWf params
  | .vlDuty _ params => paramsWf params
  | .vlBank _ params => paramsWf params
  | .vlDiag _ params => paramsWf params
  | .vlStatus _ params => paramsWf params
  | .vlClear _ params => paramsWf params
  | .aoConfig _ params => paramsWf params
  | .aoStatus _ params => paramsWf params
  | .fnConfig _ params => paramsWf params
  | .fnStatus _ params => paramsWf params
  | .floatConfig _ params => paramsWf params
  | .diConfig _ params => paramsWf params
  | .doConfig _ params => paramsWf params
  | .fioStatus _ params => paramsWf params
  | .fioClear _ params => paramsWf params
  | .zoneMode _ params => paramsWf params
  | .zoneOverride _ params => paramsWf params
  | .loopRun _ params => paramsWf params
  | .loopStats _ params => paramsWf params
  | .modelReset _ params => paramsWf params
  | .pubConfig _ params => paramsWf params
  | .schedRun _ params => paramsWf params
  | .schedResolve _ params => paramsWf params
  | .tzConfig _ params => paramsWf params
  | .ruleRun _ params => paramsWf params
  | .ruleStatus _ params => paramsWf params
  | .ilkWrite _ params => paramsWf params
  | .ilkRead _ params => paramsWf params
  | .ilkArm _ params => paramsWf params
  | .ilkStatus _ params => paramsWf params
  | .safeSet _ params => paramsWf params
  | .busConfig _ params => paramsWf params
  | .busStart _ params => paramsWf params
  | .busSleep _ params => paramsWf params
  | .busSend _ params => paramsWf params
  | .busStatus _ params => paramsWf params
  | .busRecover _ params => paramsWf params
  | .pairStatus _ params => paramsWf params
  | .pairConfig _ params => paramsWf params
  | .pairHandover _ params => paramsWf params
  | .callerConfig _ params => paramsWf params
  | .callerStatus _ params => paramsWf params
  | .nvmRead _ params => paramsWf params
  | .nvmWrite _ params => paramsWf params
  | .nvmProtect _ params => paramsWf params
  | .ringConfig _ params => paramsWf params
  | .ringAppend _ params => paramsWf params
  | .ringRead _ params => paramsWf params
  | .logRead _ params => paramsWf params
  | .patchLoad _ params => paramsWf params
  | .patchActivate _ params => paramsWf params
  | .nvmStatus _ params => paramsWf params
  | .dspConfig _ params => paramsWf params
  | .dspShow _ params => paramsWf params
  | .dspOverdrive _ params => paramsWf params
  | .dspFigure _ params => paramsWf params
  | .dspBacklight _ params => paramsWf params
  | .dspStatus _ params => paramsWf params
  | .keyConfig _ params => paramsWf params
  | .encConfig _ params => paramsWf params
  | .keyLock _ params => paramsWf params
  | .keyStatus _ params => paramsWf params
  | .hkStatus _ params => paramsWf params
  | .thermConfig _ params => paramsWf params
  | .thermClear _ params => paramsWf params
  | .thermLog _ params => paramsWf params
  | .capFirst _ params => paramsWf params
  | .capNext _ params => paramsWf params
  | .linkStats _ params => paramsWf params
  | .linkClear _ params => paramsWf params
  | .ptGroupFirstCycle g => decide (g < 4)
  | .ptResultPost ch _ => decide (ch < 16)
  | .excitationFault g => decide (g < 4)
  | .huSweepStart => true
  | .huResultPost ch _ => decide (ch < 16)
  | .sarConversionEnd _ => true
  | .regulationRequestDue unit _ => decide (unit < 20)
  | .regulationRequestDrop unit => decide (unit < 20)
  | .sarTrigger k => decide (k < 8)
  | .sarRecoveryGapEnd => true
  | .calSelfDone _ => true
  | .hkRoundStart => true
  | .hkReadingPost _ => true
  | .hkStartReading _ => true
  | .thermRearm => true
  | .thermalRecordAppend => true
  | .prSample ch _ => decide (ch < 16)
  | .prCountWindowEnd ch => decide (ch < 16)
  | .prHoldoffEnd ch => decide (ch < 16)
  | .prArmed ch => decide (ch < 16)
  | .prBlankEnd ch => decide (ch < 16)
  | .prFaultClear ch => decide (ch < 16)
  | .prAwakeLapse => true
  | .prWakeComparator ch => decide (ch < 16)
  | .vlCarrierStart ch => decide (ch < 16)
  | .vlRegulationSample ch _ => decide (ch < 16)
  | .vlBoostAdmit bank => decide (bank < 4)
  | .vlTboostExpiry ch => decide (ch < 16)
  | .vlPiextEnd ch => decide (ch < 16)
  | .vlFallTimeout ch => decide (ch < 16)
  | .vlOpenCheck ch => decide (ch < 16)
  | .vlMeanPost => true
  | .vlBankSingleReturn bank => decide (bank < 4)
  | .vlBankWindow bank => decide (bank < 4)
  | .vlDutyWindowStart ch => decide (ch < 16)
  | .vlDutyLimitReached ch => decide (ch < 16)
  | .vlComparatorTrip ch => decide (ch < 16)
  | .vlClampFault ch => decide (ch < 16)
  | .bankComparatorTrip bank => decide (bank < 4)
  | .vlDiagPhaseEnd ch _ => decide (ch < 16)
  | .aoSlewStep ch => decide (ch < 16)
  | .aoReadback ch _ => decide (ch < 16)
  | .aoCurrentLimit ch => decide (ch < 16)
  | .aoRetry ch => decide (ch < 16)
  | .fnPeriodStart ch => decide (ch < 8)
  | .ftEdge ch _ => decide (ch < 8)
  | .ftTimeout ch => decide (ch < 8)
  | .fnTachLost ch => decide (ch < 8)
  | .fnStall ch => decide (ch < 8)
  | .fnStallRestart ch => decide (ch < 8)
  | .floatRunEnd fd => decide (fd < 8)
  | .floatReversalEnd fd => decide (fd < 8)
  | .floatHomingEnd fd => decide (fd < 8)
  | .lplusPresent _ => true
  | .lplusLost _ => true
  | .fieldLinkFault _ => true
  | .fieldLinkReturn => true
  | .diFilteredChange ch _ => decide (ch < 16)
  | .diCurrentMean ch _ _ => decide (ch < 16)
  | .diWireBreakDeclare ch => decide (ch < 16)
  | .diWireBreakClear ch => decide (ch < 16)
  | .diDozeChange obs => decide (obs.ch < 16)
  | .doShort ch => decide (ch < 8)
  | .doRetry ch => decide (ch < 8)
  | .doOvertemp ch => decide (ch < 8)
  | .doOvertempEnd ch => decide (ch < 8)
  | .doOpen ch => decide (ch < 8)
  | .doOpenClear ch => decide (ch < 8)
  | .ilkTrip i => decide (i < 32)
  | .ilkRelease i => decide (i < 32)
  | .busIntegrated => true
  | .busConfigEffect => true
  | .busSleepEnter => true
  | .wakePatternSend => true
  | .frameReceived f => f.wf
  | .txFrameSent k _ _ => decide (k < 3)
  | .txAttemptFail obs => decide (obs.who < 3 ∧ obs.err < 7)
  | .collisionHoldEnd => true
  | .txLifeExpiry => true
  | .busAutorecStart => true
  | .busRecoveryDone => true
  | .btsWrap => true
  | .vigilLoad => true
  | .lineFaultDomto => true
  | .lineFaultStuck => true
  | .lineFaultRange _ => true
  | .lineFaultWeak _ => true
  | .lineFaultEnd which => decide (which < 4)
  | .busWakeDetect => true
  | .busWakeSequenceTimeout => true
  | .verdictFrame f => f.wf
  | .vigilAtCaller f => f.wf
  | .callerListenEnd => true
  | .callerVerdictLoad _ => true
  | .unitAliveTimeout slot _ => decide (slot < 4)
  | .activeStateTimeout slot => decide (slot < 4)
  | .electwaitExpiry slot => decide (slot < 4)
  | .leaseLapse => true
  | .takeoverQuantum => true
  | .roleRelease => true
  | .handoverTimeout => true
  | .minuetLinkFrame lf => lf.wf
  | .minuetLinkSend => true
  | .minuetLinkDown => true
  | .leaseFrame lf => lf.wf
  | .takeoverFrame lf => lf.wf
  | .deltaFrame lf => lf.wf
  | .copyFrame lf => lf.wf
  | .ackFrame lf => lf.wf
  | .ackTimeout => true
  | .syncreqFrame lf => lf.wf
  | .keyevtFrame lf => lf.wf
  | .nvmRecallDone _ => true
  | .unitAreaRotation => true
  | .lcdFrameStart => true
  | .dspMarkerVerified => true
  | .dspRailUp => true
  | .dspUpdateStart => true
  | .dspFigureEnd seg => decide (seg < 96)
  | .dspUpdateEnd => true
  | .dspRecoveryStart => true
  | .dspRecoveryEnd => true
  | .dspRailFault => true
  | .dspRailRetry => true
  | .railholdEnd => true
  | .keyColumnScan col _ => decide (col < 8)
  | .encSample _ => true
  | .autolockExpiry => true
  | .keyWake code => decide (code < 64)
  | .encWake enc => decide (enc < 4)
  | .deviceUnpowered => true
  | .fnStallClear ch => decide (ch < 8)
  | .diInputValid ch _ => decide (ch < 16)
  | .busReceiveError obs => decide (1 ≤ obs.err ∧ obs.err < 7)

end Sys2Proof
end

