-- ==== Sys2Proof/Safety.lean ====
section
/-! DEFINITION. What statements mean by a step that goes on, by a device ready for a command, and by the states that an
answered, a staged and a waiting command lead to. Each of these states is written out whole, so that an equation with one
says what changes and that nothing else does. -/

namespace Sys2Proof.Machine

/-- The outcome is a next state. -/
def goesOn (o : Out) : Prop := ∃ t, o = .next t

/-- The outcome is a next state of which P holds. -/
def leads (o : Out) (P : State → Prop) : Prop := ∃ t, o = .next t ∧ P t

/-- The management processor can take a command at once: the device awake (R26), the management complex running (R60), the
mailbox empty, no handover in progress (R374), the recall complete (R54), the opcode allowed in the personality (R3, R110), and
a write to the store not held up by a power-fail warning (R396). -/
abbrev State.ready (s : State) (opc : Nat) : Prop :=
  s.awake = true ∧ s.mgmt.restarting = false ∧ s.link.mbox = [] ∧ s.pair.handoverAt = none ∧ s.store.recalled = true ∧
    s.opcAllowed opc = true ∧ s.waitsStore opc = false

/-- The same for a command that stages writes: the unit acts (R99 check 7), and the beat has room for n more writes (R76). -/
abbrev State.readyToStage (s : State) (opc n : Nat) : Prop :=
  s.ready opc ∧ s.acting = true ∧ s.staged.length + n ≤ 512

/-- What the transaction that brings a command shifts out (R92). -/
def State.shifted (s : State) (p : Bytes) : Bytes := le 1 s.hlstLow ++ List.replicate (p.length + 6) 0

/-- The mailbox entry of a command received in this quantum and taken. -/
def State.entry (s : State) (opc : Nat) (tag : Byte) (p : Bytes) : MboxCmd :=
  { id := s.link.nextId, tag := tag, opc := opc, params := p, recvAt := s.tb, taken := true }

/-- The state once the command has been received and taken, and before it does anything (R98, R101, R105). -/
def State.took (s : State) (opc : Nat) (tag : Byte) (p : Bytes) : State :=
  { s with link := { s.link with mbox := [s.entry opc tag p], nextId := s.link.nextId + 1, hmiso := s.shifted p } }

/-- The state once the command has been answered with a final status and results, and done nothing else (R96, R101, R103):
its reply is readable, CMD_REPLY is raised. -/
def State.answered (s : State) (opc : Nat) (tag : Byte) (p : Bytes) (st : Nat) (results : Bytes) : State :=
  let r : Reply := { slot := some s.link.nextId, tag := tag, status := st, epoch := s.epoch, results := results,
                     final := true, readAt := s.tb }
  let l : Link := { s.link with
    mbox := [{ s.entry opc tag p with done := true }], nextId := s.link.nextId + 1, replies := s.link.replies ++ [r], hmiso := s.shifted p }
  ({ s with link := l } : State).raise 19

/-- The final reply of a command received now, readable in quantum q (R96, R101, R103). -/
def State.replyAt (s : State) (tag : Byte) (st : Nat) (results : Bytes) (q : Nat) : Reply :=
  { slot := some s.link.nextId, tag := tag, status := st, epoch := s.epoch, results := results, final := true, readAt := q }

/-- The state once the command has staged writes that commit whole, before those that bus commands and keys have staged in the
same quantum, and waits for their epoch with results (R73, R74, R75, R107, R443). -/
def State.staging (s : State) (opc : Nat) (tag : Byte) (p : Bytes) (ws : List Write) (results : Bytes) : State :=
  { s with
    link := { s.link with mbox := [{ s.entry opc tag p with wait := 4 }], nextId := s.link.nextId + 1, hmiso := s.shifted p }
    staged := s.staged.filter (fun w => !w.after s.tb 0) ++
      (ws.map fun w => { uid := s.nextUid, at_ := s.tb, service := false, w := w }) ++ s.staged.filter (Staged.after s.tb 0)
    waits := s.waits ++ [{ uid := s.nextUid, org := .host s.link.nextId, tag := tag, results := results
                           neverSolo := ws.any Write.anyRole }]
    nextUid := s.nextUid + 1 }

/-- The same for a configuration command: one write, its opcode with its parameters. -/
def State.stagingCmd (s : State) (opc : Nat) (tag : Byte) (p : Bytes) : State := s.staging opc tag p [.cmd opc p] []

/-- A host may write this value to this point (R12, R65, R66, R67, R242): a driven point or a virtual point, available in the
personality, its channel configured, the value in range, no service and no floating drive naming it. -/
abbrev State.takesPoint (s : State) (pt : Nat) (v : W32) : Prop :=
  (isAO pt || isFN pt || isDO pt || isVP pt) = true ∧ validPoint pt = true ∧ pointAllowed pt s.pers = true ∧
    s.com.cfg.enabled pt = true ∧ inRange pt v = true ∧ s.serviceOwned pt = false ∧ (s.com.cfg.driveOf pt).isNone = true

/-- An object write that its kind's chapter takes (R64, R65, R86, R270, R275, R276, R283). -/
abbrev State.takesObj (s : State) (kind idx off : Nat) (data : Bytes) : Prop :=
  1 ≤ kind ∧ kind ≤ 7 ∧ kindAllowed kind s.pers = true ∧ idx < kindCount kind ∧ off + data.length ≤ kindSize kind ∧
    ∀ e ∈ objWriteChecks kind off data, e.1 = false

/-- The store's cells, and both pictures of a write in progress, are in canonical form (R391, R393). -/
def State.storeWf (s : State) : Prop :=
  Memory.wf s.cells ∧ ∀ op, s.store.inflight = some op → Memory.wf op.old ∧ Memory.wf op.new

/-- The outputs stand but for the floating drives: a drive whose members switched goes on from the position reached, and one that is not
enabled and stands still does not change (R243). -/
abbrev State.drivesFollow (s t : State) : Prop :=
  t.out = { s.out with fd := t.out.fd } ∧
    ∀ k < 8, (t.fdRun k = s.fdRun k ∨ t.fdRun k = { (s.fdRun k).advance (s.fdConf k).stroke t.tb with on := (t.fdRun k).on }) ∧
      ((s.fdConf k).en = false → (s.fdRun k).on = .still → t.fdRun k = s.fdRun k)

/-- What a device reset leaves beside the store's cells, areas and records and the supplies: PMRC with one more cause, the rest of the
always-on domain, the unit area, what the store's engine keeps; everything else is at its Reset value (R9, R43, R58, R61). A coil that
conducted decays through its clamp (log 99). -/
abbrev State.resetFrom (s t : State) (cause : Nat) : Prop :=
  t.pmrc = putBit s.pmrc cause true ∧ t.ev = { tbhi := s.ev.tbhi } ∧ t.vl = { clamp := s.coilsConducting } ∧
    t.svc = { roundAt := s.svc.roundAt } ∧
    t.store = { switchOnly := s.store.switchOnly, switches := s.store.switches, lastSwitch := s.store.lastSwitch } ∧
    { t with pmrc := s.pmrc, ev := s.ev, vl := s.vl, svc := s.svc, store := s.store, pw := s.pw, unitStore := s.unitStore, areaA := s.areaA
             areaB := s.areaB, cells := s.cells, badGroups := s.badGroups, unsteady := s.unsteady, free := s.free } =
      ({ State.reset with tb := s.tb, tbFrac := s.tbFrac, era := s.era, xtalOk := s.xtalOk, cal := s.cal, beatAt := s.beatAt, unit := s.unit
                          worn := s.worn, aon := s.aon, pending := s.pending, pmrc := s.pmrc, ev := s.ev, vl := s.vl, svc := s.svc
                          store := s.store, pw := s.pw, unitStore := s.unitStore, areaA := s.areaA, areaB := s.areaB, cells := s.cells
                          badGroups := s.badGroups, unsteady := s.unsteady, free := s.free } : State)

/-- What the store holds outside the engine: cells, image areas, unit area, what is damaged (R391, R397). -/
abbrev State.sameStore (s t : State) : Prop :=
  t.cells = s.cells ∧ t.areaA = s.areaA ∧ t.areaB = s.areaB ∧ t.unitStore = s.unitStore ∧ t.badGroups = s.badGroups ∧
    t.unsteady = s.unsteady ∧ t.free = s.free

/-- The supplies as a device reset finds them (R31, R43). -/
abbrev State.supplies (s : State) : Power :=
  { lineBo := s.pw.lineBo, vpreBo := s.pw.vpreBo, vact := s.pw.vact, wakePin := s.pw.wakePin }

/-- The bytes of PARAMS at an offset as a two's-complement number within bounds. -/
abbrev within (lo x hi : Int) : Prop := lo ≤ x ∧ x ≤ hi

end Sys2Proof.Machine
end

