-- ==== Sys2Proof/Certificates/Slice0/Obligations.lean ====
section
/-! DEFINITION. The statements about the model, by the order of the spec's chapters: the commands of each family, the events of
each family, the machine as a whole. -/

open Sys2Proof Sys2Proof.Machine

/-- R111, R86, R89, R135 and Tables 03-9, 04-3, 05-8: the commands that only report complete in every state that is ready
for them, with these results, and change nothing else. -/
def Obligations.ReportingCommandsAnswer : Prop :=
  (∀ s tag, s.ready 0x00 → exec (.nop tag []) s = .next (s.answered 0x00 tag [] stOk [])) ∧
  (∀ s tag, s.ready 0x04 → exec (.pwrStatus tag []) s = .next (s.answered 0x04 tag [] stOk
    (le 1 (s.pmst % 4) ++ le 1 s.applied.pwr.cls ++ le 1 s.pw.allot.held ++ le 1 (s.pmst / 256) ++ le 2 s.pw.vline ++
      le 2 s.pw.pline ++ le 2 s.pw.pmun.toNat ++ le 1 s.pmrc.toNat))) ∧
  (∀ s tag i, s.ready 0x0A → i < 8 → nth s.unit.keys i none = none →
    exec (.authStatus tag (le 1 i)) s = .next (s.answered 0x0A tag (le 1 i) stOk (le 13 0))) ∧
  (∀ s tag i k, s.ready 0x0A → i < 8 → nth s.unit.keys i none = some k →
    exec (.authStatus tag (le 1 i)) s = .next (s.answered 0x0A tag (le 1 i) stOk
      (le 1 (if k.exhausted then 2 else 1) ++ le 2 k.mask.toNat ++ le 4 (nth s.com.keyCnt i 0) ++ le 2 k.fails ++
        (hmac k.key (List.replicate 16 0)).take 4))) ∧
  (∀ s tag, s.ready 0x0D → exec (.rtcGet tag []) s = .next (s.answered 0x0D tag [] stOk
    (le 2 (civilOf s.cal.secs).year ++ le 1 (civilOf s.cal.secs).month ++ le 1 (civilOf s.cal.secs).day ++
      le 1 (civilOf s.cal.secs).hour ++ le 1 (civilOf s.cal.secs).min ++ le 1 (civilOf s.cal.secs).sec ++
      le 1 (weekday (s.cal.secs / 86400)) ++
      le 1 (b2n s.cal.isSet + 2 * b2n (!s.xtalOk) + 4 * b2n s.cal.alarm.isSome + 8 * b2n s.cal.ended) ++ le 6 s.cal.tbs))) ∧
  (∀ s tag, s.ready 0x10 → exec (.epochGet tag []) s = .next (s.answered 0x10 tag [] stOk
    (le 4 s.epoch ++ le 6 s.tbc ++ le 4 s.ackedEpoch ++ le 4 s.store.pepoch))) ∧
  (∀ s tag, s.ready 0xF2 → exec (.linkStats tag []) s = .next (s.answered 0xF2 tag [] stOk
    (le 4 s.hlcnt ++ le 4 s.hldcnt ++ le 4 s.rmcnt))) ∧
  (∀ s tag, s.ready 0xF0 → exec (.capFirst tag []) s = .next (s.answered 0xF0 tag [] stOk ((s.capAt 0).getD []))) ∧
  (∀ s tag o r, s.ready 0xF1 → o < 65536 → s.capAt o = some r →
    exec (.capNext tag (le 2 o)) s = .next (s.answered 0xF1 tag (le 2 o) stOk r))

/-- Tables 03-9 and 05-8: the staged commands of the device and of the key slots, with every operand at every value the
table gives it, stage one write each and wait for its epoch. Table 03-9, Table 05-8: DEV_RESET with its KEY is answered OK
and the device reset falls due 10 ms after the reply became readable; LINK_CLEAR leaves HLCNT, HLDCNT and RMCNT at 0.
Where the rules leave a point open it rests on the model's choice (log 82). -/
def Obligations.DeviceCommandsComplete : Prop :=
  (∀ s tag p, s.readyToStage 0x03 1 → p.length = 3 → u8 p 0 ≤ 3 → u16 p 1 ≤ 2000 →
    exec (.pwrConfig tag p) s = .next (s.stagingCmd 0x03 tag p)) ∧
  (∀ s tag p, s.readyToStage 0x05 1 → p.length = 2 → u16 p 0 < 2 ^ 14 →
    (s.aon.thermLatched = false ∨ BitVec.ofNat 14 (u16 p 0) &&& driveUnits = 0) →
    exec (.startGroup tag p) s = .next (s.stagingCmd 0x05 tag p)) ∧
  (∀ s tag p, s.readyToStage 0x06 1 → p.length = 2 → u16 p 0 < 2 ^ 14 → u16 p 0 % 2 = 0 →
    s.stopNeeded (BitVec.ofNat 14 (u16 p 0)) = false →
    exec (.stopGroup tag p) s = .next (s.stagingCmd 0x06 tag p)) ∧
  (∀ s tag p, s.readyToStage 0x08 1 → p.length = 39 → u8 p 0 ≤ 7 → u16 p 1 ≠ 0 → slice p 7 32 ≠ List.replicate 32 0 →
    exec (.authKeyLoad tag p) s = .next (s.stagingCmd 0x08 tag p)) ∧
  (∀ s tag p, s.readyToStage 0x09 1 → p.length = 1 → u8 p 0 ≤ 7 →
    exec (.authKeyClear tag p) s = .next (s.stagingCmd 0x09 tag p)) ∧
  (∀ s tag p, s.readyToStage 0x0C 1 → p.length = 8 →
    (u8 p 0 = 2 ∨ u8 p 0 ≤ 1 ∧ within 2000 (u16 p 1) 2099 ∧ within 1 (u8 p 3) 12 ∧
      within 1 (u8 p 4) (daysIn (u16 p 1) (u8 p 3)) ∧ u8 p 5 ≤ 23 ∧ u8 p 6 ≤ 59 ∧ u8 p 7 ≤ 59) →
    exec (.rtcSet tag p) s = .next (s.stagingCmd 0x0C tag p)) ∧
  (∀ s tag p, s.ready 0x02 → p.length = 2 → u16 p 0 = 0xC35A →
    leads (exec (.devReset tag p) s) fun t =>
      t.pw = { s.pw with devReset := some (tbAdd s.tb 10000), devResetCmd := some s.link.nextId } ∧
      t.link = (s.answered 0x02 tag p stOk []).link ∧ t.com = s.com ∧ t.staged = s.staged ∧ t.cells = s.cells) ∧
  (∀ s tag p, s.ready 0x02 → p.length = 2 → u16 p 0 ≠ 0xC35A →
    exec (.devReset tag p) s = .next (s.answered 0x02 tag p stBadParam [0])) ∧
  (∀ s tag, s.ready 0xF3 →
    leads (exec (.linkClear tag []) s) fun t =>
      t.hlcnt = 0 ∧ t.hldcnt = 0 ∧ t.rmcnt = 0 ∧ t.link.replies = (s.answered 0xF3 tag [] stOk []).link.replies ∧
      t.com = s.com ∧ t.staged = s.staged ∧ t.cells = s.cells)

/-- R73 to R75 and Table 04-3: a POINT_WRITE of up to 40 entries that the host may write, and an OBJ_WRITE, each naming no
group, stage all their writes as one unit; their replies wait for the epoch. R78 and R79: GROUP_OPEN allocates the lowest
free number; a write that names an open group is held in it and answered at once; GROUP_CLOSE with ACTION 0 stages what
the group holds, in the order held, and with ACTION 1 drops it; the group's number is free afterwards. R81 and Table 04-3:
SNAP_TAKE copies the named items of the current epoch into a free buffer and answers its handle and size; SNAP_READ
answers bytes of it with the snapshot's epoch; SNAP_FREE releases it. Where the rules leave a point open it rests on the
model's choice (log 38, log 39). -/
def Obligations.WritesGroupsAndSnapshots : Prop :=
  (∀ s tag p, s.readyToStage 0x11 (u8 p 1) → p.length = 2 + 6 * u8 p 1 → u8 p 0 = 0 → 1 ≤ u8 p 1 → u8 p 1 ≤ 40 →
    (∀ e ∈ pointList p, s.takesPoint e.1 e.2) →
    exec (.pointWrite tag p) s = .next (s.staging 0x11 tag p ((pointList p).map fun e => .point e.1 e.2) [])) ∧
  (∀ s tag p, s.readyToStage 0x12 1 → 11 ≤ p.length → p.length ≤ 246 → u8 p 0 = 0 →
    s.takesObj (u8 p 1) (u16 p 2) (u16 p 8) (p.drop 10) →
    exec (.objWrite tag p) s = .next (s.staging 0x12 tag p [.obj (u8 p 1) (u16 p 2) (u32 p 4) (u16 p 8) (p.drop 10)] [])) ∧
  (∀ s tag i, s.ready 0x13 → s.acting = true → s.freeGroup = some i →
    leads (exec (.groupOpen tag []) s) fun t =>
      t.groups = upd s.groups i (fun _ => some { openAt := s.tb, held := [] }) ∧
      t.link = (s.answered 0x13 tag [] stOk (le 1 (i + 1))).link ∧ t.staged = s.staged ∧ t.com = s.com) ∧
  (∀ s tag p gr, s.readyToStage 0x11 (u8 p 1) → p.length = 2 + 6 * u8 p 1 → 1 ≤ u8 p 0 → u8 p 0 ≤ 8 → 1 ≤ u8 p 1 → u8 p 1 ≤ 40 →
    s.groupOpen (u8 p 0) = some gr → gr.held.length + u8 p 1 ≤ 64 → (∀ e ∈ pointList p, s.takesPoint e.1 e.2) →
    leads (exec (.pointWrite tag p) s) fun t =>
      t.groups = upd s.groups (u8 p 0 - 1)
        (fun _ => some { gr with held := gr.held ++ (pointList p).map fun e => .point e.1 e.2 }) ∧
      t.link = (s.answered 0x11 tag p stOk []).link ∧ t.staged = s.staged ∧ t.com = s.com) ∧
  (∀ s tag p gr, s.ready 0x14 → s.acting = true → p.length = 2 → u8 p 1 = 0 → s.groupOpen (u8 p 0) = some gr → gr.held ≠ [] →
    s.staged.length + gr.held.length ≤ 512 →
    exec (.groupClose tag p) s =
      .next (({ s with groups := upd s.groups (u8 p 0 - 1) fun _ => none } : State).staging 0x14 tag p gr.held [])) ∧
  (∀ s tag p gr, s.ready 0x14 → s.acting = true → p.length = 2 → u8 p 1 = 1 → s.groupOpen (u8 p 0) = some gr →
    exec (.groupClose tag p) s =
      .next (({ s with groups := upd s.groups (u8 p 0 - 1) fun _ => none } : State).answered 0x14 tag p stOk [])) ∧
  (∀ s tag p h, s.ready 0x15 → p.length = 1 + 3 * u8 p 0 → 1 ≤ u8 p 0 → u8 p 0 ≤ 64 → s.freeSnap = some h →
    (∀ i < u8 p 0, ∀ e ∈ checkRef (u8 p (1 + 3 * i)) (u16 p (2 + 3 * i)) s.pers (1 + 3 * i) (2 + 3 * i), e.1 = false) →
    ((refList p).flatMap fun r => s.snapRecord r.1 r.2).length ≤ 4096 →
    leads (exec (.snapTake tag p) s) fun t =>
      t.snaps = upd s.snaps h (fun _ =>
        some { epoch := s.epoch, data := (refList p).flatMap fun r => s.snapRecord r.1 r.2, usedAt := s.tb }) ∧
      t.link = (s.answered 0x15 tag p stOk
        (le 1 h ++ le 2 ((refList p).flatMap fun r => s.snapRecord r.1 r.2).length)).link ∧
      t.com = s.com ∧ t.staged = s.staged) ∧
  (∀ s tag p sn, s.ready 0x16 → p.length = 4 → nth s.snaps (u8 p 0) none = some sn → u16 p 1 < sn.data.length → 1 ≤ u8 p 3 →
    u8 p 3 ≤ 240 →
    leads (exec (.snapRead tag p) s) fun t =>
      t.snaps = upd s.snaps (u8 p 0) (fun _ => some { sn with usedAt := s.tb }) ∧
      t.link.replies = s.link.replies ++ [{ slot := some s.link.nextId, tag := tag, status := stOk, epoch := sn.epoch
                                            results := slice sn.data (u16 p 1) (u8 p 3), final := true, readAt := s.tb }] ∧
      t.com = s.com ∧ t.staged = s.staged) ∧
  (∀ s tag p sn, s.ready 0x17 → p.length = 1 → nth s.snaps (u8 p 0) none = some sn →
    exec (.snapFree tag p) s =
      .next (({ s with snaps := upd s.snaps (u8 p 0) fun _ => none } : State).answered 0x17 tag p stOk []))

/-- Table 07-8: the staged commands of the precision unit, at every value the table gives their operands. Tables 08-3 and
09-2: the staged commands of the SAR sequences and of the presence inputs. -/
def Obligations.MeasurementConfigurationStages : Prop :=
  (∀ s tag p, s.readyToStage 0x20 1 → p.length = 6 → u8 p 0 = 0 → u8 p 1 ≤ 3 → u8 p 2 ≤ 8 →
    (u8 p 3 = 0 ∧ u8 p 4 ≤ 3 ∨ u8 p 3 = 1 ∧ u8 p 4 ≤ 5) → 1 ≤ u8 p 5 → u8 p 5 ≤ 100 →
    (setPtConfig p s.futurePt).tpOk = true → exec (.ptConfig tag p) s = .next (s.stagingCmd 0x20 tag p)) ∧
  (∀ s tag p, s.readyToStage 0x20 1 → p.length = 19 → u8 p 0 = 1 → u8 p 1 ≤ 15 → u8 p 2 ≤ 1 → u8 p 3 ≤ 2 → u8 p 4 ≤ 7 →
    (u8 p 3 = 0 → ((nth s.futurePt.lins (u8 p 1) none).map PtLin.lin).getD 0 = 0) →
    (u8 p 3 ≠ 0 → u32 p 5 ≠ 0) → u32 p 11 < u32 p 15 → (setPtConfig p s.futurePt).tpOk = true →
    (u8 p 2 = 0 → s.names (u8 p 1) = false) → exec (.ptConfig tag p) s = .next (s.stagingCmd 0x20 tag p)) ∧
  (∀ s tag p, s.readyToStage 0x21 1 → p.length = 1 → u8 p 0 ≤ 15 →
    (∀ g ∈ groupsIn (u8 p 0), s.futurePt.enabledIn g ≠ []) → exec (.ptStart tag p) s = .next (s.stagingCmd 0x21 tag p)) ∧
  (∀ s tag p, s.readyToStage 0x22 1 → p.length = 1 → u8 p 0 ≤ 15 →
    (∀ g ∈ groupsIn (u8 p 0), ∀ i < 4, s.names (4 * g + i) = false) →
    exec (.ptStop tag p) s = .next (s.stagingCmd 0x22 tag p)) ∧
  (∀ s tag p n, s.readyToStage 0x24 1 → p.length = 20 → u8 p 0 ≤ 15 → u8 p 1 ≤ 3 → u16 p 2 = 0 →
    n = (if u8 p 1 = 1 then 4 else if u8 p 1 = 2 then 3 else 2) →
    (u8 p 1 ≠ 0 → (nth s.futurePt.chans (u8 p 0) {}).topo ≠ 0) →
    (∀ i < n, (f32 (w32 p (4 + 4 * i))).isSome) →
    (∀ i < n, (u8 p 1 = 1 ∧ i < 2 ∨ u8 p 1 = 3) → ∀ v ∈ f32 (w32 p (4 + 4 * i)), 0 < v) →
    (∀ i < 4, n ≤ i → u32 p (4 + 4 * i) = 0) →
    exec (.ptLinear tag p) s = .next (s.stagingCmd 0x24 tag p)) ∧
  (∀ s tag p, s.readyToStage 0x28 1 → p.length = 3 → u8 p 0 = 0 → u8 p 1 ≤ 4 → u8 p 2 ≤ 3 →
    (setHuConfig p s.futurePt).sweepOk = true → exec (.huConfig tag p) s = .next (s.stagingCmd 0x28 tag p)) ∧
  (∀ s tag p, s.readyToStage 0x28 1 → p.length = 16 → u8 p 0 = 1 → u8 p 1 ≤ 15 → u8 p 2 ≤ 1 → (u8 p 3 ≤ 15 ∨ u8 p 3 = 0xFF) →
    u32 p 8 ≠ 0 → (setHuConfig p s.futurePt).sweepOk = true → (u8 p 2 = 0 → s.names (0x10 + u8 p 1) = false) →
    exec (.huConfig tag p) s = .next (s.stagingCmd 0x28 tag p)) ∧
  (∀ s tag p, s.readyToStage 0x30 1 → p.length = 2 + 2 * u8 p 1 → u8 p 0 ≤ 7 → 1 ≤ u8 p 1 → u8 p 1 ≤ 8 →
    (∀ i < u8 p 1, u8 p (2 + 2 * i) ≤ 0x43 ∧ bit (u8 p (3 + 2 * i)) 4 = false) →
    ((setSarSeq p s.futureSar).started.getLsbD (u8 p 0) = true → (setSarSeq p s.futureSar).demandOk = true) →
    exec (.sarSeq tag p) s = .next (s.stagingCmd 0x30 tag p)) ∧
  (∀ s tag p, s.readyToStage 0x31 1 → p.length = 13 → u8 p 0 ≤ 7 → u8 p 1 ≤ 5 →
    (u8 p 1 < 2 ∧ u8 p 2 = 0 ∨ (u8 p 1 = 2 ∨ u8 p 1 = 3) ∧ u8 p 2 ≤ 15 ∨ 4 ≤ u8 p 1 ∧ u8 p 2 ≤ 7) →
    (u8 p 1 = 1 → 5 ≤ u32 p 5 ∧ 1000000 % u32 p 5 = 0 ∧ u32 p 9 < u32 p 5) →
    ((setSarTrig p s.futureSar).started.getLsbD (u8 p 0) = true → (setSarTrig p s.futureSar).demandOk = true) →
    exec (.sarTrig tag p) s = .next (s.stagingCmd 0x31 tag p)) ∧
  (∀ s tag p, s.readyToStage 0x33 1 → p.length = 1 →
    (∀ k < 8, bit (u8 p 0) k = true → nth s.com.cfg.sar.seqs k [] ≠ []) →
    (setSarStarted 0x33 p s.futureSar).demandOk = true → exec (.sarStart tag p) s = .next (s.stagingCmd 0x33 tag p)) ∧
  (∀ s tag p, s.readyToStage 0x34 1 → p.length = 1 → exec (.sarStop tag p) s = .next (s.stagingCmd 0x34 tag p)) ∧
  (∀ s tag p, s.readyToStage 0x38 1 → p.length = 5 → u8 p 0 = 0 → u8 p 1 ≤ 1 → 5 ≤ u16 p 2 → u16 p 2 ≤ 3600 → u8 p 4 ≤ 60 →
    exec (.prConfig tag p) s = .next (s.stagingCmd 0x38 tag p)) ∧
  (∀ s tag p, s.readyToStage 0x38 1 → p.length = 14 → u8 p 0 = 1 → u8 p 1 ≤ 15 → u8 p 2 ≤ 1 →
    (u8 p 3 = 0xFF ∨ u8 p 3 ≤ 15 ∧ s.pers ≠ .transport) → u8 p 4 ≤ 3 → u8 p 5 ≤ 3 → 1 ≤ u16 p 6 → u16 p 6 ≤ 32767 →
    1 ≤ u8 p 8 → u8 p 8 ≤ 100 → 1 ≤ u8 p 9 → u8 p 9 ≤ 8 → 100 ≤ u16 p 10 → u16 p 10 ≤ 10000 → u16 p 12 ≤ 600 →
    (s.pers = .service → (nth s.com.cfg.pr.chans (u8 p 1) {}).en = true ∧ u8 p 2 = 0 ∨ u8 p 3 ≠ (nth s.com.cfg.pr.chans (u8 p 1) {}).zone →
      s.names (0x20 + u8 p 1) = false ∧
      ((nth s.com.cfg.pr.chans (u8 p 1) {}).zone < 16 → s.com.body 1 (nth s.com.cfg.pr.chans (u8 p 1) {}).zone = none)) →
    exec (.prConfig tag p) s = .next (s.stagingCmd 0x38 tag p)) ∧
  (∀ s tag p, s.readyToStage 0x39 1 → p.length = 4 → u8 p 0 ≤ 15 →
    (u8 p 1 = 0 ∨ u8 p 1 = 1 ∧ (nth s.futurePr.chans (u8 p 0) {}).en = true) → 1 ≤ u8 p 2 → u8 p 2 ≤ 50 → u8 p 3 ≤ 1 →
    exec (.prWake tag p) s = .next (s.stagingCmd 0x39 tag p))

/-- Table 07-8: PT_CAL and HU_CAL begin a capture on a running channel (STEP 0 and 1), drop captures (STEP 3) and return a
channel to nominal (STEP 4); STEP 2 with both captures computes CGAIN and COFS, stores them and answers them, once the unit
record that takes them verifies (R145 to R147, R162, R393); with a power-fail warning standing the reply waits for the record (R396). Where the rules leave a point open it rests on the model's choice (log 95, log 100). -/
def Obligations.CalibrationCommandsComplete : Prop :=
  (∀ s tag p, s.ready 0x23 → p.length = 7 → u8 p 0 ≤ 15 → u8 p 1 ≤ 1 → 4 ≤ u8 p 2 →
    (nth s.prm.groups (u8 p 0 / 4) {}).state = 2 → (nth s.applied.pt.chans (u8 p 0) {}).en = true →
    (nth s.prm.ch (u8 p 0) {}).cal.run = none →
    leads (exec (.ptCal tag p) s) fun t =>
      (nth t.prm.ch (u8 p 0) {}).cal.run =
        some { full := u8 p 1 == 1, ncal := u8 p 2, ref := s32 p 3, conf := s.applied.pt.coeffConf (u8 p 0) } ∧
      t.link.replies = (s.answered 0x23 tag p stOk []).link.replies ∧ t.unit = s.unit ∧ t.com = s.com) ∧
  (∀ s tag p z f g o, s.ready 0x23 → p.length = 7 → u8 p 0 ≤ 15 → u8 p 1 = 2 →
    (nth s.prm.ch (u8 p 0) {}).cal.zero = some z → (nth s.prm.ch (u8 p 0) {}).cal.full = some f →
    solveCal z f (32 / (2 ^ f.conf.gain : Nat)) 65536 = .ok (g, o) → s.unitFailing 1 = [] → s.pw.pfw = false →
    leads (exec (.ptCal tag p) s) fun t =>
      nth t.unit.pt (u8 p 0) none = some { f.conf with cgain := g, cofs := o } ∧
      (nth t.prm.ch (u8 p 0) {}).cal.applyDue = true ∧
      t.link.replies = (s.answered 0x23 tag p stOk (le 4 g ++ leI 4 o)).link.replies ∧ t.com = s.com) ∧
  (∀ s tag p, s.ready 0x23 → p.length = 7 → u8 p 0 ≤ 15 → u8 p 1 = 4 → s.unitFailing 1 = [] → s.pw.pfw = false →
    leads (exec (.ptCal tag p) s) fun t =>
      nth t.unit.pt (u8 p 0) none = none ∧ t.link.replies = (s.answered 0x23 tag p stOk []).link.replies ∧ t.com = s.com) ∧
  (∀ s tag p, s.ready 0x29 → p.length = 7 → u8 p 0 ≤ 15 → u8 p 1 ≤ 1 → 4 ≤ u8 p 2 → u8 p 2 ≤ 64 → u32 p 3 ≤ 400000 →
    (nth s.applied.pt.hu (u8 p 0) {}).en = true → (nth s.prm.hu (u8 p 0) {}).cal.run = none →
    leads (exec (.huCal tag p) s) fun t =>
      (nth t.prm.hu (u8 p 0) {}).cal.run = some { full := u8 p 1 == 1, ncal := u8 p 2, ref := (u32 p 3 : Int) } ∧
      t.link.replies = (s.answered 0x29 tag p stOk []).link.replies ∧ t.unit = s.unit ∧ t.com = s.com) ∧
  (∀ s tag p, s.ready 0x29 → p.length = 7 → u8 p 0 ≤ 15 → u8 p 1 = 4 → s.unitFailing 2 = [] → s.pw.pfw = false →
    leads (exec (.huCal tag p) s) fun t =>
      nth t.unit.hu (u8 p 0) none = none ∧ t.link.replies = (s.answered 0x29 tag p stOk []).link.replies ∧ t.com = s.com) ∧
  (∀ s tag p z f g o, s.ready 0x29 → p.length = 7 → u8 p 0 ≤ 15 → u8 p 1 = 2 →
    (nth s.prm.hu (u8 p 0) {}).cal.zero = some z → (nth s.prm.hu (u8 p 0) {}).cal.full = some f →
    solveCal z f (25 / 512) 524288 = .ok (g, o) → s.unitFailing 2 = [] → s.pw.pfw = false →
    leads (exec (.huCal tag p) s) fun t =>
      nth t.unit.hu (u8 p 0) none = some { cgain := g, cofs := o } ∧ (nth t.prm.hu (u8 p 0) {}).cal.applyDue = true ∧
      t.link.replies = (s.answered 0x29 tag p stOk (le 4 g ++ leI 4 o)).link.replies ∧ t.com = s.com) ∧
  (∀ s tag p, s.ready 0x23 → p.length = 7 → u8 p 0 ≤ 15 → u8 p 1 = 3 →
    leads (exec (.ptCal tag p) s) fun t =>
      (nth t.prm.ch (u8 p 0) {}).cal.zero = none ∧ (nth t.prm.ch (u8 p 0) {}).cal.full = none ∧
      t.link.replies = (s.answered 0x23 tag p stOk []).link.replies ∧ t.unit = s.unit ∧ t.com = s.com) ∧
  (∀ s tag p, s.ready 0x29 → p.length = 7 → u8 p 0 ≤ 15 → u8 p 1 = 3 →
    leads (exec (.huCal tag p) s) fun t =>
      (nth t.prm.hu (u8 p 0) {}).cal.zero = none ∧ (nth t.prm.hu (u8 p 0) {}).cal.full = none ∧
      t.link.replies = (s.answered 0x29 tag p stOk []).link.replies ∧ t.unit = s.unit ∧ t.com = s.com) ∧
  (∀ s tag p z f g o, s.ready 0x23 → p.length = 7 → u8 p 0 ≤ 15 → u8 p 1 = 2 →
    (nth s.prm.ch (u8 p 0) {}).cal.zero = some z → (nth s.prm.ch (u8 p 0) {}).cal.full = some f →
    solveCal z f (32 / (2 ^ f.conf.gain : Nat)) 65536 = .ok (g, o) → s.pw.pfw = true →
    leads (exec (.ptCal tag p) s) fun t =>
      nth t.unit.pt (u8 p 0) none = some { f.conf with cgain := g, cofs := o } ∧
      t.store.owed = s.store.owed ++ [.unit 1 false (some (.host s.link.nextId, tag, le 4 g ++ leI 4 o))] ∧
      t.link.replies = s.link.replies ∧ t.com = s.com)

/-- Tables 07-8, 08-3 and 09-2, R62: the status commands of measurement answer these results; PR_STATUS clears the latches
it reports; CAL_SELF begins, for 42 ms. -/
def Obligations.MeasurementStatusAnswers : Prop :=
  (∀ s tag n, s.ready 0x25 → n ≤ 15 → exec (.ptStatus tag (le 1 n)) s = .next (s.answered 0x25 tag (le 1 n) stOk
    (le 1 (nth s.prm.ch n {}).flags ++ le 1 (nth s.prm.groups (n / 4) {}).state ++ le 2 (nth s.prm.ch n {}).seq.toNat ++
      wBytes (nth s.prm.ch n {}).raw ++ wBytes (nth s.prm.ch n {}).res ++ le 1 (s.ptCalSt n) ++
      le 1 (nth s.prm.ch n {}).cal.capst ++ le 1 (nth s.prm.ch n {}).cal.why ++ capAvg (nth s.prm.ch n {}).cal.zero ++
      capSpan (nth s.prm.ch n {}).cal.zero ++ capAvg (nth s.prm.ch n {}).cal.full ++ capSpan (nth s.prm.ch n {}).cal.full ++
      leI 4 (s.ptCoeff n).1 ++ leI 4 (s.ptCoeff n).2.1 ++ le 2 (nth s.prm.ch n {}).ovrcnt))) ∧
  (∀ s tag n, s.ready 0x2A → n ≤ 15 → exec (.huStatus tag (le 1 n)) s = .next (s.answered 0x2A tag (le 1 n) stOk
    (le 1 (nth s.prm.hu n {}).flags ++ le 2 (nth s.prm.hu n {}).seq.toNat ++ wBytes (nth s.prm.hu n {}).raw ++
      wBytes (nth s.prm.hu n {}).cap ++ le 1 (s.huCalSt n) ++
      le 1 (nth s.prm.hu n {}).cal.capst ++ le 1 (nth s.prm.hu n {}).cal.why ++ capAvg (nth s.prm.hu n {}).cal.zero ++
      capAvg (nth s.prm.hu n {}).cal.full ++ leI 4 (s.huCoeff n).1 ++ leI 4 (s.huCoeff n).2.1))) ∧
  (∀ s tag n, s.ready 0x3A → n ≤ 15 →
    exec (.prStatus tag (le 1 n)) s =
      .next ((s.onPr n fun c => { c with peak := 0 }).answered 0x3A tag (le 1 n) stOk
        (le 1 (s.prFlags n) ++ le 1 (s.prCh n).winCnt ++ le 2 (s.prCh n).rcnt ++ le 2 (s.prCh n).lcnt ++
          wBytes (s.prCh n).total ++ le 6 (s.prCh n).lastAt ++ le 1 (s.prCh n).lsrc ++ le 2 (s.prCh n).peak ++
          le 2 (s.prCh n).dclvl))) ∧
  (∀ s tag, s.ready 0x3A →
    exec (.prStatus tag (le 1 0xFF)) s =
      .next (({ s with pres := { s.pres with mot := 0, ovl := 0, wkf := 0 } } : State).answered 0x3A tag (le 1 0xFF) stOk
        (le 2 s.pres.mot.toNat ++ le 2 (((List.range 16).map fun i => b2n (s.prCh i).fault * 2 ^ i).sum) ++ le 2 s.pres.ovl.toNat ++
          le 2 s.pres.wkf.toNat ++ le 1 (b2n s.presRuns)))) ∧
  (∀ s tag, s.ready 0x32 → s.sar.calRun = false → s.runs 1 = true →
    leads (exec (.calSelf tag []) s) fun t => t.sar.calRun = true ∧ t.sar.calDue = tbAdd s.tb 42000 ∧
      t.link.replies = (s.answered 0x32 tag [] stOk []).link.replies ∧ t.com = s.com)

/-- Table 10-7: the staged commands of the valve drives, with a channel switched off too, and VL_SET with up to 16
entries, each one write (R76; that each entry is a write of its own is the model's choice, log 50). Table 10-7: VL_DIAG arms a coil test on an idle configured channel; VL_STATUS
answers a channel's state (VALVE 0 to 15) or a bank's (0x10 to 0x13) and changes nothing else. -/
def Obligations.ValveCommandsComplete : Prop :=
  (∀ s tag p, s.readyToStage 0x40 1 → p.length = 12 → u8 p 0 ≤ 15 → u8 p 1 ≤ 1 → 10 ≤ u8 p 2 → u8 p 2 ≤ 250 → 10 ≤ u8 p 3 →
    u8 p 3 ≤ 240 → u8 p 3 < 2 * u8 p 2 → 5 ≤ u16 p 4 → u16 p 4 ≤ 2000 → u8 p 6 ≤ 6 → u8 p 7 ≤ 1 → 5 ≤ u8 p 9 → u8 p 9 ≤ 200 →
    u8 p 11 ≤ 1 → (setVlConfig p s.futureVl).budgetOk = true →
    (u8 p 1 = 0 → s.com.cfg.vl.setp.getLsbD (u8 p 0) = false ∧ (s.vlCh (u8 p 0)).phase ≠ .diag ∧
      s.names (0x40 + u8 p 0) = false) →
    exec (.vlConfig tag p) s = .next (s.stagingCmd 0x40 tag p)) ∧
  (∀ s tag p, s.readyToStage 0x41 (u8 p 0) → p.length = 1 + 2 * u8 p 0 → 1 ≤ u8 p 0 → u8 p 0 ≤ 16 →
    (∀ i < u8 p 0, (nth s.futureVl.chans (u8 p (1 + 2 * i)) {}).en = true ∧ u8 p (2 + 2 * i) ≤ 2 ∧
      s.serviceOwned (0x40 + u8 p (1 + 2 * i)) = false) →
    exec (.vlSet tag p) s = .next (s.staging 0x41 tag p
      ((List.range (u8 p 0)).map fun i => .cmd 0x41 (le 1 1 ++ le 1 (u8 p (1 + 2 * i)) ++ le 1 (u8 p (2 + 2 * i)))) [])) ∧
  (∀ s tag p, s.readyToStage 0x42 1 → p.length = 6 → (u8 p 0 ≤ 15 ∨ u8 p 0 = 0xFF) → (∀ i < 4, u8 p (i + 1) ≤ 2) →
    10 ≤ u8 p 5 → u8 p 5 ≤ 90 → exec (.vlDecay tag p) s = .next (s.stagingCmd 0x42 tag p)) ∧
  (∀ s tag p, s.readyToStage 0x43 1 → p.length = 4 → u8 p 0 ≤ 15 → 5 ≤ u8 p 2 → u8 p 2 ≤ 100 → u8 p 3 ≤ 1 →
    exec (.vlDuty tag p) s = .next (s.stagingCmd 0x43 tag p)) ∧
  (∀ s tag p, s.readyToStage 0x44 1 → p.length = 5 → u8 p 0 ≤ 3 → u8 p 1 ≤ 1 → 20 ≤ u8 p 2 → u8 p 2 ≤ 100 → 20 ≤ u8 p 3 →
    u8 p 3 ≤ 60 → u8 p 4 ≤ 100 → (setVlBank p s.futureVl).budgetOk = true →
    exec (.vlBank tag p) s = .next (s.stagingCmd 0x44 tag p)) ∧
  (∀ s tag p, s.readyToStage 0x47 1 → p.length = 3 → u8 p 2 ≤ 15 → exec (.vlClear tag p) s = .next (s.stagingCmd 0x47 tag p)) ∧
  (∀ s tag p, s.ready 0x45 → s.acting = true → p.length = 2 → u8 p 0 ≤ 15 → 4 ≤ u8 p 1 → u8 p 1 ≤ 40 →
    s.aon.thermLatched = false → s.hk.shut = false → s.serviceOwned (0x40 + u8 p 0) = false → (s.vlConf (u8 p 0)).en = true →
    (s.vlCh (u8 p 0)).phase = .off → s.com.cfg.vl.setp.getLsbD (u8 p 0) = false → (s.vlCh (u8 p 0)).diagReq = none →
    s.bankRuns (u8 p 0 / 4) = true → (s.vlCh (u8 p 0)).fault = 0 →
    exec (.vlDiag tag p) s = .next ((s.onVl (u8 p 0) fun c => { c with diagReq := some (u8 p 1), diagArmed := false }).answered
      0x45 tag p stOk [])) ∧
  (∀ s tag n, s.ready 0x46 → n ≤ 15 → exec (.vlStatus tag (le 1 n)) s = .next (s.answered 0x46 tag (le 1 n) stOk
    (le 1 (s.vlCh n).phase.code ++ le 1 (s.vlst n / 2 ^ 12 % 256) ++ le 1 (s.vlCh n).fault ++ leI 2 (s.vlCh n).imean ++
      le 2 (s.vlCh n).duty100 ++ le 2 (s.vlCh n).pitime ++ le 2 (s.vlCh n).boostt ++ le 2 (s.vlCh n).rcoil ++
      le 2 (s.vlCh n).lcoil ++ le 4 ((s.vlCh n).usedNow s.tb / 1000) ++ wBytes (s.vlCh n).boosts ++
      le 2 (s.vlCh n).nopicnt))) ∧
  (∀ s tag k, s.ready 0x46 → k ≤ 3 → exec (.vlStatus tag (le 1 (16 + k))) s = .next (s.answered 0x46 tag (le 1 (16 + k)) stOk
    (le 4 (s.vlbkst k) ++ le 4 (s.vlbkcur k) ++ wBytes (s.vlBk k).waitlast)))

/-- Tables 11-1 and 12-5: the staged commands of the analogue outputs, fans, floating drives and field I/O, with a channel
switched off too (R242). Tables 11-1 and 12-5: the status commands of the outputs and of the field I/O answer these
results, a drive that moves with its direction and the time its run has left (R242, R247), CMD, LPLUS and FRAMEERR as they are at the
command (R242, R264), and change nothing else. Where the rules leave a point open it rests on the model's choice (log 21, log 102). -/
def Obligations.OutputCommandsComplete : Prop :=
  (∀ s tag p, s.readyToStage 0x50 1 → p.length = 5 → u8 p 0 ≤ 15 → u8 p 1 ≤ 1 → u16 p 2 ≤ 10000 → 5 ≤ u8 p 4 → u8 p 4 ≤ 100 →
    (u8 p 1 = 0 → s.com.cfg.driveOf (0x50 + u8 p 0) = none ∧ s.names (0x50 + u8 p 0) = false) →
    exec (.aoConfig tag p) s = .next (s.stagingCmd 0x50 tag p)) ∧
  (∀ s tag p, s.readyToStage 0x52 1 → p.length = 13 → u8 p 0 ≤ 7 → u8 p 1 ≤ 1 → 20 ≤ u16 p 2 → u16 p 2 ≤ 25000 → u8 p 4 ≤ 1 →
    u16 p 5 ≤ 5000 → u8 p 7 ≤ 4 → 5 ≤ u8 p 9 → u8 p 12 ≤ 1 → (u8 p 1 = 0 → s.names (0x60 + u8 p 0) = false) →
    exec (.fnConfig tag p) s = .next (s.stagingCmd 0x52 tag p)) ∧
  (∀ s tag p base lim, s.readyToStage 0x54 1 → p.length = 12 → u8 p 0 ≤ 7 → u8 p 1 ≤ 1 →
    (u8 p 2 = 0 ∧ base = 0x50 ∧ lim = 15 ∨ u8 p 2 = 1 ∧ base = 0x80 ∧ lim = 7) → u8 p 3 ≤ lim → u8 p 4 ≤ lim → u8 p 3 ≠ u8 p 4 →
    s.com.cfg.enabled (base + u8 p 3) = true → s.com.cfg.enabled (base + u8 p 4) = true → 0x100 ≤ u16 p 5 → u16 p 5 ≤ 0x1FF →
    10 ≤ u16 p 7 → u16 p 7 ≤ 6000 → 5 ≤ u8 p 9 → 10 ≤ u16 p 10 → u16 p 10 ≤ 2000 →
    (∀ i ∈ [u8 p 3, u8 p 4], s.com.targets.contains (base + i) = false ∧
      (s.com.cfg.driveOf (base + i) = none ∨ s.com.cfg.driveOf (base + i) = some (u8 p 0))) →
    exec (.floatConfig tag p) s = .next (s.stagingCmd 0x54 tag p)) ∧
  (∀ s tag p, s.readyToStage 0x58 1 → p.length = 7 → (u8 p 0 ≤ 15 ∨ u8 p 0 = 0xFF) → u8 p 1 ≤ 1 → (u8 p 2 = 1 ∨ u8 p 2 = 3) →
    u8 p 3 ≤ 5 → u8 p 4 ≤ 1 → 1 ≤ u8 p 5 → u8 p 6 ≤ 1 →
    (u8 p 1 = 0 → ∀ i < 16, u8 p 0 = i ∨ u8 p 0 = 0xFF → s.names (0x70 + i) = false) →
    exec (.diConfig tag p) s = .next (s.stagingCmd 0x58 tag p)) ∧
  (∀ s tag p, s.readyToStage 0x59 1 → p.length = 4 → u8 p 0 ≤ 7 → u8 p 1 ≤ 1 → u8 p 2 ≤ 1 → u8 p 3 ≤ 1 →
    (u8 p 1 = 0 → s.com.cfg.driveOf (0x80 + u8 p 0) = none ∧ s.names (0x80 + u8 p 0) = false) →
    exec (.doConfig tag p) s = .next (s.stagingCmd 0x59 tag p)) ∧
  (∀ s tag p, s.readyToStage 0x5B 1 → p.length = 1 → exec (.fioClear tag p) s = .next (s.stagingCmd 0x5B tag p)) ∧
  (∀ s tag n, s.ready 0x51 → n ≤ 15 → exec (.aoStatus tag (le 1 n)) s = .next (s.answered 0x51 tag (le 1 n) stOk
    (le 1 (b2n (s.aoConf n).en + 2 * b2n (s.aoCh n).slewing + 4 * b2n (s.aoCh n).fault + 8 * b2n (s.aoCh n).mismatch +
        16 * b2n (s.ilk.gAo.getLsbD n) + 32 * b2n (s.com.cfg.driveOf (0x50 + n)).isSome) ++
      le 2 (s.aoOwn n) ++ le 2 ((s.aoCh n).lvl / 1000) ++ le 2 (s.aoCh n).fb ++ le 2 (s.aoCh n).faults))) ∧
  (∀ s tag k r, s.ready 0x51 → k ≤ 7 → r = (s.fdRun k).advance (s.fdConf k).stroke s.tb →
    exec (.aoStatus tag (le 1 (16 + k))) s = .next (s.answered 0x51 tag (le 1 (16 + k)) stOk
      (le 1 (b2n (s.fdConf k).en + 2 * b2n r.unsure + 4 * b2n r.homing + 8 * b2n (r.dir == .opening) + 16 * b2n (r.dir == .closing)) ++
        le 2 ((s.fdTarget k).getD 0) ++ le 2 (roundHalfAway r.p).toNat ++
        le 4 (if r.dir = .opening ∨ r.dir = .closing then timeLeft (s.fdRun k).runDue s.tb / 1000 else 0)))) ∧
  (∀ s tag n, s.ready 0x53 → n ≤ 7 → exec (.fnStatus tag (le 1 n)) s = .next (s.answered 0x53 tag (le 1 n) stOk
    (le 1 (b2n (s.fnConf n).en + 2 * b2n (s.fnRunning n) + 4 * b2n (s.fnCh n).stall + 8 * b2n (s.fnCh n).tachlost +
        16 * b2n (s.ilk.gFn.getLsbD n) + 32 * b2n (s.fnCh n).stalloffAt.isSome) ++ le 2 (s.fnCh n).applied ++ le 4 (s.fnCh n).per ++
      le 4 (s.fnCh n).high ++ le 2 (s.fnCh n).rpm ++ le 2 (s.fnCh n).stalls))) ∧
  (∀ s tag, s.ready 0x5A → exec (.fioStatus tag []) s = .next (s.answered 0x5A tag [] stOk
    (le 2 s.diValidMap ++ le 2 (diMap s (·.level)) ++ le 2 (diMap s (·.wb)) ++ le 1 s.doCmdMap ++ le 1 (doMap s (·.pad)) ++
      le 1 s.ilk.gDo.toNat ++ le 1 (doMap s (·.short)) ++ le 1 (doMap s (·.openl)) ++ le 1 (doMap s (·.ovt)) ++ le 1 s.fistLink ++
      le 2 s.lplusNow ++ le 2 s.frameErrors)))

/-- Table 13-9: the staged commands of the zones, the loops, the publication and the schedules. Table 14-6: the staged
commands of the rules, the interlocks and the safe table. -/
def Obligations.ServiceCommandsStage : Prop :=
  (∀ s tag p, s.readyToStage 0x60 1 → p.length = 2 → (u8 p 0 = 0xFF ∨ u8 p 0 ≤ 15 ∧ (s.com.body 1 (u8 p 0)).isSome) →
    u8 p 1 ≤ 5 → exec (.zoneMode tag p) s = .next (s.stagingCmd 0x60 tag p)) ∧
  (∀ s tag p, s.readyToStage 0x61 1 → p.length = 4 → u8 p 0 ≤ 15 → (s.com.body 1 (u8 p 0)).isSome → isMode (u8 p 1) = true →
    (u16 p 2 ≤ 1440 ∨ u16 p 2 = 0xFFFF) → s.cal.isSet = true →
    exec (.zoneOverride tag p) s = .next (s.stagingCmd 0x61 tag p)) ∧
  (∀ s tag p, s.readyToStage 0x62 1 → p.length = 5 → (∀ i < 32, bit (u32 p 0) i = true → (s.com.body 2 i).isSome) → u8 p 4 ≤ 1 →
    exec (.loopRun tag p) s = .next (s.stagingCmd 0x62 tag p)) ∧
  (∀ s tag p, s.readyToStage 0x64 1 → p.length = 1 → (u8 p 0 ≤ 15 ∨ u8 p 0 = 0xFF) →
    exec (.modelReset tag p) s = .next (s.stagingCmd 0x64 tag p)) ∧
  (∀ s tag p, s.readyToStage 0x65 1 → p.length = 10 + 2 * u8 p 9 → u16 p 2 ≤ 3600 → u8 p 4 ≤ 1 → 1 ≤ u16 p 5 → u16 p 5 ≤ 1000 →
    u16 p 7 ≤ 3600 → u8 p 9 ≤ 9 → (∀ i < u8 p 9, validPoint (u16 p (10 + 2 * i)) = true) →
    exec (.pubConfig tag p) s = .next (s.stagingCmd 0x65 tag p)) ∧
  (∀ s tag p, s.readyToStage 0x70 1 → p.length = 5 → (∀ i < 32, bit (u32 p 0) i = true → (s.com.body 3 i).isSome) → u8 p 4 ≤ 1 →
    exec (.schedRun tag p) s = .next (s.stagingCmd 0x70 tag p)) ∧
  (∀ s tag p, s.readyToStage 0x72 1 → p.length = 13 → within (-720) (s16 p 0) 840 → s16 p 0 % 15 = 0 →
    (u8 p 2 = 0 ∨ (u8 p 2 = 30 ∨ u8 p 2 = 60 ∨ u8 p 2 = 120) ∧ slice p 3 5 ≠ slice p 8 5) →
    (∀ o ∈ [3, 8], 1 ≤ u8 p o ∧ u8 p o ≤ 12 ∧ 1 ≤ u8 p (o + 1) ∧ u8 p (o + 1) ≤ 5 ∧ u8 p (o + 2) ≤ 6 ∧
      u16 p (o + 3) ≤ 1439) → exec (.tzConfig tag p) s = .next (s.stagingCmd 0x72 tag p)) ∧
  (∀ s tag p, s.readyToStage 0x80 1 → p.length = 17 → (∀ i < 128, bit (un p 0 16) i = true → (s.com.body 5 i).isSome) →
    u8 p 16 ≤ 1 → exec (.ruleRun tag p) s = .next (s.stagingCmd 0x80 tag p)) ∧
  (∀ s tag p, s.readyToStage 0x88 1 → p.length = 37 → u8 p 0 ≤ 31 → u8 p 1 ≤ 1 → u8 p 2 ≤ 1 → 1 ≤ u8 p 3 → u8 p 3 ≤ 4 →
    (∀ k < u8 p 3, termSrcOk (u8 p 0) (u8 p (4 + 3 * k)) = true ∧ u8 p (4 + 3 * k + 1) ≤ 1 ∧ u8 p (4 + 3 * k + 2) ≤ 2) →
    (∀ k < 4, u8 p 3 ≤ k → ∀ j < 3, u8 p (4 + 3 * k + j) = 0) → u32 p 16 ≤ 60000000 → u32 p 20 ≤ 60000000 → u8 p 24 ≤ 1 →
    u8 p 31 ≤ 1 → u16 p 32 ≤ 10000 → u16 p 34 ≤ 10000 → u8 p 36 ≤ 1 →
    exec (.ilkWrite tag p) s = .next (s.stagingCmd 0x88 tag p)) ∧
  (∀ s tag p, s.readyToStage 0x8A 1 → p.length = 5 → u8 p 0 ≤ 1 → exec (.ilkArm tag p) s = .next (s.stagingCmd 0x8A tag p)) ∧
  (∀ s tag p, s.readyToStage 0x8C 1 → p.length = 6 → u8 p 0 ≤ 3 → (2 ≤ u8 p 0 → u16 p 1 ≤ 255) → u8 p 3 ≤ 1 →
    u16 p 4 ≤ (if u8 p 0 = 0 ∨ u8 p 0 = 3 then 1 else 10000) → exec (.safeSet tag p) s = .next (s.stagingCmd 0x8C tag p))

/-- Tables 13-9 and 14-6: LOOP_STATS answers the counts of a loop or of the periods and clears them when asked;
SCHED_RESOLVE answers the mode, its source, the local time and the next switch; RULE_STATUS answers a rule or the two
maps. Table 14-6: ILK_READ answers an entry as written with its state; ILK_STATUS answers the maps, the armed and the
safe state, the gates, the trips and the last trip; neither changes anything else. -/
def Obligations.ServiceAndInterlockReportsAnswer : Prop :=
  (∀ s tag i, s.ready 0x63 → i ≤ 31 → exec (.loopStats tag (le 1 i ++ le 1 0)) s =
    .next (s.answered 0x63 tag (le 1 i ++ le 1 0) stOk (le 4 (s.loopStat i).runs ++ le 4 (s.loopStat i).skips ++
      le 2 (s.loopStat i).consec ++ le 2 (s.loopStat i).maxconsec ++ le 4 (s.loopStat i).lastskip))) ∧
  (∀ s tag i, s.ready 0x63 → i ≤ 31 → exec (.loopStats tag (le 1 i ++ le 1 1)) s =
    .next ((s.onLoop i fun l => { l with runs := 0, skips := 0, consec := 0, maxconsec := 0, lastskip := 0 }).answered 0x63 tag
      (le 1 i ++ le 1 1) stOk (le 4 (s.loopStat i).runs ++ le 4 (s.loopStat i).skips ++ le 2 (s.loopStat i).consec ++
        le 2 (s.loopStat i).maxconsec ++ le 4 (s.loopStat i).lastskip))) ∧
  (∀ s tag, s.ready 0x63 → exec (.loopStats tag [0xFF, 0]) s = .next (s.answered 0x63 tag [0xFF, 0] stOk
    ((List.range 4).flatMap (fun p => le 4 (nth s.svc.prRuns p 0) ++ le 4 (nth s.svc.prSkips p 0)) ++ le 4 s.svc.overruns ++
      le 4 s.svc.pubskip))) ∧
  (∀ s tag, s.ready 0x63 → exec (.loopStats tag [0xFF, 1]) s = .next ((s.onSvc fun v => { v with
      prRuns := Vector.replicate 4 0, prSkips := Vector.replicate 4 0, overruns := 0, pubskip := 0 }).answered 0x63 tag [0xFF, 1] stOk
    ((List.range 4).flatMap (fun p => le 4 (nth s.svc.prRuns p 0) ++ le 4 (nth s.svc.prSkips p 0)) ++ le 4 s.svc.overruns ++
      le 4 s.svc.pubskip))) ∧
  (∀ s tag p zb k b x, s.ready 0x71 → p.length = 5 → u8 p 0 < 16 → u32 p 1 ≤ calendarEnd → s.com.body 1 (u8 p 0) = some zb →
    s.clockOk = true → s.com.schedOf zb = some (k, b) → earliest (switchesIn s.svc.tz s.com k b (u32 p 1) 691200) = some x →
    exec (.schedResolve tag p) s = .next (s.answered 0x71 tag p stOk
      (le 1 (schedMode s.svc.tz s.com k b (u32 p 1)).1 ++
        le 1 (if (schedMode s.svc.tz s.com k b (u32 p 1)).2.isSome then 3 else 2) ++
        le 1 ((schedMode s.svc.tz s.com k b (u32 p 1)).2.getD 0xFF) ++ le 1 (b2n (s.svc.tz.dst (u32 p 1))) ++
        leI 4 (s.svc.tz.local_ (u32 p 1)) ++ leI 4 x ++ le 1 (schedMode s.svc.tz s.com k b x).1))) ∧
  (∀ s tag p zb, s.ready 0x71 → p.length = 5 → u8 p 0 < 16 → u32 p 1 ≤ calendarEnd → s.com.body 1 (u8 p 0) = some zb →
    s.com.schedOf zb = none →
    exec (.schedResolve tag p) s = .next (s.draw.2.answered 0x71 tag p stOk
      (le 1 (u8 zb 19) ++ le 1 7 ++ le 1 0xFF ++ le 1 (b2n (s.svc.tz.dst (u32 p 1))) ++ leI 4 (s.svc.tz.local_ (u32 p 1)) ++
        (le 4 0xFFFFFFFF ++ le 1 s.draw.1)))) ∧
  (∀ s tag i r, s.ready 0x81 → i ≤ 127 → r = (mget s.com.rules i).getD {} →
    exec (.ruleStatus tag (le 1 i)) s = .next (s.answered 0x81 tag (le 1 i) stOk
      (le 1 r.state ++ le 1 (b2n r.result) ++
        le 1 (b2n r.cond) ++ le 2 r.cnt ++ wBytes r.a ++ wBytes r.b ++ wBytes r.lastchg ++ wBytes r.writes))) ∧
  (∀ s tag, s.ready 0x81 →
    exec (.ruleStatus tag (le 1 0xFF)) s = .next (s.answered 0x81 tag (le 1 0xFF) stOk
      (le 16 (s.ruleMap RuleRun.result) ++ le 16 (s.ruleMap RuleRun.invalid)))) ∧
  (∀ s tag i, s.ready 0x89 → i ≤ 31 → exec (.ilkRead tag (le 1 i)) s = .next (s.answered 0x89 tag (le 1 i) stOk
    ((nth s.com.cfg.ilk.entries i {}).bytes i ++
      le 1 (if (s.ilkRun i).tripped then (if (s.ilkRun i).latched then 3 else 2) else b2n (s.ilkRun i).trueAt.isSome)))) ∧
  (∀ s tag, s.ready 0x8B →
    leads (exec (.ilkStatus tag []) s) fun t =>
      (∃ tm lm, t.link = (s.answered 0x8B tag [] stOk (le 4 tm ++ le 4 lm ++ le 1 (b2n s.applied.ilk.armed) ++
          le 1 (b2n s.ilk.safe) ++ le 2 s.ilk.gVl.toNat ++ le 2 s.ilk.gAo.toNat ++ le 1 s.ilk.gFn.toNat ++
          le 1 s.ilk.gDo.toNat ++ le 2 s.ilk.trips ++ le 1 s.ilk.last ++ le 6 s.ilk.lastAt)).link ∧
        (∀ i < 32, bit tm i = (s.ilkRun i).tripped) ∧ ∀ i < 32, bit lm i = (s.ilkRun i).latched) ∧
      t.com = s.com ∧ t.staged = s.staged ∧ t.ilk = s.ilk)

/-- Table 16-6, R357: BUS_CONFIG stages; BUS_START awakens the controller, at once where unit 1 runs, else with step 2 of the Pavane that it calls; BUS_SLEEP asks
for sleep, with the FIFO to be dropped then when told to; BUS_SEND enters a frame of the host's in the FIFO and answers its TXSEQ;
BUS_STATUS reports; BUS_RECOVER begins the recovery from bus-off. Where the rules leave a point open it rests on the
model's choice (log 32). -/
def Obligations.BusCommandsComplete : Prop :=
  (∀ s tag p, s.readyToStage 0x90 1 → p.length = 13 → u8 p 0 ≤ 3 → (u8 p 1 = 0 ∨ 29 ≤ u8 p 1 ∧ u8 p 1 ≤ 35) →
    u8 p 2 ≤ 39 - (if u8 p 1 = 0 then 34 else u8 p 1) → u8 p 3 = 0xFF → u8 p 4 = 0 → u8 p 5 = 0 → u8 p 6 ≤ 1 → u8 p 8 ≤ 1 →
    u32 p 9 ≤ 0xFFFFF → (u8 p 6 = 1 → s.supervised = false) → exec (.busConfig tag p) s = .next (s.stagingCmd 0x90 tag p)) ∧
  (∀ s tag p, s.readyToStage 0x90 1 → p.length = 13 → u8 p 0 ≤ 3 → (u8 p 1 = 0 ∨ 29 ≤ u8 p 1 ∧ u8 p 1 ≤ 35) →
    u8 p 2 ≤ 39 - (if u8 p 1 = 0 then 34 else u8 p 1) →
    (u8 p 3 = 0 ∧ (u8 p 4 = 0 ∨ 23 ≤ u8 p 4 ∧ u8 p 4 ≤ 31) ∧ u8 p 5 ≤ 39 - (if u8 p 4 = 0 then 29 else u8 p 4) ∨
      u8 p 3 = 1 ∧ (u8 p 4 = 0 ∨ 11 ≤ u8 p 4 ∧ u8 p 4 ≤ 15) ∧ u8 p 5 ≤ 19 - (if u8 p 4 = 0 then 14 else u8 p 4) ∨
      u8 p 3 = 2 ∧ (u8 p 4 = 0 ∨ 5 ≤ u8 p 4 ∧ u8 p 4 ≤ 7) ∧ u8 p 5 ≤ 9 - (if u8 p 4 = 0 then 6 else u8 p 4)) →
    u8 p 6 ≤ 1 → u8 p 8 ≤ 1 → u32 p 9 ≤ 0xFFFFF → (u8 p 6 = 1 → s.supervised = false) →
    exec (.busConfig tag p) s = .next (s.stagingCmd 0x90 tag p)) ∧
  (∀ s tag, s.ready 0x91 → (s.bus.phase = .sleep ∨ s.bus.phase = .stopped) → s.bus.tec < 256 → s.runs 1 = true →
    exec (.busStart tag [0]) s =
      .next (({ s with bus := { s.bus with phase := .integrating } } : State).answered 0x91 tag [0] stOk [])) ∧
  (∀ s tag, s.ready 0x91 → s.applied.bus.listen = false → (s.bus.phase = .sleep ∨ s.bus.phase = .stopped) → s.bus.tec < 256 →
    s.runs 1 = true → exec (.busStart tag [1]) s = .next (({ s with bus := { s.bus with phase := .integrating, wakeReq := true } } : State).answered
      0x91 tag [1] stOk [])) ∧
  (∀ s tag, s.ready 0x92 → s.supervised = false → s.bus.fifo = [] → s.bus.allot = none → s.bus.phase ≠ .sleep →
    exec (.busSleep tag [0]) s =
      .next (({ s with bus := { s.bus with sleepReq := true, sleepFlush := false } } : State).answered 0x92 tag [0] stOk [])) ∧
  (∀ s tag, s.ready 0x92 → s.supervised = false → s.bus.phase ≠ .sleep →
    exec (.busSleep tag [1]) s =
      .next (({ s with bus := { s.bus with sleepReq := true, sleepFlush := true } } : State).answered 0x92 tag [1] stOk [])) ∧
  (∀ s tag p f, s.ready 0x93 → s.acting = true → p.length = 8 + u8 p 5 → u32 p 0 < 2 ^ 30 → u8 p 4 ≤ 7 →
    f = ({ ide := bit (u32 p 0) 29, id := u32 p 0 % 2 ^ 29, fdf := bit (u8 p 4) 0, brs := bit (u8 p 4) 1
           data := slice p 8 (u8 p 5) } : Frame) →
    s.badFrame f = false → (s.bus.phase = .integrating ∨ s.bus.phase = .active ∨ s.bus.phase = .passive) →
    s.applied.bus.listen = false → s.bus.fifo.length < 32 →
    exec (.busSend tag p) s = .next ((s.txEnter f (u16 p 6) (bit (u8 p 4) 2) none (some (.host s.link.nextId))).answered 0x93 tag p stOk
      (le 2 (s.bus.lastSeq + 1).toNat))) ∧
  (∀ s tag, s.ready 0x94 → exec (.busStatus tag []) s = .next (s.answered 0x94 tag [] stOk
    (le 1 s.bus.state ++ le 1 (b2n s.applied.bus.listen) ++ le 1 (min 255 s.bus.tec) ++ le 1 s.bus.rxec ++ le 1 s.bus.lasterr ++
      le 1 s.bus.tdc ++ le 1 s.bus.fifo.length ++ le 1 (b2n s.bus.vigil.isSome + 2 * b2n s.bus.allot.isSome) ++
      wBytes s.bus.txok ++ wBytes s.bus.rxok ++ wBytes s.bus.errs ++ le 2 s.bus.busoffs ++ le 2 s.bus.idcols ++
      le 2 s.bus.remotes ++ wBytes s.bus.colId))) ∧
  (∀ s tag, s.ready 0x95 → s.bus.phase = .busOff →
    exec (.busRecover tag [1]) s =
      .next (({ s with bus := { s.bus with phase := .recovering } } : State).answered 0x95 tag [1] stOk [])) ∧
  (∀ s tag, s.ready 0x95 → exec (.busRecover tag [0]) s = .next (s.answered 0x95 tag [0] stOk [])) ∧
  (∀ s tag, s.ready 0x95 → s.bus.onLine = false → s.bus.phase ≠ .busOff → (∀ c ∈ s.rem.box, c.out = []) →
    leads (exec (.busRecover tag [2]) s) fun t => t.bus.fifo = [] ∧ t.bus.phase = s.bus.phase ∧ t.com = s.com) ∧
  (∀ s tag, s.ready 0x91 → (s.bus.phase = .sleep ∨ s.bus.phase = .stopped) → s.runs 0 = true → s.runs 1 = false → s.pw.pav = none →
    exec (.busStart tag [0]) s =
      .next (({ s with pw := { s.pw with pav := some { todo := unitMask [1], due := s.tb } } } : State).answered 0x91 tag [0] stOk []))

/-- Table 17-9, R374: PAIR_CONFIG and CALLER_CONFIG stage; PAIR_HANDOVER begins the handover and waits for its end;
PAIR_STATUS and CALLER_STATUS report. Where the rules leave a point open it rests on the model's choice (log 77). -/
def Obligations.PairAndCallerCommandsComplete : Prop :=
  (∀ s tag, s.ready 0xA0 → exec (.pairStatus tag []) s = .next (s.answered 0xA0 tag [] stOk
    (le 1 s.pair.role.code ++ le 1 s.pair.mirror ++
      le 1 (b2n s.pair.linkUp + 2 * b2n (decide (leaseLeft s.pair.cLease s.tb > 0)) +
        4 * b2n (if s.acting then leaseLeft s.pair.pLease s.tb > 0
          else s.pair.role == .standby && s.pair.linkUp && s.pair.takeDue.isNone) + 8 * b2n s.pair.handoverAt.isSome) ++
      le 2 s.unit.term ++ le 4 (leaseLeft s.pair.cLease s.tb) ++ le 4 (leaseLeft s.pair.pLease s.tb) ++ le 4 s.epoch ++
      le 4 (if s.acting then s.pair.acked else if s.pair.role == .standby then s.epoch else 0) ++ le 8 s.pair.pserial ++
      le 4 (if s.unit.pair.ckey != 0 then s.unit.pair.ckey else s.pair.ckey) ++ le 2 s.pair.takeovers ++
      le 2 s.pair.mirfaults ++ le 4 s.pair.lastAck))) ∧
  (∀ s tag p, s.ready 0xA1 → s.staged.length < 512 → p.length = 6 → 2 ≤ u8 p 0 → u8 p 0 ≤ 20 → u8 p 1 ≤ 1 → u32 p 2 ≤ 0xFFFFF →
    exec (.pairConfig tag p) s = .next (s.stagingCmd 0xA1 tag p)) ∧
  (∀ s tag, s.ready 0xA2 → s.acting = true → s.pair.role ≠ .solo →
    leads (exec (.pairHandover tag []) s) fun t =>
      t.pair = { s.pair with handoverAt := some s.tb, handCmd := some (.host s.link.nextId, tag) } ∧
      t.link.replies = s.link.replies ∧ t.com = s.com ∧ t.staged = s.staged) ∧
  (∀ s tag p, s.readyToStage 0xA3 1 → p.length = 19 → u8 p 0 ≤ 3 → u8 p 1 ≤ 1 → un p 2 8 ≠ 0 → un p 10 8 ≠ 0 →
    un p 2 8 % 2 ^ 32 ≠ un p 10 8 % 2 ^ 32 →
    (∀ j < 4, j ≠ u8 p 0 → (nth s.callerNext j {}).serA ≠ 0 → ∀ o ∈ [2, 10],
      low (nth s.callerNext j {}).serA 32 ≠ un p o 8 % 2 ^ 32 ∧ low (nth s.callerNext j {}).serB 32 ≠ un p o 8 % 2 ^ 32) →
    5 ≤ u8 p 18 → u8 p 18 ≤ 50 → exec (.callerConfig tag p) s = .next (s.stagingCmd 0xA3 tag p)) ∧
  (∀ s tag i k, s.ready 0xA4 → i ≤ 3 → k = s.callSlot i →
    exec (.callerStatus tag (le 1 i)) s = .next (s.answered 0xA4 tag (le 1 i) stOk
      (le 1 k.pstate ++ le 1 (if k.phase == .elected then b2n k.actB else 0xFF) ++ le 1 (b2n k.ua.alive + 2 * b2n k.ub.alive) ++
        le 2 (nth s.unit.callTerms i 0) ++ le 4 k.ua.epoch ++ le 4 k.ub.epoch ++ le 4 (k.ua.age s.tb) ++ le 4 (k.ub.age s.tb) ++
        le 1 k.ua.st ++ le 1 k.ub.st ++ le 2 k.switches ++ le 2 k.ua.fails ++ le 2 k.ub.fails)))

/-- Table 18-8: NVM_READ of clean groups, NVM_WRITE and NVM_PROTECT, PATCH_LOAD and PATCH_ACTIVATE (erasing, and failing a
check), NVM_STATUS, which re-arms NVM_ECC; writes whose groups verify are in the store at once, and every other byte is as
it was. R393, R417: a write is answered once it has been verified, one with a group that does not verify FAULT, and what is set stays as it was.
R393, R395: a group written in part is read first, and one with a bit in error is counted. R107, R396: with a power-fail warning
standing the command waits, taken, with REASON 3. Where the rules leave a point open
it rests on the model's choice (log 56, log 100). -/
def Obligations.StoreCommandsComplete : Prop :=
  (∀ s tag p, s.ready 0xB0 → p.length = 5 → 0x40000 ≤ u32 p 0 → 1 ≤ u8 p 4 → u8 p 4 ≤ 240 → u32 p 0 + u8 p 4 ≤ 0x100000 →
    s.badIn (u32 p 0) (u8 p 4) = [] → s.unsteady = [] →
    exec (.nvmRead tag p) s =
      .next (s.answered 0xB0 tag p stOk (le 1 0 ++ Memory.readN s.cells (u32 p 0) (u8 p 4)))) ∧
  (∀ s tag p, s.ready 0xB0 → p.length = 5 → 0x40000 ≤ u32 p 0 → 1 ≤ u8 p 4 → u8 p 4 ≤ 240 → u32 p 0 + u8 p 4 ≤ 0x100000 →
    leads (exec (.nvmRead tag p) s) fun t => ∃ r, r ∈ t.link.replies ∧ r.slot = some s.link.nextId ∧ r.status = stOk ∧
      r.results = le 1 (eccFlag ((s.settled [(u32 p 0, u8 p 4)]).badIn (u32 p 0) (u8 p 4))) ++
        Memory.readN (s.settled [(u32 p 0, u8 p 4)]).cells (u32 p 0) (u8 p 4)) ∧
  (∀ s tag p, s.ready 0xB1 → 5 ≤ p.length → p.length ≤ 244 → 0x40000 ≤ u32 p 0 → u32 p 0 + (p.length - 4) ≤ 0x100000 →
    s.protected_ (u32 p 0) (p.length - 4) = false → s.failing [(u32 p 0, p.length - 4)] = [] → s.unsteady = [] →
    (∀ g ∈ s.badGroups, touches (mergedGroups (u32 p 0) (p.length - 4)) g.1 = false) →
    leads (exec (.nvmWrite tag p) s) fun t =>
      t.cells = Memory.writeN s.cells (u32 p 0) (p.drop 4) ∧ t.link.replies = s.link.replies ++ [s.replyAt tag stOk [] t.tb] ∧ t.com = s.com ∧
      t.unit = s.unit ∧ t.staged = s.staged ∧
      ∀ a, a < u32 p 0 ∨ u32 p 0 + (p.length - 4) ≤ a → Memory.read t.cells a = Memory.read s.cells a) ∧
  (∀ s tag p, s.ready 0xB2 → p.length = 1 → u8 p 0 ≤ 3 → s.unitFailing 6 = [] →
    leads (exec (.nvmProtect tag p) s) fun t =>
      t.unit = { s.unit with bp := u8 p 0 } ∧ t.unitStore = s.unitStore.write 6 false t.unit ∧ t.cells = s.cells ∧
      t.link.replies = s.link.replies ++ [s.replyAt tag stOk [] t.tb] ∧ t.com = s.com ∧ t.staged = s.staged) ∧
  (∀ s tag p, s.ready 0xB7 → 5 ≤ p.length → p.length ≤ 244 → u32 p 0 + (p.length - 4) ≤ 98304 →
    s.failing [(u32 p 0, p.length - 4)] = [] → (u32 p 0 = 0 → s.unitFailing 6 = []) → s.unsteady = [] →
    (∀ g ∈ s.badGroups, touches (mergedGroups (u32 p 0) (p.length - 4)) g.1 = false) →
    leads (exec (.patchLoad tag p) s) fun t =>
      t.cells = Memory.writeN s.cells (u32 p 0) (p.drop 4) ∧ t.link.replies = s.link.replies ++ [s.replyAt tag stOk [] t.tb] ∧ t.com = s.com ∧
      t.unit.digest = (if u32 p 0 = 0 then none else s.unit.digest) ∧
      ∀ a, a < u32 p 0 ∨ u32 p 0 + (p.length - 4) ≤ a → Memory.read t.cells a = Memory.read s.cells a) ∧
  (∀ s tag, s.ready 0xB8 → s.unitFailing 6 = [] →
    leads (exec (.patchActivate tag [1]) s) fun t =>
      t.unit = { s.unit with digest := none } ∧ t.unitStore = s.unitStore.write 6 false t.unit ∧ t.cells = s.cells ∧
      t.link.replies = s.link.replies ++ [s.replyAt tag stOk [] t.tb] ∧ t.com = s.com ∧ t.staged = s.staged) ∧
  (∀ s tag, s.ready 0xB8 → s.unsteady = [] → (∀ g ∈ s.badGroups, touches s.patchReads g.1 = false) → s.patchCheck ≠ 0 →
    exec (.patchActivate tag [0]) s = .next (({ s with store := { s.store with patchwhy := s.patchCheck } } : State).answered
      0xB8 tag [0] stBadParam [0xFF])) ∧
  (∀ s tag, s.ready 0xB9 →
    exec (.nvmStatus tag []) s =
      .next (({ s with store := { s.store with eccArmed := true } } : State).answered 0xB9 tag [] stOk
        (le 1 (b2n s.store.recalled) ++ le 1 (b2n (s.store.cur == some true)) ++ le 4 ((s.curArea.map (·.gen)).getD 0) ++
          le 4 s.store.pepoch ++ le 2 s.journalFree ++
          le 1 (b2n s.store.fallback + 2 * b2n s.store.imglost + 4 * b2n s.store.unitfix + 8 * b2n s.store.ringfix) ++
          le 1 s.unit.bp ++ wBytes s.store.corr ++ wBytes s.store.uncorr ++ le 2 s.store.wfail ++ le 4 s.store.lastbad ++
          le 2 s.store.scanunc ++ le 1 s.store.pstate ++ le 1 s.store.patchwhy ++ wBytes s.store.switches))) ∧
  (∀ s tag p, s.ready 0xB1 → 5 ≤ p.length → p.length ≤ 244 → 0x40000 ≤ u32 p 0 → u32 p 0 + (p.length - 4) ≤ 0x100000 →
    s.protected_ (u32 p 0) (p.length - 4) = false → s.failing [(u32 p 0, p.length - 4)] ≠ [] →
    leads (exec (.nvmWrite tag p) s) fun t =>
      t.link.replies = s.link.replies ++ [s.replyAt tag stFault [] t.tb] ∧ t.com = s.com ∧ t.unit = s.unit ∧
      t.staged = s.staged) ∧
  (∀ s tag p, s.ready 0xB2 → p.length = 1 → u8 p 0 ≤ 3 → s.unitFailing 6 ≠ [] →
    leads (exec (.nvmProtect tag p) s) fun t =>
      t.link.replies = s.link.replies ++ [s.replyAt tag stFault [] t.tb] ∧ t.com = s.com ∧ t.unit = s.unit) ∧
  (∀ s tag p g, s.ready 0xB1 → 5 ≤ p.length → p.length ≤ 244 → 0x40000 ≤ u32 p 0 → u32 p 0 + (p.length - 4) ≤ 0x100000 →
    s.protected_ (u32 p 0) (p.length - 4) = false → s.failing [(u32 p 0, p.length - 4)] = [] → s.unsteady = [] →
    s.badGroups = [(g, 1)] →
    touches (mergedGroups (u32 p 0) (p.length - 4)) g = true →
    leads (exec (.nvmWrite tag p) s) fun t => t.store.corr = s.store.corr + 1 ∧
      t.link.replies = s.link.replies ++ [s.replyAt tag stOk [] t.tb] ∧ t.com = s.com ∧ t.unit = s.unit) ∧
  (∀ s tag p, s.ready 0xB7 → 5 ≤ p.length → p.length ≤ 244 → u32 p 0 = 0 → s.unitFailing 6 ≠ [] →
    leads (exec (.patchLoad tag p) s) fun t =>
      t.link.replies = s.link.replies ++ [s.replyAt tag stFault [] t.tb] ∧ t.com = s.com ∧ t.unit = s.unit ∧ t.staged = s.staged) ∧
  (∀ s tag, s.ready 0xB8 → s.unitFailing 6 = [] → s.unsteady = [] → (∀ g ∈ s.badGroups, touches s.patchReads g.1 = false) →
    leads (exec (.patchActivate tag [0]) s) fun t => t.store.patchwhy = s.patchCheck ∧ t.cells = s.cells ∧ t.com = s.com ∧ t.staged = s.staged ∧

      (s.patchCheck = 0 → t.unit = { s.unit with digest := some s.patchDigest, patchHigh := leVal (Memory.readN s.cells 4 2) } ∧
        t.unitStore = s.unitStore.write 6 false t.unit ∧ t.link.replies = s.link.replies ++ [s.replyAt tag stOk [] t.tb]) ∧
      (s.patchCheck ≠ 0 → t.unit = s.unit ∧ t.link.replies = s.link.replies ++ [s.replyAt tag stBadParam [0xFF] t.tb])) ∧
  (∀ s tag p, (s.awake = true ∧ s.mgmt.restarting = false ∧ s.link.mbox = [] ∧ s.pair.handoverAt = none ∧ s.store.recalled = true ∧
      s.opcAllowed 0xB1 = true) → s.pw.pfw = true → 5 ≤ p.length → p.length ≤ 244 → 0x40000 ≤ u32 p 0 → u32 p 0 + (p.length - 4) ≤ 0x100000 →
    s.protected_ (u32 p 0) (p.length - 4) = false →
    exec (.nvmWrite tag p) s = .next { s with link := { s.link with
      mbox := [{ s.entry 0xB1 tag p with wait := 3 }], nextId := s.link.nextId + 1, hmiso := s.shifted p } })

/-- Table 18-8, R405, R407, R408, R410: RING_CONFIG defines a ring, and with INIT 1 clears its extent; RING_APPEND writes a record
with the next SEQ and answers it, or FAULT where a copy does not verify; RING_READ and LOG_READ answer bytes of the record selected,
whose groups are checked as they are read (R392), and AMBIGUOUS where two valid copies differ. Where the
rules leave a point open it rests on the model's choice (log 56, log 100). -/
def Obligations.RingAndLogCommandsComplete : Prop :=
  (∀ s tag p d, s.ready 0xB3 → p.length = 12 → u8 p 0 ≤ 63 → u8 p 1 ≤ 1 → u8 p 3 = 0 → d = ringOf p → 1 ≤ d.copies → d.copies ≤ 2 →
    d.base % 64 = 0 → 4 ≤ d.slots → d.slots ≤ 256 → 16 ≤ d.slotsz → d.slotsz ≤ 256 → d.slotsz % 16 = 0 → 0x40000 ≤ d.base →
    d.base + d.size ≤ 0x100000 →
    (d.en = true → ∀ i < 64, i ≠ u8 p 0 → ∀ o, nth s.unit.rings i none = some o → o.en = true →
      overlaps d.base d.size o.base o.size = false) → s.unitFailing 5 = [] →
    leads (exec (.ringConfig tag p) s) fun t =>
      t.unit = { s.unit with rings := upd s.unit.rings (u8 p 0) fun _ => some d } ∧
      t.link.replies = s.link.replies ++ [s.replyAt tag stOk [] t.tb] ∧ t.com = s.com ∧ t.cells = s.cells ∧ t.staged = s.staged) ∧
  (∀ s tag p d, s.ready 0xB4 → 2 ≤ p.length → p.length ≤ 248 → s.ring (u8 p 0) = some d → s.store.seek.contains (u8 p 0) = false →
    u8 p 1 = 0 → p.length - 2 ≤ d.slotsz - 12 → s.protected_ d.base d.size = false →
    s.failing (extents (ringPieces d (ringNext d (ringHits s.cells d)).1 (ringNext d (ringHits s.cells d)).2 (p.drop 2))) = [] →
    leads (exec (.ringAppend tag p) s) fun t =>
      t.cells = (s.ringWrite d (ringNext d (ringHits s.cells d)).1 (ringNext d (ringHits s.cells d)).2 (p.drop 2)).cells ∧
      t.link.replies = s.link.replies ++ [s.replyAt tag stOk (le 4 (ringNext d (ringHits s.cells d)).2) t.tb] ∧ t.com = s.com ∧ t.unit = s.unit) ∧
  (∀ s tag p d h, s.ready 0xB4 → 2 ≤ p.length → p.length ≤ 248 → s.ring (u8 p 0) = some d → s.store.seek.contains (u8 p 0) = false →
    u8 p 1 = 1 → p.length - 2 ≤ d.slotsz - 12 → s.protected_ d.base d.size = false → d.copies = 2 → ringNewest (ringHits s.cells d) = some h →
    s.failing (extents (ringPieces d h.slot h.seq (p.drop 2))) = [] →
    leads (exec (.ringAppend tag p) s) fun t =>
      t.cells = (s.ringWrite d h.slot h.seq (p.drop 2)).cells ∧ t.link.replies = s.link.replies ++ [s.replyAt tag stOk (le 4 h.seq) t.tb] ∧
      t.com = s.com ∧ t.unit = s.unit) ∧
  (∀ s tag p d q h rest, s.ready 0xB5 → p.length = 9 → s.ring (u8 p 0) = some d → s.store.seek.contains (u8 p 0) = false →
    s.unsteady = [] →
    (u8 p 1 = 0 ∧ (ringNewest (ringHits s.cells d)).map RingHit.seq = some q ∨ u8 p 1 = 1 ∧ u32 p 2 = q ∨
      u8 p 1 = 2 ∧ (ringOldest (ringHits s.cells d)).map RingHit.seq = some q) →
    (ringHits s.cells d).filter (fun x => x.seq == q && (u8 p 6 == 0 || x.copy + 1 == u8 p 6)) = h :: rest →
    (∀ x ∈ rest, x.data = h.data ∧ x.rsvd = h.rsvd) → u8 p 6 ≤ 2 → u8 p 7 ≤ h.data.length → 1 ≤ u8 p 8 → u8 p 8 ≤ 240 →
    exec (.ringRead tag p) s = .next ((s.readCheck (d.copiesOf (u8 p 6) ((ringHits s.cells d).filter fun x => x.seq == q))).answered 0xB5 tag p stOk
      (le 4 h.seq ++ le 1 h.data.length ++ slice h.data (u8 p 7) (u8 p 8)))) ∧
  (∀ s tag p q h rest, s.ready 0xB6 → p.length = 9 → u8 p 0 ≤ 2 → s.unsteady = [] →
    (u8 p 1 = 0 ∧ (ringNewest (ringHits s.cells (logDef (u8 p 0)))).map RingHit.seq = some q ∨ u8 p 1 = 1 ∧ u32 p 2 = q ∨
      u8 p 1 = 2 ∧ (ringOldest (ringHits s.cells (logDef (u8 p 0)))).map RingHit.seq = some q) →
    (ringHits s.cells (logDef (u8 p 0))).filter (fun x => x.seq == q && (u8 p 6 == 0 || x.copy + 1 == u8 p 6)) = h :: rest →
    (∀ x ∈ rest, x.data = h.data ∧ x.rsvd = h.rsvd) → u8 p 6 ≤ 2 → u8 p 7 ≤ h.data.length → 1 ≤ u8 p 8 → u8 p 8 ≤ 240 →
    exec (.logRead tag p) s = .next ((s.readCheck ((logDef (u8 p 0)).copiesOf (u8 p 6)
        ((ringHits s.cells (logDef (u8 p 0))).filter fun x => x.seq == q))).answered 0xB6 tag p stOk
      (le 4 h.seq ++ le 1 h.data.length ++ slice h.data (u8 p 7) (u8 p 8)))) ∧
  (∀ s tag p d, s.ready 0xB3 → p.length = 12 → u8 p 0 ≤ 63 → u8 p 1 ≤ 1 → u8 p 3 = 1 → d = ringOf p → 1 ≤ d.copies → d.copies ≤ 2 →
    d.base % 64 = 0 → 4 ≤ d.slots → d.slots ≤ 256 → 16 ≤ d.slotsz → d.slotsz ≤ 256 → d.slotsz % 16 = 0 → 0x40000 ≤ d.base →
    d.base + d.size ≤ 0x100000 → s.protected_ d.base d.size = false →
    (d.en = true → ∀ i < 64, i ≠ u8 p 0 → ∀ o, nth s.unit.rings i none = some o → o.en = true →
      overlaps d.base d.size o.base o.size = false) → s.unitFailing 5 = [] → s.failing [(d.base, d.size)] = [] →
    leads (exec (.ringConfig tag p) s) fun t =>
      t.unit = { s.unit with rings := upd s.unit.rings (u8 p 0) fun _ => some d } ∧
      (∀ a, d.base ≤ a → a < d.base + d.size → Memory.read t.cells a = 0) ∧
      (∀ a, a < d.base ∨ d.base + d.size ≤ a → Memory.read t.cells a = Memory.read s.cells a) ∧
      t.link.replies = s.link.replies ++ [s.replyAt tag stOk [] t.tb] ∧ t.com = s.com ∧ t.staged = s.staged) ∧
  (∀ s tag p d, s.ready 0xB4 → 2 ≤ p.length → p.length ≤ 248 → s.ring (u8 p 0) = some d → s.store.seek.contains (u8 p 0) = false →
    u8 p 1 = 0 → p.length - 2 ≤ d.slotsz - 12 → s.protected_ d.base d.size = false →
    s.failing (extents (ringPieces d (ringNext d (ringHits s.cells d)).1 (ringNext d (ringHits s.cells d)).2 (p.drop 2))) ≠ [] →
    leads (exec (.ringAppend tag p) s) fun t =>
      t.link.replies = s.link.replies ++ [s.replyAt tag stFault [] t.tb] ∧ t.com = s.com ∧ t.unit = s.unit ∧ t.staged = s.staged) ∧
  (∀ s tag p d q h rest, s.ready 0xB5 → p.length = 9 → s.ring (u8 p 0) = some d → s.store.seek.contains (u8 p 0) = false →
    s.unsteady = [] → u8 p 1 = 1 → u32 p 2 = q → u8 p 6 = 0 →
    (ringHits s.cells d).filter (fun x => x.seq == q) = h :: rest → (∃ x ∈ rest, x.data ≠ h.data ∨ x.rsvd ≠ h.rsvd) →
    u8 p 7 ≤ h.data.length → 1 ≤ u8 p 8 → u8 p 8 ≤ 240 →
    exec (.ringRead tag p) s = .next ((s.readCheck (d.copiesOf (u8 p 6) ((ringHits s.cells d).filter fun x => x.seq == q))).answered 0xB5 tag p stAmbiguous []))

/-- Tables 19-5 and 20-1: the staged commands of the display, of the backlights, of the key matrix and of the encoders, in
every form, and KEY_LOCK. Tables 19-5 and 20-1: DSP_STATUS and KEY_STATUS answer; where a display value has no rule, a
free value stands. Where the rules leave a point open it rests on the model's choice (log 8). -/
def Obligations.DisplayAndKeyCommandsComplete : Prop :=
  (∀ s tag p, s.readyToStage 0xC0 1 → p.length = 44 → (∀ e ∈ dspConfigChecks p, e.1 = false) →
    (u8 p 0 = s.com.cfg.dsp.conf.mode ∨ s.dsp.job = .none) → exec (.dspConfig tag p) s = .next (s.stagingCmd 0xC0 tag p)) ∧
  (∀ s tag p, s.readyToStage 0xC1 1 → p.length = 1 → (u8 p 0 ≤ 15 ∨ u8 p 0 = 0xFF) →
    exec (.dspShow tag p) s = .next (s.stagingCmd 0xC1 tag p)) ∧
  (∀ s tag p, s.readyToStage 0xC2 1 → p.length = 18 → u8 p 0 = 0 → u8 p 1 ≤ 15 → (∀ i < 16, u8 p (2 + i) ≤ 15) →
    exec (.dspOverdrive tag p) s = .next (s.stagingCmd 0xC2 tag p)) ∧
  (∀ s tag p, s.readyToStage 0xC2 1 → p.length = 6 → u8 p 0 = 1 → u8 p 1 ≤ 3 → (∀ i < 4, u8 p (2 + i) ≤ 15) →
    exec (.dspOverdrive tag p) s = .next (s.stagingCmd 0xC2 tag p)) ∧
  (∀ s tag p, s.readyToStage 0xC3 1 → p.length = 19 → 1 ≤ u8 p 0 → u8 p 0 ≤ 15 → u8 p 1 ≤ 7 → 1 ≤ u8 p 2 → u8 p 2 ≤ 8 →
    (∀ i < u8 p 2, u8 p (3 + 2 * i) ≤ 2 ∧ 1 ≤ u8 p (4 + 2 * i)) →
    (∀ i < 8, u8 p 2 ≤ i → u8 p (3 + 2 * i) = 0 ∧ u8 p (4 + 2 * i) = 0) →
    exec (.dspFigure tag p) s = .next (s.stagingCmd 0xC3 tag p)) ∧
  (∀ s tag p, s.readyToStage 0xC4 1 → p.length = 10 → (∀ i < 4, u16 p (2 * i) ≤ 10000) → u16 p 8 ≤ 5000 →
    exec (.dspBacklight tag p) s = .next (s.stagingCmd 0xC4 tag p)) ∧
  (∀ s tag p, s.readyToStage 0xD0 1 → p.length = 13 → u8 p 0 = 0 → u8 p 1 ≤ 1 → 2 ≤ u8 p 10 → u8 p 10 ≤ 126 → 2 ≤ u8 p 11 →
    u8 p 11 ≤ 126 → u8 p 12 ≤ 1 → exec (.keyConfig tag p) s = .next (s.stagingCmd 0xD0 tag p)) ∧
  (∀ s tag p, s.readyToStage 0xD0 1 → p.length = 9 → u8 p 0 = 1 → u8 p 1 ≤ 63 → u8 p 2 ≤ 4 → (s.pers ≠ .service → u8 p 2 = 0) →
    (u16 p 3 = 0xFFFF ∨ s.pers = .service ∧ isVP (u16 p 3) = true ∧ s.serviceOwned (u16 p 3) = false) →
    exec (.keyConfig tag p) s = .next (s.stagingCmd 0xD0 tag p)) ∧
  (∀ s tag p, s.readyToStage 0xD1 1 → p.length = 18 → u8 p 0 ≤ 3 → u8 p 1 ≤ 1 → (u8 p 2 = 1 ∨ u8 p 2 = 2 ∨ u8 p 2 = 4) →
    u8 p 3 ≤ 1 → (u16 p 4 = 0xFFFF ∨ s.pers = .service ∧ isVP (u16 p 4) = true ∧ s.serviceOwned (u16 p 4) = false) →
    s32 p 10 < s32 p 14 → exec (.encConfig tag p) s = .next (s.stagingCmd 0xD1 tag p)) ∧
  (∀ s tag p, s.readyToStage 0xD2 1 → p.length = 12 → u8 p 0 ≤ 1 → u8 p 1 ≤ 8 →
    (∀ i < u8 p 1, u8 p (2 + i) ≤ 63 ∧ s.com.cfg.key.mask.getLsbD (u8 p (2 + i)) = true) →
    (∀ i < 8, u8 p 1 ≤ i → u8 p (2 + i) = 0xFF) → (u16 p 10 = 0 ∨ 5 ≤ u16 p 10 ∧ u16 p 10 ≤ 3600) →
    exec (.keyLock tag p) s = .next (s.stagingCmd 0xD2 tag p)) ∧
  (∀ s tag, s.ready 0xC5 →
    leads (exec (.dspStatus tag []) s) fun t =>
      (∃ f0 f1 f2 f3 rs, t.link = (s.answered 0xC5 tag [] stOk rs).link ∧
        rs = le 1 s.dspMode ++ le 1 s.dspState ++ le 1 s.dsp.shown ++ le 1 s.dspPend ++ le 1 s.dsp.band ++ le 1 s.dsp.lband ++
          (if s.dsp.tband = noVal then le 2 f0 else leI 2 (roundHalfAway ((s.dsp.tband.toInt : Rat) / 10))) ++
          le 2 (if s.dsp.inReg && s.dspMode == 1 then s.dsp.vlcd else f1) ++
          (if s.dsp.inReg && s.dspMode == 2 then le 2 15000 else le 2 f2) ++
          (if s.dsp.inReg && s.dspMode == 2 then leI 2 (-15000) else le 2 f3) ++ le 4 ((s.dsp.updEnd.map fun e => timeLeft e s.tb / 1000).getD 0) ++
          le 4 s.dsp.updates.toNat ++
          le 2 s.dsp.recovs ++ le 2 s.dsp.railflt ++ le 2 s.dsp.cap ++ (List.range 4).flatMap (fun i => le 2 (s.blDuty i)) ++
          le 1 (match s.dspMarker with
            | none => 0
            | some m => u8 m 0)) ∧
      t.dsp = s.dsp ∧ t.com = s.com ∧ t.staged = s.staged) ∧
  (∀ s tag, s.ready 0xD3 → exec (.keyStatus tag []) s = .next (s.answered 0xD3 tag [] stOk
    (le 1 (b2n s.applied.key.locked) ++ le 1 s.keys.prog ++ le 8 s.keys.pressed.toNat ++ le 8 s.keys.withheld.toNat ++
      le 1 s.keys.count ++ le 2 s.keys.lostSat ++ le 2 s.keys.ghostSat ++ le 2 s.keys.fails ++ le 2 s.keys.actdrop ++
      (List.range 4).flatMap (fun n => le 2 (nth s.keys.enc n {}).pos.toNat) ++ le 2 s.scanPeriod)))

/-- Table 21-5, R454, R456: THERM_CONFIG stages; HK_STATUS reports; THERM_CLEAR releases a latched shutdown and its
stamps, and is answered OK without effect where none is latched; THERM_LOG answers the record selected of the thermal
log. Where the rules leave a point open it rests on the model's choice (log 56). -/
def Obligations.HousekeepingCommandsComplete : Prop :=
  (∀ s tag p, s.readyToStage 0xE1 1 → p.length = 6 → 700 ≤ (thermCfgOf p).twarn → (thermCfgOf p).twarn ≤ 1300 →
    900 ≤ (thermCfgOf p).tshut → (thermCfgOf p).tshut ≤ 1350 → (thermCfgOf p).twarn < (thermCfgOf p).tshut →
    2 ≤ (thermCfgOf p).rwarn → (thermCfgOf p).rwarn ≤ 30 → 10 ≤ (thermCfgOf p).rshut → (thermCfgOf p).rshut ≤ 30 →
    (thermCfgOf p).rwarn < (thermCfgOf p).rshut → exec (.thermConfig tag p) s = .next (s.stagingCmd 0xE1 tag p)) ∧
  (∀ s tag, s.ready 0xE0 → (∀ i < 4, nth s.hk.newest (3 + i) noVal ≠ noVal) →
    exec (.hkStatus tag []) s = .next (s.answered 0xE0 tag [] stOk
      (le 1 (if s.aon.thermLatched then 3 else if s.hk.shut then 2 else if !s.hk.posted then 4 else b2n s.hk.warn) ++
        le 1 s.hk.cause ++ le 1 s.aon.shutStamps.length ++ ([0] : Bytes) ++ wBytes (nth s.hk.newest 0 noVal) ++
        wBytes (nth s.hk.newest 1 noVal) ++ wBytes s.hk.tmax ++ le 2 s.hk.v1 ++ le 2 s.hk.v2 ++
        le 4 (match s.hk.runAt with
          | none => 0xFFFFFFFF
          | some t => timeLeft (tbAdd t 60000000) s.tb / 1000) ++ le 2 (nth s.hk.newest 3 noVal).toNat ++
        le 2 (nth s.hk.newest 4 noVal).toNat ++ le 2 (nth s.hk.newest 5 noVal).toNat ++
        le 2 (nth s.hk.newest 6 noVal).toNat ++ le 1 s.hk.rflags.toNat ++ le 2 s.aon.shuts))) ∧
  (∀ s tag, s.ready 0xE0 → goesOn (exec (.hkStatus tag []) s)) ∧
  (∀ s tag, s.ready 0xE2 → s.aon.thermLatched = false → exec (.thermClear tag []) s = .next (s.answered 0xE2 tag [] stOk [])) ∧
  (∀ s tag, s.ready 0xE2 → s.aon.thermLatched = true → s.hk.runAt = none →
    leads (exec (.thermClear tag []) s) fun t =>
      t.aon = { s.aon with thermLatched := false, shutStamps := [] } ∧
      t.hk = { s.hk with toLog := s.hk.toLog ++
        [({ s with aon := { s.aon with thermLatched := false, shutStamps := [] } } : State).thermRecord 4 0 s.pw.pmun.toNat 0 s.tb] } ∧
      t.link = (s.answered 0xE2 tag [] stOk []).link ∧ t.com = s.com ∧ t.staged = s.staged) ∧
  (∀ s tag p q h rest, s.ready 0xE3 → p.length = 5 →
    (u8 p 0 = 0 ∧ (ringNewest (ringHits s.cells (logDef 0))).map RingHit.seq = some q ∨ u8 p 0 = 1 ∧ u32 p 1 = q ∨
      u8 p 0 = 2 ∧ (ringOldest (ringHits s.cells (logDef 0))).map RingHit.seq = some q) →
    (ringHits s.cells (logDef 0)).filter (fun x => x.seq == q) = h :: rest → (∀ x ∈ rest, x.data = h.data ∧ x.rsvd = h.rsvd) →
    s.unsteady = [] → exec (.thermLog tag p) s = .next ((s.readCheck ((logDef 0).copiesOf 0 (h :: rest))).answered 0xE3 tag p stOk
      (le 4 h.seq ++ le 1 h.data.length ++ slice h.data 0 240)))

/-- R91, R92, R94, R98, R101, R102: a well-formed command packet enters the mailbox, and only that; a packet without its
sync byte counts and raises LINK_ERROR; with the mailbox full it is refused; an unlisted transaction type sets LERR and
raises LINK_ERROR. Where the rules leave a point open it rests on the model's choice (log 40). -/
def Obligations.CommandPacketsReceived : Prop :=
  (∀ s opc tag p, s.awake = true → s.link.mbox.length < 8 → opc < 256 → p.length < 256 →
    leads (exec (.commandWrite (packet opc tag p)) s) fun t =>
      t.link.mbox = s.link.mbox ++ [{ id := s.link.nextId, tag := tag, opc := opc, params := p, recvAt := s.tb }] ∧
      t.link.replies = s.link.replies ∧
      { t with ev := s.ev, link := s.link, w1cAt := s.w1cAt, w1cNow := s.w1cNow } = s) ∧
  (∀ s opc tag p, s.awake = true → 8 ≤ s.link.mbox.length → opc < 256 → p.length < 256 →
    leads (exec (.commandWrite (packet opc tag p)) s) fun t =>
      t.link.mbox = s.link.mbox ∧ t.link.refused = true ∧ t.link.refusedCnt = satInc s.link.refusedCnt 255 ∧
      t.link.replies = s.link.replies ∧
      { t with link := s.link, w1cAt := s.w1cAt, w1cNow := s.w1cNow } = s) ∧
  (∀ s bs, s.awake = true → (bs[0]? ≠ some 0xC7 ∨ bs.length < 6) →
    leads (exec (.commandWrite bs) s) fun t =>
      t.link.mbox = s.link.mbox ∧ t.link.syncErr = satInc s.link.syncErr 255 ∧ t.link.lerr = true ∧ t.ev = s.ev.raise 25 s.tb ∧
      t.link.replies = s.link.replies ∧
      { t with ev := s.ev, link := s.link, w1cAt := s.w1cAt, w1cNow := s.w1cNow } = s) ∧
  (∀ s x, s.awake = true → (x.type = 0 ∨ 5 < x.type.toNat) →
    leads (exec (.unknownTransaction x) s) fun t => t.link.lerr = true ∧ t.ev = s.ev.raise 25 s.tb ∧
      t.link.mbox = s.link.mbox ∧ t.link.replies = s.link.replies ∧
      { t with ev := s.ev, link := s.link, w1cAt := s.w1cAt, w1cNow := s.w1cNow } = s)

/-- R92, R93, R101, R105: a reply read to its end leaves the queue and, being final, frees its mailbox slot; read in part
it stays; with no reply zeros are shifted out; COMMAND_TAKE runs the oldest command not yet taken, or carries on one that waits for
the store (R106, R107); a command that changes state waits while a handover runs (R374). R104, R107, R109: the
oldest reply that stays unread for 10 rounds is dropped and counted; a command without a final reply after 20 ms is
answered DEFERRED; one not taken 2 rounds after that is ended BUSY. Where the rules leave a point open it rests on the
model's choice (log 38, log 40, log 73, log 90, log 100). -/
def Obligations.RepliesAndTaking : Prop :=
  (∀ s r rest id n, s.awake = true → s.link.replies = r :: rest → r.final = true → r.slot = some id → s.pw.devResetCmd ≠ some id →
    s.link.mbox.length < 8 → r.bytes.length ≤ n →
    exec (.replyRead n) s = .next { s with link := { s.link with
      hmiso := le 1 s.hlstLow ++ fit n r.bytes, replies := rest, mbox := s.link.mbox.filter fun c => c.id != id } }) ∧
  (∀ s r rest n, s.awake = true → s.link.replies = r :: rest → n < r.bytes.length →
    exec (.replyRead n) s = .next { s with link := { s.link with hmiso := le 1 s.hlstLow ++ fit n r.bytes } }) ∧
  (∀ s n, s.awake = true → s.link.replies = [] →
    exec (.replyRead n) s = .next { s with link := { s.link with hmiso := le 1 s.hlstLow ++ List.replicate n 0 } }) ∧
  (∀ s r rest id, s.awake = true → s.link.replies = r :: rest → r.final = true → r.slot = some id → s.pw.devResetCmd = some id →
    leads (exec (.replyRead r.bytes.length) s) fun t => t.pw.devReset = some s.tb ∧ t.link.replies = rest) ∧
  (∀ s c rest, s.awake = true → s.mgmt.restarting = false → s.pair.handoverAt = none → s.store.recalled = true →
    s.link.mbox = c :: rest → c.taken = false → c.done = false → (∀ d ∈ rest, d.id ≠ c.id) → opRow c.opc = none →
    leads (exec .commandTake s) fun t =>
      t.link.mbox = { c with taken := true, done := true } :: rest ∧
      t.link.replies = s.link.replies ++ [{ slot := some c.id, tag := c.tag, status := stBadOpcode, epoch := s.epoch, results := []
                                            final := true, readAt := s.tb }] ∧
      t.com = s.com ∧ t.staged = s.staged) ∧
  (∀ s c rest, s.awake = true → s.mgmt.restarting = false → s.pair.handoverAt = none → s.store.recalled = true →
    s.opcAllowed 0x00 = true → s.link.mbox = c :: rest → c.taken = false → c.done = false → (∀ d ∈ rest, d.id ≠ c.id) → c.opc = 0 →
    c.params = [] →
    leads (exec .commandTake s) fun t =>
      t.link.mbox = { c with taken := true, done := true } :: rest ∧
      t.link.replies = s.link.replies ++ [{ slot := some c.id, tag := c.tag, status := stOk, epoch := s.epoch, results := []
                                            final := true, readAt := s.tb }] ∧
      t.com = s.com ∧ t.staged = s.staged) ∧
  (∀ s r rest id, s.awake = true → s.link.replies = r :: rest → r.final = true → r.slot = some id → s.link.mbox.length < 8 →
    s.tb = nextMultiple 1000000 (tbAdd r.readAt 10000000) →
    leads (exec .replyExpiry s) fun t => t.link.replies = rest ∧ t.link.expired = satInc s.link.expired 255 ∧
      t.link.mbox = s.link.mbox.filter (fun c => c.id != id) ∧ t.ev = s.ev.raise 24 s.tb ∧
      { t with tb := s.tb, tbFrac := s.tbFrac, ev := s.ev, link := s.link } = s) ∧
  (∀ s c i, s.awake = true → s.tb < tbMod → i < 8 → s.link.mbox[i]? = some c → c.done = false → c.deferAt = none →
    s.tb = tbAdd c.recvAt 20000 →
    leads (exec (.deferredTimeout false i) s) fun t =>
      t.link.replies = s.link.replies ++ [{ slot := some c.id, tag := c.tag, status := stDeferred, epoch := s.epoch
                                            results := le 1 c.opc ++ le 1 (s.reasonOf (.host c.id) c.wait), final := false
                                            readAt := s.tb }] ∧
      t.link.defers = satInc s.link.defers 65535 ∧
      t.link.mbox = s.link.mbox.map (fun d => if d.id = c.id then { d with deferAt := some s.tb } else d) ∧
      { t with tb := s.tb, tbFrac := s.tbFrac, ev := s.ev, link := s.link, rem := s.rem, bus := s.bus } = s) ∧
  (∀ s c i u, s.awake = true → s.tb < tbMod → i < 8 → s.link.mbox[i]? = some c → c.done = false → c.taken = false →
    c.wait ≠ 3 → c.deferAt = some u →
    leads (exec (.deferredExpiry false i) s) fun t => t.tb = (s.jump (nextMultiple 1000000 (tbAdd u 2000000))).tb ∧
      t.link.replies = s.link.replies ++ [{ slot := some c.id, tag := c.tag, status := stBusy, epoch := s.epoch, results := [],
                                            final := true, readAt := t.tb }] ∧
      t.link.busyEnd = satInc s.link.busyEnd 65535 ∧
      t.link.mbox = s.link.mbox.map (fun d => if d.id = c.id then { d with done := true } else d) ∧
      { t with tb := s.tb, tbFrac := s.tbFrac, ev := s.ev, link := s.link, rem := s.rem, bus := s.bus } = s) ∧
  (∀ s c, s.awake = true → s.mgmt.restarting = false → s.link.mbox.find? s.open_ = some c → c.taken = false →
    s.waitsHandover c.opc = false →
    exec .commandTake s = .next (State.runCommand c.opc { org := .host c.id, tag := c.tag, p := c.params }
      { s with link := s.link.onCmd c.id fun x => { x with taken := true } })) ∧
  (∀ s c, s.awake = true → s.mgmt.restarting = false → s.link.mbox.find? s.open_ = some c → c.taken = true →
    exec .commandTake s = .next (State.carryOn c.opc { org := .host c.id, tag := c.tag, p := c.params }
      { s with link := s.link.onCmd c.id fun x => { x with taken := true } })) ∧
  (∀ s, s.link.mbox.find? s.open_ = none → exec .commandTake s = .next s) ∧
  (∀ s c, s.link.mbox.find? s.open_ = some c → c.taken = false → s.waitsHandover c.opc = true → exec .commandTake s = .next s)

/-- R7, R8, R92, R94, R112, R122, R123, R128, R132, R343, R344: what the host writes to the window and to the event fabric: routes,
EVWKEN, EVCTL, EVST and EVOV, the write-one-to-clear latches, the staging registers of the transmit window, the NEW flags of the
receive buffers, two registers in their own quanta; what a window read shifts out, and TBLO's capture of TBHI. Where the rules leave a point open it rests on the model's choice (log 14, log 15, log 71). -/
def Obligations.WindowAndFabricWrites : Prop :=
  (∀ s k v, s.awake = true → k < 4 →
    leads (exec (.windowWrite (0x120 + 4 * k) { bytes := wBytes v }) s) fun t =>
      t.readReg (0x120 + 4 * k) = v ∧ (∀ j < 4, j ≠ k → t.readReg (0x120 + 4 * j) = s.readReg (0x120 + 4 * j)) ∧
      t.ev.st = s.ev.st ∧ t.ev.ov = s.ev.ov ∧ t.com = s.com ∧ t.bus = s.bus) ∧
  (∀ s v, s.awake = true →
    leads (exec (.windowWrite 0x140 { bytes := wBytes v }) s) fun t => t.readReg 0x140 = v &&& 0x7F ∧ t.ev.st = s.ev.st ∧ t.com = s.com) ∧
  (∀ s a v, s.awake = true → a < 0x20 →
    exec (.windowWrite a { bytes := wBytes v }) s = .next (s.shiftOut (List.replicate 6 0))) ∧
  (∀ s a bs, s.awake = true → bs.length < 4 →
    exec (.windowWrite a { bytes := bs }) s = .next (s.shiftOut (List.replicate (bs.length + 2) 0))) ∧
  (∀ s k bits, s.awake = true → k < 4 →
    leads (exec (.evstClear k false bits) s) fun t =>
      (∀ i < 32, t.ev.st.getLsbD (32 * k + i) = (s.ev.st.getLsbD (32 * k + i) &&
        !(bits.getLsbD i && !(s.ev.raisedAt == s.tb && s.ev.raisedNow.getLsbD (32 * k + i))))) ∧
      (∀ i < 128, i < 32 * k ∨ 32 * k + 32 ≤ i → t.ev.st.getLsbD i = s.ev.st.getLsbD i) ∧ t.ev.ov = s.ev.ov ∧
      { t with ev := s.ev } = s) ∧
  (∀ s k bits, 4 ≤ k → exec (.evstClear k false bits) s = .fault .noSuchUnit) ∧
  (∀ s, s.awake = true → s.tb < 2 ^ 48 → exec .tbloRead s = .next { s with
    link := { s.link with hmiso := le 1 s.hlstLow ++ ([0, 0, 0] ++ le 4 s.tb ++ le 4 (s.tb / 2 ^ 32)) }
    ev := { s.ev with tbhi := BitVec.ofNat 16 (s.tb / 2 ^ 32) } }) ∧
  (∀ s h, s.ev.padA.highUntil = some h → s.tb = h % tbMod → s.tb < tbMod →
    exec (.irqPulseEnd false) s = .next { s with ev := { s.ev with padA := s.ev.padA.finish } }) ∧
  (∀ s k bits, s.awake = true → k < 4 →
    leads (exec (.evstClear k true bits) s) fun t =>
      (∀ i < 32, t.ev.ov.getLsbD (32 * k + i) = (s.ev.ov.getLsbD (32 * k + i) &&
        !(bits.getLsbD i && !(s.ev.raisedAt == s.tb && s.ev.ovNow.getLsbD (32 * k + i))))) ∧
      (∀ i < 128, i < 32 * k ∨ 32 * k + 32 ≤ i → t.ev.ov.getLsbD i = s.ev.ov.getLsbD i) ∧ t.ev.st = s.ev.st ∧
      { t with ev := s.ev } = s) ∧
  (∀ s v, s.awake = true →
    leads (exec (.windowWrite 0x150 { bytes := wBytes v }) s) fun t => t.readReg 0x150 = v &&& 0xCC ∧
      t.ev.enA = v.getLsbD 3 ∧ t.ev.pulseA = v.getLsbD 2 ∧ t.ev.enB = v.getLsbD 7 ∧ t.ev.pulseB = v.getLsbD 6 ∧
      t.ev.st = s.ev.st ∧ t.ev.ov = s.ev.ov ∧ { t with ev := s.ev, link := s.link } = s) ∧
  (∀ s a v, s.awake = true → s.w1cAt ≠ s.tb → a ∈ [0x20, 0x84, 0x90, 0x720, 0x728, 0x72C, 0xB44, 0xF00, 0x3408, 0x340C, 0x3414, 0x3000] →
    absentBlock s.pers a = false →
    leads (exec (.windowWrite a { bytes := wBytes v }) s) fun t =>
      t.link.refused = (s.link.refused && !(a == 0x20 && v.getLsbD 4)) ∧ t.link.lerr = (s.link.lerr && !(a == 0x20 && v.getLsbD 3)) ∧
      t.pmrc = (if a = 0x84 then keepBits s.pmrc v 0 else s.pmrc) ∧
      t.bus.faultLat = (if a = 0x90 then keepBits s.bus.faultLat v 8 else s.bus.faultLat) ∧
      t.prm.new = (if a = 0x720 then keepBits s.prm.new v 0 else s.prm.new) ∧
      t.prm.ovrl = (if a = 0x728 then keepBits s.prm.ovrl v 0 else s.prm.ovrl) ∧
      t.prm.sfl = (if a = 0x72C then keepBits s.prm.sfl v 0 else s.prm.sfl) ∧
      t.sar.new = (if a = 0xB44 then keepBits s.sar.new v 0 else s.sar.new) ∧
      t.vl.pinew = (if a = 0xF00 then keepBits s.vl.pinew v 0 else s.vl.pinew) ∧
      t.vl.diagnew = (if a = 0xF00 then keepBits s.vl.diagnew v 16 else s.vl.diagnew) ∧
      t.fio.wbl = (if a = 0x3408 then keepBits s.fio.wbl v 16 else s.fio.wbl) ∧
      t.fio.rise = (if a = 0x340C then keepBits s.fio.rise v 0 else s.fio.rise) ∧
      t.fio.fall = (if a = 0x340C then keepBits s.fio.fall v 16 else s.fio.fall) ∧
      t.fio.ovtl = (if a = 0x3414 then keepBits s.fio.ovtl v 16 else s.fio.ovtl) ∧
      t.keys.ovf = (s.keys.ovf && !(a == 0x3000 && v.getLsbD 15)) ∧
      { t with link := s.link, pmrc := s.pmrc, bus := s.bus, prm := s.prm, sar := s.sar, vl := s.vl, fio := s.fio, keys := s.keys } = s) ∧
  (∀ s v, s.awake = true → s.acting = true →
    leads (exec (.windowWrite 0x2000 { bytes := wBytes v }) s) fun t => t.bus = { s.bus with txfid := v &&& 0x3FFFFFFF } ∧
      { t with link := s.link, bus := s.bus } = s) ∧
  (∀ s v, s.awake = true → s.acting = true →
    leads (exec (.windowWrite 0x2004 { bytes := wBytes v }) s) fun t => t.bus = { s.bus with txfctl := v &&& 0xFFFFFF07 } ∧
      { t with link := s.link, bus := s.bus } = s) ∧
  (∀ s v i, s.awake = true → s.acting = true → i < 16 →
    leads (exec (.windowWrite (0x2040 + 4 * i) { bytes := wBytes v }) s) fun t => t.bus = { s.bus with txfdat := upd s.bus.txfdat i fun _ => v } ∧
      { t with link := s.link, bus := s.bus } = s) ∧
  (∀ s a v, s.awake = true → s.acting = false → 0x2000 ≤ a → a < 0x2800 →
    exec (.windowWrite a { bytes := wBytes v }) s = .next (s.shiftOut (List.replicate 6 0))) ∧
  (∀ s v, s.awake = true → s.acting = true → s.w1cAt ≠ s.tb →
    leads (exec (.windowWrite 0x2100 { bytes := wBytes v }) s) fun t =>
      t.bus = { s.bus with pushfail := s.bus.pushfail && !v.getLsbD 3, viglate := s.bus.viglate && !v.getLsbD 2 } ∧
      { t with link := s.link, bus := s.bus } = s) ∧
  (∀ s v n, s.awake = true → n < 48 → s.w1cAt ≠ s.tb →
    leads (exec (.windowWrite (0x1000 + 0x50 * n) { bytes := wBytes v }) s) fun t =>
      t.bus = { s.bus with buf := upd s.bus.buf n fun x => { x with new := x.new && !v.getLsbD 7 } } ∧
      { t with link := s.link, bus := s.bus } = s) ∧
  (∀ s v w d, s.awake = true → s.acting = true →
    leads (exec (.windowWrite 0x2000 { bytes := wBytes v ++ wBytes w, gaps := [0, d] }) s) fun t =>
      t.bus = { s.bus with txfid := v &&& 0x3FFFFFFF, txfctl := w &&& 0xFFFFFF07 } ∧ t.tb = tbAdd s.tb d ∧
      t.link.hmiso = le 1 s.hlstLow ++ List.replicate 10 0) ∧
  (∀ s a, s.awake = true → a % 4 = 0 → a ≤ 0xFFFC → a ≠ 0x200 →
    exec (.unknownTransaction { type := 3, addr := a, clocked := 7 }) s = .next (s.shiftOut ([0, 0, 0] ++ wBytes (s.readReg a)))) ∧
  (∀ s, s.awake = true →
    exec (.unknownTransaction { type := 3, addr := 0xFFFC, clocked := 11 }) s =
      .next (s.shiftOut ([0, 0, 0] ++ wBytes (s.readReg 0xFFFC) ++ [0, 0, 0, 0]))) ∧
  (∀ s x, s.awake = true → x.type = 5 → exec (.unknownTransaction x) s = .next (s.shiftOut (le 4 s.hlst))) ∧
  (∀ s d, s.awake = true →
    leads (exec (.unknownTransaction { type := 3, addr := 0x200, clocked := 11, gaps := [0, d] }) s) fun t =>
      t.link.hmiso = le 1 s.hlstLow ++ ([0, 0, 0] ++ le 4 s.tb ++ wBytes ((BitVec.ofNat 16 (s.tb / 2 ^ 32)).setWidth 32)) ∧
      t.tb = tbAdd s.tb d ∧ t.ev.tbhi = BitVec.ofNat 16 (s.tb / 2 ^ 32))

/-- R123: raising a source sets its EVST bit; its EVOV bit is set too where EVST was already 1; no other bit of either
changes. -/
def Obligations.RaiseSetsOneSource : Prop :=
  ∀ (e : Events) (n t : Nat), n < 128 → e.raisedAt ≠ t →
    (e.raise n t).st.getLsbD n = true ∧ (e.raise n t).ov.getLsbD n = (e.ov.getLsbD n || e.st.getLsbD n) ∧
    (∀ i, i ≠ n → (e.raise n t).st.getLsbD i = e.st.getLsbD i) ∧ (∀ i, i ≠ n → (e.raise n t).ov.getLsbD i = e.ov.getLsbD i)

/-- R115 to R120, R337: a remote record for this node enters the remote mailbox, or is counted with it full; a record
whose length or slot is wrong, or whose MAC disagrees, is discarded with its cause; one with an old counter is a replay;
one that passes raises the counter and runs its command, or is refused LOCKED where the mask of its slot keeps its class out; a
NOP's reply goes to the bus in a frame of function 0x5. Where the rules leave a point open it rests on the model's choice
(log 6, log 41). -/
def Obligations.RemoteRecordsAuthenticated : Prop :=
  (∀ s f, s.frameArrives = true → s.acting = true → f.remote = false → f.ide = true → f.id = frameId 4 0 s.nodeKey →
    s.rem.box.length < 8 →
    exec (.remoteRecordArrival f) s = .next { s with rem := { s.rem with
      box := s.rem.box ++ [{ id := s.rem.nextId, data := f.data, classic := !f.fdf, recvAt := s.tb }], nextId := s.rem.nextId + 1 } }) ∧
  (∀ s f, s.frameArrives = true → s.acting = true → f.remote = false → f.ide = true → f.id = frameId 4 0 s.nodeKey →
    8 ≤ s.rem.box.length →
    leads (exec (.remoteRecordArrival f) s) fun t => t.rem = { s.rem with rfull := satInc s.rem.rfull 255 } ∧
      t.ev = s.ev.raise 29 s.tb ∧
      { t with ev := s.ev, rem := s.rem } = s) ∧
  (∀ s c rest, s.awake = true → s.mgmt.restarting = false → s.acting = true → s.pair.handoverAt = none → s.rem.box = c :: rest →
    c.taken = false → c.done = false → (c.lengthOk = false ∨ nth s.unit.keys (u8 c.data 0) none = none) →
    leads (exec .remoteRecordTake s) fun t =>
      t.rem = { s.rem with authFail := satInc s.rem.authFail 255, box := (c :: rest).filter fun d => d.id != c.id } ∧
      t.ev = s.ev.raise 27 s.tb ∧ { t with ev := s.ev, rem := s.rem } = s) ∧
  (∀ s c rest k, s.awake = true → s.mgmt.restarting = false → s.acting = true → s.pair.handoverAt = none → s.rem.box = c :: rest →
    c.taken = false → c.done = false → c.lengthOk = true → nth s.unit.keys (u8 c.data 0) none = some k →
    slice c.data (8 + u8 c.data 5) 8 ≠ recordMac k.key s.addressedSerial (c.data.take (8 + u8 c.data 5)) →
    leads (exec .remoteRecordTake s) fun t =>
      t.rem = { s.rem with authFail := satInc s.rem.authFail 255, box := (c :: rest).filter fun d => d.id != c.id } ∧
      t.unit.keys = upd s.unit.keys (u8 c.data 0) (fun _ => some { k with fails := satInc k.fails 65535 }) ∧
      t.ev = s.ev.raise 27 s.tb ∧ { t with ev := s.ev, rem := s.rem, unit := s.unit, unitStore := s.unitStore, badGroups := s.badGroups, unsteady := s.unsteady } = s) ∧
  (∀ s c rest k, s.awake = true → s.mgmt.restarting = false → s.acting = true → s.pair.handoverAt = none → s.rem.box = c :: rest →
    c.taken = false → c.done = false → c.lengthOk = true → nth s.unit.keys (u8 c.data 0) none = some k →
    slice c.data (8 + u8 c.data 5) 8 = recordMac k.key s.addressedSerial (c.data.take (8 + u8 c.data 5)) →
    (k.exhausted = true ∨ u32 c.data 1 ≤ nth s.com.keyCnt (u8 c.data 0) 0) →
    leads (exec .remoteRecordTake s) fun t =>
      t.rem = { s.rem with replay := satInc s.rem.replay 255, box := (c :: rest).filter fun d => d.id != c.id } ∧
      t.ev = s.ev.raise 28 s.tb ∧ { t with ev := s.ev, rem := s.rem } = s) ∧
  (∀ s c rest k, s.awake = true → s.mgmt.restarting = false → s.acting = true → s.pair.handoverAt = none → s.rem.box = c :: rest →
    c.taken = false → c.done = false → c.lengthOk = true → u8 c.data 0 < 8 → nth s.unit.keys (u8 c.data 0) none = some k →
    slice c.data (8 + u8 c.data 5) 8 = recordMac k.key s.addressedSerial (c.data.take (8 + u8 c.data 5)) →
    k.exhausted = false → nth s.com.keyCnt (u8 c.data 0) 0 < u32 c.data 1 → k.mask.getLsbD (u8 c.data 7 / 16) = false →
    leads (exec .remoteRecordTake s) fun t =>
      nth t.com.keyCnt (u8 c.data 0) 0 = u32 c.data 1 ∧ t.com.cfg = s.com.cfg ∧ t.staged = s.staged ∧
      t.unit.keys = upd s.unit.keys (u8 c.data 0) (fun _ => some { k with exhausted := u32 c.data 1 == 0xFFFFFFFF }) ∧
      t.ev = s.ev.raise 26 s.tb) ∧
  (∀ s c rest k u, s.awake = true → s.mgmt.restarting = false → s.acting = true → s.pair.handoverAt = none → s.rem.box = c :: rest →
    c.taken = false → c.done = false → c.lengthOk = true → nth s.unit.keys (u8 c.data 0) none = some k →
    slice c.data (8 + u8 c.data 5) 8 = recordMac k.key s.addressedSerial (c.data.take (8 + u8 c.data 5)) →
    k.exhausted = false → nth s.com.keyCnt (u8 c.data 0) 0 < u32 c.data 1 → k.mask.getLsbD (u8 c.data 7 / 16) = true →
    ((opRow (u8 c.data 7)).map OpRow.hostOnly).getD false = false →
    u = s.countKey (u8 c.data 0) (fun k => { k with exhausted := u32 c.data 1 == 0xFFFFFFFF }) →
    exec .remoteRecordTake s = .next (({ u with
      com := { s.com with keyCnt := upd s.com.keyCnt (u8 c.data 0) fun _ => u32 c.data 1 }
      rem := s.rem.onCmd c.id fun d => { d with taken := true, key := k.key }
      ev := s.ev.raise 26 s.tb } : State).runCommand (u8 c.data 7) c.ctx)) ∧
  (∀ s c rest k, s.awake = true → s.mgmt.restarting = false → s.acting = true → s.pair.handoverAt = none → s.rem.box = c :: rest →
    (∀ d ∈ rest, d.id ≠ c.id ∧ d.out = []) → c.out = [] →
    c.taken = false → c.done = false → c.lengthOk = true → u8 c.data 0 < 8 → nth s.unit.keys (u8 c.data 0) none = some k →
    slice c.data (8 + u8 c.data 5) 8 = recordMac k.key s.addressedSerial (c.data.take (8 + u8 c.data 5)) →
    k.exhausted = false → nth s.com.keyCnt (u8 c.data 0) 0 < u32 c.data 1 → k.mask.getLsbD 0 = true →
    u8 c.data 7 = 0 → u8 c.data 5 = 0 → s.opcAllowed 0 = true → s.fifoOpen = true → s.bus.fifo.length < 32 →
    leads (exec .remoteRecordTake s) fun t =>
      t.com = { s.com with keyCnt := upd s.com.keyCnt (u8 c.data 0) fun _ => u32 c.data 1 } ∧ t.staged = s.staged ∧
      t.ev = s.ev.raise 26 s.tb ∧ t.bus.lastSeq = s.bus.lastSeq + 1 ∧
      t.bus.fifo.map TxEntry.f = s.bus.fifo.map TxEntry.f ++
        [s.ownFrame (frameId 5 0 s.nodeKey) (remoteReply { c with key := k.key } s.addressedSerial stOk s.epoch [])] ∧
      (∀ d ∈ t.rem.box, d.id = c.id → d.taken = true ∧ d.done = true)) ∧
  (∀ s c rest k u, s.awake = true → s.mgmt.restarting = false → s.acting = true → s.pair.handoverAt = none → s.rem.box = c :: rest →
    c.taken = false → c.done = false → c.lengthOk = true → nth s.unit.keys (u8 c.data 0) none = some k →
    slice c.data (8 + u8 c.data 5) 8 = recordMac k.key s.addressedSerial (c.data.take (8 + u8 c.data 5)) →
    k.exhausted = false → nth s.com.keyCnt (u8 c.data 0) 0 < u32 c.data 1 →
    (k.mask.getLsbD (u8 c.data 7 / 16) = false ∨ ((opRow (u8 c.data 7)).map OpRow.hostOnly).getD false = true) →
    u = s.countKey (u8 c.data 0) (fun k => { k with exhausted := u32 c.data 1 == 0xFFFFFFFF }) →
    exec .remoteRecordTake s = .next (({ u with
      com := { s.com with keyCnt := upd s.com.keyCnt (u8 c.data 0) fun _ => u32 c.data 1 }
      rem := s.rem.onCmd c.id fun d => { d with taken := true, key := k.key }
      ev := s.ev.raise 26 s.tb } : State).post (.remote c.id) c.ctx.tag stLocked [])) ∧
  (∀ s c rest k, s.awake = true → s.mgmt.restarting = false → s.acting = true → s.pair.handoverAt = none → s.rem.box = c :: rest →
    (∀ d ∈ rest, d.id ≠ c.id ∧ d.out = []) → c.out = [] → k.key ≠ [] →
    c.taken = false → c.done = false → c.lengthOk = true → u8 c.data 0 < 8 → nth s.unit.keys (u8 c.data 0) none = some k →
    slice c.data (8 + u8 c.data 5) 8 = recordMac k.key s.addressedSerial (c.data.take (8 + u8 c.data 5)) →
    k.exhausted = false → nth s.com.keyCnt (u8 c.data 0) 0 < u32 c.data 1 → k.mask.getLsbD (u8 c.data 7 / 16) = false →
    s.fifoOpen = true → s.bus.fifo.length < 32 →
    leads (exec .remoteRecordTake s) fun t =>
      t.com = { s.com with keyCnt := upd s.com.keyCnt (u8 c.data 0) fun _ => u32 c.data 1 } ∧ t.staged = s.staged ∧
      t.ev = s.ev.raise 26 s.tb ∧ t.bus.lastSeq = s.bus.lastSeq + 1 ∧
      t.bus.fifo.map TxEntry.f = s.bus.fifo.map TxEntry.f ++
        [s.ownFrame (frameId 5 0 s.nodeKey) (remoteReply { c with key := k.key } s.addressedSerial stLocked s.epoch [])])

/-- R79, R81: a group open for 200 beats is dropped; a snapshot not read for 2 rounds is freed. Where the rules leave a
point open it rests on the model's choice (log 90). -/
def Obligations.GroupsAndSnapshotsExpire : Prop :=
  (∀ s g gr, s.awake = true → 1 ≤ g → g ≤ 8 → nth s.groups (g - 1) none = some gr →
    s.tb = nextMultiple 10000 (tbAdd gr.openAt 2000000) →
    exec (.groupExpiry g) s = .next { s with groups := upd s.groups (g - 1) (fun _ => none), ev := s.ev.raise 17 s.tb }) ∧
  (∀ s g, g = 0 ∨ 8 < g → exec (.groupExpiry g) s = .fault .noSuchUnit) ∧
  (∀ s h sn, s.awake = true → h < 4 → nth s.snaps h none = some sn → s.tb = nextMultiple 1000000 (tbAdd sn.usedAt 2000000) →
    exec (.snapExpiry h) s = .next { s with snaps := upd s.snaps h (fun _ => none), ev := s.ev.raise 18 s.tb }) ∧
  (∀ s h, 4 ≤ h → exec (.snapExpiry h) s = .fault .noSuchUnit)

/-- R340, R343, R344: TXF_PUSH enters the staged frame at the back of the FIFO with the next TXSEQ, where the management
plane has entered none in that quantum, or sets PUSHFAIL with its cause; TXF_FLUSH off the line empties the FIFO. -/
def Obligations.TransmitWindowPushes : Prop :=
  (∀ s, s.awake = true → s.acting = true → s.bus.fifo.length < 32 → s.badFrame s.bus.stagedFrame = false → s.fifoOpen = true →
    (∀ e ∈ s.bus.fifo, e.at_ ≠ s.tb ∨ e.window = true) →
    exec (.txfPush false) s = .next { s with bus := { s.bus with
      lastSeq := s.bus.lastSeq + 1
      fifo := s.bus.fifo ++ [{ txseq := s.bus.lastSeq + 1, f := s.bus.stagedFrame, life := s.bus.txfctl.toNat / 65536
                               oneshot := s.bus.txfctl.getLsbD 2, at_ := s.tb, remote := none, window := true }] } }) ∧
  (∀ s why, s.awake = true → s.acting = true → why = s.pushWhy s.bus.stagedFrame → why ≠ 0 →
    leads (exec (.txfPush false) s) fun t => t.bus = { s.bus with pushfail := true, pfwhy := why } ∧
      { t with free := s.free, rem := s.rem, bus := s.bus, w1cAt := s.w1cAt, w1cNow := s.w1cNow } = s) ∧
  (∀ s, s.awake = true → s.acting = true → s.bus.onLine = false → (∀ c ∈ s.rem.box, c.out = []) →
    leads (exec .txfFlush s) fun t => t.bus.fifo = [] ∧ t.bus.lastSeq = s.bus.lastSeq ∧
      { t with free := s.free, ev := s.ev, rem := s.rem, bus := s.bus } = s) ∧
  (∀ s b, s.acting = false → exec (.txfPush b) s = .next s ∧ exec .txfFlush s = .next s)

/-- R346 to R350, R353: a received frame is taken by the lowest filter that passes it, into a buffer of that filter's not
yet NEW, with its stamp; a frame no filter takes is counted; remote frames are counted and discarded; a receive error
counts. R341, R342, R355: the head of the FIFO sent leaves it SENT with its stamp; a slot's frame sent empties the slot;
a waiting entry leaves EXPIRED as its LIFE ends, and a head whose window ended before its start of frame was not sent; a one-shot frame that fails leaves; a failed frame else is offered again, held
after a suspected collision; the second in a row raises IDCOL (R356); a hold ends when its bit times have passed; a frame
whose transmitter delay is too long is a bit error and stays to be offered again (R319). Where the rules leave a point open it rests
on the model's choice (log 8, log 61). -/
def Obligations.FramesComeAndGo : Prop :=
  (∀ s f n body b, s.frameArrives = true → s.bus.phase = .active → s.bus.tec ≤ 127 → s.bus.rxec ≤ 127 → f.remote = false →
    allotFrame f = false → s.bus.filters.find? (fun e => filterTakes e.2 f) = some (n, body) → n < 32 →
    (bufferOrder (u8 body 2) (u8 body 3) (nth s.bus.flt n {}).lastBuf).find? (fun i => !(nth s.bus.buf i {}).new) = some b → b < 48 →
    leads (exec (.frameReceived f) s) fun t =>
      nth t.bus.buf b {} = { nth s.bus.buf b {} with
        seq := (nth s.bus.buf b {}).seq + 1, new := true, ovw := false, esi := f.esi, brs := f.brs, fdf := f.fdf, ide := f.ide
        id := f.id, filt := n, data := f.data, dlc := if f.fdf then 0 else f.dlc, stamp := s.busStamp f.age, at_ := s.tb } ∧
      (∀ i < 48, i ≠ b → nth t.bus.buf i {} = nth s.bus.buf i {}) ∧
      (nth t.bus.flt n {}).matched = (nth s.bus.flt n {}).matched + 1 ∧ t.bus.rxok = s.bus.rxok + 1 ∧
      t.ev = s.ev.raise 96 s.tb ∧ t.bus.fifo = s.bus.fifo ∧
      { t with free := s.free, ev := s.ev, bus := s.bus, w1cAt := s.w1cAt, w1cNow := s.w1cNow } = s) ∧
  (∀ s f, s.frameArrives = true → s.bus.phase = .active → s.bus.tec ≤ 127 → s.bus.rxec ≤ 127 → f.remote = false →
    allotFrame f = false → s.bus.filters.find? (fun e => filterTakes e.2 f) = none →
    leads (exec (.frameReceived f) s) fun t => t.bus.unmatched = s.bus.unmatched + 1 ∧ t.bus.buf = s.bus.buf ∧
      { t with free := s.free, bus := s.bus, w1cAt := s.w1cAt, w1cNow := s.w1cNow } = s) ∧
  (∀ s f, s.frameArrives = true → s.bus.phase = .active → s.bus.tec ≤ 127 → s.bus.rxec ≤ 127 → f.remote = true →
    leads (exec (.frameReceived f) s) fun t => t.bus.remotes = satInc s.bus.remotes 65535 ∧ t.bus.buf = s.bus.buf ∧
      t.ev = s.ev.raise 105 s.tb ∧
      { t with free := s.free, ev := s.ev, bus := s.bus, w1cAt := s.w1cAt, w1cNow := s.w1cNow } = s) ∧
  (∀ s obs, s.busReceives = true → s.applied.bus.listen = true → s.bus.phase = .active → s.bus.tec ≤ 95 → s.bus.rxec ≤ 95 →
    exec (.busReceiveError obs) s = .next { s with bus := { s.bus with errs := s.bus.errs + 1, lasterr := obs.err } }) ∧
  (∀ s obs, s.busReceives = true → s.applied.bus.listen = false →
    leads (exec (.busReceiveError obs) s) fun t => t.bus.errs = s.bus.errs + 1 ∧ t.bus.lasterr = obs.err ∧
      t.bus.rxec = min 255 (s.bus.rxec + obs.recInc) ∧ t.bus.fifo = s.bus.fifo ∧
      { t with ev := s.ev, bus := s.bus } = s) ∧
  (∀ s e rest tdc age, s.offers 2 = true → s.bus.fifo = e :: rest → e.remote = none → (∀ c ∈ s.rem.box, c.out = []) →
    s.lineServes = true → s.headLate age = false → s.delayTooLong 2 tdc = false → s.bus.tec ≤ 96 → s.bus.rxec < 96 → s.bus.phase = .active →
    leads (exec (.txFrameSent 2 tdc age) s) fun t => t.bus.fifo = rest ∧ t.bus.sent = some { e.f with esi := false, age := age } ∧ t.bus.lastOutSeq = e.txseq ∧ t.bus.lastOut = 1 ∧
      t.bus.lastTs = s.busStamp age ∧ t.bus.tdc = (if e.f.fdf then tdc else s.bus.tdc) ∧ t.bus.txok = s.bus.txok + 1 ∧ t.bus.tec = s.bus.tec - 1 ∧
      { t with ev := s.ev, rem := s.rem, bus := s.bus } = s) ∧
  (∀ s tdc age, s.offers 1 = true → s.lineServes = true → s.delayTooLong 1 tdc = false → s.bus.tec ≤ 96 → s.bus.rxec < 96 → s.bus.phase = .active →
    leads (exec (.txFrameSent 1 tdc age) s) fun t => t.bus.allot = none ∧ t.bus.vigil = s.bus.vigil ∧ t.bus.fifo = s.bus.fifo ∧
      { t with ev := s.ev, rem := s.rem, bus := s.bus } = s) ∧
  (∀ s tdc age, s.offers 0 = true → s.lineServes = true → s.delayTooLong 0 tdc = false → s.bus.tec ≤ 96 → s.bus.rxec < 96 →
    s.bus.phase = .active →
    leads (exec (.txFrameSent 0 tdc age) s) fun t => t.bus.vigil = none ∧ t.bus.allot = s.bus.allot ∧ t.bus.fifo = s.bus.fifo ∧
      (s.pers ≠ .caller → t.pair = { s.pair with useq := (s.pair.useq + 1) % 256 } ∧ t.caller = s.caller) ∧
      (s.pers = .caller → t.caller = { s.caller with cseq := (s.caller.cseq + 1) % 256 } ∧ t.pair = s.pair) ∧
      { t with ev := s.ev, rem := s.rem, bus := s.bus, pair := s.pair, caller := s.caller } = s) ∧
  (∀ s k tdc age, 3 ≤ k → exec (.txFrameSent k tdc age) s = .fault .noSuchUnit) ∧
  (∀ s e rest inD inc, s.offers 2 = true → s.bus.fifo = e :: rest → e.oneshot = false → e.windowOver s.tb = false →
    exec (.txAttemptFail { who := 2, err := 0, inData := inD, tecInc := inc }) s = .next { s with bus := { s.bus with begun := [] } }) ∧
  (∀ s e rest inc, s.offers 2 = true → s.bus.fifo = e :: rest → e.oneshot = false → e.windowOver s.tb = false →
    s.bus.faultNow = 0 → (s.bus.col 2).k = 0 →
    s.bus.tec + inc < 96 → s.bus.rxec < 96 → s.bus.phase = .active →
    leads (exec (.txAttemptFail { who := 2, err := 4, inData := true, tecInc := inc }) s) fun t =>
      t.bus.cols = upd s.bus.cols 2 (fun _ => { k := 1, held := true, at_ := s.tb }) ∧ t.bus.tec = s.bus.tec + inc ∧ t.bus.errs = s.bus.errs + 1 ∧
      t.bus.fifo = s.bus.fifo ∧
      { t with ev := s.ev, rem := s.rem, bus := s.bus } = s) ∧
  (∀ s w, s.awake = true → s.bus.onLine = true → s.firstHold = some w →
    leads (exec .collisionHoldEnd s) fun t => t.bus = s.bus.mayHaveBegun.setCol w { s.bus.col w with held := false } ∧
      timeLeft (s.holdDue w) t.tb = 0 ∧
      { t with tb := s.tb, tbFrac := s.tbFrac, bus := s.bus } = s) ∧
  (∀ s e rest, s.awake = true → s.bus.phase = .active → s.bus.fifo = e :: rest → e.life ≠ 0 → (∀ x ∈ rest, x.life = 0) →
    e.remote = none → (∀ c ∈ s.rem.box, c.out = []) → s.tb = e.due →
    leads (exec .txLifeExpiry s) fun t => t.bus.fifo = rest ∧ t.bus.lastOutSeq = e.txseq ∧ t.bus.lastOut = 2 ∧
      { t with tb := s.tb, tbFrac := s.tbFrac, ev := s.ev, rem := s.rem, bus := s.bus } = s) ∧
  (∀ s k tdc age, k < 3 → s.offers k = true → s.lineServes = true → s.delayTooLong k tdc = true →
    (k = 2 → s.headLate age = false ∧ ∀ e ∈ s.bus.fifo.head?, e.oneshot = false ∧ e.windowOver s.tb = false) → s.bus.tec < 88 → s.bus.rxec < 96 →
    s.bus.phase = .active →
    leads (exec (.txFrameSent k tdc age) s) fun t => t.bus.fifo = s.bus.fifo ∧ t.bus.vigil = s.bus.vigil ∧ t.bus.allot = s.bus.allot ∧
      t.bus.txok = s.bus.txok ∧ t.bus.errs = s.bus.errs + 1 ∧ (t.bus.lasterr = 4 ∨ t.bus.lasterr = 5) ∧ t.bus.tec = s.bus.tec + 8 ∧
      { t with free := s.free, bus := s.bus } = s) ∧
  (∀ s, s.firstHold = none → exec .collisionHoldEnd s = .next s) ∧
  (∀ s inc, s.offers 1 = true → s.bus.faultNow = 0 → (s.bus.col 1).k = 1 → s.bus.tec + inc < 96 → s.bus.rxec < 96 →
    s.bus.phase = .active →
    leads (exec (.txAttemptFail { who := 1, err := 4, inData := true, tecInc := inc }) s) fun t =>
      t.bus.cols = upd s.bus.cols 1 (fun _ => { k := 2, held := true, at_ := s.tb }) ∧
      t.bus.idcols = satInc s.bus.idcols 65535 ∧ t.bus.allot = s.bus.allot ∧ t.ev = s.ev.raise 104 s.tb ∧
      { t with ev := s.ev, bus := s.bus } = s) ∧
  (∀ s e rest inD inc, s.offers 2 = true → s.bus.fifo = e :: rest → e.oneshot = true → e.remote = none → (∀ c ∈ s.rem.box, c.out = []) →
    leads (exec (.txAttemptFail { who := 2, err := 0, inData := inD, tecInc := inc }) s) fun t => t.bus.fifo = rest ∧
      t.bus.lastOutSeq = e.txseq ∧ t.bus.lastOut = 5 ∧ t.bus.tec = s.bus.tec ∧
      { t with ev := s.ev, rem := s.rem, bus := s.bus } = s) ∧
  (∀ s e rest tdc age, s.offers 2 = true → s.lineServes = true → s.headLate age = true → s.bus.fifo = e :: rest → e.remote = none →
    (∀ c ∈ s.rem.box, c.out = []) →
    leads (exec (.txFrameSent 2 tdc age) s) fun t => t.bus.fifo = rest ∧ t.bus.lastOutSeq = e.txseq ∧ t.bus.lastOut = 2 ∧
      t.bus.txok = s.bus.txok ∧ t.bus.sent = s.bus.sent ∧ { t with ev := s.ev, rem := s.rem, bus := s.bus } = s) ∧
  (∀ s e x, s.awake = true → s.bus.phase = .active → s.bus.fifo = [e, x] → e.life = 0 → x.life ≠ 0 → x.remote = none →
    (∀ c ∈ s.rem.box, c.out = []) → s.tb = x.due →
    leads (exec .txLifeExpiry s) fun t => t.bus.fifo = [e] ∧ t.bus.lastOutSeq = x.txseq ∧ t.bus.lastOut = 2)

/-- R327, R328, R351, R353, R354: the operating states of the bus: integration ends on the line, a configuration takes
effect with a new integration, the wake pattern goes before one, sleep is entered, with the FIFO dropped where BUS_SLEEP asked it, and
left, bus-off is left by a recovery with the counters at 0. R332,
R350: a line fault that begins sets its live and latched bits, counts and raises LINE_FAULT; its end clears the live bit
alone; the bus timestamp counter's wrap raises its source. Where the rules leave a point open it rests on the model's
choice (log 60, log 61). -/
def Obligations.BusStatesAndLineFaults : Prop :=
  (∀ s, s.awake = true → s.bus.phase = .integrating → s.bus.wakePat = none → s.bus.askReason = none → s.pw.allot.granted = true →
    s.pers ≠ .caller → (∀ c ∈ s.rem.box, c.out = []) →
    exec .busIntegrated s = .next { s with
      bus := { s.bus with phase := if s.bus.tec ≥ 128 || s.bus.rxec ≥ 128 then .passive else .active, joined := true, begun := [] }
      ev := s.ev.raise 107 s.tb }) ∧
  (∀ s, s.awake = true → s.bus.phase = .integrating → s.bus.wakePat = none → s.pers = .caller →
    leads (exec .busIntegrated s) fun t => t.caller = { s.caller with
        listening := true, listened := false, listenAt := s.tb
        slots := updAll s.caller.slots fun _ k => if k.phase == .disabled then k else { k with phase := .listening } } ∧
      t.bus.vigil = s.bus.vigil ∧ t.bus.joined = true ∧ t.bus.onLine = true ∧
      { t with ev := s.ev, pw := s.pw, rem := s.rem, bus := s.bus, caller := s.caller } = s) ∧
  (∀ s c, s.bus.cfgNext = some c → exec .busConfigEffect s = .next { s with
    applied := { s.applied with bus := c }
    bus := { s.bus with cfgNext := none, phase := if s.bus.onLine then .integrating else s.bus.phase } }) ∧
  (∀ s, s.bus.sleepReq = true → s.bus.sleepFlush = false → s.bus.cfgNext = none →
    exec .busSleepEnter s = .next { s with bus := { s.bus.leave .sleep with sleepReq := false } }) ∧
  (∀ s, s.awake = true → s.bus.wakeReq = true → (s.bus.phase = .integrating ∨ s.bus.onLine = true) → s.applied.bus.listen = false →
    s.bus.faultNow.getLsbD 0 = false →
    exec .wakePatternSend s = .next { s with bus := { s.bus with wakeReq := false, phase := .integrating, wakePat := some s.tb } }) ∧
  (∀ s, s.bus.phase = .busOff → s.applied.bus.autorec ≠ 0 →
    leads (exec .busAutorecStart s) fun t => t.bus = { s.bus with phase := .recovering } ∧
      { t with tb := s.tb, tbFrac := s.tbFrac, bus := s.bus } = s) ∧
  (∀ s, s.awake = true → s.bus.phase = .recovering → s.bus.fifo = [] → (∀ c ∈ s.rem.box, c.out = []) →
    exec .busRecoveryDone s = .next { s with
      bus := { s.bus with
        phase := .active, tec := 0, rxec := 0, vigil := none, begun := [], joined := true
        cols := s.bus.cols.mapIdx fun i c => if i = 0 then {} else { c with held := false } }
      ev := s.ev.raise 103 s.tb }) ∧
  (∀ s, s.bus.phase = .sleep → s.awake = true →
    exec .busWakeDetect s = .next { s with bus := { s.bus with wakes := s.bus.wakes + 1 }, ev := s.ev.raise 106 s.tb }) ∧
  (∀ s, s.bus.phase = .sleep → s.phase = .doze →
    leads (exec .busWakeDetect s) fun t => t.bus = { s.bus with wakes := s.bus.wakes + 1 } ∧ t.ev.heldWake = putBit s.ev.heldWake 106 true ∧
      t.ev.st = s.ev.st) ∧
  (∀ s, exec .busWakeSequenceTimeout s = .next s) ∧
  (∀ s, s.awake = true → s.bus.faultNow.getLsbD 0 = false →
    leads (exec .lineFaultDomto s) fun t => t.bus = { s.bus with
        faultNow := putBit s.bus.faultNow 0 true, faultLat := putBit s.bus.faultLat 0 true, lfcnt := satInc s.bus.lfcnt 255 } ∧
      t.ev = s.ev.raise 110 s.tb ∧
      { t with ev := s.ev, bus := s.bus, w1cAt := s.w1cAt, w1cNow := s.w1cNow } = s) ∧
  (∀ s, s.awake = true → s.bus.faultNow.getLsbD 1 = false →
    leads (exec .lineFaultStuck s) fun t => t.bus = { s.bus with
        faultNow := putBit s.bus.faultNow 1 true, faultLat := putBit s.bus.faultLat 1 true, stuckAt := some s.tb, lfcnt := satInc s.bus.lfcnt 255 } ∧
      t.ev = s.ev.raise 110 s.tb ∧
      { t with ev := s.ev, bus := s.bus, w1cAt := s.w1cAt, w1cNow := s.w1cNow } = s) ∧
  (∀ s v, s.awake = true → s.bus.faultNow.getLsbD 2 = false → (v < 2700 ∨ 4300 < v) →
    leads (exec (.lineFaultRange v) s) fun t => t.bus = { s.bus with
        vrest := v % 65536, vrestAt := some s.tb, faultNow := putBit s.bus.faultNow 2 true, faultLat := putBit s.bus.faultLat 2 true
        lfcnt := satInc s.bus.lfcnt 255 } ∧ t.ev = s.ev.raise 110 s.tb ∧
      { t with ev := s.ev, bus := s.bus, w1cAt := s.w1cAt, w1cNow := s.w1cNow } = s) ∧
  (∀ s d, s.awake = true → s.bus.faultNow.getLsbD 3 = false → d < 600 →
    leads (exec (.lineFaultWeak d) s) fun t => t.bus = { s.bus with
        faultNow := putBit s.bus.faultNow 3 true, faultLat := putBit s.bus.faultLat 3 true, lfcnt := satInc s.bus.lfcnt 255 } ∧
      t.ev = s.ev.raise 110 s.tb ∧
      { t with ev := s.ev, bus := s.bus, w1cAt := s.w1cAt, w1cNow := s.w1cNow } = s) ∧
  (∀ s w, w < 4 → exec (.lineFaultEnd w) s = .next { s with bus := { s.bus with
    faultNow := putBit s.bus.faultNow w false } }) ∧
  (∀ s w, 4 ≤ w → exec (.lineFaultEnd w) s = .fault .noSuchUnit) ∧
  (∀ s, s.awake = true → leads (exec .btsWrap s) fun t => t.ev.st.getLsbD 109 = true ∧
      { t with tb := s.tb, tbFrac := s.tbFrac, ev := s.ev } = s) ∧
  (∀ s, s.bus.sleepReq = true → s.bus.sleepFlush = true → (∀ c ∈ s.rem.box, c.out = []) →
    leads (exec .busSleepEnter s) fun t => t.bus.phase = .sleep ∧ t.bus.fifo = [] ∧ t.bus.allot = none ∧ t.bus.sleepReq = false ∧
      t.com = s.com ∧ t.staged = s.staged)

/-- R361, R364, R370, R371, R374: an accepted verdict that names this unit under the term held renews its lease, under a
newer term it begins a takeover, 100 µs later the unit is active or solo; one that names the partner begins the release,
100 µs later it is standby; with no lease left it is a candidate; a handover not done in 200 ms ends, its command answered BUSY. Where
the rules leave a point open it rests on the model's choice (log 74, log 77). -/
def Obligations.RolesPassByLeases : Prop :=
  (∀ s f o, s.frameArrives = true → s.paired = true → supervision f 0 64 = true → s.callerOk f = true → s.verdictAt f.data = some o →
    bit (u8 f.data (o + 8)) 1 = false → bit (u8 f.data (o + 8)) 0 = s.unitB → bit (u8 f.data (o + 8)) 2 = true → s.acting = true →
    u16 f.data (o + 9) = s.unit.term →
    exec (.verdictFrame f) s = .next { s with pair := { s.pair with
      cLease := some (tbAdd s.tb 40000), ckey := frameKey f, epochHi := u32 f.data (o + 11) } }) ∧
  (∀ s f o, s.frameArrives = true → s.paired = true → supervision f 0 64 = true → s.callerOk f = true → s.verdictAt f.data = some o →
    bit (u8 f.data (o + 8)) 1 = false → bit (u8 f.data (o + 8)) 0 = s.unitB → s.acting = false →
    termNewerOr (u16 f.data (o + 9)) s.unit.term = true → s.unitFailing 7 = [] →
    leads (exec (.verdictFrame f) s) fun t => t.pair.takeDue = some (tbAdd s.tb 100) ∧
      t.unit = { s.unit with term := u16 f.data (o + 9) } ∧ t.pair.role = s.pair.role ∧
      { t with ev := s.ev, pair := s.pair, unit := s.unit, unitStore := s.unitStore, badGroups := s.badGroups, unsteady := s.unsteady, store := s.store } = s) ∧
  (∀ s f o, s.frameArrives = true → s.paired = true → supervision f 0 64 = true → s.callerOk f = true → s.verdictAt f.data = some o →
    bit (u8 f.data (o + 8)) 1 = false → bit (u8 f.data (o + 8)) 0 ≠ s.unitB → s.acting = true →
    termNewerOr (u16 f.data (o + 9)) s.unit.term = true → s.unitFailing 7 = [] →
    leads (exec (.verdictFrame f) s) fun t => t.pair.releaseDue = some (tbAdd s.tb 100) ∧
      t.unit = { s.unit with term := u16 f.data (o + 9) } ∧ t.pair.role = s.pair.role ∧
      { t with ev := s.ev, pair := s.pair, unit := s.unit, unitStore := s.unitStore, badGroups := s.badGroups, unsteady := s.unsteady, store := s.store } = s) ∧
  (∀ s f, s.callerOk f = false → exec (.verdictFrame f) s = .next s) ∧
  (∀ s d, s.awake = true → s.paired = true → s.acting = false → s.pair.takeDue = some d →
    leads (exec .takeoverQuantum s) fun t => t.pair.role = (if s.pair.mirror = 2 then .active else .solo) ∧ t.pair.takeDue = none ∧
      t.pair.takeovers = satInc s.pair.takeovers 65535 ∧ t.tb = (s.jump d).tb ∧
      { t with tb := s.tb, tbFrac := s.tbFrac, ev := s.ev, pw := s.pw, vl := s.vl, out := s.out, fio := s.fio, ilk := s.ilk, pair := s.pair,
               heldAt := s.heldAt, heldRes := s.heldRes } = s) ∧
  (∀ s d, s.awake = true → s.paired = true → s.acting = true → s.pair.releaseDue = some d →
    leads (exec .roleRelease s) fun t => t.pair.role = .standby ∧ t.pair.mirror = 0 ∧ t.pair.handoverAt = none ∧ t.tb = (s.jump d).tb ∧
      t.groups = Vector.replicate 8 none ∧ (∀ w ∈ t.staged, w.w.anyRole = true) ∧ t.com = s.com ∧ t.cells = s.cells) ∧
  (∀ s, s.awake = true → s.paired = true → s.acting = true →
    leads (exec .leaseLapse s) fun t => t.pair.role = .candidate ∧ t.pair.cLease = none ∧ t.pair.pLease = none ∧
      t.tb = tbAdd s.tb (max (leaseLeft s.pair.cLease s.tb) (leaseLeft s.pair.pLease s.tb)) ∧
      t.groups = Vector.replicate 8 none ∧ (∀ w ∈ t.staged, w.w.anyRole = true) ∧ t.com = s.com ∧ t.cells = s.cells) ∧
  (∀ s h, s.awake = true → s.pair.handoverAt = some h → s.pair.handCmd = none → s.tb = tbAdd h 200000 →
    exec .handoverTimeout s = .next { s with pair := { s.pair with handoverAt := none, handCmd := none } }) ∧
  (∀ s h id tag, s.awake = true → s.pair.handoverAt = some h → s.pair.handCmd = some (.host id, tag) → s.tb = tbAdd h 200000 →
    leads (exec .handoverTimeout s) fun t => t.pair = { s.pair with handoverAt := none, handCmd := none } ∧
      t.link.replies = s.link.replies ++ [{ slot := some id, tag := tag, status := stBusy, epoch := s.epoch, results := []
                                            final := true, readAt := s.tb }] ∧
      { t with ev := s.ev, link := s.link, pair := s.pair } = s)

/-- R363, R376, R377, R379 to R383: the vigil is loaded each beat; the Minuet link sends LINK, comes up after 3 LINK
frames, goes down after 3 ms without a frame; LEASE renews the partner's lease, TAKEOVER begins the release, SYNCREQ asks
for a copy, ACK frees what waits, DELTA and COPY frames assemble. Where the rules leave a point open it rests on the
model's choice (log 13, log 62, log 75). -/
def Obligations.MinuetLinkExchanges : Prop :=
  (∀ s, s.paired = true → s.awake = true → s.bus.vigilOn = true → s.slotLoads = true → s.bus.vigil = none → s.tb = tbAdd s.beatAt 100 →
    leads (exec .vigilLoad s) fun t => t.bus.vigil = some s.vigil ∧ t.bus.fifo = s.bus.fifo ∧
      { t with mgmt := s.mgmt, bus := s.bus } = s) ∧
  (∀ s f, s.linkRuns = true → s.pair.linkOut = [] →
    f = ({ typ := 0x01, seq := s.pair.linkSeq % 65536,
           payload := le 8 s.unit.serial.toNat ++ le 1 s.pw.strap ++ le 2 s.unit.term ++ le 4 s.epoch } : LinkFrame) →
    exec .minuetLinkSend s = .next { s with pair := { s.pair with
      linkSeq := (s.pair.linkSeq + 1) % 65536
      linkEnd := (5 * s.tb + s.linkLeft + 26) % (5 * tbMod)
      linkOut := [{ f with crc := some (linkCrc f) }] } }) ∧
  (∀ s lf, s.linkRuns = true → linkValid lf = true → lf.typ = 1 → lf.payload.length = 15 → u8 lf.payload 8 + s.pw.strap = 5 →
    s.pair.linkUp = false → 2 ≤ s.pair.linkGood → s.pair.role = .candidate → s.pair.pserial = 0 →
    exec (.minuetLinkFrame lf) s = .next { s with pair := { s.pair with
      linkAt := s.tb, linkGood := satInc s.pair.linkGood 3, linkUp := true, pserial := un lf.payload 0 8 } }) ∧
  (∀ s, s.awake = true → s.pair.linkUp = true → s.pair.inDelta = none → s.pair.inCopy = none → s.pair.role = .active →
    s.tb = tbAdd s.pair.linkAt 3000 →
    leads (exec .minuetLinkDown s) fun t => t.pair.linkUp = false ∧ t.pair.role = .solo ∧
      { t with tb := s.tb, tbFrac := s.tbFrac, ev := s.ev, pair := s.pair } = s) ∧
  (∀ s lf, s.linkRuns = true → linkValid lf = true → lf.typ = 2 → lf.payload.length = 2 → s.acting = true →
    exec (.leaseFrame lf) s = .next { s with pair := { s.pair with linkAt := s.tb, pLease := some (tbAdd s.tb 39800) } }) ∧
  (∀ s lf, s.linkRuns = true → linkValid lf = true → lf.typ = 3 → lf.payload.length = 2 → s.acting = true →
    termNewerOr (u16 lf.payload 0) s.unit.term = true → s.pair.releaseDue = none →
    exec (.takeoverFrame lf) s = .next { s with pair := { s.pair with linkAt := s.tb, releaseDue := some (tbAdd s.tb 100) } }) ∧
  (∀ s b, s.linkRuns = true → s.pair.linkOut = [b] → linkBlock b = true → s.linkWaits = 1 →
    leads (exec .minuetLinkSend s) fun t => t.pair.linkOut.map LinkFrame.typ = [1, b.typ] ∧
      t.pair.linkOut.map LinkFrame.seq = [(s.pair.linkSeq + 65535) % 65536, s.pair.linkSeq % 65536] ∧
      { t with pair := s.pair } = s) ∧
  (∀ s lf, s.linkRuns = true → linkValid lf = true → lf.typ = 0x21 → lf.payload.length = 6 → s.acting = true →
    u16 lf.payload 4 ≠ s.unit.term →
    exec (.syncreqFrame lf) s = .next { s with pair := { s.pair with linkAt := s.tb, readyRaised := false, copyReq := true } }) ∧
  (∀ s lf, s.linkRuns = true → linkValid lf = true → lf.typ = 0x20 → lf.payload.length = 4 → s.acting = true → s.pair.copyEpoch = none →
    s.pair.mirror = 2 → s.waits = [] →
    leads (exec (.ackFrame lf) s) fun t => t.pair.acked = u32 lf.payload 0 ∧ t.pair.mirror = 2 ∧
      t.pair.unacked = s.pair.unacked.filter (fun u => newer u.1 (u32 lf.payload 0)) ∧
      { t with ev := s.ev, link := s.link, rem := s.rem, waits := s.waits, bus := s.bus, pair := s.pair } = s) ∧
  (∀ s u rest, s.awake = true → s.acting = true → s.pair.unacked = u :: rest → s.waits = [] →
    leads (exec .ackTimeout s) fun t => t.pair.role = .solo ∧ t.pair.mirror = 3 ∧ t.pair.unacked = [] ∧
      t.pair.mirfaults = satInc s.pair.mirfaults 65535 ∧
      { t with tb := s.tb, tbFrac := s.tbFrac, ev := s.ev, link := s.link, rem := s.rem, waits := s.waits, bus := s.bus, pair := s.pair } = s) ∧
  (∀ s lf, s.linkRuns = true → linkValid lf = true → s.pair.role = .standby → lf.typ = 0x10 → s.pair.inDelta = none →
    lf.payload.length = 14 →
    leads (exec (.deltaFrame lf) s) fun t => t.pair.inDelta = some
        { epoch := u32 lf.payload 0, prev := u32 lf.payload 4, nblk := u16 lf.payload 8, bytes := u32 lf.payload 10 } ∧
      t.com = s.com ∧ t.epoch = s.epoch) ∧
  (∀ s lf a, s.linkRuns = true → linkValid lf = true → s.pair.role = .standby → lf.typ = 0x12 → s.pair.inDelta = some a → a.prev = s.epoch →
    lf.payload.length = 14 → u32 lf.payload 0 = a.epoch → u16 lf.payload 4 = a.nblk → a.next = a.nblk → u32 lf.payload 6 = a.bytes →
    a.data.length = a.bytes → u32 lf.payload 10 = crc32 a.data →
    leads (exec (.deltaFrame lf) s) fun t => t.epoch = a.epoch ∧
      t.com = (applyRecs a.data.length a.epoch a.data s.held).com ∧
      t.latched = (applyRecs a.data.length a.epoch a.data s.held).latched ∧ t.pair.inDelta = none ∧
      t.unit.keys = (applyRecs a.data.length a.epoch a.data s.held).keys) ∧
  (∀ s lf, s.linkRuns = true → linkValid lf = true → s.pair.role = .standby → lf.typ = 0x18 → s.pair.inCopy = none →
    lf.payload.length = 14 →
    leads (exec (.copyFrame lf) s) fun t => t.pair.inCopy = some
        { epoch := u32 lf.payload 0, prev := u32 lf.payload 4, nblk := u16 lf.payload 8, bytes := u32 lf.payload 10 } ∧
      t.pair.mirror = 1 ∧ t.com = s.com ∧ t.epoch = s.epoch) ∧
  (∀ s lf a, s.linkRuns = true → linkValid lf = true → s.pair.role = .standby → lf.typ = 0x1A → s.pair.inCopy = some a →
    lf.payload.length = 14 → u32 lf.payload 0 = a.epoch → u16 lf.payload 4 = a.nblk → a.next = a.nblk → u32 lf.payload 6 = a.bytes →
    a.data.length = a.bytes → u32 lf.payload 10 = crc32 a.data → s.worn = [] → s.pw.pfw = false →
    leads (exec (.copyFrame lf) s) fun t => t.epoch = a.epoch ∧ t.com = (copyHeld a.epoch a.data).com ∧
      t.unit.keys = (copyHeld a.epoch a.data).keys ∧ t.pair.mirror = 2 ∧ t.pair.inCopy = none ∧ t.store.pepoch = a.epoch)

/-- R366 to R369: the caller hears vigils, listens 30 ms, elects, times units out, and loads its verdict. Where the rules
leave a point open it rests on the model's choice (log 78). -/
def Obligations.CallerElects : Prop :=
  (∀ s f p b, s.frameArrives = true → s.pers = .caller → supervision f 1 24 = true → frameSub f = 0 →
    s.vigilOf (un f.data 8 8) = some (p, b) → p < 4 → (s.callSlot p).phase = .listening → u8 f.data 1 ≠ 4 →
    leads (exec (.vigilAtCaller f) s) fun t =>
      (if b then (t.callSlot p).ub else (t.callSlot p).ua) =
        ({ (if b then (s.callSlot p).ub else (s.callSlot p).ua).hear f.data s.tb with alive := true } : CallUnit) ∧
      (t.callSlot p).phase = .listening ∧
      { t with ev := s.ev, caller := s.caller } = s) ∧
  (∀ s, s.awake = true → s.caller.listening = true → s.unitFailing 7 = [] →
    leads (exec .callerListenEnd s) fun t => t.caller.listening = false ∧ t.caller.listened = true ∧
      t.tb = (s.jump (tbAdd s.caller.listenAt 30000)).tb ∧
      (∀ p < 4, (s.callSlot p).phase = .listening → (s.callSlot p).ua.alive = false → (s.callSlot p).ub.alive = false →
        (t.callSlot p).phase = .electing) ∧
      { t with tb := s.tb, tbFrac := s.tbFrac, ev := s.ev, caller := s.caller, unit := s.unit, unitStore := s.unitStore, badGroups := s.badGroups, unsteady := s.unsteady, store := s.store } = s) ∧
  (∀ s p b, s.awake = true → p < 4 → (if b then (s.callSlot p).ub else (s.callSlot p).ua).alive = true →
    (s.callSlot p).phase = .electing →
    leads (exec (.unitAliveTimeout p b) s) fun t => (if b then (t.callSlot p).ub else (t.callSlot p).ua).alive = false ∧
      t.tb = (s.jump (tbAdd (if b then (s.callSlot p).ub else (s.callSlot p).ua).at_ 30000)).tb ∧
      { t with tb := s.tb, tbFrac := s.tbFrac, ev := s.ev, caller := s.caller } = s) ∧
  (∀ s p b, 4 ≤ p → exec (.unitAliveTimeout p b) s = .fault .noSuchUnit) ∧
  (∀ s p d, s.awake = true → p < 4 → (s.callSlot p).phase = .elected → (s.callSlot p).actB = false → (s.callSlot p).ua.alive = true →
    (s.callSlot p).ub.alive = true → (s.callSlot p).ua.badAt = some d → (s.callSlot p).ub.handover = false →
    s.unitFailing 7 = [] →
    leads (exec (.activeStateTimeout p) s) fun t => t.tb = (s.jump (tbAdd d 30000)).tb ∧ (t.callSlot p).actB = true ∧ (t.callSlot p).phase = .elected ∧
      (t.callSlot p).ua.fails = satInc (s.callSlot p).ua.fails 65535 ∧
      nth t.unit.callTerms p 0 = (nth s.unit.callTerms p 0 + 1) % 65536 ∧
      { t with tb := s.tb, tbFrac := s.tbFrac, ev := s.ev, caller := s.caller, unit := s.unit, unitStore := s.unitStore, badGroups := s.badGroups, unsteady := s.unsteady, store := s.store } = s) ∧
  (∀ s p, s.awake = true → p < 4 → (s.callSlot p).phase = .electing → (s.callSlot p).ub.alive = true → (s.callSlot p).ua.alive = false →
    s.unitFailing 7 = [] → leads (exec (.electwaitExpiry p) s) fun t =>
      t.tb = (s.jump (tbAdd (s.callSlot p).electAt (100000 * (s.slotConf p).electwait))).tb ∧ (t.callSlot p).phase = .elected ∧ (t.callSlot p).actB = true ∧
      nth t.unit.callTerms p 0 = (nth s.unit.callTerms p 0 + 1) % 65536 ∧
      { t with tb := s.tb, tbFrac := s.tbFrac, ev := s.ev, caller := s.caller, unit := s.unit, unitStore := s.unitStore, badGroups := s.badGroups, unsteady := s.unsteady, store := s.store } = s) ∧
  (∀ s, s.pers = .caller → s.caller.listened = true → s.awake = true → s.slotLoads = true → s.caller.change = true →
    leads (exec (.callerVerdictLoad true) s) fun t => t.bus.vigil = some (s.verdict true) ∧
      t.caller = { s.caller with change := false } ∧ t.bus.fifo = s.bus.fifo ∧
      { t with bus := s.bus, caller := s.caller, w1cAt := s.w1cAt, w1cNow := s.w1cNow } = s)

/-- R1, R2, R9, R43, R58, R61, R62, R130: what power loss, power-on and each device reset leave: PMRC gains the cause; TB,
the calendar, what the store holds and the unit area stay, where no write was in progress; the rest is at its reset value; the release samples the straps and enters
NAP, or stays held. R18, R60, R79, R304: a restart of the management complex discards the mailbox, the unread replies, the
staged writes and the open groups, sets its cause in PMRC and leaves the committed state; its end raises MGMT_RESTARTED; 2
rounds without it bring the safe state, at the round boundary. Where the rules leave a point open it rests on the model's choice (log 10, log 18,
log 19, log 99). -/
def Obligations.ResetsAndRestarts : Prop :=
  (∀ s, leads (exec .deviceUnpowered s) fun t => t.unit = s.unit ∧ t.worn = s.worn ∧ t.pending = s.pending ∧ t.era = s.era + 1 ∧
    (s.writing = none → s.imaging = none → s.unitWriting = none → s.sameStore t) ∧
    { t with unit := {}, unitStore := {}, areaA := {}, areaB := {}, cells := [], badGroups := [], worn := [], unsteady := [], free := 0
             era := 0, pending := [] } = ({ State.reset with phase := .unpowered, pmrc := 0 } : State)) ∧
  (∀ s, s.phase = .unpowered → exec .powerOn s = .next { s with phase := .reset, pmrc := 1 }) ∧
  (∀ s b, s.phase ≠ .unpowered → leads (exec (.lineBrownOut b) s) fun t => s.resetFrom t 1 ∧
    t.pw = { s.supplies with lineBo := s.pw.lineBo || !b, vpreBo := s.pw.vpreBo || b } ∧
    (s.writing = none → s.imaging = none → s.unitWriting = none → s.sameStore t)) ∧
  (∀ s, exec .lineBrownOutEnd s = .next { s with pw := { s.pw with lineBo := false, vpreBo := false } }) ∧
  (∀ s c, s.phase ≠ .unpowered → leads (exec (.railBrownOut c) s) fun t => s.resetFrom t 2 ∧ t.pw = s.supplies ∧
    (c = none → s.sameStore t)) ∧
  (∀ s w k c, s.phase ≠ .unpowered → (1000 ≤ w ∨ 200 ≤ w ∧ k = true) → leads (exec (.resetNAssert w k c) s) fun t =>
    s.resetFrom t 3 ∧ t.pw = s.supplies ∧ (c = none → s.sameStore t)) ∧
  (∀ s w k c, w < 200 → exec (.resetNAssert w k c) s = .next s) ∧
  (∀ s d, s.pw.devReset = some d → s.tb = d % tbMod → leads (exec .devResetBegin s) fun t =>
    (s.jump d).resetFrom t 4 ∧ t.tb = s.tb ∧ t.pw = s.supplies ∧ s.sameStore t) ∧
  (∀ s k, s.phase = .reset → s.pw.lineBo = false → s.pw.vpreBo = false → k < 5 →
    s.fio.lpres = false →
    leads (exec (.resetRelease k false) s) fun t => t.ev = s.ev.raise 0 s.tb ∧ t.pw = { s.pw with strap := k, tmode := false } ∧
      t.mgmt = { wdogAt := s.tb } ∧ t.vl = { s.vl with clamp := 0 } ∧ t.fio.linkok = s.fio.linkok ∧ t.fio.dout = s.fio.dout ∧
      { t with phase := s.phase, mgmt := s.mgmt, pw := s.pw, ev := s.ev, vl := s.vl, fio := s.fio } = s) ∧
  (∀ s k m, s.phase = .reset → s.pw.lineBo = false → s.pw.vpreBo = false → k < 8 → (5 ≤ k ∨ m = true) →
    exec (.resetRelease k m) s = .next { s with
      phase := .held, pw := { s.pw with strap := k, tmode := m }, vl := { s.vl with clamp := 0 } }) ∧
  (∀ s, s.awake = true → leads (exec .lockstepMismatch s) fun t => t.pmrc = putBit s.pmrc 6 true ∧ t.mgmt.restarting = true ∧
    t.faultVigil = true ∧
    t.link.mbox = [] ∧ t.link.replies = [] ∧ t.rem.box = [] ∧ t.staged = [] ∧ t.groups = Vector.replicate 8 none ∧ t.com = s.com ∧
    t.out = s.out ∧ t.vl = s.vl ∧ t.cells = s.cells) ∧
  (∀ s, s.awake = true → s.mgmt.restarting = false → leads (exec .mgmtWatchdogExpiry s) fun t => t.pmrc = putBit s.pmrc 5 true ∧
    t.mgmt.restarting = true ∧ t.link.mbox = [] ∧ t.link.replies = [] ∧ t.staged = [] ∧ t.com = s.com ∧ t.out = s.out ∧ t.vl = s.vl) ∧
  (∀ s, s.awake = true → s.mgmt.restarting = true →
    exec .mgmtRestartEnd s = .next { s with mgmt := { s.mgmt with wdogAt := s.tb, restarting := false, seriesAt := none }, ev := s.ev.raise 13 s.tb }) ∧
  (∀ s d, s.mgmt.seriesAt = some d → s.mgmt.restarting = true → s.ilk.safe = false →
    leads (exec .safeStateEntry s) fun t => t.ilk.safe = true ∧ t.tb = (s.jump (nextMultiple 1000000 (tbAdd d 2000000))).tb ∧
      { t with tb := s.tb, tbFrac := s.tbFrac, ev := s.ev, pw := s.pw, vl := s.vl, out := s.out, fio := s.fio, ilk := s.ilk } = s) ∧
  (∀ s k, s.phase = .reset → s.pw.lineBo = false → s.pw.vpreBo = false → k < 5 →
    leads (exec (.resetRelease k false) s) fun t => t.phase = .nap ∧ t.pw = { s.pw with strap := k, tmode := false } ∧
      t.mgmt = { wdogAt := s.tb } ∧ t.vl = { s.vl with clamp := 0 } ∧
      t.ev = (if s.fio.lpres then (s.ev.raise 0 s.tb).raise 11 s.tb else s.ev.raise 0 s.tb) ∧ s.drivesFollow t ∧
      t.fio.linkok = (s.fio.lpres || s.fio.linkok) ∧
      { t with phase := s.phase, mgmt := s.mgmt, pw := s.pw, ev := s.ev, vl := s.vl, fio := s.fio, out := s.out } = s)

/-- R44 to R48, R330, R331: the exchange with the line supply and the limiter. Where the rules leave a point open it rests
on the model's choice (log 23, log 25). -/
def Obligations.AllotmentAndLimiter : Prop :=
  (∀ s f c, s.frameArrives = true → s.pw.allot.outstanding = true → s.grantOf f = some (c, 0) → s.pw.pav = none →
    leads (exec (.allotGrantFrame f) s) fun t => t.pw.allot.granted = true ∧ t.pw.allot.outstanding = false ∧
      t.pw.allot.held = min c s.applied.pwr.cls ∧ t.com = s.com) ∧
  (∀ s f c, s.frameArrives = true → s.grantOf f = some (c, 1) → c < s.pw.allot.held →
    leads (exec (.allotGrantFrame f) s) fun t =>
      t.pw.allot = { s.pw.allot with lowers := s.pw.allot.lowers ++ [(c, tbAdd s.tb 10000)] } ∧
      t.ev = s.ev.raise 4 s.tb ∧ t.com = s.com) ∧
  (∀ s c d rest, s.pw.allot.lowers = (c, d) :: rest → leads (exec .allotLowerApply s) fun t =>
    t.pw.allot.held = min c s.pw.allot.held ∧ t.pw.allot.lowers = rest ∧
      { t with tb := s.tb, tbFrac := s.tbFrac, pw := s.pw, dsp := s.dsp } = s) ∧
  (∀ s, s.awake = true → s.pw.allot.outstanding = true → s.pw.allot.noneRaised = false → s.pw.pav = none →
    leads (exec .allotGrantTimeout s) fun t => t.pw.allot = { s.pw.allot with noneRaised := true } ∧ t.com = s.com ∧ t.bus = s.bus) ∧
  (∀ s, s.awake = true → s.pw.allot.outstanding = true → s.pw.allot.noneRaised = true → s.pw.allot.stopAsking = false →
    s.applied.bus.listen = false →
    leads (exec .allotRequestRepeat s) fun t => t.pw.allot.interval = min 64 (2 * s.pw.allot.interval) ∧ t.bus.allot ≠ none ∧
      t.pw.allot.outstanding = true ∧
      { t with tb := s.tb, tbFrac := s.tbFrac, pw := s.pw, bus := s.bus } = s) ∧
  (∀ s v, s.awake = true → 0 < v → v < 65536 → exec (.lineMeasure v) s = .next { s with
    pw := { s.pw with vline := v, limitUa := classMw s.pw.allot.held * 100000 / v } }) ∧
  (∀ s, s.awake = true → exec .limiterHold s = .next { s with
    pw := { s.pw with limit := true, limAt := some s.tb, ovAt := none }, ev := s.ev.raise 5 s.tb, dsp := { s.dsp with cap := 0 } }) ∧
  (∀ s d, s.awake = true → s.pw.limit = true → s.pw.ovAt = none → s.pw.limAt = some d → s.tb = tbAdd d 20000 →
    exec .limiterOverload s = .next { s with pw := { s.pw with overload := true, ovAt := some s.tb }, ev := s.ev.raise 6 s.tb }) ∧
  (∀ s, leads (exec .limiterRelease s) fun t => t.pw.limit = false ∧ t.pw.limAt = none ∧ t.pw.overload = false ∧
    t.pw.pmun = s.pw.pmun ∧ t.pw.allot = s.pw.allot ∧
      { t with pw := s.pw } = s) ∧
  (∀ s, s.pw.pav = none → exec .limiterRelease s = .next { s with
    pw := { s.pw with limit := false, limAt := none, ovAt := none, overload := false, relAt := some s.tb } })

/-- R49, R56, R59, R396, Table 01-6: the supplies and the crystal: what a power-fail warning stops and its end restarts,
with the store write that it stopped, what VACT and the crystal do, the rise of WAKE. Where the rules leave a point open it rests on the model's choice (log 20,
log 26, log 28). -/
def Obligations.SupplyEvents : Prop :=
  (∀ s n, s.awake = true → s.pw.pfw = false → leads (exec (.powerFailWarning n) s) fun t => t.pw.pfw = true ∧ t.runs 7 = false ∧
    t.runs 8 = false ∧ t.runs 9 = false ∧ t.dsp.job = .none ∧ (s.runs 8 = true → t.dsp.inReg = false) ∧
    (s.dsp.job ≠ .none → t.dsp.inReg = false ∧ t.dsp.shown = 0xFE ∧ t.dsp.levels = none ∧ t.dsp.started = false) ∧
    (∀ i < 14, i < 7 ∨ 10 ≤ i → t.runs i = s.runs i) ∧ t.ev.st.getLsbD 7 = true ∧ t.com = s.com ∧ t.tb = s.tb) ∧
  (∀ s, s.awake = true → s.pw.pfw = true → s.pw.pav = none → s.store.owed = [] →
    (∀ op, s.store.inflight = some op → op.stopped = none) → (∀ op, s.store.imgOp = some op → op.stopped = none) →
    leads (exec .powerFailWarningClear s) fun t => t.pw.pfw = false ∧ t.pw.pmun = s.pw.pmun ∧
      { t with free := s.free, ev := s.ev, pw := s.pw, cells := s.cells, badGroups := s.badGroups, unsteady := s.unsteady
               store := s.store, dsp := s.dsp } = s) ∧
  (∀ s, s.awake = true → s.pw.vactOk = true → leads (exec .vactLow s) fun t => t.pw.vactOk = false ∧ t.runs 6 = false ∧
    (∀ i < 4, t.runs (10 + i) = false) ∧ t.ev.st.getLsbD 8 = true ∧ t.com = s.com ∧ t.applied = s.applied ∧ t.tb = s.tb) ∧
  (∀ s, s.awake = true → s.pw.vactOk = false → leads (exec .vactOk s) fun t => t.pw.vactOk = true ∧ t.ev = s.ev.raise 9 s.tb ∧
      { t with ev := s.ev, pw := s.pw, ilk := s.ilk } = s) ∧
  (∀ s, s.awake = true → exec .xtalFail s = .next { s with xtalOk := false, pw := { s.pw with rctrim := false }, ev := s.ev.raise 12 s.tb }) ∧
  (∀ s, s.phase ≠ .unpowered → exec .xtalStable s = .next { s with xtalOk := true }) ∧
  (∀ s, s.awake = true → exec .wakePinRise s = .next { s with pw := { s.pw with wakePin := true }, ev := s.ev.raise 14 s.tb }) ∧
  (∀ s, s.awake = true → s.store.recalled = true → s.pw.pfw = true → s.pw.pav = none → s.dspMode ≠ 2 → s.runs 0 = true → s.runs 1 = true →
    s.runs 7 = false → s.runs 8 = false → s.runs 9 = false → leads (exec .powerFailWarningClear s) fun t =>
      t.pw.pav = some { todo := if s.dspMode = 0 then putBit pfwStops 8 false else pfwStops, due := s.tb } ∧ t.com = s.com) ∧
  (∀ s, s.phase = .doze → leads (exec .wakePinRise s) fun t => t.pw.wakePin = true ∧ t.ev.heldWake = putBit s.ev.heldWake 14 true ∧
    t.ev.st = s.ev.st ∧
      { t with pw := s.pw, ev := s.ev } = s) ∧
  (∀ s n, s.phase = .doze → s.pw.pfw = false → leads (exec (.powerFailWarning n) s) fun t => t.pw.pfw = true ∧ t.ev = s.ev ∧ t.com = s.com) ∧
  (∀ s op k, s.awake = true → s.pw.pfw = true → s.dspMode ≠ 2 → s.store.owed = [] → s.store.inflight = some op → op.stopped = some k →
    s.store.imgOp = none →
    leads (exec .powerFailWarningClear s) fun t =>
      t.cells = ((partsOf op.pieces).drop k).foldl (fun m p => copyCells op.new m p.1 p.2) s.cells ∧
      t.com = s.com ∧ t.unit = s.unit)

/-- R22, R23, R50, R51, R57, R128, R129: a wake from DOZE leaves NAP with TBWAKE valid and what was detected raised;
PLL_LOCK enters RUN; the Pavane starts units at their places. Where the rules leave a point open it rests on the model's
choice (log 20, log 22, log 27, log 29). -/
def Obligations.WakeAndPavane : Prop :=
  (∀ s src, s.phase = .doze → s.ev.firstWake = none → src ≠ 63 → s.wakes src = true →
    leads (exec (.wakeFromDoze src) s) fun t => t.phase = .nap ∧ t.ev.wakeValid = true ∧ t.ev.wakeSrc = src ∧ t.ev.wakeTs = wN s.tb ∧
      { t with phase := s.phase, ev := s.ev, pw := s.pw, mgmt := s.mgmt, pres := s.pres, out := s.out, fio := s.fio, ilk := s.ilk,
               keys := s.keys, heldAt := s.heldAt, heldRes := s.heldRes } = s) ∧
  (∀ s src, s.phase ≠ .doze → exec (.wakeFromDoze src) s = .next s) ∧
  (∀ s d, s.phase = .doze → s.scheduledAt = some d → s.ev.firstWake = none → leads (exec .scheduledWake s) fun t => t.phase = .nap ∧
    t.ev.wakeValid = true ∧ t.ev.wakeSrc = 0xFE ∧ t.ev.wakeTs = wN t.tb ∧
      { t with phase := s.phase, tb := s.tb, tbFrac := s.tbFrac, ev := s.ev, pw := s.pw, mgmt := s.mgmt, pres := s.pres, out := s.out
               fio := s.fio, ilk := s.ilk, keys := s.keys, heldAt := s.heldAt, heldRes := s.heldRes } = s) ∧
  (∀ s, s.awake = true → s.pw.pllStart = true → s.pw.pav = none → exec .pllLock s = .next { s with
    phase := .run, pw := { s.pw with pllStart := false, pmun := putBit s.pw.pmun 0 true } }) ∧
  (∀ s p i, s.phase = .run → s.pw.pllStart = false → s.pw.pav = some p → s.pavNext p = some i → s.pavWaits p i = false →
    leads (exec .pavaneStep s) fun t => t.runs i = true ∧ t.com = s.com) ∧
  (∀ s p, s.phase = .run → s.pw.pllStart = false → s.pw.pav = some p → s.pavNext p = none → p.cold = false → p.next = 0 →
    leads (exec .pavaneStep s) fun t => t.pw.pav = none ∧ t.pw.pmun = s.pw.pmun ∧ t.com = s.com ∧ t.out = s.out) ∧
  (∀ s src n w, s.phase = .doze → s.ev.firstWake = some (n, w) →
    leads (exec (.wakeFromDoze src) s) fun t => t.phase = .nap ∧ t.ev.wakeValid = true ∧ t.ev.wakeSrc = n ∧ t.ev.wakeTs = wN w ∧
      { t with phase := s.phase, ev := s.ev, pw := s.pw, mgmt := s.mgmt, pres := s.pres, out := s.out, fio := s.fio, ilk := s.ilk,
               keys := s.keys, heldAt := s.heldAt, heldRes := s.heldRes } = s) ∧
  (∀ s d n w, s.phase = .doze → s.scheduledAt = some d → s.ev.firstWake = some (n, w) →
    leads (exec .scheduledWake s) fun t => t.phase = .nap ∧ t.ev.wakeValid = true ∧ t.ev.wakeSrc = n ∧ t.ev.wakeTs = wN w) ∧
  (∀ s d, s.phase = .nap → s.huDueAt = some d → leads (exec .scheduledWake s) fun t => t.phase = .nap ∧
      { t with tb := s.tb, tbFrac := s.tbFrac, pw := s.pw } = s)

/-- R14, R16, R68, R71, R73, R75: at a beat boundary a staged write commits with the next epoch, and its epoch's apply
quantum lies 200 µs later; with nothing staged and nothing newly latched the epoch stays; in DOZE nothing commits; in the
apply quantum the reply that waited is posted with the epoch, FAULT where the epoch was not persisted. An epoch whose
attempts all fail verification leaves the persisted epoch as it was, and every later commit is an image switch; the
changes stand (R402). Where the rules leave a point open it rests on the model's choice (log 32, log 35, log 56, log 100).
-/
def Obligations.BeatsCommitAndApply : Prop :=
  (∀ s obs w pt v, s.awake = true → s.acting = true → s.paired = false → s.store.recalled = true → s.mgmt.restarting = false →
    s.tb % 10000 = 0 → s.tb < tbMod → s.beatAt ≠ s.tb → s.pair.bump = false → s.staged = [w] → w.at_ ≠ s.tb → w.w = .point pt v →
    v ≠ noVal →
    leads (exec (.beatBoundary obs) s) fun t => t.com = (s.com.setPoint pt v).fillPoints ∧ t.epoch = epochSucc s.epoch ∧ t.tbc = s.tb ∧
      t.staged = [] ∧ t.toApply = s.toApply ++ [.point pt v] ∧ t.applyDue = some (tbAdd s.tb 200) ∧ t.beatAt = s.tb ∧
      t.latched = s.latchAll (s.com.setPoint pt v).fillPoints.cfg) ∧
  (∀ s obs, s.awake = true → s.acting = true → s.paired = false → s.store.recalled = true → s.mgmt.restarting = false →
    s.tb % 10000 = 0 → s.tb < tbMod → s.beatAt ≠ s.tb → s.staged = [] → s.latchAll s.com.cfg = s.latched →
    leads (exec (.beatBoundary obs) s) fun t => t.com = s.com ∧ t.epoch = s.epoch ∧ t.tbc = s.tbc ∧ t.latched = s.latched ∧
      t.beatAt = s.tb ∧ t.pw.pline = obs.intakeMw % 65536) ∧
  (∀ s obs, s.phase = .doze → leads (exec (.beatBoundary obs) s) fun t => t.phase = .doze ∧
      { t with tb := s.tb, tbFrac := s.tbFrac, beatAt := s.beatAt } = s) ∧
  (∀ s w e id, s.awake = true → s.paired = false → s.imageHeld = false → s.applyDue = some s.tb → s.tb < tbMod → s.waits = [w] → w.epoch = some e →
    w.fault = false → w.org = .host id →
    leads (exec .applyQuantum s) fun t =>
      t.link.replies = s.link.replies ++ [{ slot := some id, tag := w.tag, status := stOk, epoch := e, results := w.results
                                            final := true, readAt := s.tb }] ∧
      t.waits = [] ∧ t.toApply = [] ∧ t.applyDue = none ∧ t.com = s.com ∧ t.epoch = s.epoch) ∧
  (∀ s w e id, s.awake = true → s.imageHeld = false → s.applyDue = some s.tb → s.tb < tbMod → s.waits = [w] → w.epoch = some e → w.fault = true →
    w.org = .host id →
    leads (exec .applyQuantum s) fun t =>
      t.link.replies = s.link.replies ++ [{ slot := some id, tag := w.tag, status := stFault, epoch := s.epoch, results := []
                                            final := true, readAt := s.tb }] ∧
      t.waits = [] ∧ t.toApply = [] ∧ t.applyDue = none ∧ t.com = s.com ∧ t.epoch = s.epoch) ∧
  (∀ (s : State) e, (s.persist e).2 = true → (s.persist e).1.store.pepoch = e ∧ (s.persist e).1.com = s.com ∧ (s.persist e).1.epoch = s.epoch) ∧
  (∀ (s : State) e, (s.persist e).2 = false → (s.persist e).1.store.pepoch = s.store.pepoch ∧ (s.persist e).1.store.switchOnly = true ∧
    (s.persist e).1.com = s.com ∧ (s.persist e).1.epoch = s.epoch) ∧
  (∀ (s : State) e, s.store.switchOnly = true → (s.persist e).2 = true →
    (s.persist e).1.store.cur = some (if s.store.cur = none ∧ (s.tryPersist e).2 = false then true else s.nextArea))

/-- R135, R193, R266 to R268, R277: a round boundary advances the calendar and takes the time zone put in force; presence
counts become those of the last round; loops not handled by beat 50 are skipped and counted; the publication enters the
FIFO whole or is counted. Where the rules leave a point open it rests on the model's choice (log 16, log 63). -/
def Obligations.RoundsAdvance : Prop :=
  (∀ s n, s.awake = true → s.serves = false → s.pers = .transport → s.tb % 1000000 = 0 → s.tb < tbMod → s.svc.roundAt ≠ s.tb →
    leads (exec (.roundBoundary n) s) fun t => t.cal = s.calendarBoundary.cal ∧ t.svc.roundAt = s.tb ∧
      t.svc.tz = s.svc.tzNext.getD s.svc.tz ∧ (∀ i < 16, (nth s.pres.ch i {}).rcnt = 0 ∨ (nth s.pres.ch i {}).lastAt ≠ s.tb →
        (nth t.pres.ch i {}).lcnt = (nth s.pres.ch i {}).rcnt ∧ (nth t.pres.ch i {}).rcnt = 0) ∧ t.com = s.com ∧
      t.staged = s.staged) ∧
  (∀ s n, s.awake = true → s.tb % 1000000 = 0 → s.tb < tbMod → s.svc.roundAt ≠ s.tb →
    leads (exec (.roundBoundary n) s) fun t => t.svc.roundAt = s.tb ∧ t.epoch = s.epoch ∧ t.com.cfg = s.com.cfg ∧ t.com.objs = s.com.objs) ∧
  (∀ s, s.awake = true → s.svc.left ≠ [] →
    leads (exec .roundWorkOverrun s) fun t => t.svc.left = [] ∧ t.tb = (s.jump (tbAdd s.svc.roundAt 500000)).tb ∧
      t.svc.overruns = (s.svc.overruns + 1) % 2 ^ 32 ∧
      (s.svc.left.Nodup → ∀ i < 32, i ∈ s.svc.left → nth t.svc.loop i {} = { nth s.svc.loop i {} with
        skips := ((nth s.svc.loop i {}).skips + 1) % 2 ^ 32, consec := satInc (nth s.svc.loop i {}).consec 65535
        maxconsec := max (nth s.svc.loop i {}).maxconsec (satInc (nth s.svc.loop i {}).consec 65535), lastskip := t.tb / 1000000, skipped := true }) ∧
      (∀ i < 32, i ∉ s.svc.left → nth t.svc.loop i {} = nth s.svc.loop i {}) ∧
      { t with tb := s.tb, tbFrac := s.tbFrac, svc := s.svc } = s) ∧
  (∀ s fs zs, s.awake = true → s.svc.pubDue = true → s.svc.left = [] → s.staged = [] →
    State.pubFrames { s with svc := { s.svc with pubDue := false } } (s.svc.roundAt / 1000000) = (fs, zs) → fs ≠ [] →
    s.bus.fifo.length + fs.length ≤ 32 → s.bus.onLine = true → s.fifoOpen = true →
    leads (exec .zonePublication s) fun t => t.bus.fifo.map TxEntry.f = s.bus.fifo.map TxEntry.f ++ fs ∧ t.svc.pubDue = false ∧
      t.svc.pubskip = s.svc.pubskip ∧
      { t with tb := s.tb, tbFrac := s.tbFrac, svc := s.svc, bus := s.bus } = s) ∧
  (∀ s fs zs, s.awake = true → s.svc.pubDue = true → s.svc.left = [] → s.staged = [] →
    State.pubFrames { s with svc := { s.svc with pubDue := false } } (s.svc.roundAt / 1000000) = (fs, zs) → fs ≠ [] →
    32 < s.bus.fifo.length + fs.length →
    exec .zonePublication s = .next { s with svc := { s.svc with pubDue := false, pubskip := (s.svc.pubskip + 1) % 2 ^ 32 } })

/-- R50, R54, R398, R400, R404: the recall takes the committed state and the epoch of the newer sound image area, its journal
and marks replayed, and starts the cold Pavane; a rotation of the unit area, after 2 592 000 rounds, rewrites each record as it stands. Where the rules leave a point open it rests on the
model's choice (log 79). -/
def Obligations.RecallTakesTheImage : Prop :=
  (∀ s obs b a, s.awake = true → s.runs 0 = false → s.pw.overload = false → s.pw.pfw = false → s.store.recalled = false → (chooseArea s.areaA s.areaB obs.badA obs.badB).1 = some b →
    a = (if b then s.areaB else s.areaA) →
    leads (exec (.nvmRecallDone obs) s) fun t => t.com = a.content (ofArea b obs.badRecords) ∧
      t.epoch = a.newest (ofArea b obs.badRecords) (ofArea b obs.badMarks) ∧ t.store.pepoch = t.epoch ∧
      t.store.recalled = true ∧ t.applied = t.com.cfg ∧ t.pw.pllStart = true ∧ t.pw.pav = some { cold := true, due := s.tb } ∧
      t.staged = s.staged) ∧
  (∀ s obs, s.awake = true → s.pw.pfw = false → s.store.recalled = false → (chooseArea s.areaA s.areaB obs.badA obs.badB).1 = none →
    leads (exec (.nvmRecallDone obs) s) fun t => t.com = s.com ∧ t.epoch = s.epoch ∧ t.store.recalled = true) ∧
  (∀ s, s.awake = true → s.store.recalled = true → 2592000 ≤ s.unit.rounds → (∀ r < 7, s.unitFailing (r + 1) = []) →
    leads (exec .unitAreaRotation s) fun t => t.unit = { s.unit with rounds := 0 } ∧
      (s.pw.pfw = false → ∀ r < 7, (t.unitRec (r + 1)).newB = !(s.unitRec (r + 1)).newB) ∧
      { t with unit := s.unit, unitStore := s.unitStore, badGroups := s.badGroups, unsteady := s.unsteady, store := s.store } = s) ∧
  (∀ s, s.unit.rounds < 2592000 → exec .unitAreaRotation s = .next s)

/-- R138, R143, R144, R154, R157, R160, R161, R165: the events of the precision unit: a posted result carries its code,
its ratio by the channel's coefficients and the next SEQ, and sets the channel's NEW bit; a first cycle, a sweep and an
excitation fault begin. Where the rules leave a point open it rests on the model's choice (log 94, log 95, log 96, log
97). -/
def Obligations.PrecisionResultsPost : Prop :=
  (∀ s n d, s.phase = .run → n < 16 → (nth s.prm.groups (n / 4) {}).state = 2 → (nth s.prm.groups (n / 4) {}).recov = 0 →
    s.slotChan (n / 4) = some n →
    (nth s.prm.ch n {}).susp = false → -8388608 < d → d < 8388607 →
    leads (exec (.ptResultPost n { code := d }) s) fun t =>
      (nth t.prm.ch n {}).seq = (nth s.prm.ch n {}).seq + 1 ∧ (nth t.prm.ch n {}).raw = wI d ∧
      (nth t.prm.ch n {}).ratio = wI (applyCoeff d (s.ptCoeff n).1 (s.ptCoeff n).2.1) ∧ (nth t.prm.ch n {}).stamp = wN t.tb ∧
      (nth t.prm.ch n {}).valid = true ∧ (nth t.prm.ch n {}).newest = (nth t.prm.ch n {}).val ∧ t.prm.new.getLsbD n = true ∧
      (∀ i < 16, i ≠ n → nth t.prm.ch i {} = nth s.prm.ch i {}) ∧ t.prm.hu = s.prm.hu ∧
      (nth t.prm.groups (n / 4) {}).slots = (nth s.prm.groups (n / 4) {}).slots + 1 ∧
      { t with tb := s.tb, tbFrac := s.tbFrac, free := s.free, ev := s.ev, prm := s.prm, heldAt := s.heldAt, heldRes := s.heldRes, w1cAt := s.w1cAt,
               w1cNow := s.w1cNow } = s) ∧
  (∀ s n obs, 16 ≤ n → exec (.ptResultPost n obs) s = .fault .noSuchUnit) ∧
  (∀ s n obs, s.phase = .run → n < 16 → s.huNow = some n → -524288 ≤ obs.code → obs.code ≤ 8192000 →
    leads (exec (.huResultPost n obs) s) fun t =>
      (nth t.prm.hu n {}).seq = (nth s.prm.hu n {}).seq + 1 ∧ (nth t.prm.hu n {}).raw = wI obs.code ∧
      (nth t.prm.hu n {}).cap = wI (applyCoeff obs.code (s.huCoeff n).1 (s.huCoeff n).2.1) ∧
      (obs.driveLimit = true → (nth t.prm.hu n {}).val = noVal) ∧ t.prm.new.getLsbD (16 + n) = true ∧ t.prm.ch = s.prm.ch ∧
      (∀ i < 16, i ≠ n → (nth t.prm.hu i {}).val = (nth s.prm.hu i {}).val ∧ (nth t.prm.hu i {}).seq = (nth s.prm.hu i {}).seq) ∧
      { t with tb := s.tb, tbFrac := s.tbFrac, ev := s.ev, prm := s.prm, heldAt := s.heldAt, heldRes := s.heldRes, w1cAt := s.w1cAt,
               w1cNow := s.w1cNow } = s) ∧
  (∀ s, s.phase = .run → s.runs 1 = true → s.prm.sweep = false → s.applied.pt.huEnabled ≠ [] →
    leads (exec .huSweepStart s) fun t => t.prm = { s.prm with sweep := true, huCur := 0, huAt := t.tb } ∧
      { t with tb := s.tb, tbFrac := s.tbFrac, prm := s.prm } = s) ∧
  (∀ s g, g < 4 → (nth s.prm.groups g {}).state = 1 →
    leads (exec (.ptGroupFirstCycle g) s) fun t => (nth t.prm.groups g {}).state = 2 ∧
      (nth t.prm.groups g {}).startAt = (nth s.prm.groups g {}).startDue ∧ (nth t.prm.groups g {}).slots = 0 ∧ t.prm.ch = s.prm.ch ∧
      { t with tb := s.tb, tbFrac := s.tbFrac, prm := s.prm } = s) ∧
  (∀ s g, s.awake = true → g < 4 → (nth s.prm.groups g {}).state ≠ 0 → (nth s.prm.groups g {}).efault = false →
    leads (exec (.excitationFault g) s) fun t => (nth t.prm.groups g {}).efault = true ∧ t.ev = s.ev.raise 38 s.tb ∧
      { t with ev := s.ev, prm := s.prm } = s)

/-- R170, R171, R174, R175, R178 to R183: the events of the SAR: triggers, regulation requests and their drop, the end of
a conversion, of a recovery gap and of CAL_SELF. Where the rules leave a point open it rests on the model's choice (log 5,
log 96). -/
def Obligations.SarEventsRun : Prop :=
  (∀ s k, s.runs 1 = true → k < 8 → s.applied.sar.started.getLsbD k = true → s.sar.calRun = false → s.trigPossible k = true →
    (s.sar.calEnd = none ∨ 2 ≤ (nth s.applied.sar.trigs k {}).src ∧ s.sar.calEnd ≠ some s.tb) → (s.sarSeq k).pend = false →
    leads (exec (.sarTrigger k) s) fun t => (t.sarSeq k).pend = true ∧ (t.sarSeq k).seq = (s.sarSeq k).seq ∧
      (t.sarSeq k).trigAt = some t.tb ∧ t.sar.trgmiss = s.sar.trgmiss ∧
      { t with tb := s.tb, tbFrac := s.tbFrac, sar := s.sar } = s) ∧
  (∀ s k, s.awake = true → s.runs 1 = true → k < 8 → s.applied.sar.started.getLsbD k = true → s.sar.calRun = false →
    s.trigPossible k = true → (s.sar.calEnd = none ∨ 2 ≤ (nth s.applied.sar.trigs k {}).src ∧ s.sar.calEnd ≠ some s.tb) →
    (s.sarSeq k).pend = true →
    leads (exec (.sarTrigger k) s) fun t => t.sar.trgmiss = s.sar.trgmiss + 1 ∧ t.ev = s.ev.raise 50 t.tb ∧
      { t with tb := s.tb, tbFrac := s.tbFrac, ev := s.ev, sar := s.sar } = s) ∧
  (∀ s k, 8 ≤ k → exec (.sarTrigger k) s = .fault .noSuchUnit) ∧
  (∀ s u b step, u < 20 → s.runs 1 = true → s.regDue u = some (s.tb, step) → s.sar.cur = none → s.sar.gap = false → s.sar.regq = [] →
    leads (exec (.regulationRequestDue u b) s) fun t => t.sar = { s.sar with cur := some (.reg u) } ∧
      { t with tb := s.tb, tbFrac := s.tbFrac, sar := s.sar, vl := s.vl } = s) ∧
  (∀ s u b c step, u < 20 → s.runs 1 = true → s.regDue u = some (s.tb, step) → s.sar.cur = some (.reg c) → s.sar.regq = [] →
    leads (exec (.regulationRequestDue u b) s) fun t => t.sar = { s.sar with regq := [(u, t.tb, step)] } ∧
      { t with tb := s.tb, tbFrac := s.tbFrac, sar := s.sar, vl := s.vl } = s) ∧
  (∀ s u d st rest, s.awake = true → 16 ≤ u → u < 20 → s.sar.regq = (u, d, st) :: rest → s.tb = tbAdd d 2 →
    exec (.regulationRequestDrop u) s = .next { s with
      sar := { s.sar with regq := rest, regmiss := s.sar.regmiss + 1, bk := upd s.sar.bk (u - 16) fun x => { x with miss := true } }
      ev := s.ev.raise 50 s.tb }) ∧
  (∀ s u d st rest, s.awake = true → u < 16 → s.sar.regq = (u, d, st) :: rest →
    leads (exec (.regulationRequestDrop u) s) fun t => t.sar.regq = rest ∧ t.sar.regmiss = s.sar.regmiss + 1 ∧
      (nth t.sar.vl u {}).miss = true ∧
      { t with tb := s.tb, tbFrac := s.tbFrac, ev := s.ev, sar := s.sar, vl := s.vl, ilk := s.ilk, heldAt := s.heldAt, heldRes := s.heldRes } = s) ∧
  (∀ s u obs, s.sar.cur = some (.reg u) → u < 16 → s.sar.regq = [] → obs.ovr = none →
    leads (exec (.sarConversionEnd obs) s) fun t =>
      nth t.sar.vl u {} = { code := s.sarCode u obs, seq := (nth s.sar.vl u {}).seq + 1, miss := false, ovr := false, fresh := true } ∧
      t.sar.gap = false ∧
      { t with sar := s.sar } = s) ∧
  (∀ s ch up obs, s.sar.cur = some (.hk ch) → 0x24 ≤ ch → obs.ovr = some up →
    leads (exec (.sarConversionEnd obs) s) fun t => t.sar.gap = true ∧ t.sar.recgaps = s.sar.recgaps + 1 ∧ t.sar.cur = none ∧
      t.sar.gapAt = s.tb ∧ t.sar.hkq = s.sar.hkq.erase ch ∧
      { t with sar := s.sar } = s) ∧
  (∀ s, s.sar.gap = true → leads (exec .sarRecoveryGapEnd s) fun t => t.sar.gap = false ∧ t.sar.recgaps = s.sar.recgaps ∧
      { t with tb := s.tb, tbFrac := s.tbFrac, sar := s.sar } = s) ∧
  (∀ s obs, s.awake = true → s.sar.calRun = true → s.tb = s.sar.calDue → s.tb < tbMod → calWhyOf obs = 0 → s.unitFailing 3 = [] →
    leads (exec (.calSelfDone obs) s) fun t => t.sar.calRun = false ∧ t.sar.calFail = false ∧
      t.unit.sar = { gainU := obs.gainU, ofsU := obs.ofsU, gainD := obs.gainD, ofsD := obs.ofsD, src := true, ts := wN s.tb } ∧
      t.ev = s.ev.raise 51 s.tb ∧
      { t with tb := s.tb, tbFrac := s.tbFrac, ev := s.ev, sar := s.sar, unit := s.unit, unitStore := s.unitStore, badGroups := s.badGroups, unsteady := s.unsteady, store := s.store } = s) ∧
  (∀ s obs, s.awake = true → s.sar.calRun = true → s.tb = s.sar.calDue → s.tb < tbMod → calWhyOf obs ≠ 0 →
    leads (exec (.calSelfDone obs) s) fun t => t.sar.calRun = false ∧ t.sar.calFail = true ∧ t.sar.calWhy = calWhyOf obs ∧ t.ev = s.ev.raise 51 s.tb ∧
      { t with tb := s.tb, tbFrac := s.tbFrac, ev := s.ev, sar := s.sar } = s) ∧
  (∀ s u b, u < 20 → s.regDue u = none → exec (.regulationRequestDue u b) s = .next s) ∧
  (∀ s u c step, u < 20 → s.runs 1 = true → s.regDue u = some (s.tb, step) → s.sar.cur = some (.hk c) → s.sar.gap = false →
    s.sar.regq = [] →
    leads (exec (.regulationRequestDue u false) s) fun t => t.sar = { s.sar with cur := some (.reg u) } ∧
      { t with tb := s.tb, tbFrac := s.tbFrac, sar := s.sar, vl := s.vl } = s) ∧
  (∀ s k, k < 8 → s.runs 1 = true → s.applied.sar.started.getLsbD k = true → 2 ≤ (nth s.applied.sar.trigs k {}).src →
    s.sar.calEnd = some s.tb →
    leads (exec (.sarTrigger k) s) fun t => (t.sarSeq k).pend = (s.sarSeq k).pend ∧ t.sar.trgmiss = s.sar.trgmiss ∧ t.ev = s.ev)

/-- R188 to R198: the events of a presence input: a sample, the ends of the counting window, of the hold-off and of the
blanking, the arming, the clearing of a fault, the lapse of AWAKE, and the wake comparator with its credit. Where the
rules leave a point open it rests on the model's choice (log 12, log 80, log 96). -/
def Obligations.PresenceEventsRun : Prop :=
  (∀ s n, n < 16 → s.prSampled n = true → s.tb % 1000 = 0 → (s.prCh n).tick ≠ some s.tb → (s.prCh n).ovrNow = false →
    leads (exec (.prSample n { input := 0, ovr := true }) s) fun t => (t.prCh n).ovrNow = true ∧ (t.prCh n).winAt = none ∧
      (t.prCh n).winCnt = 0 ∧ (t.prCh n).blankAt = some t.tb ∧ (t.prCh n).peak = max (s.prCh n).peak 32767 ∧
      t.pres.ovl = putBit s.pres.ovl n true ∧ (t.prCh n).rcnt = (s.prCh n).rcnt ∧
      { t with tb := s.tb, tbFrac := s.tbFrac, ev := s.ev, pres := s.pres, heldAt := s.heldAt, heldRes := s.heldRes } = s) ∧
  (∀ s n obs, 16 ≤ n → exec (.prSample n obs) s = .fault .noSuchUnit) ∧
  (∀ s n d, n < 16 → (s.prCh n).winAt = some d → s.tb = tbAdd d (s.prCh n).winLen →
    exec (.prCountWindowEnd n) s = .next (s.onPr n fun c => { c with winAt := none, winCnt := 0 })) ∧
  (∀ s n d, n < 16 → (s.prCh n).holdAt = some d → s.tb = tbAdd d (s.prCh n).holdLen →
    exec (.prHoldoffEnd n) s = .next (s.onPr n fun c => { c with holdAt := none })) ∧
  (∀ s n d, n < 16 → (s.prCh n).blankAt = some d → s.tb = tbAdd d 500000 →
    exec (.prBlankEnd n) s = .next (s.onPr n fun c => { c with blankAt := none })) ∧
  (∀ s n d, n < 16 → s.armDue n = some d → (s.prCh n).armed = false → (s.prCh n).fault = false → s.prSampled n = true →
    leads (exec (.prArmed n) s) fun t => (t.prCh n).armed = true ∧ (t.prCh n).rcnt = (s.prCh n).rcnt ∧
      { t with tb := s.tb, tbFrac := s.tbFrac, pres := s.pres, heldAt := s.heldAt, heldRes := s.heldRes } = s) ∧
  (∀ s n d, n < 16 → (s.prCh n).goodAt = some d → (s.prCh n).fault = true → s.tb = tbAdd d 1000000 →
    exec (.prFaultClear n) s = .next (s.onPr n fun c => { c with fault := false, firstAt := none, armed := false })) ∧
  (∀ s, s.applied.pr.mode = 1 → s.pres.sampling = true →
    leads (exec .prAwakeLapse s) fun t => t.pres = { s.pres with sampling := false } ∧
      { t with tb := s.tb, tbFrac := s.tbFrac, pres := s.pres, heldAt := s.heldAt, heldRes := s.heldRes } = s) ∧
  (∀ s n, n < 16 → s.phase = .nap → s.applied.pr.mode = 0 → (s.prConf n).en = true → (s.prConf n).wen = true →
    (s.prConf n).wcredit = true → (s.prCh n).wkAt = none →
    leads (exec (.prWakeComparator n) s) fun t => t.pres.wkf = putBit s.pres.wkf n true ∧ (t.prCh n).wkAt = some s.tb ∧
      (t.prCh n).rcnt = satInc (s.prCh n).rcnt 65535 ∧ (t.prCh n).lsrc = 1 ∧ (t.prCh n).lastAt = s.tb ∧
      (0 < (s.prConf n).holdoff → (t.prCh n).holdAt = some s.tb ∧ (t.prCh n).holdLen = 100000 * (s.prConf n).holdoff) ∧
      { t with ev := s.ev, pw := s.pw, pres := s.pres, heldAt := s.heldAt, heldRes := s.heldRes } = s) ∧
  (∀ s n o, n < 16 → s.prSampled n = true → s.tb % 1000 = 0 → (s.prCh n).tick ≠ some s.tb → (s.prFilter n o).2.2 = false →
    o.biasLimit = false → 200 ≤ o.dcMv → o.dcMv ≤ 1800 →
    (s.prCh n).armed = false ∨ (s.prFilter n o).2.1.natAbs ≤ (s.prConf n).th →
    leads (exec (.prSample n o) s) fun t => (t.prCh n).ovrNow = false ∧ (t.prCh n).tick = some s.tb ∧
      (t.prCh n).firstAt = some ((s.prCh n).firstAt.getD s.tb) ∧ (t.prCh n).band = ((s.prFilter n o).1.prCh n).band ∧
      (t.prCh n).peak = max (s.prCh n).peak (s.prFilter n o).2.1.natAbs ∧ (t.prCh n).dclvl = o.dcMv ∧ (t.prCh n).badRun = 0 ∧
      (t.prCh n).rcnt = (s.prCh n).rcnt ∧ (t.prCh n).winAt = (s.prCh n).winAt ∧ (t.prCh n).winCnt = (s.prCh n).winCnt ∧
      t.pres.ovl = s.pres.ovl ∧ t.pres.mot = s.pres.mot ∧ t.ev = s.ev ∧
      { t with tb := s.tb, tbFrac := s.tbFrac, ev := s.ev, pres := s.pres, heldAt := s.heldAt, heldRes := s.heldRes } = s) ∧
  (∀ s n o, n < 16 → s.prSampled n = true → s.tb % 1000 = 0 → (s.prCh n).tick ≠ some s.tb → (s.prFilter n o).2.2 = false →
    o.biasLimit = false → 200 ≤ o.dcMv → o.dcMv ≤ 1800 →
    (s.prCh n).armed = true → (s.prCh n).fault = false → (s.prCh n).blankAt = none → (s.prCh n).pos.done = false →
    (0 < (s.prCh n).pos.run ∨ (s.prCh n).pos.spent = false) → (s.prConf n).minw ≤ (s.prCh n).pos.run + 1 → (s.prConf n).minw ≤ 100 →
    ((s.prConf n).th : Int) < (s.prFilter n o).2.1 →
    leads (exec (.prSample n o) s) fun t => (t.prCh n).pos.done = true ∧
      ((s.prCh n).holdAt.isSome = true → inWindow s.tb ((s.prCh n).holdAt.getD 0) (s.prCh n).holdLen = true →
        (t.prCh n).rcnt = (s.prCh n).rcnt ∧ (t.prCh n).winAt = (s.prCh n).winAt ∧ t.ev = s.ev) ∧
      ((s.prCh n).holdAt = none → (s.prCh n).winAt = none → (s.prConf n).pc = 1 →
        (t.prCh n).rcnt = satInc (s.prCh n).rcnt 65535 ∧ (t.prCh n).total = (s.prCh n).total + 1 ∧ (t.prCh n).lastAt = s.tb ∧
        (t.prCh n).lsrc = 0 ∧ (t.prCh n).winAt = none ∧ (t.prCh n).holdLen = 100000 * (s.prConf n).holdoff ∧
        (t.prCh n).holdAt = (if (s.prConf n).holdoff = 0 then none else some s.tb) ∧
        t.pres.mot = putBit s.pres.mot n true ∧ t.pres.awakeAt = some s.tb ∧ t.ev = s.ev.raise 52 s.tb) ∧
      ((s.prCh n).holdAt = none → (s.prCh n).winAt = none → 1 < (s.prConf n).pc →
        (t.prCh n).winAt = some s.tb ∧ (t.prCh n).winLen = 1000 * (s.prConf n).pcwin ∧ (t.prCh n).winCnt = 1 ∧
        (t.prCh n).rcnt = (s.prCh n).rcnt ∧ t.ev = s.ev) ∧
      ((s.prCh n).holdAt = none → (s.prCh n).winAt.isSome = true → inWindow s.tb ((s.prCh n).winAt.getD 0) (s.prCh n).winLen = true →
        ((s.prCh n).winCnt + 1 < (s.prConf n).pc → (t.prCh n).winAt = (s.prCh n).winAt ∧ (t.prCh n).winCnt = (s.prCh n).winCnt + 1 ∧
          (t.prCh n).rcnt = (s.prCh n).rcnt ∧ t.ev = s.ev) ∧
        ((s.prConf n).pc ≤ (s.prCh n).winCnt + 1 → (t.prCh n).winAt = none ∧ (t.prCh n).rcnt = satInc (s.prCh n).rcnt 65535 ∧
          t.ev = s.ev.raise 52 s.tb)) ∧
      { t with tb := s.tb, tbFrac := s.tbFrac, ev := s.ev, pres := s.pres, heldAt := s.heldAt, heldRes := s.heldRes } = s)

/-- R206 to R210, R212, R214, R216, R218, R219, R222, R224: the carrier, the samples of rise, peak, fall and hold with their duty, the fit
and the pull-in point, the admission of a boost, the ends of boost and fall, the posting of means, the banks' return to single mode and
windows, the duty windows. Where the rules leave a point open it rests on the model's choice (log 48, log 50, log 51, log 96, log 98). -/
def Obligations.ValveTimingEvents : Prop :=
  (∀ s n, n < 16 → (s.vlCh n).energised = true → (s.vlBk (n / 4)).queue = [] →
    leads (exec (.vlCarrierStart n) s) fun t => (t.vlCh n).duty = (s.vlCh n).dnext ∧
      (t.vlCh n).carrierAt = s.carrierDue n ∧ (t.vlCh n).period = chopPeriod (s.vlConf n).fchop ∧ (t.vlCh n).inPeriod = true ∧
      (t.vlCh n).ihold = (s.vlConf n).ihold ∧ (t.vlCh n).decay = nth s.applied.vl.decay n {} ∧ (t.vlCh n).phase = (s.vlCh n).phase ∧
      (∀ i < 16, i ≠ n → t.vlCh i = s.vlCh i) ∧
      { t with tb := s.tb, tbFrac := s.tbFrac, vl := s.vl } = s) ∧
  (∀ s n obs, 16 ≤ n → exec (.vlCarrierStart n) s = .fault .noSuchUnit ∧ exec (.vlRegulationSample n obs) s = .fault .noSuchUnit) ∧
  (∀ s n obs, n < 16 → (nth s.sar.vl n {}).fresh = true → (s.vlCh n).phase = .rise → (s.vlBk (n / 4)).queue = [] →
    ((s.vlConf n).ipeak : Rat) / 100 ≤ ((nth s.sar.vl n {}).code : Rat) / 10000 →
    leads (exec (.vlRegulationSample n obs) s) fun t => (t.vlCh n).phase = .peak ∧ (t.vlCh n).prevI = (nth s.sar.vl n {}).code ∧
      (nth t.sar.vl n {}).fresh = false ∧
      { t with ev := s.ev, sar := s.sar, vl := s.vl, ilk := s.ilk, w1cAt := s.w1cAt, w1cNow := s.w1cNow } = s) ∧
  (∀ s n obs, n < 16 → (nth s.sar.vl n {}).fresh = true → (s.vlCh n).phase = .fall → (s.vlCh n).hiRun = 0 →
    (s.vlBk (n / 4)).queue = [] → ((nth s.sar.vl n {}).code : Rat) / 10000 ≤ ((s.vlCh n).ihold : Rat) / 200 →
    leads (exec (.vlRegulationSample n obs) s) fun t => (t.vlCh n).phase = .hold ∧ (t.vlCh n).prevI = (nth s.sar.vl n {}).code ∧
      (nth t.sar.vl n {}).fresh = false ∧
      { t with ev := s.ev, sar := s.sar, vl := s.vl, ilk := s.ilk, w1cAt := s.w1cAt, w1cNow := s.w1cNow } = s) ∧
  (∀ s n b, n < 16 → n / 4 = b → (s.vlBk b).queue = [n] → (s.vlBk b).slot = none → (s.vlBk b).slotFreeAt = none →
    (s.vlBk b).bfault = false → (s.vlBk b).limit = false → s.bankRuns b = true → s.energisedIn b n = [] → (s.vlCh n).phase = .wait →
    (s.vlCh n).diag = none →
    leads (exec (.vlBoostAdmit b) s) fun t => (t.vlCh n).phase = .rise ∧ (t.vlCh n).boosts = (s.vlCh n).boosts + 1 ∧
      (t.vlBk b).slot = some n ∧ (t.vlBk b).queue = [] ∧
      { t with tb := s.tb, tbFrac := s.tbFrac, ev := s.ev, vl := s.vl } = s) ∧
  (∀ s n, n < 16 → ((s.vlCh n).phase = .rise ∨ (s.vlCh n).phase = .peak) → (s.vlConf n).pimode ≠ 0 → (s.vlCh n).pullAt = none →
    (s.vlBk (n / 4)).queue = [] →
    leads (exec (.vlTboostExpiry n) s) fun t => (t.vlCh n).phase = .fall ∧ (t.vlCh n).nopicnt = satInc (s.vlCh n).nopicnt 65535 ∧
      { t with tb := s.tb, tbFrac := s.tbFrac, ev := s.ev, vl := s.vl, ilk := s.ilk } = s) ∧
  (∀ s n d, n < 16 → ((s.vlCh n).phase = .rise ∨ (s.vlCh n).phase = .peak) → (s.vlConf n).pimode = 0 → (s.vlCh n).pullAt = some d →
    (s.vlCh n).fitDone = true → (s.vlCh n).noSeek = false → (s.vlBk (n / 4)).queue = [] →
    leads (exec (.vlPiextEnd n) s) fun t => (t.vlCh n).phase = .fall ∧ (t.vlCh n).nopicnt = (s.vlCh n).nopicnt ∧
      { t with tb := s.tb, tbFrac := s.tbFrac, ev := s.ev, vl := s.vl } = s) ∧
  (∀ s n, n < 16 → (s.vlCh n).phase = .fall → (s.vlBk (n / 4)).queue = [] →
    leads (exec (.vlFallTimeout n) s) fun t => (t.vlCh n).phase = .hold ∧ (t.vlBk (n / 4)).slot ≠ some n ∧
      { t with tb := s.tb, tbFrac := s.tbFrac, ev := s.ev, vl := s.vl } = s) ∧
  (∀ s, s.awake = true → s.tb % 1000 = 0 → s.vl.meanAt ≠ s.tb →
    leads (exec .vlMeanPost s) fun t => t.vl.meanAt = s.tb ∧ t.vl.bank = s.vl.bank ∧
      { t with tb := s.tb, tbFrac := s.tbFrac, vl := s.vl, heldAt := s.heldAt, heldRes := s.heldRes } = s ∧
      ∀ i < 16, (t.vlCh i).newest = (if (s.vlConf i).en = true ∧ (s.vlCh i).fault ≠ 4 then wI (t.vlCh i).imean else noVal)) ∧
  (∀ s b d n, b < 4 → s.phase ≠ .doze → (s.vlBk b).singleAt = some d → s.energisedIn b 99 = [n] →
    s.tb = carrierFrom (s.vlCh n).carrier (s.vlCh n).period (tbAdd d 10000) →
    exec (.vlBankSingleReturn b) s = .next (s.onBank b fun k => { k with shared := false, singleAt := none })) ∧
  (∀ s b, b < 4 → s.tb % 100000 = 0 → (s.vlBk b).winAt ≠ s.tb → (s.vlBk b).late = [] → 0 < (s.vlBk b).n → (s.vlBk b).limit = false →
    ((s.vlBk b).sum : Rat) / ((s.vlBk b).n : Rat) / 4 ≤ 50 * ((nth s.applied.vl.banks b {}).bcont : Rat) + 100 →
    leads (exec (.vlBankWindow b) s) fun t =>
      (t.vlBk b).imean = roundHalfAway (((s.vlBk b).sum : Rat) / ((s.vlBk b).n : Rat) / 4) ∧
      (t.vlBk b).imax = roundHalfAway (((s.vlBk b).max : Rat) / 4) ∧ (t.vlBk b).limit = false ∧ (t.vlBk b).n = 0 ∧
      { t with tb := s.tb, tbFrac := s.tbFrac, ev := s.ev, vl := s.vl } = s) ∧
  (∀ s b, b < 4 → s.tb % 100000 = 0 → (s.vlBk b).winAt ≠ s.tb → (s.vlBk b).late = [] → 0 < (s.vlBk b).n →
    50 * ((nth s.applied.vl.banks b {}).bcont : Rat) + 100 < ((s.vlBk b).sum : Rat) / ((s.vlBk b).n : Rat) / 4 →
    leads (exec (.vlBankWindow b) s) fun t => (t.vlBk b).limit = true ∧
      { t with tb := s.tb, tbFrac := s.tbFrac, ev := s.ev, vl := s.vl } = s) ∧
  (∀ s n d, n < 16 → (s.vlCh n).winDue = some d → (s.vlCh n).dutylim = false → s.tb = d % tbMod →
    leads (exec (.vlDutyWindowStart n) s) fun t => (t.vlCh n).inWin = true ∧ (t.vlCh n).used = 0 ∧ (t.vlCh n).limitHit = false ∧
      (t.vlCh n).winDue = some (tbAdd d (1000000 * (nth s.applied.vl.duty n {}).win)) ∧
      { t with tb := s.tb, tbFrac := s.tbFrac, pw := s.pw, vl := s.vl } = s) ∧
  (∀ s n d, n < 16 → (s.vlCh n).usedFrom = some d → (s.vlCh n).inWin = true → (s.vlCh n).limitHit = false →
    (nth s.applied.vl.duty n {}).limit < 100 → (nth s.applied.vl.duty n {}).action = 0 → (s.vlBk (n / 4)).queue = [] →
    leads (exec (.vlDutyLimitReached n) s) fun t => (t.vlCh n).dutylim = true ∧ (t.vlCh n).phase = .off ∧
      { t with tb := s.tb, tbFrac := s.tbFrac, ev := s.ev, vl := s.vl } = s) ∧
  (∀ s n obs r l i e u d T k, n < 16 → (nth s.sar.vl n {}).fresh = true → (s.vlCh n).phase = .hold → (s.vlCh n).sat = false →
    (s.vlCh n).hiRun < 19 → (s.vlBk (n / 4)).queue = [] → 0 < obs.vactMv → T = s.vlT n →
    r = (s.vlCh n).rnow.getD 20 → l = (s.vlCh n).lest.getD (5 / 100) → i = ((nth s.sar.vl n {}).code : Rat) / 10000 →
    e = ((s.vlCh n).ihold : Rat) / 200 - i → u = (s.vlCh n).u + r / 8 * e →
    d = (((s.vlCh n).ihold : Rat) / 200 * r + l / (4 * T) * e + u) / ((obs.vactMv : Rat) / 1000) →
    k = min 1 (max 0 (min 1 d) + (s.vlCh n).carry) →
    leads (exec (.vlRegulationSample n obs) s) fun t => (t.vlCh n).phase = .hold ∧ (t.vlCh n).u = u ∧
      (t.vlCh n).prevI = (nth s.sar.vl n {}).code ∧ (nth t.sar.vl n {}).fresh = false ∧
      (k ≤ 0 ∨ 1 / 1000000 ≤ k * T → (t.vlCh n).dnext = k ∧ (t.vlCh n).carry = 0) ∧
      (0 < k → k * T < 1 / 1000000 → (t.vlCh n).dnext = 0 ∧ (t.vlCh n).carry = k) ∧
      { t with ev := s.ev, sar := s.sar, vl := s.vl, ilk := s.ilk, w1cAt := s.w1cAt, w1cNow := s.w1cNow } = s) ∧
  (∀ s n obs i r l, n < 16 → (nth s.sar.vl n {}).fresh = true → (s.vlCh n).phase = .rise → (s.vlBk (n / 4)).queue = [] →
    (s.vlCh n).hiRun < 20 → (s.vlCh n).nsamp = 7 → (s.vlCh n).fitDone = false → (s.vlCh n).samples.length = 5 →
    tbSub s.tb (s.vlCh n).boostAt < 100 * (s.vlConf n).piblank → i = ((nth s.sar.vl n {}).code : Rat) / 10000 →
    i < ((s.vlConf n).ipeak : Rat) / 100 →
    fitCoil ((s.vlCh n).samples ++ [(i, i - ((s.vlCh n).prevI : Rat) / 10000, (obs.vactMv : Rat) / 1000)]) (s.vlT n) = some (r, l) →
    0 < l → 1 ≤ r → r ≤ 1000 →
    leads (exec (.vlRegulationSample n obs) s) fun t => (t.vlCh n).phase = .rise ∧ (t.vlCh n).fitDone = true ∧
      (t.vlCh n).rest = some r ∧ (t.vlCh n).lest = some l ∧ (t.vlCh n).rnow = some r ∧ (t.vlCh n).noSeek = (s.vlCh n).noSeek ∧
      { t with ev := s.ev, sar := s.sar, vl := s.vl, ilk := s.ilk, w1cAt := s.w1cAt, w1cNow := s.w1cNow } = s) ∧
  (∀ s n obs i r l e, n < 16 → (nth s.sar.vl n {}).fresh = true →
    ((s.vlCh n).phase = .peak ∨ (s.vlCh n).phase = .rise ∧ (s.vlCh n).fitDone = true) → (s.vlBk (n / 4)).queue = [] → s.awake = true →
    (s.vlCh n).hiRun < 19 → (s.vlCh n).noSeek = false → (s.vlCh n).pullAt = none → (s.vlCh n).rest = some r → (s.vlCh n).lest = some l →
    0 < l → 1 ≤ r → r ≤ 1000 → 100 * (s.vlConf n).piblank ≤ tbSub s.tb (s.vlCh n).boostAt →
    i = ((nth s.sar.vl n {}).code : Rat) / 10000 →
    e = (obs.vactMv : Rat) / 1000 * (s.vlCh n).duty - i * r - l * (i - ((s.vlCh n).prevI : Rat) / 10000) / s.vlT n →
    leads (exec (.vlRegulationSample n obs) s) fun t =>
      ((s.vlCh n).motion = false → (t.vlCh n).motion = decide (((s.vlConf n).piemf : Rat) / 10 ≤ e) ∧ (t.vlCh n).pullAt = none ∧ t.ev = s.ev) ∧
      ((s.vlCh n).motion = true → ((s.vlConf n).piemf : Rat) / 40 < e → (t.vlCh n).pullAt = none ∧ t.ev = s.ev) ∧
      ((s.vlCh n).motion = true → e ≤ ((s.vlConf n).piemf : Rat) / 40 → (t.vlCh n).pullAt = some s.tb ∧ (t.vlCh n).piok = true ∧
        (t.vlCh n).pitime = min (tbSub s.tb (s.vlCh n).boostAt / 10) 0xFFFE ∧ t.vl.pinew = putBit s.vl.pinew n true ∧
        t.ev = s.ev.raise 64 s.tb) ∧
      { t with ev := s.ev, sar := s.sar, vl := s.vl, ilk := s.ilk, w1cAt := s.w1cAt, w1cNow := s.w1cNow } = s)

/-- R226 to R229: a fault turns its channel off and latches its cause, a bank fault turns off all four channels of the
bank; a coil test ends. Where the rules leave a point open it rests on the model's choice (log 50). -/
def Obligations.ValveFaultEvents : Prop :=
  (∀ s n, n < 16 → ((s.vlCh n).phase = .rise ∨ (s.vlCh n).phase = .peak) → (s.vlCh n).prevI < 200 → (s.vlCh n).fault = 0 →
    (s.vlBk (n / 4)).queue = [] →
    leads (exec (.vlOpenCheck n) s) fun t => (t.vlCh n).fault = 1 ∧ (t.vlCh n).phase = .off ∧
      { t with tb := s.tb, tbFrac := s.tbFrac, ev := s.ev, vl := s.vl, ilk := s.ilk } = s) ∧
  (∀ s n, n < 16 → (s.vlCh n).energised = true → (s.vlCh n).leftWait = none → (s.vlCh n).fault = 0 → (s.vlBk (n / 4)).queue = [] →
    leads (exec (.vlComparatorTrip n) s) fun t => (t.vlCh n).fault = 3 ∧ (t.vlCh n).phase = .off ∧
      { t with ev := s.ev, vl := s.vl, ilk := s.ilk } = s) ∧
  (∀ s n d, n < 16 → (s.vlCh n).phase.on = true → (s.vlCh n).leftWait = some d → tbSub s.tb d < 20 → (s.vlCh n).fault = 0 →
    (s.vlBk (n / 4)).queue = [] →
    leads (exec (.vlComparatorTrip n) s) fun t => (t.vlCh n).fault = 2 ∧ (t.vlCh n).phase = .off ∧
      { t with ev := s.ev, vl := s.vl, ilk := s.ilk } = s) ∧
  (∀ s n, n < 16 → (s.vlConf n).en = true → (s.vlCh n).fault = 0 → (s.vlBk (n / 4)).queue = [] →
    leads (exec (.vlClampFault n) s) fun t => (t.vlCh n).fault = 5 ∧ (t.vlCh n).phase = .off ∧
      { t with ev := s.ev, vl := s.vl, ilk := s.ilk } = s) ∧
  (∀ s b, b < 4 → (s.vlBk b).bfault = false → (s.vlBk b).queue = [] →
    leads (exec (.bankComparatorTrip b) s) fun t => (t.vlBk b).bfault = true ∧
      (∀ i < 4, (t.vlCh (4 * b + i)).phase = .off ∧
        (t.vlCh (4 * b + i)).fault = 7) ∧
      { t with ev := s.ev, vl := s.vl, ilk := s.ilk } = s) ∧
  (∀ s b, 4 ≤ b → exec (.bankComparatorTrip b) s = .fault .noSuchUnit) ∧
  (∀ s n obs, n < 16 → (s.vlCh n).phase = .diag → (s.vlCh n).diagReg = true → (s.vlBk (n / 4)).queue = [] →
    (s.vlWant n && s.vlFree n) = false →
    leads (exec (.vlDiagPhaseEnd n obs) s) fun t => (t.vlCh n).phase = .off ∧ (t.vlCh n).diag = none ∧
      t.vl.diagnew = putBit s.vl.diagnew n true ∧ (0 < (s.vlCh n).iSum → (t.vlCh n).rest = some ((s.vlCh n).vdSum / (s.vlCh n).iSum)) ∧
      { t with tb := s.tb, tbFrac := s.tbFrac, ev := s.ev, vl := s.vl, ilk := s.ilk, w1cAt := s.w1cAt, w1cNow := s.w1cNow } = s) ∧
  (∀ s n v, n < 16 → (s.vlCh n).phase = .diag → (s.vlCh n).diagReg = false → (s.vlCh n).fault = 0 → (s.vlBk (n / 4)).queue = [] →
    leads (exec (.vlDiagPhaseEnd n { vactMv := v, timeout := true }) s) fun t => (t.vlCh n).fault = 1 ∧ (t.vlCh n).phase = .off ∧
      { t with tb := s.tb, tbFrac := s.tbFrac, ev := s.ev, vl := s.vl, ilk := s.ilk, w1cAt := s.w1cAt, w1cNow := s.w1cNow } = s) ∧
  (∀ s n, n < 16 → (s.vlConf n).en = true → (s.vlCh n).energised = false → (s.vlCh n).fault = 0 → (s.vlBk (n / 4)).queue = [] →
    leads (exec (.vlComparatorTrip n) s) fun t => (t.vlCh n).fault = 3 ∧ (t.vlCh n).phase = .off ∧
      { t with ev := s.ev, vl := s.vl, ilk := s.ilk } = s)

/-- R235 to R237: an analog output slews by one step of 10 µs, judges its readback once settled, is switched off by its
current limit and tries again. Where the rules leave a point open it rests on the model's choice (log 47, log 89). -/
def Obligations.AnalogOutputEvents : Prop :=
  (∀ s n, n < 16 → (s.aoCh n).slewing = true → s.outsDrive = true →
    leads (exec (.aoSlewStep n) s) fun t =>
      (t.aoCh n).lvl = (if (s.aoCh n).lvl < 1000 * (s.aoCh n).target
        then min (1000 * (s.aoCh n).target) ((s.aoCh n).lvl + 10 * (s.aoConf n).slew)
        else max (1000 * (s.aoCh n).target) ((s.aoCh n).lvl - 10 * (s.aoConf n).slew)) ∧
      (t.aoCh n).slewing = decide ((t.aoCh n).lvl ≠ 1000 * (s.aoCh n).target) ∧
      (∀ i < 16, i ≠ n → t.aoCh i = s.aoCh i) ∧ t.out.fn = s.out.fn ∧
      { t with tb := s.tb, tbFrac := s.tbFrac, out := s.out } = s) ∧
  (∀ s n obs, 16 ≤ n → exec (.aoSlewStep n) s = .fault .noSuchUnit ∧ exec (.aoReadback n obs) s = .fault .noSuchUnit ∧
    exec (.aoCurrentLimit n) s = .fault .noSuchUnit ∧ exec (.aoRetry n) s = .fault .noSuchUnit) ∧
  (∀ s n obs, n < 16 → (s.aoConf n).en = true → s.sar.cur = some (.hk (0x14 + n)) → (s.aoCh n).slewing = true →
    leads (exec (.aoReadback n obs) s) fun t =>
      t.out = (s.onAo n fun c => { c with fb := (roundHalfAway ((s.sarCode (0x14 + n) obs : Rat) / 5)).toNat }).out ∧
      t.sar.gap = obs.ovr.isSome ∧
      t.sar.hkq = s.sar.hkq.erase (0x14 + n) ∧
      { t with sar := s.sar, out := s.out } = s) ∧
  (∀ s n obs, n < 16 → s.awake = true → (s.aoConf n).en = true → s.sar.cur = some (.hk (0x14 + n)) →
    s.acting = true → s.pw.driveOff = false → s.pw.pmEver.getLsbD 6 = true → (s.aoCh n).slewing = false →
    (s.aoCh n).slewEnd = none → (s.aoCh n).fault = false → (s.aoCh n).mismatch = false → 1 ≤ (s.aoCh n).badRun →
    50 * (s.aoConf n).mistol < (s.sarCode (0x14 + n) obs - 5 * (s.aoWant n : Int)).natAbs →
    leads (exec (.aoReadback n obs) s) fun t => (t.aoCh n).mismatch = true ∧
      (t.aoCh n).fb = (roundHalfAway ((s.sarCode (0x14 + n) obs : Rat) / 5)).toNat ∧
      t.ev = s.ev.raise 81 s.tb ∧ (t.aoCh n).lvl = (s.aoCh n).lvl ∧
      { t with ev := s.ev, sar := s.sar, out := s.out } = s) ∧
  (∀ s n, n < 16 → s.awake = true → (s.aoConf n).en = true → s.outsDrive = true → (s.aoCh n).fault = false →
    leads (exec (.aoCurrentLimit n) s) fun t => (t.aoCh n).fault = true ∧ (t.aoCh n).lvl = 0 ∧ (t.aoCh n).slewing = false ∧
      (t.aoCh n).faults = satInc (s.aoCh n).faults 65535 ∧ t.ev = s.ev.raise 80 s.tb ∧ (∀ i < 16, i ≠ n → t.aoCh i = s.aoCh i) ∧
      { t with ev := s.ev, out := s.out } = s) ∧
  (∀ s n, n < 16 → (s.aoCh n).fault = true → (s.aoConf n).slew ≠ 0 → (s.gateEntry fun e => e.aoMask.getLsbD n) = none →
    s.safeSets (nth s.applied.ilk.safeAo n {}) = false → leads (exec (.aoRetry n) s) fun t => (t.aoCh n).fault = false ∧ (t.aoCh n).lvl = 0 ∧ (∀ i < 16, i ≠ n → t.aoCh i = s.aoCh i) ∧
      { t with tb := s.tb, tbFrac := s.tbFrac, pw := s.pw, out := s.out } = s) ∧
  (∀ s n obs, n < 16 → s.sar.cur ≠ some (.hk (0x14 + n)) → exec (.aoReadback n obs) s = .next s) ∧
  (∀ s n obs d, n < 16 → (s.aoConf n).en = true → s.sar.cur = some (.hk (0x14 + n)) → (s.aoCh n).slewEnd = some d → d < tbMod →
    s.tb = tbAdd d 10000 → obs.earlier = true →
    leads (exec (.aoReadback n obs) s) fun t =>
      t.out = (s.onAo n fun c => { c with fb := (roundHalfAway ((s.sarCode (0x14 + n) obs : Rat) / 5)).toNat }).out)

/-- R238 to R241: a fan takes its duty at a period start; an accepted edge, the lack of edges, a stall and what ends it.
Where the rules leave a point open it rests on the model's choice (log 52). -/
def Obligations.FanEvents : Prop :=
  (∀ s n, n < 8 → s.outsDrive = true → (s.fnConf n).en = true →
    leads (exec (.fnPeriodStart n) s) fun t => (t.fnCh n).cur = s.fnWant n ∧ (t.fnCh n).per = fnPer (s.fnConf n) ∧
      (t.fnCh n).high = (roundHalfAway (((fnPer (s.fnConf n) * s.fnWant n : Nat) : Rat) / 10000)).toNat ∧
      (∀ i < 8, i ≠ n → t.fnCh i = s.fnCh i) ∧ t.out.ao = s.out.ao ∧
      { t with out := s.out } = s) ∧
  (∀ s n obs, 8 ≤ n → exec (.fnPeriodStart n) s = .fault .noSuchUnit ∧ exec (.ftEdge n obs) s = .fault .noSuchUnit ∧
    exec (.fnStall n) s = .fault .noSuchUnit) ∧
  (∀ s n obs, n < 8 → obs.widthNs < 2000 → exec (.ftEdge n obs) s = .next s) ∧
  (∀ s n obs, n < 8 → s.phase = .run → (s.fnConf n).en = true → (s.fnConf n).ppr ≠ 0 → 2000 ≤ obs.widthNs → 2000 < obs.fnEdgeNs →
    (s.fnCh n).lastEdgeAt.isSome = true → (s.fnCh n).intervals.length + 1 = (s.fnConf n).ppr → 0 < obs.count →
    leads (exec (.ftEdge n obs) s) fun t =>
      (t.fnCh n).rpm = min 65535 (12000000000 / (obs.count :: (s.fnCh n).intervals).sum) ∧ (t.fnCh n).lastEdgeAt = some s.tb ∧
      (t.fnCh n).edgeSeen = true ∧ (t.fnCh n).tachlost = false ∧ (∀ i < 8, i ≠ n → t.fnCh i = s.fnCh i) ∧
      { t with out := s.out } = s) ∧
  (∀ s n d, n < 8 → (s.fnCh n).lastEdgeAt = some d →
    leads (exec (.ftTimeout n) s) fun t => (t.fnCh n).rpm = 0 ∧ (t.fnCh n).intervals = [] ∧ (t.fnCh n).lastEdgeAt = none ∧
      (∀ i < 8, i ≠ n → t.fnCh i = s.fnCh i) ∧
      { t with tb := s.tb, tbFrac := s.tbFrac, out := s.out } = s) ∧
  (∀ s n, n < 8 → s.awake = true → (s.fnCh n).spinAt.isSome = true → s.fnWatched n = true → (s.fnCh n).edgeSeen = false →
    (s.fnCh n).toldLost = false →
    leads (exec (.fnTachLost n) s) fun t => (t.fnCh n).tachlost = true ∧ (t.fnCh n).rpm = (s.fnCh n).rpm ∧
      t.ev = s.ev.raise 83 t.tb ∧
      { t with tb := s.tb, tbFrac := s.tbFrac, ev := s.ev, out := s.out } = s) ∧
  (∀ s n, n < 8 → s.awake = true → (s.fnCh n).spinAt.isSome = true → (s.fnCh n).lowAt.isSome = true → s.fnWatched n = true →
    (s.fnCh n).edgeSeen = true → (s.fnCh n).told = false →
    leads (exec (.fnStall n) s) fun t => (t.fnCh n).stall = true ∧ (t.fnCh n).stalls = satInc (s.fnCh n).stalls 65535 ∧
      ((s.fnConf n).stallact = 1 → (t.fnCh n).cur = 0 ∧ (t.fnCh n).stalloffAt = some t.tb) ∧ t.ev = s.ev.raise 82 t.tb ∧
      { t with tb := s.tb, tbFrac := s.tbFrac, ev := s.ev, out := s.out, ilk := s.ilk } = s) ∧
  (∀ s n d, n < 8 → (s.fnCh n).stalloffAt = some d →
    leads (exec (.fnStallRestart n) s) fun t => t.fnCh n = { s.fnCh n with stalloffAt := none } ∧
      (∀ i < 8, i ≠ n → t.fnCh i = s.fnCh i) ∧
      { t with tb := s.tb, tbFrac := s.tbFrac, out := s.out } = s) ∧
  (∀ s n d, n < 8 → (s.fnCh n).highAt = some d → (s.fnCh n).stall = true →
    leads (exec (.fnStallClear n) s) fun t => t.fnCh n = { s.fnCh n with stall := false, told := false } ∧
      { t with tb := s.tb, tbFrac := s.tbFrac, out := s.out, ilk := s.ilk } = s)

/-- R242 to R244: a floating drive reaches its end position, starts the other way once the pause of a reversal is over,
and knows its position after homing. Where the rules leave a point open it rests on the model's choice (log 53). -/
def Obligations.FloatingEvents : Prop :=
  (∀ s k, k < 8 → s.awake = true → s.fdLive k = true → (s.fdRun k).homing = false → (s.fdRun k).dir = .opening → (s.fdRun k).unsure = false →
    (s.fdRun k).target = some 10000 → s.fdTarget k = some 10000 →
    leads (exec (.floatRunEnd k) s) fun t => (t.fdRun k).p = 10000 ∧ (t.fdRun k).dir = .still ∧ t.ev = s.ev.raise 84 t.tb ∧
      (∀ i < 8, i ≠ k → t.fdRun i = s.fdRun i ∨
        t.fdRun i = { (s.fdRun i).advance (s.fdConf i).stroke t.tb with on := (t.fdRun i).on }) ∧
      { t with tb := s.tb, tbFrac := s.tbFrac, ev := s.ev, pw := s.pw, out := s.out, fio := s.fio } = s) ∧
  (∀ s k, 8 ≤ k → exec (.floatRunEnd k) s = .fault .noSuchUnit ∧ exec (.floatReversalEnd k) s = .fault .noSuchUnit ∧
    exec (.floatHomingEnd k) s = .fault .noSuchUnit) ∧
  (∀ s k (tg : Nat), k < 8 → (s.fdConf k).en = true → s.acting = true → s.fdLive k = true → (s.fdRun k).dir = .pause → (s.fdRun k).held = false →
    (s.fdRun k).on = .still → (s.fdRun k).unsure = false → (s.fdRun k).last = .opening → s.fdTarget k = some tg →
    ((s.fdConf k).deadb : Rat) < (tg : Rat) - (s.fdRun k).p →
    leads (exec (.floatReversalEnd k) s) fun t => (t.fdRun k).dir = .opening ∧ (t.fdRun k).p = (s.fdRun k).p ∧
      (t.fdRun k).target = some tg ∧ (∀ i < 8, i ≠ k → t.fdRun i = s.fdRun i ∨
        t.fdRun i = { (s.fdRun i).advance (s.fdConf i).stroke t.tb with on := (t.fdRun i).on }) ∧
      { t with tb := s.tb, tbFrac := s.tbFrac, pw := s.pw, out := s.out, fio := s.fio } = s) ∧
  (∀ s k, k < 8 → s.awake = true → s.fdLive k = true → (s.fdRun k).homing = true → (s.fdRun k).dir = .closing → s.fdTarget k = some 0 →
    leads (exec (.floatHomingEnd k) s) fun t => (t.fdRun k).p = 0 ∧ (t.fdRun k).unsure = false ∧ (t.fdRun k).homing = false ∧
      (t.fdRun k).dir = .still ∧ t.ev = s.ev.raise 84 t.tb ∧ (∀ i < 8, i ≠ k → t.fdRun i = s.fdRun i ∨
        t.fdRun i = { (s.fdRun i).advance (s.fdConf i).stroke t.tb with on := (t.fdRun i).on }) ∧
      { t with tb := s.tb, tbFrac := s.tbFrac, ev := s.ev, pw := s.pw, out := s.out, fio := s.fio } = s) ∧
  (∀ s k, k < 8 → s.fdLive k = false → (s.fdRun k).homing = false → ((s.fdRun k).dir = .opening ∨ (s.fdRun k).dir = .closing) →
    leads (exec (.floatRunEnd k) s) fun t => t.fdRun k = { s.fdRun k with wait := true } ∧ t.ev = s.ev ∧
      (∀ i < 8, i ≠ k → t.fdRun i = s.fdRun i) ∧
      { t with tb := s.tb, tbFrac := s.tbFrac, pw := s.pw, out := s.out } = s)

/-- R248 to R254, R261: L+ comes and goes, the field link fails and returns, an input's level reaches the main side, its
current is classified, a wire break is declared and ended, a DOZE detector sees a change. Where the rules leave a point
open it rests on the model's choice (log 54). -/
def Obligations.FieldInputEvents : Prop :=
  (∀ s l, s.awake = true → s.fio.lpres = false →
    leads (exec (.lplusPresent l) s) fun t => t.fio.lpres = true ∧ t.fio.lplus = l ∧ t.fio.linkok = true ∧
      (∀ i < 16, t.diCh i = { s.diCh i with countFrom := s.tb }) ∧ t.ev = s.ev.raise 11 s.tb ∧ s.drivesFollow t ∧
      { t with ev := s.ev, fio := s.fio, ilk := s.ilk, out := s.out } = s) ∧
  (∀ s l, s.awake = true → s.fio.lpres = true →
    leads (exec (.lplusLost l) s) fun t => t.fio.lpres = false ∧ t.fio.lplus = l ∧
      (∀ i < 16, (t.diCh i).valid = false ∧ (t.diCh i).level = false ∧ (t.diCh i).wb = false) ∧
      (∀ i < 8, (t.doCh i).pad = false) ∧ t.ev = s.ev.raise 10 s.tb ∧ s.drivesFollow t ∧
      { t with ev := s.ev, fio := s.fio, ilk := s.ilk, out := s.out, heldAt := s.heldAt, heldRes := s.heldRes } = s) ∧
  (∀ s n, s.awake = true → s.fio.lpres = true → s.fio.linkok = true →
    leads (exec (.fieldLinkFault n) s) fun t => t.fio.linkok = false ∧ t.fio.frameerr = BitVec.ofNat 8 (s.frameErrors + n) ∧
      (∀ i < 16, (t.diCh i).valid = false ∧ (t.diCh i).level = (s.diCh i).level) ∧ t.ev = s.ev.raise 91 s.tb ∧ s.drivesFollow t ∧
      { t with ev := s.ev, fio := s.fio, ilk := s.ilk, out := s.out, heldAt := s.heldAt, heldRes := s.heldRes } = s) ∧
  (∀ s, s.awake = true → s.fio.lpres = true → s.fio.linkok = false →
    leads (exec .fieldLinkReturn s) fun t => t.fio.linkok = true ∧
      (∀ i < 16, t.diCh i = { s.diCh i with countFrom := s.tb, wb := (s.diCh i).wbDie }) ∧
      s.drivesFollow t ∧ { t with ev := s.ev, fio := s.fio, ilk := s.ilk, out := s.out, heldAt := s.heldAt, heldRes := s.heldRes
                                  w1cAt := s.w1cAt, w1cNow := s.w1cNow } = s) ∧
  (∀ s n mv t0 l, n < 16 → s.senses = true → s.fio.linkok = true → (s.diConf n).en = true →
    l = diLevel (s.diConf n).typ false mv (s.diCh n).level → (s.diCh n).level ≠ l → tbSub t0 (s.diCh n).countFrom ≤ 2 ^ 40 →
    (s.diCh n).valid = true →
    leads (exec (.diFilteredChange n { mv := mv, t0 := t0 }) s) fun t => (t.diCh n).level = l ∧ (∀ i < 16, i ≠ n → t.diCh i = s.diCh i) ∧
      t.fio.rise = (if l then putBit s.fio.rise n true else s.fio.rise) ∧
      t.fio.fall = (if l then s.fio.fall else putBit s.fio.fall n true) ∧ t.ev = s.ev.raise 85 t.tb ∧
      { t with tb := s.tb, tbFrac := s.tbFrac, ev := s.ev, fio := s.fio, ilk := s.ilk, heldAt := s.heldAt, heldRes := s.heldRes, w1cAt := s.w1cAt
               w1cNow := s.w1cNow } = s) ∧
  (∀ s n mv t0 l, n < 16 → s.senses = true → s.fio.linkok = true → (s.diConf n).en = true →
    l = diLevel (s.diConf n).typ false mv (s.diCh n).level → (s.diCh n).level ≠ l → tbSub t0 (s.diCh n).countFrom ≤ 2 ^ 40 →
    (s.diCh n).valid = false →
    leads (exec (.diFilteredChange n { mv := mv, t0 := t0 }) s) fun t => (t.diCh n).level = l ∧ t.fio.rise = s.fio.rise ∧ t.fio.fall = s.fio.fall ∧
      { t with tb := s.tb, tbFrac := s.tbFrac, fio := s.fio, ilk := s.ilk, heldAt := s.heldAt, heldRes := s.heldRes } = s) ∧
  (∀ s n mv t0 ua v, 16 ≤ n → exec (.diFilteredChange n { mv := mv, t0 := t0 }) s = .fault .noSuchUnit ∧ exec (.diInputValid n mv) s = .fault .noSuchUnit ∧
    exec (.diCurrentMean n ua v) s = .fault .noSuchUnit) ∧
  (∀ s n mv, n < 16 → s.senses = true → s.fio.linkok = true → (s.diConf n).en = true →
    leads (exec (.diInputValid n mv) s) fun t =>
      t.diCh n = { s.diCh n with level := diLevel (s.diConf n).typ false mv (s.diCh n).level, valid := true } ∧
      (∀ i < 16, i ≠ n → t.diCh i = s.diCh i) ∧
      { t with tb := s.tb, tbFrac := s.tbFrac, fio := s.fio, ilk := s.ilk, heldAt := s.heldAt, heldRes := s.heldRes } = s) ∧
  (∀ s n ua mv d, n < 16 → s.senses = true → s.fio.fullAt = some d → s.tb % 1000 = 0 → (s.diCh n).tick ≠ some s.tb → 1000 < tbSub s.tb d → (s.diConf n).en = true →
    (s.diConf n).wben = true →
    leads (exec (.diCurrentMean n ua mv) s) fun t => (t.diCh n).iin = ua ∧ (t.diCh n).vin = mv ∧
      (ua < 350 → (t.diCh n).lowT1 = some ((s.diCh n).lowT1.getD t.tb) ∧ (t.diCh n).highT1 = none) ∧
      (400 ≤ ua → (t.diCh n).lowT1 = none ∧ (t.diCh n).highT1 = some ((s.diCh n).highT1.getD t.tb)) ∧
      (350 ≤ ua → ua < 400 → (t.diCh n).lowT1 = none ∧ (t.diCh n).highT1 = none) ∧
      (∀ i < 16, i ≠ n → t.diCh i = s.diCh i) ∧
      { t with tb := s.tb, tbFrac := s.tbFrac, fio := s.fio } = s) ∧
  (∀ s n d, n < 16 → s.awake = true → (s.diCh n).lowT1 = some d → (s.diCh n).wb = false → (s.diCh n).wbDie = false →
    s.fio.linkok = true → (s.diConf n).en = true →
    (s.diConf n).wben = true → s.fio.fullAt.isSome = true →
    leads (exec (.diWireBreakDeclare n) s) fun t => (t.diCh n).wb = true ∧ (t.diCh n).valid = (s.diCh n).valid ∧
      t.fio.wbl = putBit s.fio.wbl n true ∧ t.ev = s.ev.raise 86 t.tb ∧
      { t with tb := s.tb, tbFrac := s.tbFrac, ev := s.ev, fio := s.fio, ilk := s.ilk, heldAt := s.heldAt, heldRes := s.heldRes,
               w1cAt := s.w1cAt, w1cNow := s.w1cNow } = s) ∧
  (∀ s n d, n < 16 → s.awake = true → (s.diCh n).highT1 = some d → (s.diCh n).wb = true → (s.diCh n).wbDie = true →
    s.fio.linkok = true → s.fio.fullAt.isSome = true →
    leads (exec (.diWireBreakClear n) s) fun t => (t.diCh n).wb = false ∧ t.fio.wbl = s.fio.wbl ∧ t.ev = s.ev.raise 87 t.tb ∧
      { t with tb := s.tb, tbFrac := s.tbFrac, ev := s.ev, fio := s.fio, ilk := s.ilk, heldAt := s.heldAt, heldRes := s.heldRes } = s) ∧
  (∀ s n mv, n < 16 → s.phase = .doze → s.fio.lpres = true → (s.diConf n).en = true → (s.diConf n).wake = true →
    (s.diCh n).entryOk = true → diLevel (s.diConf n).typ true mv (s.diCh n).entry ≠ (s.diCh n).entry →
    leads (exec (.diDozeChange { ch := n, mv := mv }) s) fun t => (t.diCh n).level = !(s.diCh n).entry ∧
      t.fio.rise = (if (s.diCh n).entry then s.fio.rise else putBit s.fio.rise n true) ∧
      t.fio.fall = (if (s.diCh n).entry then putBit s.fio.fall n true else s.fio.fall) ∧
      { t with ev := s.ev, fio := s.fio, w1cAt := s.w1cAt, w1cNow := s.w1cNow } = s) ∧
  (∀ s n d, n < 16 → (s.diCh n).lowT1 = some d → (s.diCh n).wbDie = false → s.fio.linkok = false → (s.diConf n).en = true →
    (s.diConf n).wben = true → s.fio.fullAt.isSome = true →
    leads (exec (.diWireBreakDeclare n) s) fun t => (t.diCh n).wbDie = true ∧ (t.diCh n).wb = (s.diCh n).wb ∧ t.fio.wbl = s.fio.wbl ∧
      t.ev = s.ev) ∧
  (∀ s n mv, n < 16 → s.phase = .doze → (s.diCh n).entryOk = false → exec (.diDozeChange { ch := n, mv := mv }) s = .next s)

/-- R257 to R259: a short and an over-temperature switch their output off, a retry and a cooled switch end them; an open
load is only reported. -/
def Obligations.FieldOutputEvents : Prop :=
  (∀ s n, n < 8 → s.awake = true → (s.doCh n).pad = true → (s.doCh n).short = false →
    leads (exec (.doShort n) s) fun t => (t.doCh n).short = true ∧ (t.doCh n).pad = false ∧
      (t.doCh n).shorts = satInc (s.doCh n).shorts 65535 ∧ (∀ i < 8, i ≠ n → t.doCh i = s.doCh i) ∧ t.ev = s.ev.raise 88 s.tb ∧
      s.drivesFollow t ∧ { t with ev := s.ev, fio := s.fio, out := s.out } = s) ∧
  (∀ s n, n < 8 → s.awake = true → (s.doCh n).short = true → (s.doConf n).retry = true →
    leads (exec (.doRetry n) s) fun t => (t.doCh n).short = false ∧ (∀ i < 8, i ≠ n → t.doCh i = s.doCh i) ∧
      s.drivesFollow t ∧ { t with tb := s.tb, tbFrac := s.tbFrac, fio := s.fio, out := s.out } = s) ∧
  (∀ s n, n < 8 → (s.doConf n).retry = false → exec (.doRetry n) s = .next s) ∧
  (∀ s n, n < 8 → s.awake = true → (s.doCh n).pad = true →
    leads (exec (.doOvertemp n) s) fun t => (t.doCh n).ovt = true ∧ (t.doCh n).pad = false ∧
      t.fio.ovtl = putBit s.fio.ovtl n true ∧ t.ev = s.ev.raise 90 s.tb ∧ s.drivesFollow t ∧
      { t with ev := s.ev, fio := s.fio, out := s.out, w1cAt := s.w1cAt, w1cNow := s.w1cNow } = s) ∧
  (∀ s n, n < 8 → (s.doCh n).ovt = true →
    leads (exec (.doOvertempEnd n) s) fun t => (t.doCh n).ovt = false ∧ t.fio.ovtl = s.fio.ovtl ∧
      s.drivesFollow t ∧ { t with fio := s.fio, out := s.out } = s) ∧
  (∀ s n, n < 8 → s.awake = true → (s.doCh n).pad = true → (s.doCh n).openl = false → s.fio.fullAt.isSome = true →
    leads (exec (.doOpen n) s) fun t => t.doCh n = { s.doCh n with openl := true } ∧ t.ev = s.ev.raise 89 t.tb ∧
      { t with tb := s.tb, tbFrac := s.tbFrac, ev := s.ev, fio := s.fio } = s) ∧
  (∀ s n, n < 8 → exec (.doOpenClear n) s = .next (s.onDo n fun c => { c with openl := false })) ∧
  (∀ s n, 8 ≤ n → exec (.doShort n) s = .fault .noSuchUnit ∧ exec (.doRetry n) s = .fault .noSuchUnit ∧
    exec (.doOvertemp n) s = .fault .noSuchUnit ∧ exec (.doOvertempEnd n) s = .fault .noSuchUnit ∧
    exec (.doOpen n) s = .fault .noSuchUnit ∧ exec (.doOpenClear n) s = .fault .noSuchUnit)

/-- R299: an entry whose condition has held trips and is latched exactly with LATCH 1; it releases unless it is latched.
Where the rules leave a point open it rests on the model's choice (log 47). -/
def Obligations.InterlocksTripAndRelease : Prop :=
  (∀ s i d, i < 32 → s.evaluates = true → (s.ilkEntry i).en = true → (s.ilkRun i).tripped = false → (s.ilkRun i).trueAt = some d →
    leads (exec (.ilkTrip i) s) fun t => (t.ilkRun i).tripped = true ∧ (t.ilkRun i).latched = (s.ilkEntry i).latch ∧
      t.ilk.trips = satInc s.ilk.trips 65535 ∧ t.ilk.last = i ∧ (∀ j < 32, j ≠ i → (t.ilkRun j).tripped = (s.ilkRun j).tripped) ∧
      { t with tb := s.tb, tbFrac := s.tbFrac, ev := s.ev, pw := s.pw, vl := s.vl, out := s.out, fio := s.fio, ilk := s.ilk, aon := s.aon } = s) ∧
  (∀ s i, i < 32 → (s.ilkRun i).trueAt = none → exec (.ilkTrip i) s = .next s) ∧
  (∀ s i d, i < 32 → s.evaluates = true → (s.ilkRun i).tripped = true → (s.ilkRun i).latched = false → (s.ilkRun i).falseAt = some d →
    leads (exec (.ilkRelease i) s) fun t => (t.ilkRun i).tripped = false ∧ (t.ilkRun i).latched = false ∧ t.ilk.trips = s.ilk.trips ∧
      (∀ j < 32, j ≠ i → (t.ilkRun j).tripped = (s.ilkRun j).tripped) ∧
      { t with tb := s.tb, tbFrac := s.tbFrac, ev := s.ev, pw := s.pw, vl := s.vl, out := s.out, fio := s.fio, ilk := s.ilk, aon := s.aon } = s) ∧
  (∀ s i, i < 32 → (s.ilkRun i).latched = true → (s.ilkRun i).pendClear = false → exec (.ilkRelease i) s = .next s) ∧
  (∀ s i, 32 ≤ i → exec (.ilkTrip i) s = .fault .noSuchUnit ∧ exec (.ilkRelease i) s = .fault .noSuchUnit)

/-- R449 to R451, R455, R456, R458: a housekeeping round starts, a reading within its windows posts the junction
temperature and one outside posts nothing, a device that has been cool re-arms unless it is latched, a thermal record
leaves for its log. Where the rules leave a point open it rests on the model's choice (log 45, log 81). -/
def Obligations.HousekeepingEvents : Prop :=
  (∀ s, s.awake = true → s.tb < tbMod → s.tb % 100000 = 0 → s.hk.lastRound ≠ s.tb / 100000 →
    leads (exec .hkRoundStart s) fun t => t.hk.lastRound = s.tb / 100000 ∧ t.hk.reading = s.runs 1 ∧
      t.hk.newest = s.hk.newest ∧
      { t with pw := s.pw, sar := s.sar, hk := s.hk } = s) ∧
  (∀ s o w, s.hk.reading = true → s.hk.starting = false → s.runs 1 = true → s.hkDone true = true → o = s.hkCodes true →
    hkValid o = true → s.hk.hist.length < 10 → s.hk.shut = false →
    junction (o.v2 - o.v1) s.unit.nf < 100 * s.applied.therm.tshut → -0x80000000 < junction (o.v2 - o.v1) s.unit.nf →
    leads (exec (.hkReadingPost w) s) fun t => nth t.hk.newest 0 noVal = wI (junction (o.v2 - o.v1) s.unit.nf) ∧
      nth t.hk.newest 1 noVal = noVal ∧ (∀ i < 8, nth t.hk.newest (2 + i) noVal = wI (railMv i (o.rails[i]?.getD 0))) ∧
      t.hk.conv = s.hk.conv.drop (hkChannels true).length ∧ t.hk.reading = false ∧ t.hk.posted = true ∧
      t.hk.shut = false ∧
      { t with tb := s.tb, tbFrac := s.tbFrac, free := s.free, ev := s.ev, pw := s.pw, sar := s.sar, vl := s.vl, out := s.out, hk := s.hk,
               aon := s.aon, heldAt := s.heldAt, heldRes := s.heldRes } = s) ∧
  (∀ s w, s.hk.reading = true → s.hk.starting = false → s.runs 1 = true → s.hkDone true = true → hkValid (s.hkCodes true) = false →
    s.hk.badRun = 0 →
    leads (exec (.hkReadingPost w) s) fun t => t.hk.newest = s.hk.newest ∧ t.hk.badRun = 1 ∧ t.hk.reading = false ∧
      t.hk.posted = s.hk.posted ∧ t.hk.shut = s.hk.shut ∧
      { t with tb := s.tb, tbFrac := s.tbFrac, free := s.free, ev := s.ev, pw := s.pw, sar := s.sar, vl := s.vl, out := s.out, hk := s.hk,
               aon := s.aon, heldAt := s.heldAt, heldRes := s.heldRes } = s) ∧
  (∀ s o w, s.hk.starting = true → s.runs 1 = true → s.hkDone false = true → o = s.hkCodes false → hkValid o = true → s.hk.shut = true →
    leads (exec (.hkStartReading w) s) fun t => nth t.hk.newest 0 noVal = wI (junction (o.v2 - o.v1) s.unit.nf) ∧
      (∀ i < 8, nth t.hk.newest (2 + i) noVal = nth s.hk.newest (2 + i) noVal) ∧
      t.hk.starting = false ∧ t.hk.posted = true ∧ t.hk.hist = s.hk.hist ∧
      { t with tb := s.tb, tbFrac := s.tbFrac, free := s.free, ev := s.ev, pw := s.pw, sar := s.sar, vl := s.vl, out := s.out, hk := s.hk,
               aon := s.aon, heldAt := s.heldAt, heldRes := s.heldRes } = s) ∧
  (∀ s d, s.awake = true → s.hk.shut = true → s.aon.thermLatched = false → s.hk.runAt = some d →
    leads (exec .thermRearm s) fun t => t.hk.shut = false ∧ t.hk.tmax = noVal ∧ t.hk.cause = 0 ∧ t.ev = s.ev.raise 59 t.tb ∧
      { t with tb := s.tb, tbFrac := s.tbFrac, ev := s.ev, pw := s.pw, hk := s.hk } = s) ∧
  (∀ s, s.aon.thermLatched = true → exec .thermRearm s = .next s) ∧
  (∀ s r rest, s.hk.toLog = r :: rest →
    exec .thermalRecordAppend s = .next ((s.onHk fun h => { h with toLog := rest }).logAppend 0 r)) ∧
  (∀ s, s.hk.toLog = [] → exec .thermalRecordAppend s = .next s) ∧
  (∀ s w, s.hk.starting = true ∨ s.hkDone true = false → exec (.hkReadingPost w) s = .next s)

/-- R421, R422: a frame starts: the committed page is taken, DSP_SHOWN is raised at the frame that shows it first, the
polarity turns, the next frame follows after the period. R429, R431: an update and a recovery of a bistable panel, from
their verified marker to the levels that stand at their end, and the rails that follow them. R429, R433: the rails stop on
a fault and are tried again; after RAILHOLD they go down. Where the rules leave a point open it rests on the model's
choice (log 57, log 58). -/
def Obligations.DisplayEvents : Prop :=
  (∀ s e, s.awake = true → s.dsp.frameDue = some e → s.runs 8 = true → s.dsp.inReg = true → s.dspMode = 1 → s.applied.dsp.page < 16 →
    s.dsp.showDue = true →
    leads (exec .lcdFrameStart s) fun t => t.dsp.shown = s.applied.dsp.page ∧ t.dsp.neg = !s.dsp.neg ∧ t.dsp.showDue = false ∧
      t.dsp.frameAt = t.tb ∧ t.dsp.frameDue = some (tbAdd t.tb (lcdPeriod s.dspConf)) ∧ t.ev = s.ev.raise 112 t.tb ∧
      { t with tb := s.tb, tbFrac := s.tbFrac, ev := s.ev, pw := s.pw, dsp := s.dsp } = s) ∧
  (∀ s e, s.dsp.frameDue = some e → s.runs 8 = true → s.dsp.inReg = true → s.dspMode = 1 → s.applied.dsp.page < 16 →
    s.dsp.showDue = false → leads (exec .lcdFrameStart s) fun t => t.dsp.neg = !s.dsp.neg ∧
      { t with tb := s.tb, tbFrac := s.tbFrac, pw := s.pw, dsp := s.dsp } = s) ∧
  (∀ s, s.dsp.frameDue = none → exec .lcdFrameStart s = .next s) ∧
  (∀ s, s.dsp.job = .update → s.dsp.verified = false →
    leads (exec .dspMarkerVerified s) fun t => t.dsp = { s.dsp with verified := true } ∧
      { t with pw := s.pw, dsp := s.dsp } = s) ∧
  (∀ s, s.runs 8 = true → s.dsp.inReg = false → s.dspMode = 2 →
    leads (exec .dspRailUp s) fun t => t.dsp.inReg = true ∧ t.dsp.frameDue = none ∧
      t.dsp.vlcd = 25 * (s.dspConf.vlcdb[s.dsp.band]?.getD 0) ∧ t.dsp.job = s.dsp.job ∧
      { t with dsp := s.dsp } = s) ∧
  (∀ s, s.runs 8 = true → s.dsp.inReg = true → s.dsp.updEnd = none → s.dsp.job = .update → s.dsp.verified = true → s.tb % 1000 = 0 →
    leads (exec .dspUpdateStart s) fun t => t.dsp.lband = s.dsp.band ∧ t.dsp.figAt = s.tb ∧ t.dsp.updEnd.isSome = true ∧
      t.dsp.target = s.dsp.target ∧
      { t with tb := s.tb, tbFrac := s.tbFrac, dsp := s.dsp } = s) ∧
  (∀ s, s.dsp.job = .update → s.dsp.verified = false → exec .dspUpdateStart s = .next s) ∧
  (∀ s k e, k < 96 → s.dsp.figs.find? (fun x => x.1 == k) = some e →
    leads (exec (.dspFigureEnd k) s) fun t => t.dsp.figs = s.dsp.figs.filter (fun x => x.1 != k) ∧ t.dsp.levels = s.dsp.levels ∧
      { t with tb := s.tb, tbFrac := s.tbFrac, dsp := s.dsp } = s) ∧
  (∀ s k, 96 ≤ k → exec (.dspFigureEnd k) s = .fault .noSuchUnit) ∧
  (∀ s e, s.dsp.updEnd = some e → s.dsp.job = .update →
    leads (exec .dspUpdateEnd s) fun t => t.dsp.levels = some s.dsp.target ∧ t.dsp.updates = s.dsp.updates + 1 ∧
      t.dsp.updEnd = none ∧
      { t with tb := s.tb, tbFrac := s.tbFrac, free := s.free, ev := s.ev, pw := s.pw, cells := s.cells, badGroups := s.badGroups, unsteady := s.unsteady, store := s.store,
               dsp := s.dsp } = s) ∧
  (∀ s, s.awake = true → s.dspMode = 2 → s.dsp.started = true → s.dsp.fault = false → s.pw.pfw = false → s.dsp.job = .none →
    s.dsp.levels = none →
    leads (exec .dspRecoveryStart s) fun t => t.dsp.job = .recovery ∧ t.dsp.target = List.replicate 96 s.dspConf.reclvl ∧
      t.dsp.shown = 0xFE ∧
      { t with free := s.free, ev := s.ev, pw := s.pw, cells := s.cells, badGroups := s.badGroups, unsteady := s.unsteady, store := s.store, dsp := s.dsp } = s) ∧
  (∀ s e, s.dsp.updEnd = some e → s.dsp.job = .recovery →
    leads (exec .dspRecoveryEnd s) fun t => t.dsp.levels = some s.dsp.target ∧ t.dsp.recovs = satInc s.dsp.recovs 65535 ∧
      { t with tb := s.tb, tbFrac := s.tbFrac, free := s.free, ev := s.ev, pw := s.pw, cells := s.cells, badGroups := s.badGroups, unsteady := s.unsteady, store := s.store,
               dsp := s.dsp } = s) ∧
  (∀ s, s.awake = true → s.runs 8 = true →
    leads (exec .dspRailFault s) fun t => t.dsp.fault = true ∧ t.dsp.faultAt = t.tb ∧ t.dsp.railflt = satInc s.dsp.railflt 65535 ∧
      t.tb = (if s.dsp.inReg then s.tb else (s.jump (tbAdd s.dsp.railAt (if s.dspMode = 1 then 5000 else 6000))).tb) ∧
      t.dsp.inReg = false ∧ t.runs 8 = false ∧ (∀ i < 14, i ≠ 8 → t.runs i = s.runs i) ∧ t.ev = s.ev.raise 115 t.tb ∧
      { t with tb := s.tb, tbFrac := s.tbFrac, ev := s.ev, pw := s.pw, dsp := s.dsp } = s) ∧
  (∀ s, s.runs 8 = false → exec .dspRailFault s = .next s) ∧
  (∀ s, s.awake = true → s.dsp.fault = true → s.pw.pfw = false →
    leads (exec .dspRailRetry s) fun t => t.dsp.fault = false ∧ t.dsp.started = true ∧ t.dsp.railflt = s.dsp.railflt ∧
      { t with tb := s.tb, tbFrac := s.tbFrac, free := s.free, ev := s.ev, pw := s.pw, cells := s.cells, badGroups := s.badGroups, unsteady := s.unsteady, store := s.store,
               dsp := s.dsp } = s) ∧
  (∀ s, s.pw.pfw = true → exec .dspRailRetry s = .next s) ∧
  (∀ s e, s.dsp.holdDue = some e → s.dsp.job = .none →
    leads (exec .railholdEnd s) fun t => t.dsp.inReg = false ∧ t.dsp.holdDue = none ∧ t.runs 8 = false ∧
      t.dsp.levels = s.dsp.levels ∧
      { t with tb := s.tb, tbFrac := s.tbFrac, pw := s.pw, dsp := s.dsp } = s)

/-- R437, R440 to R442, R444, R445: a scanned column is read, the encoders are sampled, a queue entry is freed, the lock
closes by itself, keys and encoders wake a dozing device, and a forwarded event is acted on and not queued. Where the
rules leave a point open it rests on the model's choice (log 59). -/
def Obligations.KeyEvents : Prop :=
  (∀ s c rows, c < 8 → s.scans = true →
    leads (exec (.keyColumnScan c rows) s) fun t => (∀ r < 8, keyAt t.keys.reading r c = rows.getLsbD r) ∧
      (∀ r < 8, ∀ k < 8, k ≠ c → keyAt t.keys.reading r k = keyAt s.keys.reading r k) ∧
      { t with tb := s.tb, tbFrac := s.tbFrac, free := s.free, ev := s.ev, staged := s.staged, nextUid := s.nextUid, pair := s.pair,
               keys := s.keys, w1cAt := s.w1cAt, w1cNow := s.w1cNow } = s) ∧
  (∀ s c rows, c < 8 → s.scans = false → exec (.keyColumnScan c rows) s = .next s) ∧
  (∀ s lines, s.awake = true →
    leads (exec (.encSample lines) s) fun t => t.keys.encWoke = false ∧ t.keys.encAt = t.tb ∧
      (∀ n < 4, (nth t.keys.enc n {}).lastA = lines.getLsbD (2 * n) ∧ (nth t.keys.enc n {}).lastB = lines.getLsbD (2 * n + 1)) ∧
      { t with tb := s.tb, tbFrac := s.tbFrac, free := s.free, ev := s.ev, staged := s.staged, nextUid := s.nextUid, pair := s.pair,
               keys := s.keys, w1cAt := s.w1cAt, w1cNow := s.w1cNow } = s) ∧
  (∀ s i, i < 32 → s.awake = true → s.w1cAt ≠ s.tb →
    leads (exec (.kqeFree i) s) fun t => nth t.keys.q i {} = { nth s.keys.q i {} with valid := false } ∧
      (∀ j < 32, j ≠ i → nth t.keys.q j {} = nth s.keys.q j {}) ∧
      { t with keys := s.keys } = s) ∧
  (∀ s d, s.awake = true → s.acting = true → s.keys.lastPress = some d → s.applied.key.autolock ≠ 0 → s.applied.key.locked = false →
    s.pair.handoverAt = none → s.staged.length < 512 →
    leads (exec .autolockExpiry s) fun t => t.keys = { s.keys with lastPress := none } ∧ t.nextUid = s.nextUid + 1 ∧
      t.staged = s.staged.filter (fun w => !w.after t.tb 2) ++ [{ uid := s.nextUid, at_ := t.tb, rank := 2, w := .cmd lockOpc [1] }] ++
        s.staged.filter (Staged.after t.tb 2) ∧
      { t with tb := s.tb, tbFrac := s.tbFrac, staged := s.staged, nextUid := s.nextUid, keys := s.keys } = s) ∧
  (∀ s code, code < 64 → s.phase ≠ .doze → exec (.keyWake code) s = .next s) ∧
  (∀ s code r, code < 64 → s.phase = .doze → s.applied.key.en = true → s.keyColumns = true → r < 8 →
    s.applied.key.mask.getLsbD (8 * r + code % 8) = true → exec (.keyWake code) s = .next (s.raise 119)) ∧
  (∀ s n, n < 4 → s.phase = .doze → (nth s.applied.key.enc n {}).en = true → exec (.encWake n) s = .next (s.raise 120)) ∧
  (∀ s n, n < 4 → s.phase ≠ .doze → exec (.encWake n) s = .next s) ∧
  (∀ s (lf : LinkFrame), linkValid lf = true → lf.typ = 0x30 → lf.payload.length = 6 → s.linkRuns = true → s.acting = true →
    leads (exec (.keyevtFrame lf) s) fun t => t.keys.q = s.keys.q ∧ t.keys.wseq = s.keys.wseq ∧
      (bit (u8 lf.payload 1) 0 = true → t.keys.lastPress = some s.tb) ∧ t.pair = { s.pair with linkAt := s.tb } ∧
      { t with free := s.free, ev := s.ev, staged := s.staged, nextUid := s.nextUid, pair := s.pair, keys := s.keys } = s) ∧
  (∀ s (lf : LinkFrame), linkValid lf = false → exec (.keyevtFrame lf) s = .next s)

/-- A step runs the command or event at the front of the queue, on the state with the queue's rest. -/
def Obligations.StepRunsTheFront : Prop :=
  ∀ (c : Instr) (s : State) (rest : List Instr),
    step { s with pending := c :: rest } = exec c { s with pending := rest }

/-- On an empty queue a step lets one count of time pass, and nothing else happens: a microsecond quantum, in DOZE a
crystal period kept with its fraction (R24, R130). That a step does so in place of idling is the model's choice (log
3). -/
def Obligations.EmptyQueueCountsTime : Prop :=
  (∀ s : State, s.pending = [] → (s.phase = .reset ∨ s.phase = .held ∨ s.phase = .nap ∨ s.phase = .run) →
    step s = .next { s with tb := (s.tb + 1) % 281474976000000 }) ∧
  (∀ s : State, s.pending = [] → s.phase = .doze →
    step s = .next { s with tb := (s.tb + (s.tbFrac + 15625) / 512) % 281474976000000, tbFrac := (s.tbFrac + 15625) % 512 }) ∧
  (∀ s : State, s.pending = [] → s.phase = .unpowered → step s = .next s)

/-- What the registers with a Reset value other than zero read right after a power-on reset: HLST.STATE, PMST.STATE and REQ,
PMRC.POR, EVWKEN.PIN, the IRQ enables of EVCTL, TBWAKE.SRC, the points without a result, PRMHST, VLPI.PITIME (R9, R61
and the register maps); and no event has been raised, nothing is listed in the store. -/
def Obligations.ResetLeavesTheseValues : Prop :=
  State.reset.readReg 0x0020 = 1 ∧ State.reset.readReg 0x0080 = 0x20001 ∧ State.reset.readReg 0x0084 = 1 ∧
  State.reset.readReg 0x0140 = 1 ∧ State.reset.readReg 0x0150 = 0x88 ∧ State.reset.readReg 0x0210 = 0xFF ∧
  State.reset.readReg 0x0710 = 0x2C ∧ State.reset.readReg 0x0240 = 0 ∧
  (∀ n < 16, State.reset.readReg (0x040C + 0x20 * n) = 0x80000000 ∧ State.reset.readReg (0x0C08 + 0x10 * n) = 0xFFFF0000) ∧
  (∀ n < 8, State.reset.readReg (0x0608 + 0x10 * n) = 0x80000000) ∧
  (∀ k < 4, State.reset.readReg (0x0100 + 4 * k) = 0 ∧ State.reset.readReg (0x0110 + 4 * k) = 0) ∧
  State.reset.cells = [] ∧ State.reset.pending = [] ∧ State.reset.epoch = 0

/-- The checks before a command's own, in the order of Table 05-4, on a device that receives a command and takes it at
once: an opcode that is not listed, a class the personality refuses, a length that disagrees with the layout; none has a
side effect (R3, R99, R110). A full mailbox refuses the command (R102), and a device that is not awake ignores it (R26).
Where the rules leave a point open it rests on the model's choice (log 40). -/
def Obligations.ChecksComeInOrder : Prop :=
  (∀ (s : State) opc tag p, s.awake = true → s.mgmt.restarting = false → s.link.mbox = [] → s.pair.handoverAt = none →
    opRow opc = none → s.hostCommand opc tag p = s.answered opc tag p stBadOpcode []) ∧
  (∀ (s : State) opc tag p r, s.awake = true → s.mgmt.restarting = false → s.link.mbox = [] → s.pair.handoverAt = none →
    opRow opc = some r → s.opcAllowed opc = false → s.hostCommand opc tag p = s.answered opc tag p stWrongPers []) ∧
  (∀ (s : State) opc tag p r, s.awake = true → s.mgmt.restarting = false → s.link.mbox = [] → s.pair.handoverAt = none →
    opRow opc = some r → s.opcAllowed opc = true → r.len p = false → s.hostCommand opc tag p = s.answered opc tag p stBadLength []) ∧
  (∀ (s : State) opc tag p, s.awake = true → 8 ≤ s.link.mbox.length → s.hostCommand opc tag p = s.refuseCommand) ∧
  (∀ (s : State) opc tag p, s.awake = false → s.hostCommand opc tag p = s)

/-- R54, on a device that receives a command and takes it at once before the store recall is complete: what is not of
class 0x0, 0xE or 0xF is answered NVM_BUSY if a store command, else BUSY, without side effect; NVM_STATUS is answered
OK with RECALL 0; the classes named are answered by their own rows. -/
def Obligations.AnswersUntilTheRecall : Prop :=
  (∀ (s : State) opc tag p r, s.awake = true → s.mgmt.restarting = false → s.link.mbox = [] → s.pair.handoverAt = none →
    s.store.recalled = false → opRow opc = some r → s.opcAllowed opc = true → r.len p = true → opc / 16 = 0xB → opc ≠ 0xB9 →
    s.hostCommand opc tag p = s.answered opc tag p stNvmBusy []) ∧
  (∀ (s : State) opc tag p r, s.awake = true → s.mgmt.restarting = false → s.link.mbox = [] → s.pair.handoverAt = none →
    s.store.recalled = false → opRow opc = some r → s.opcAllowed opc = true → r.len p = true → opc / 16 ≠ 0xB → opc / 16 ≠ 0 →
    opc / 16 ≠ 0xE → opc / 16 ≠ 0xF → s.hostCommand opc tag p = s.answered opc tag p stBusy []) ∧
  (∀ (s : State) tag, s.awake = true → s.mgmt.restarting = false → s.link.mbox = [] → s.pair.handoverAt = none →
    s.store.recalled = false → s.opcAllowed 0xB9 = true →
    leads (exec (.nvmStatus tag []) s) fun t => ∃ r, t.link.replies = s.link.replies ++ [r] ∧ r.status = stOk ∧ r.results[0]? = some 0) ∧
  (∀ (s : State) opc tag p r, s.awake = true → s.mgmt.restarting = false → s.link.mbox = [] → s.pair.handoverAt = none →
    s.store.recalled = false → opRow opc = some r → s.opcAllowed opc = true → r.len p = true →
    (opc / 16 = 0 ∨ opc / 16 = 0xE ∨ opc / 16 = 0xF) →
    s.hostCommand opc tag p = finish { org := .host s.link.nextId, tag := tag, p := p }
      (r.run { org := .host s.link.nextId, tag := tag, p := p } (s.took opc tag p)))

/-- R76: at most 512 writes are staged per beat, each point entry and each OBJ_WRITE counting as one; a command that would
exceed that is answered BUSY without side effect. That every entry staged counts, also those of services and status updates, is the model's
choice (log 91). -/
def Obligations.StagingHasALimit : Prop :=
  (∀ s tag p, s.ready 0x11 → s.acting = true → 512 < s.staged.length + u8 p 1 → p.length = 2 + 6 * u8 p 1 → u8 p 0 = 0 → 1 ≤ u8 p 1 →
    u8 p 1 ≤ 40 → (∀ e ∈ pointList p, s.takesPoint e.1 e.2) →
    exec (.pointWrite tag p) s = .next (s.answered 0x11 tag p stBusy [])) ∧
  (∀ s tag p, s.ready 0x12 → s.acting = true → 512 < s.staged.length + 1 → 11 ≤ p.length → p.length ≤ 246 → u8 p 0 = 0 →
    s.takesObj (u8 p 1) (u16 p 2) (u16 p 8) (p.drop 10) →
    exec (.objWrite tag p) s = .next (s.answered 0x12 tag p stBusy []))

/-- R453: a warning begins at a reading that is hot or rises fast, and raises THERM_WARN; it ends at a reading that is
cool and does not; nothing else changes. T and DTRISE are in 0.001 °C and in 0.001 K, the thresholds in 0.1 °C and 0.1
K. -/
def Obligations.WarningFollowsReadings : Prop :=
  ∀ (s : State) (T R : Int) (r : W32), s.awake = true → (nth s.hk.newest 0 noVal).toInt = T → nth s.hk.newest 1 noVal = r → r.toInt = R →
    ((T ≥ 100 * s.applied.therm.twarn ∨ (r ≠ noVal ∧ R ≥ 100 * s.applied.therm.rwarn)) →
      s.warnCheck = { s with hk := { s.hk with warn := true }, ev := if s.hk.warn then s.ev else s.ev.raise 57 s.tb }) ∧
    (T < 100 * (s.applied.therm.twarn : Int) - 5000 → T < 100 * s.applied.therm.twarn →
      (r = noVal ∨ 2 * R < 100 * s.applied.therm.rwarn) →
      s.warnCheck = { s with hk := { s.hk with warn := false } }) ∧
    (T < 100 * s.applied.therm.twarn → 100 * (s.applied.therm.twarn : Int) - 5000 ≤ T →
      (r = noVal ∨ R < 100 * s.applied.therm.rwarn) → s.warnCheck = s) ∧
    (T < 100 * s.applied.therm.twarn → r ≠ noVal → 100 * s.applied.therm.rwarn ≤ 2 * R → R < 100 * s.applied.therm.rwarn →
      s.warnCheck = s)

/-- The bytes written to the store read back, every other byte reads as before, and the cells keep their canonical form; a
byte past the store's end is not written (Table 18-1, R391). Where the rules leave a point open it rests on the model's
choice (log 4). -/
def Obligations.StoreReadsBack : Prop :=
  (∀ (m : List Host.Cell) (a : Nat) (bs : Bytes), Memory.wf m → a + bs.length ≤ Memory.size →
    Memory.wf (Memory.writeN m a bs) ∧ Memory.readN (Memory.writeN m a bs) a bs.length = bs ∧
      ∀ b, (b < a ∨ a + bs.length ≤ b) → Memory.read (Memory.writeN m a bs) b = Memory.read m b) ∧
  (∀ (m : List Host.Cell) (a : Nat) (b : Byte), Memory.size ≤ a → Memory.write m a b = m)

/-- The store's cells are in canonical form after reset, and no write is in progress. Where the rules leave a point open
it rests on the model's choice (log 4). -/
def Obligations.ResetStoreIsCanonical : Prop := State.reset.storeWf

/-- Every step keeps the store's cells, and both pictures of a write in progress, in canonical form: addresses strictly
rising, inside the 1 MiB of Table 18-1, no byte listed that reads as an unlisted one does. -/
def Obligations.StepsKeepTheStoreCanonical : Prop :=
  ∀ (s t : State), s.storeWf → step s = .next t → t.storeWf

/-- R29, R30, R31, Table 02-3: while the device is held in reset its panel, link, interrupt, converter and output pads rest, the clamp
of each valve pad active with VACT in its window; and before its Pavane step, or once it has stopped (R52), a unit's fans, tachometers,
sinks, columns, bridges and valves are in their NAP state, analog outputs at their level. Where the rules leave a point open it rests on
the model's choice (log 84, log 99, log 102). -/
def Obligations.PadsRestInReset : Prop :=
  (∀ s : State, s.phase = .reset ∨ s.phase = .held →
    (∀ k, s.pad (.seg k) = .low ∧ s.pad (.com k) = .low ∧ s.pad (.krow k) = .input ∧ s.pad (.bl k) = .off) ∧
    s.pad .hcsN = .ignored ∧ s.pad .hmiso = .highZ ∧ s.pad (.irqN false) = .off ∧ s.pad (.irqN true) = .off ∧
    s.pad .plkTxP = .highZ ∧ s.pad .plkTxN = .highZ ∧
    (∀ g, s.pad (.excP g) = .off ∧ s.pad (.excN g) = .off ∧ s.pad (.hux g) = .off ∧ s.pad (.prb g) = .off) ∧
    (∀ n, s.pad (.ao n) = .pulledDown ∧ s.pad (.fn n) = .low ∧ s.pad (.di n) = .notSensed ∧ s.pad (.dout n) = .off) ∧
    (∀ b, ∃ c, s.pad (.vhs b) = .valve (.steady {}) false c) ∧
    (∀ n, ∃ clamp c, s.pad (.vl n) = .valve (.steady {}) clamp c ∧ (s.pw.vact = true → clamp = true))) ∧
  (∀ s : State, s.phase = .run → s.acting = true → (∀ k, s.ilk.still = some k → k.1 ≠ s.tb) →
    (s.runs 6 = false → ∀ n, s.pad (.fn n) = .low ∧ s.pad (.ft n) = .ignored ∧
      s.pad (.ao n) = if s.aoAmplifies n then .level (s.aoCh n).lvl else .pulledDown) ∧
    (s.runs 9 = false → ∀ i, s.pad (.bl i) = .off) ∧
    (s.runs 8 = false → ∀ c, s.pad (.com c) = .low) ∧
    (∀ g, s.runs (2 + g) = false → s.pad (.excP g) = .off ∧ s.pad (.refP g) = .highZ) ∧
    (∀ b, b < 4 → s.bankRuns b = false → (∀ i, i < 4 → (s.vlCh (4 * b + i)).decaying = false) →
      (∃ c, s.pad (.vhs b) = .valve (.steady {}) false c) ∧
      ∀ i, i < 4 → ∃ clamp c, s.pad (.vl (4 * b + i)) = .valve (.steady {}) clamp c ∧ (s.pw.vact = true → clamp = true)))
end

