-- ==== Sys2Proof/Laws/Commands.lean ====
section
/-! SUPPORT. How a host command runs on a device that is ready for it: received, taken, checked by its row, answered. -/

namespace Sys2Proof.Machine

/-- A ready device takes a host command at once and runs it in the state that only its receipt has changed. -/
theorem hostCommand_of_ready {s : State} {opc : Nat} {tag : Byte} {p : Bytes} (h : s.ready opc)
    (hw : storeWrites opc = false) :
    s.hostCommand opc tag p = (s.took opc tag p).runCommand opc { org := .host s.link.nextId, tag := tag, p := p } := by
  obtain ⟨ha, hm, hb, hh, -, -, -⟩ := h
  have ht : s.phase = .nap ∨ s.phase = .run := by simpa [State.awake] using ha
  rcases ht with ht | ht <;>
  simp [State.hostCommand, hb, State.shiftOut, State.receiveCommand, State.raiseIf, takeMany, State.takeHost, State.takes,
    State.awake, hm, ht, State.waitsHandover, hh, Link.onCmd, State.took, State.entry, State.shifted, State.open_, State.nextWrites, hw]

/-- The row's own work follows once the checks before it pass (R99, checks 1 to 4). -/
theorem runCommand_of_row {s : State} {opc : Nat} {c : Ctx} {r : OpRow} (hr : opRow opc = some r)
    (ha : s.opcAllowed opc = true) (hl : r.len c.p = true) (hh : c.org.isRemote = false) (hs : s.store.recalled = true)
    (hw : storeWrites opc = false) : s.runCommand opc c = finish c (r.run c s) := by
  simp [State.runCommand, State.answerOf, State.waitsStore, hr, guarded, firstFail, ha, hl, hh, hs, hw]

/-- Both together, for a row given by its handler. -/
theorem hostCommand_runs {s : State} {opc : Nat} {tag : Byte} {p : Bytes} {r : OpRow} (h : s.ready opc)
    (hw : storeWrites opc = false) (hr : opRow opc = some r) (hl : r.len p = true) :
    s.hostCommand opc tag p =
      finish { org := .host s.link.nextId, tag := tag, p := p }
        (r.run { org := .host s.link.nextId, tag := tag, p := p } (s.took opc tag p)) := by
  rw [hostCommand_of_ready h hw]
  obtain ⟨-, -, -, -, hs, ha, -⟩ := h
  exact runCommand_of_row hr ha hl rfl hs hw

/-- A handler that answers at once and changes nothing leaves the answered state. -/
theorem finish_now {s : State} {opc : Nat} {tag : Byte} {p : Bytes} {st : Nat} {rs : Bytes} (hst : st ≠ stDeferred) :
    finish { org := .host s.link.nextId, tag := tag, p := p } (s.took opc tag p, .now st rs) = s.answered opc tag p st rs := by
  have hf : (st != stDeferred) = true := by simpa using hst
  simp [finish, State.post, State.postAt, State.took, State.answered, State.entry, Link.onCmd, hf]

/-- A handler that stages writes and changes nothing else leaves the staging state. -/
theorem finish_commit {s : State} {opc : Nat} {tag : Byte} {p : Bytes} {ws : List Write} {rs : Bytes} :
    finish { org := .host s.link.nextId, tag := tag, p := p } (s.took opc tag p, .commit ws rs) = s.staging opc tag p ws rs := by
  simp [finish, State.took, State.staging, State.entry, Link.onCmd, State.stageFrom, State.stageRank, State.waitFor]

/-- A handler whose checks all pass does its work. -/
theorem guarded_pass {cs : Checks} {s : State} {e : State × Ans} (h : firstFail cs = none) : guarded cs s e = e := by
  simp [guarded, h]

/-- A handler that fails a check answers with the first one that fails and has no side effect (R99). -/
theorem guarded_fail {cs : Checks} {s : State} {e : State × Ans} {a : Ans} (h : firstFail cs = some a) :
    guarded cs s e = (s, a) := by
  simp [guarded, h]

/-- No check of a list fails exactly when every condition of it is false. -/
theorem firstFail_eq_none (cs : Checks) : firstFail cs = none ↔ ∀ e ∈ cs, e.1 = false := by
  induction cs with
  | nil => simp [firstFail]
  | cons e cs ih =>
    obtain ⟨c, a⟩ := e
    cases c <;> simp [firstFail, ih]

/-- A ready device answers a command whose handler answers at once and changes nothing. -/
theorem hostCommand_answers {s : State} {opc : Nat} {tag : Byte} {p : Bytes} {r : OpRow} {st : Nat} {rs : Bytes}
    (h : s.ready opc) (hw : storeWrites opc = false) (hr : opRow opc = some r) (hl : r.len p = true) (hst : st ≠ stDeferred)
    (hrun : r.run { org := .host s.link.nextId, tag := tag, p := p } (s.took opc tag p) = (s.took opc tag p, .now st rs)) :
    s.hostCommand opc tag p = s.answered opc tag p st rs := by
  rw [hostCommand_runs h hw hr hl, hrun, finish_now hst]

/-- A ready device stages a configuration command whose own checks pass: parameters, conflicts, faults. -/
theorem hostCommand_stages {s : State} {opc : Nat} {tag : Byte} {p : Bytes} {r : OpRow} {ps cs fs : Checks}
    (h : s.readyToStage opc 1) (hw : storeWrites opc = false) (hr : opRow opc = some r) (hl : r.len p = true)
    (hrun : r.run { org := .host s.link.nextId, tag := tag, p := p } (s.took opc tag p) =
      stagedCmd opc ps cs fs { org := .host s.link.nextId, tag := tag, p := p } (s.took opc tag p))
    (hps : ∀ e ∈ ps, e.1 = false) (hcs : ∀ e ∈ cs, e.1 = false) (hfs : ∀ e ∈ fs, e.1 = false) :
    s.hostCommand opc tag p = s.stagingCmd opc tag p := by
  obtain ⟨h, ha, hn⟩ := h
  have h1 : (s.took opc tag p).notActive = false := by
    have : (s.took opc tag p).acting = s.acting := rfl
    simp [State.notActive, this, ha]
  have h2 : (s.took opc tag p).stageFull 1 = false := by
    simp [State.stageFull, State.took]; omega
  rw [hostCommand_runs h hw hr hl, hrun]
  unfold stagedCmd
  rw [guarded_pass, finish_commit, State.stagingCmd]
  simp only [firstFail_eq_none, List.mem_append, List.mem_singleton]
  rintro e ((((he | rfl) | he) | rfl) | he)
  exacts [hps e he, h1, hcs e he, h2, hfs e he]

end Sys2Proof.Machine
end

