-- ==== Sys2Proof/Laws/State.lean ====
section
/-! SUPPORT. What each field holds after each of the updates that every meaning is made of. -/

namespace Sys2Proof.Machine

/-- Raising a source while awake changes the event fabric alone (R123). -/
theorem State.raise_awake {s : State} (h : s.awake = true) (n : Nat) : s.raise n = { s with ev := s.ev.raise n s.tb } := by
  have : s.phase = .nap ∨ s.phase = .run := by simpa [State.awake] using h
  rcases this with h | h <;> simp [State.raise, h]

/-- A raise under a condition, while awake. -/
theorem State.raiseIf_awake {s : State} (h : s.awake = true) (c : Bool) (n : Nat) :
    s.raiseIf c n = { s with ev := if c then s.ev.raise n s.tb else s.ev } := by
  unfold State.raiseIf
  cases c
  · rfl
  · exact State.raise_awake h n

/-- What a jump can do: nothing, crystal periods in DOZE, or TB set. -/
theorem State.jump_cases {s : State} {d : Nat} {P : State → Prop} (h0 : P s) (h1 : ∀ n, P (s.crystal n))
    (h2 : ∀ t, P { s with tb := t }) : P (s.jump d) := by
  unfold State.jump
  split
  · split
    · exact h1 _
    · exact h2 _
  · exact h0

/-- Outside DOZE a jump to a quantum that is not behind arrives there, and moves nothing else. -/
theorem State.jump_eq {s : State} {d : Nat} (hp : s.phase ≠ .doze) (h : tbSub d s.tb ≤ 2 ^ 40) :
    s.jump d = { s with tb := d % tbMod } := by
  unfold State.jump
  rw [if_pos h, if_neg hp]

/-- A device that is awake is not in DOZE. -/
theorem State.awake_phase {s : State} (h : s.awake = true) : s.phase ≠ .doze := by
  intro hp
  simp [State.awake, hp] at h

/-- While awake a jump to a quantum that is not behind arrives there. -/
theorem State.jump_tb {s : State} {d : Nat} (ha : s.awake = true) (h : tbSub d s.tb ≤ 2 ^ 40) : (s.jump d).tb = d % tbMod := by
  rw [State.jump_eq (State.awake_phase ha) h]

variable (s : State)

/-! ### onPw -/
@[simp] theorem State.onPw_phase (f : Power → Power) : (s.onPw f).phase = s.phase := rfl
@[simp] theorem State.onPw_tb (f : Power → Power) : (s.onPw f).tb = s.tb := rfl
@[simp] theorem State.onPw_tbFrac (f : Power → Power) : (s.onPw f).tbFrac = s.tbFrac := rfl
@[simp] theorem State.onPw_free (f : Power → Power) : (s.onPw f).free = s.free := rfl
@[simp] theorem State.onPw_era (f : Power → Power) : (s.onPw f).era = s.era := rfl
@[simp] theorem State.onPw_pmrc (f : Power → Power) : (s.onPw f).pmrc = s.pmrc := rfl
@[simp] theorem State.onPw_xtalOk (f : Power → Power) : (s.onPw f).xtalOk = s.xtalOk := rfl
@[simp] theorem State.onPw_ev (f : Power → Power) : (s.onPw f).ev = s.ev := rfl
@[simp] theorem State.onPw_cal (f : Power → Power) : (s.onPw f).cal = s.cal := rfl
@[simp] theorem State.onPw_mgmt (f : Power → Power) : (s.onPw f).mgmt = s.mgmt := rfl
@[simp] theorem State.onPw_link (f : Power → Power) : (s.onPw f).link = s.link := rfl
@[simp] theorem State.onPw_rem (f : Power → Power) : (s.onPw f).rem = s.rem := rfl
@[simp] theorem State.onPw_com (f : Power → Power) : (s.onPw f).com = s.com := rfl
@[simp] theorem State.onPw_epoch (f : Power → Power) : (s.onPw f).epoch = s.epoch := rfl
@[simp] theorem State.onPw_tbc (f : Power → Power) : (s.onPw f).tbc = s.tbc := rfl
@[simp] theorem State.onPw_beatAt (f : Power → Power) : (s.onPw f).beatAt = s.beatAt := rfl
@[simp] theorem State.onPw_staged (f : Power → Power) : (s.onPw f).staged = s.staged := rfl
@[simp] theorem State.onPw_nextUid (f : Power → Power) : (s.onPw f).nextUid = s.nextUid := rfl
@[simp] theorem State.onPw_waits (f : Power → Power) : (s.onPw f).waits = s.waits := rfl
@[simp] theorem State.onPw_toApply (f : Power → Power) : (s.onPw f).toApply = s.toApply := rfl
@[simp] theorem State.onPw_applyDue (f : Power → Power) : (s.onPw f).applyDue = s.applyDue := rfl
@[simp] theorem State.onPw_groups (f : Power → Power) : (s.onPw f).groups = s.groups := rfl
@[simp] theorem State.onPw_snaps (f : Power → Power) : (s.onPw f).snaps = s.snaps := rfl
@[simp] theorem State.onPw_applied (f : Power → Power) : (s.onPw f).applied = s.applied := rfl
@[simp] theorem State.onPw_appliedVp (f : Power → Power) : (s.onPw f).appliedVp = s.appliedVp := rfl
@[simp] theorem State.onPw_latched (f : Power → Power) : (s.onPw f).latched = s.latched := rfl
@[simp] theorem State.onPw_prm (f : Power → Power) : (s.onPw f).prm = s.prm := rfl
@[simp] theorem State.onPw_sar (f : Power → Power) : (s.onPw f).sar = s.sar := rfl
@[simp] theorem State.onPw_pres (f : Power → Power) : (s.onPw f).pres = s.pres := rfl
@[simp] theorem State.onPw_vl (f : Power → Power) : (s.onPw f).vl = s.vl := rfl
@[simp] theorem State.onPw_out (f : Power → Power) : (s.onPw f).out = s.out := rfl
@[simp] theorem State.onPw_fio (f : Power → Power) : (s.onPw f).fio = s.fio := rfl
@[simp] theorem State.onPw_ilk (f : Power → Power) : (s.onPw f).ilk = s.ilk := rfl
@[simp] theorem State.onPw_svc (f : Power → Power) : (s.onPw f).svc = s.svc := rfl
@[simp] theorem State.onPw_bus (f : Power → Power) : (s.onPw f).bus = s.bus := rfl
@[simp] theorem State.onPw_pair (f : Power → Power) : (s.onPw f).pair = s.pair := rfl
@[simp] theorem State.onPw_caller (f : Power → Power) : (s.onPw f).caller = s.caller := rfl
@[simp] theorem State.onPw_unit (f : Power → Power) : (s.onPw f).unit = s.unit := rfl
@[simp] theorem State.onPw_unitStore (f : Power → Power) : (s.onPw f).unitStore = s.unitStore := rfl
@[simp] theorem State.onPw_areaA (f : Power → Power) : (s.onPw f).areaA = s.areaA := rfl
@[simp] theorem State.onPw_areaB (f : Power → Power) : (s.onPw f).areaB = s.areaB := rfl
@[simp] theorem State.onPw_cells (f : Power → Power) : (s.onPw f).cells = s.cells := rfl
@[simp] theorem State.onPw_badGroups (f : Power → Power) : (s.onPw f).badGroups = s.badGroups := rfl
@[simp] theorem State.onPw_worn (f : Power → Power) : (s.onPw f).worn = s.worn := rfl
@[simp] theorem State.onPw_unsteady (f : Power → Power) : (s.onPw f).unsteady = s.unsteady := rfl
@[simp] theorem State.onPw_store (f : Power → Power) : (s.onPw f).store = s.store := rfl
@[simp] theorem State.onPw_dsp (f : Power → Power) : (s.onPw f).dsp = s.dsp := rfl
@[simp] theorem State.onPw_keys (f : Power → Power) : (s.onPw f).keys = s.keys := rfl
@[simp] theorem State.onPw_hk (f : Power → Power) : (s.onPw f).hk = s.hk := rfl
@[simp] theorem State.onPw_aon (f : Power → Power) : (s.onPw f).aon = s.aon := rfl
@[simp] theorem State.onPw_heldAt (f : Power → Power) : (s.onPw f).heldAt = s.heldAt := rfl
@[simp] theorem State.onPw_heldRes (f : Power → Power) : (s.onPw f).heldRes = s.heldRes := rfl
@[simp] theorem State.onPw_w1cAt (f : Power → Power) : (s.onPw f).w1cAt = s.w1cAt := rfl
@[simp] theorem State.onPw_w1cNow (f : Power → Power) : (s.onPw f).w1cNow = s.w1cNow := rfl
@[simp] theorem State.onPw_pending (f : Power → Power) : (s.onPw f).pending = s.pending := rfl

/-! ### onPrm -/
@[simp] theorem State.onPrm_phase (f : Prm → Prm) : (s.onPrm f).phase = s.phase := rfl
@[simp] theorem State.onPrm_tb (f : Prm → Prm) : (s.onPrm f).tb = s.tb := rfl
@[simp] theorem State.onPrm_tbFrac (f : Prm → Prm) : (s.onPrm f).tbFrac = s.tbFrac := rfl
@[simp] theorem State.onPrm_free (f : Prm → Prm) : (s.onPrm f).free = s.free := rfl
@[simp] theorem State.onPrm_era (f : Prm → Prm) : (s.onPrm f).era = s.era := rfl
@[simp] theorem State.onPrm_pmrc (f : Prm → Prm) : (s.onPrm f).pmrc = s.pmrc := rfl
@[simp] theorem State.onPrm_xtalOk (f : Prm → Prm) : (s.onPrm f).xtalOk = s.xtalOk := rfl
@[simp] theorem State.onPrm_ev (f : Prm → Prm) : (s.onPrm f).ev = s.ev := rfl
@[simp] theorem State.onPrm_cal (f : Prm → Prm) : (s.onPrm f).cal = s.cal := rfl
@[simp] theorem State.onPrm_pw (f : Prm → Prm) : (s.onPrm f).pw = s.pw := rfl
@[simp] theorem State.onPrm_mgmt (f : Prm → Prm) : (s.onPrm f).mgmt = s.mgmt := rfl
@[simp] theorem State.onPrm_link (f : Prm → Prm) : (s.onPrm f).link = s.link := rfl
@[simp] theorem State.onPrm_rem (f : Prm → Prm) : (s.onPrm f).rem = s.rem := rfl
@[simp] theorem State.onPrm_com (f : Prm → Prm) : (s.onPrm f).com = s.com := rfl
@[simp] theorem State.onPrm_epoch (f : Prm → Prm) : (s.onPrm f).epoch = s.epoch := rfl
@[simp] theorem State.onPrm_tbc (f : Prm → Prm) : (s.onPrm f).tbc = s.tbc := rfl
@[simp] theorem State.onPrm_beatAt (f : Prm → Prm) : (s.onPrm f).beatAt = s.beatAt := rfl
@[simp] theorem State.onPrm_staged (f : Prm → Prm) : (s.onPrm f).staged = s.staged := rfl
@[simp] theorem State.onPrm_nextUid (f : Prm → Prm) : (s.onPrm f).nextUid = s.nextUid := rfl
@[simp] theorem State.onPrm_waits (f : Prm → Prm) : (s.onPrm f).waits = s.waits := rfl
@[simp] theorem State.onPrm_toApply (f : Prm → Prm) : (s.onPrm f).toApply = s.toApply := rfl
@[simp] theorem State.onPrm_applyDue (f : Prm → Prm) : (s.onPrm f).applyDue = s.applyDue := rfl
@[simp] theorem State.onPrm_groups (f : Prm → Prm) : (s.onPrm f).groups = s.groups := rfl
@[simp] theorem State.onPrm_snaps (f : Prm → Prm) : (s.onPrm f).snaps = s.snaps := rfl
@[simp] theorem State.onPrm_applied (f : Prm → Prm) : (s.onPrm f).applied = s.applied := rfl
@[simp] theorem State.onPrm_appliedVp (f : Prm → Prm) : (s.onPrm f).appliedVp = s.appliedVp := rfl
@[simp] theorem State.onPrm_latched (f : Prm → Prm) : (s.onPrm f).latched = s.latched := rfl
@[simp] theorem State.onPrm_sar (f : Prm → Prm) : (s.onPrm f).sar = s.sar := rfl
@[simp] theorem State.onPrm_pres (f : Prm → Prm) : (s.onPrm f).pres = s.pres := rfl
@[simp] theorem State.onPrm_vl (f : Prm → Prm) : (s.onPrm f).vl = s.vl := rfl
@[simp] theorem State.onPrm_out (f : Prm → Prm) : (s.onPrm f).out = s.out := rfl
@[simp] theorem State.onPrm_fio (f : Prm → Prm) : (s.onPrm f).fio = s.fio := rfl
@[simp] theorem State.onPrm_ilk (f : Prm → Prm) : (s.onPrm f).ilk = s.ilk := rfl
@[simp] theorem State.onPrm_svc (f : Prm → Prm) : (s.onPrm f).svc = s.svc := rfl
@[simp] theorem State.onPrm_bus (f : Prm → Prm) : (s.onPrm f).bus = s.bus := rfl
@[simp] theorem State.onPrm_pair (f : Prm → Prm) : (s.onPrm f).pair = s.pair := rfl
@[simp] theorem State.onPrm_caller (f : Prm → Prm) : (s.onPrm f).caller = s.caller := rfl
@[simp] theorem State.onPrm_unit (f : Prm → Prm) : (s.onPrm f).unit = s.unit := rfl
@[simp] theorem State.onPrm_unitStore (f : Prm → Prm) : (s.onPrm f).unitStore = s.unitStore := rfl
@[simp] theorem State.onPrm_areaA (f : Prm → Prm) : (s.onPrm f).areaA = s.areaA := rfl
@[simp] theorem State.onPrm_areaB (f : Prm → Prm) : (s.onPrm f).areaB = s.areaB := rfl
@[simp] theorem State.onPrm_cells (f : Prm → Prm) : (s.onPrm f).cells = s.cells := rfl
@[simp] theorem State.onPrm_badGroups (f : Prm → Prm) : (s.onPrm f).badGroups = s.badGroups := rfl
@[simp] theorem State.onPrm_worn (f : Prm → Prm) : (s.onPrm f).worn = s.worn := rfl
@[simp] theorem State.onPrm_unsteady (f : Prm → Prm) : (s.onPrm f).unsteady = s.unsteady := rfl
@[simp] theorem State.onPrm_store (f : Prm → Prm) : (s.onPrm f).store = s.store := rfl
@[simp] theorem State.onPrm_dsp (f : Prm → Prm) : (s.onPrm f).dsp = s.dsp := rfl
@[simp] theorem State.onPrm_keys (f : Prm → Prm) : (s.onPrm f).keys = s.keys := rfl
@[simp] theorem State.onPrm_hk (f : Prm → Prm) : (s.onPrm f).hk = s.hk := rfl
@[simp] theorem State.onPrm_aon (f : Prm → Prm) : (s.onPrm f).aon = s.aon := rfl
@[simp] theorem State.onPrm_heldAt (f : Prm → Prm) : (s.onPrm f).heldAt = s.heldAt := rfl
@[simp] theorem State.onPrm_heldRes (f : Prm → Prm) : (s.onPrm f).heldRes = s.heldRes := rfl
@[simp] theorem State.onPrm_w1cAt (f : Prm → Prm) : (s.onPrm f).w1cAt = s.w1cAt := rfl
@[simp] theorem State.onPrm_w1cNow (f : Prm → Prm) : (s.onPrm f).w1cNow = s.w1cNow := rfl
@[simp] theorem State.onPrm_pending (f : Prm → Prm) : (s.onPrm f).pending = s.pending := rfl

/-! ### onSar -/
@[simp] theorem State.onSar_phase (f : Sar → Sar) : (s.onSar f).phase = s.phase := rfl
@[simp] theorem State.onSar_tb (f : Sar → Sar) : (s.onSar f).tb = s.tb := rfl
@[simp] theorem State.onSar_tbFrac (f : Sar → Sar) : (s.onSar f).tbFrac = s.tbFrac := rfl
@[simp] theorem State.onSar_free (f : Sar → Sar) : (s.onSar f).free = s.free := rfl
@[simp] theorem State.onSar_era (f : Sar → Sar) : (s.onSar f).era = s.era := rfl
@[simp] theorem State.onSar_pmrc (f : Sar → Sar) : (s.onSar f).pmrc = s.pmrc := rfl
@[simp] theorem State.onSar_xtalOk (f : Sar → Sar) : (s.onSar f).xtalOk = s.xtalOk := rfl
@[simp] theorem State.onSar_ev (f : Sar → Sar) : (s.onSar f).ev = s.ev := rfl
@[simp] theorem State.onSar_cal (f : Sar → Sar) : (s.onSar f).cal = s.cal := rfl
@[simp] theorem State.onSar_pw (f : Sar → Sar) : (s.onSar f).pw = s.pw := rfl
@[simp] theorem State.onSar_mgmt (f : Sar → Sar) : (s.onSar f).mgmt = s.mgmt := rfl
@[simp] theorem State.onSar_link (f : Sar → Sar) : (s.onSar f).link = s.link := rfl
@[simp] theorem State.onSar_rem (f : Sar → Sar) : (s.onSar f).rem = s.rem := rfl
@[simp] theorem State.onSar_com (f : Sar → Sar) : (s.onSar f).com = s.com := rfl
@[simp] theorem State.onSar_epoch (f : Sar → Sar) : (s.onSar f).epoch = s.epoch := rfl
@[simp] theorem State.onSar_tbc (f : Sar → Sar) : (s.onSar f).tbc = s.tbc := rfl
@[simp] theorem State.onSar_beatAt (f : Sar → Sar) : (s.onSar f).beatAt = s.beatAt := rfl
@[simp] theorem State.onSar_staged (f : Sar → Sar) : (s.onSar f).staged = s.staged := rfl
@[simp] theorem State.onSar_nextUid (f : Sar → Sar) : (s.onSar f).nextUid = s.nextUid := rfl
@[simp] theorem State.onSar_waits (f : Sar → Sar) : (s.onSar f).waits = s.waits := rfl
@[simp] theorem State.onSar_toApply (f : Sar → Sar) : (s.onSar f).toApply = s.toApply := rfl
@[simp] theorem State.onSar_applyDue (f : Sar → Sar) : (s.onSar f).applyDue = s.applyDue := rfl
@[simp] theorem State.onSar_groups (f : Sar → Sar) : (s.onSar f).groups = s.groups := rfl
@[simp] theorem State.onSar_snaps (f : Sar → Sar) : (s.onSar f).snaps = s.snaps := rfl
@[simp] theorem State.onSar_applied (f : Sar → Sar) : (s.onSar f).applied = s.applied := rfl
@[simp] theorem State.onSar_appliedVp (f : Sar → Sar) : (s.onSar f).appliedVp = s.appliedVp := rfl
@[simp] theorem State.onSar_latched (f : Sar → Sar) : (s.onSar f).latched = s.latched := rfl
@[simp] theorem State.onSar_prm (f : Sar → Sar) : (s.onSar f).prm = s.prm := rfl
@[simp] theorem State.onSar_pres (f : Sar → Sar) : (s.onSar f).pres = s.pres := rfl
@[simp] theorem State.onSar_vl (f : Sar → Sar) : (s.onSar f).vl = s.vl := rfl
@[simp] theorem State.onSar_out (f : Sar → Sar) : (s.onSar f).out = s.out := rfl
@[simp] theorem State.onSar_fio (f : Sar → Sar) : (s.onSar f).fio = s.fio := rfl
@[simp] theorem State.onSar_ilk (f : Sar → Sar) : (s.onSar f).ilk = s.ilk := rfl
@[simp] theorem State.onSar_svc (f : Sar → Sar) : (s.onSar f).svc = s.svc := rfl
@[simp] theorem State.onSar_bus (f : Sar → Sar) : (s.onSar f).bus = s.bus := rfl
@[simp] theorem State.onSar_pair (f : Sar → Sar) : (s.onSar f).pair = s.pair := rfl
@[simp] theorem State.onSar_caller (f : Sar → Sar) : (s.onSar f).caller = s.caller := rfl
@[simp] theorem State.onSar_unit (f : Sar → Sar) : (s.onSar f).unit = s.unit := rfl
@[simp] theorem State.onSar_unitStore (f : Sar → Sar) : (s.onSar f).unitStore = s.unitStore := rfl
@[simp] theorem State.onSar_areaA (f : Sar → Sar) : (s.onSar f).areaA = s.areaA := rfl
@[simp] theorem State.onSar_areaB (f : Sar → Sar) : (s.onSar f).areaB = s.areaB := rfl
@[simp] theorem State.onSar_cells (f : Sar → Sar) : (s.onSar f).cells = s.cells := rfl
@[simp] theorem State.onSar_badGroups (f : Sar → Sar) : (s.onSar f).badGroups = s.badGroups := rfl
@[simp] theorem State.onSar_worn (f : Sar → Sar) : (s.onSar f).worn = s.worn := rfl
@[simp] theorem State.onSar_unsteady (f : Sar → Sar) : (s.onSar f).unsteady = s.unsteady := rfl
@[simp] theorem State.onSar_store (f : Sar → Sar) : (s.onSar f).store = s.store := rfl
@[simp] theorem State.onSar_dsp (f : Sar → Sar) : (s.onSar f).dsp = s.dsp := rfl
@[simp] theorem State.onSar_keys (f : Sar → Sar) : (s.onSar f).keys = s.keys := rfl
@[simp] theorem State.onSar_hk (f : Sar → Sar) : (s.onSar f).hk = s.hk := rfl
@[simp] theorem State.onSar_aon (f : Sar → Sar) : (s.onSar f).aon = s.aon := rfl
@[simp] theorem State.onSar_heldAt (f : Sar → Sar) : (s.onSar f).heldAt = s.heldAt := rfl
@[simp] theorem State.onSar_heldRes (f : Sar → Sar) : (s.onSar f).heldRes = s.heldRes := rfl
@[simp] theorem State.onSar_w1cAt (f : Sar → Sar) : (s.onSar f).w1cAt = s.w1cAt := rfl
@[simp] theorem State.onSar_w1cNow (f : Sar → Sar) : (s.onSar f).w1cNow = s.w1cNow := rfl
@[simp] theorem State.onSar_pending (f : Sar → Sar) : (s.onSar f).pending = s.pending := rfl

/-! ### onSeq -/
@[simp] theorem State.onSeq_phase (k : Nat) (f : SarSeq → SarSeq) : (s.onSeq k f).phase = s.phase := rfl
@[simp] theorem State.onSeq_tb (k : Nat) (f : SarSeq → SarSeq) : (s.onSeq k f).tb = s.tb := rfl
@[simp] theorem State.onSeq_tbFrac (k : Nat) (f : SarSeq → SarSeq) : (s.onSeq k f).tbFrac = s.tbFrac := rfl
@[simp] theorem State.onSeq_free (k : Nat) (f : SarSeq → SarSeq) : (s.onSeq k f).free = s.free := rfl
@[simp] theorem State.onSeq_era (k : Nat) (f : SarSeq → SarSeq) : (s.onSeq k f).era = s.era := rfl
@[simp] theorem State.onSeq_pmrc (k : Nat) (f : SarSeq → SarSeq) : (s.onSeq k f).pmrc = s.pmrc := rfl
@[simp] theorem State.onSeq_xtalOk (k : Nat) (f : SarSeq → SarSeq) : (s.onSeq k f).xtalOk = s.xtalOk := rfl
@[simp] theorem State.onSeq_ev (k : Nat) (f : SarSeq → SarSeq) : (s.onSeq k f).ev = s.ev := rfl
@[simp] theorem State.onSeq_cal (k : Nat) (f : SarSeq → SarSeq) : (s.onSeq k f).cal = s.cal := rfl
@[simp] theorem State.onSeq_pw (k : Nat) (f : SarSeq → SarSeq) : (s.onSeq k f).pw = s.pw := rfl
@[simp] theorem State.onSeq_mgmt (k : Nat) (f : SarSeq → SarSeq) : (s.onSeq k f).mgmt = s.mgmt := rfl
@[simp] theorem State.onSeq_link (k : Nat) (f : SarSeq → SarSeq) : (s.onSeq k f).link = s.link := rfl
@[simp] theorem State.onSeq_rem (k : Nat) (f : SarSeq → SarSeq) : (s.onSeq k f).rem = s.rem := rfl
@[simp] theorem State.onSeq_com (k : Nat) (f : SarSeq → SarSeq) : (s.onSeq k f).com = s.com := rfl
@[simp] theorem State.onSeq_epoch (k : Nat) (f : SarSeq → SarSeq) : (s.onSeq k f).epoch = s.epoch := rfl
@[simp] theorem State.onSeq_tbc (k : Nat) (f : SarSeq → SarSeq) : (s.onSeq k f).tbc = s.tbc := rfl
@[simp] theorem State.onSeq_beatAt (k : Nat) (f : SarSeq → SarSeq) : (s.onSeq k f).beatAt = s.beatAt := rfl
@[simp] theorem State.onSeq_staged (k : Nat) (f : SarSeq → SarSeq) : (s.onSeq k f).staged = s.staged := rfl
@[simp] theorem State.onSeq_nextUid (k : Nat) (f : SarSeq → SarSeq) : (s.onSeq k f).nextUid = s.nextUid := rfl
@[simp] theorem State.onSeq_waits (k : Nat) (f : SarSeq → SarSeq) : (s.onSeq k f).waits = s.waits := rfl
@[simp] theorem State.onSeq_toApply (k : Nat) (f : SarSeq → SarSeq) : (s.onSeq k f).toApply = s.toApply := rfl
@[simp] theorem State.onSeq_applyDue (k : Nat) (f : SarSeq → SarSeq) : (s.onSeq k f).applyDue = s.applyDue := rfl
@[simp] theorem State.onSeq_groups (k : Nat) (f : SarSeq → SarSeq) : (s.onSeq k f).groups = s.groups := rfl
@[simp] theorem State.onSeq_snaps (k : Nat) (f : SarSeq → SarSeq) : (s.onSeq k f).snaps = s.snaps := rfl
@[simp] theorem State.onSeq_applied (k : Nat) (f : SarSeq → SarSeq) : (s.onSeq k f).applied = s.applied := rfl
@[simp] theorem State.onSeq_appliedVp (k : Nat) (f : SarSeq → SarSeq) : (s.onSeq k f).appliedVp = s.appliedVp := rfl
@[simp] theorem State.onSeq_latched (k : Nat) (f : SarSeq → SarSeq) : (s.onSeq k f).latched = s.latched := rfl
@[simp] theorem State.onSeq_prm (k : Nat) (f : SarSeq → SarSeq) : (s.onSeq k f).prm = s.prm := rfl
@[simp] theorem State.onSeq_pres (k : Nat) (f : SarSeq → SarSeq) : (s.onSeq k f).pres = s.pres := rfl
@[simp] theorem State.onSeq_vl (k : Nat) (f : SarSeq → SarSeq) : (s.onSeq k f).vl = s.vl := rfl
@[simp] theorem State.onSeq_out (k : Nat) (f : SarSeq → SarSeq) : (s.onSeq k f).out = s.out := rfl
@[simp] theorem State.onSeq_fio (k : Nat) (f : SarSeq → SarSeq) : (s.onSeq k f).fio = s.fio := rfl
@[simp] theorem State.onSeq_ilk (k : Nat) (f : SarSeq → SarSeq) : (s.onSeq k f).ilk = s.ilk := rfl
@[simp] theorem State.onSeq_svc (k : Nat) (f : SarSeq → SarSeq) : (s.onSeq k f).svc = s.svc := rfl
@[simp] theorem State.onSeq_bus (k : Nat) (f : SarSeq → SarSeq) : (s.onSeq k f).bus = s.bus := rfl
@[simp] theorem State.onSeq_pair (k : Nat) (f : SarSeq → SarSeq) : (s.onSeq k f).pair = s.pair := rfl
@[simp] theorem State.onSeq_caller (k : Nat) (f : SarSeq → SarSeq) : (s.onSeq k f).caller = s.caller := rfl
@[simp] theorem State.onSeq_unit (k : Nat) (f : SarSeq → SarSeq) : (s.onSeq k f).unit = s.unit := rfl
@[simp] theorem State.onSeq_unitStore (k : Nat) (f : SarSeq → SarSeq) : (s.onSeq k f).unitStore = s.unitStore := rfl
@[simp] theorem State.onSeq_areaA (k : Nat) (f : SarSeq → SarSeq) : (s.onSeq k f).areaA = s.areaA := rfl
@[simp] theorem State.onSeq_areaB (k : Nat) (f : SarSeq → SarSeq) : (s.onSeq k f).areaB = s.areaB := rfl
@[simp] theorem State.onSeq_cells (k : Nat) (f : SarSeq → SarSeq) : (s.onSeq k f).cells = s.cells := rfl
@[simp] theorem State.onSeq_badGroups (k : Nat) (f : SarSeq → SarSeq) : (s.onSeq k f).badGroups = s.badGroups := rfl
@[simp] theorem State.onSeq_worn (k : Nat) (f : SarSeq → SarSeq) : (s.onSeq k f).worn = s.worn := rfl
@[simp] theorem State.onSeq_unsteady (k : Nat) (f : SarSeq → SarSeq) : (s.onSeq k f).unsteady = s.unsteady := rfl
@[simp] theorem State.onSeq_store (k : Nat) (f : SarSeq → SarSeq) : (s.onSeq k f).store = s.store := rfl
@[simp] theorem State.onSeq_dsp (k : Nat) (f : SarSeq → SarSeq) : (s.onSeq k f).dsp = s.dsp := rfl
@[simp] theorem State.onSeq_keys (k : Nat) (f : SarSeq → SarSeq) : (s.onSeq k f).keys = s.keys := rfl
@[simp] theorem State.onSeq_hk (k : Nat) (f : SarSeq → SarSeq) : (s.onSeq k f).hk = s.hk := rfl
@[simp] theorem State.onSeq_aon (k : Nat) (f : SarSeq → SarSeq) : (s.onSeq k f).aon = s.aon := rfl
@[simp] theorem State.onSeq_heldAt (k : Nat) (f : SarSeq → SarSeq) : (s.onSeq k f).heldAt = s.heldAt := rfl
@[simp] theorem State.onSeq_heldRes (k : Nat) (f : SarSeq → SarSeq) : (s.onSeq k f).heldRes = s.heldRes := rfl
@[simp] theorem State.onSeq_w1cAt (k : Nat) (f : SarSeq → SarSeq) : (s.onSeq k f).w1cAt = s.w1cAt := rfl
@[simp] theorem State.onSeq_w1cNow (k : Nat) (f : SarSeq → SarSeq) : (s.onSeq k f).w1cNow = s.w1cNow := rfl
@[simp] theorem State.onSeq_pending (k : Nat) (f : SarSeq → SarSeq) : (s.onSeq k f).pending = s.pending := rfl

/-! ### onPr -/
@[simp] theorem State.onPr_phase (n : Nat) (f : PrChan → PrChan) : (s.onPr n f).phase = s.phase := rfl
@[simp] theorem State.onPr_tb (n : Nat) (f : PrChan → PrChan) : (s.onPr n f).tb = s.tb := rfl
@[simp] theorem State.onPr_tbFrac (n : Nat) (f : PrChan → PrChan) : (s.onPr n f).tbFrac = s.tbFrac := rfl
@[simp] theorem State.onPr_free (n : Nat) (f : PrChan → PrChan) : (s.onPr n f).free = s.free := rfl
@[simp] theorem State.onPr_era (n : Nat) (f : PrChan → PrChan) : (s.onPr n f).era = s.era := rfl
@[simp] theorem State.onPr_pmrc (n : Nat) (f : PrChan → PrChan) : (s.onPr n f).pmrc = s.pmrc := rfl
@[simp] theorem State.onPr_xtalOk (n : Nat) (f : PrChan → PrChan) : (s.onPr n f).xtalOk = s.xtalOk := rfl
@[simp] theorem State.onPr_ev (n : Nat) (f : PrChan → PrChan) : (s.onPr n f).ev = s.ev := rfl
@[simp] theorem State.onPr_cal (n : Nat) (f : PrChan → PrChan) : (s.onPr n f).cal = s.cal := rfl
@[simp] theorem State.onPr_pw (n : Nat) (f : PrChan → PrChan) : (s.onPr n f).pw = s.pw := rfl
@[simp] theorem State.onPr_mgmt (n : Nat) (f : PrChan → PrChan) : (s.onPr n f).mgmt = s.mgmt := rfl
@[simp] theorem State.onPr_link (n : Nat) (f : PrChan → PrChan) : (s.onPr n f).link = s.link := rfl
@[simp] theorem State.onPr_rem (n : Nat) (f : PrChan → PrChan) : (s.onPr n f).rem = s.rem := rfl
@[simp] theorem State.onPr_com (n : Nat) (f : PrChan → PrChan) : (s.onPr n f).com = s.com := rfl
@[simp] theorem State.onPr_epoch (n : Nat) (f : PrChan → PrChan) : (s.onPr n f).epoch = s.epoch := rfl
@[simp] theorem State.onPr_tbc (n : Nat) (f : PrChan → PrChan) : (s.onPr n f).tbc = s.tbc := rfl
@[simp] theorem State.onPr_beatAt (n : Nat) (f : PrChan → PrChan) : (s.onPr n f).beatAt = s.beatAt := rfl
@[simp] theorem State.onPr_staged (n : Nat) (f : PrChan → PrChan) : (s.onPr n f).staged = s.staged := rfl
@[simp] theorem State.onPr_nextUid (n : Nat) (f : PrChan → PrChan) : (s.onPr n f).nextUid = s.nextUid := rfl
@[simp] theorem State.onPr_waits (n : Nat) (f : PrChan → PrChan) : (s.onPr n f).waits = s.waits := rfl
@[simp] theorem State.onPr_toApply (n : Nat) (f : PrChan → PrChan) : (s.onPr n f).toApply = s.toApply := rfl
@[simp] theorem State.onPr_applyDue (n : Nat) (f : PrChan → PrChan) : (s.onPr n f).applyDue = s.applyDue := rfl
@[simp] theorem State.onPr_groups (n : Nat) (f : PrChan → PrChan) : (s.onPr n f).groups = s.groups := rfl
@[simp] theorem State.onPr_snaps (n : Nat) (f : PrChan → PrChan) : (s.onPr n f).snaps = s.snaps := rfl
@[simp] theorem State.onPr_applied (n : Nat) (f : PrChan → PrChan) : (s.onPr n f).applied = s.applied := rfl
@[simp] theorem State.onPr_appliedVp (n : Nat) (f : PrChan → PrChan) : (s.onPr n f).appliedVp = s.appliedVp := rfl
@[simp] theorem State.onPr_latched (n : Nat) (f : PrChan → PrChan) : (s.onPr n f).latched = s.latched := rfl
@[simp] theorem State.onPr_prm (n : Nat) (f : PrChan → PrChan) : (s.onPr n f).prm = s.prm := rfl
@[simp] theorem State.onPr_sar (n : Nat) (f : PrChan → PrChan) : (s.onPr n f).sar = s.sar := rfl
@[simp] theorem State.onPr_vl (n : Nat) (f : PrChan → PrChan) : (s.onPr n f).vl = s.vl := rfl
@[simp] theorem State.onPr_out (n : Nat) (f : PrChan → PrChan) : (s.onPr n f).out = s.out := rfl
@[simp] theorem State.onPr_fio (n : Nat) (f : PrChan → PrChan) : (s.onPr n f).fio = s.fio := rfl
@[simp] theorem State.onPr_ilk (n : Nat) (f : PrChan → PrChan) : (s.onPr n f).ilk = s.ilk := rfl
@[simp] theorem State.onPr_svc (n : Nat) (f : PrChan → PrChan) : (s.onPr n f).svc = s.svc := rfl
@[simp] theorem State.onPr_bus (n : Nat) (f : PrChan → PrChan) : (s.onPr n f).bus = s.bus := rfl
@[simp] theorem State.onPr_pair (n : Nat) (f : PrChan → PrChan) : (s.onPr n f).pair = s.pair := rfl
@[simp] theorem State.onPr_caller (n : Nat) (f : PrChan → PrChan) : (s.onPr n f).caller = s.caller := rfl
@[simp] theorem State.onPr_unit (n : Nat) (f : PrChan → PrChan) : (s.onPr n f).unit = s.unit := rfl
@[simp] theorem State.onPr_unitStore (n : Nat) (f : PrChan → PrChan) : (s.onPr n f).unitStore = s.unitStore := rfl
@[simp] theorem State.onPr_areaA (n : Nat) (f : PrChan → PrChan) : (s.onPr n f).areaA = s.areaA := rfl
@[simp] theorem State.onPr_areaB (n : Nat) (f : PrChan → PrChan) : (s.onPr n f).areaB = s.areaB := rfl
@[simp] theorem State.onPr_cells (n : Nat) (f : PrChan → PrChan) : (s.onPr n f).cells = s.cells := rfl
@[simp] theorem State.onPr_badGroups (n : Nat) (f : PrChan → PrChan) : (s.onPr n f).badGroups = s.badGroups := rfl
@[simp] theorem State.onPr_worn (n : Nat) (f : PrChan → PrChan) : (s.onPr n f).worn = s.worn := rfl
@[simp] theorem State.onPr_unsteady (n : Nat) (f : PrChan → PrChan) : (s.onPr n f).unsteady = s.unsteady := rfl
@[simp] theorem State.onPr_store (n : Nat) (f : PrChan → PrChan) : (s.onPr n f).store = s.store := rfl
@[simp] theorem State.onPr_dsp (n : Nat) (f : PrChan → PrChan) : (s.onPr n f).dsp = s.dsp := rfl
@[simp] theorem State.onPr_keys (n : Nat) (f : PrChan → PrChan) : (s.onPr n f).keys = s.keys := rfl
@[simp] theorem State.onPr_hk (n : Nat) (f : PrChan → PrChan) : (s.onPr n f).hk = s.hk := rfl
@[simp] theorem State.onPr_aon (n : Nat) (f : PrChan → PrChan) : (s.onPr n f).aon = s.aon := rfl
@[simp] theorem State.onPr_heldAt (n : Nat) (f : PrChan → PrChan) : (s.onPr n f).heldAt = s.heldAt := rfl
@[simp] theorem State.onPr_heldRes (n : Nat) (f : PrChan → PrChan) : (s.onPr n f).heldRes = s.heldRes := rfl
@[simp] theorem State.onPr_w1cAt (n : Nat) (f : PrChan → PrChan) : (s.onPr n f).w1cAt = s.w1cAt := rfl
@[simp] theorem State.onPr_w1cNow (n : Nat) (f : PrChan → PrChan) : (s.onPr n f).w1cNow = s.w1cNow := rfl
@[simp] theorem State.onPr_pending (n : Nat) (f : PrChan → PrChan) : (s.onPr n f).pending = s.pending := rfl

/-! ### onVl -/
@[simp] theorem State.onVl_phase (n : Nat) (f : VlChan → VlChan) : (s.onVl n f).phase = s.phase := rfl
@[simp] theorem State.onVl_tb (n : Nat) (f : VlChan → VlChan) : (s.onVl n f).tb = s.tb := rfl
@[simp] theorem State.onVl_tbFrac (n : Nat) (f : VlChan → VlChan) : (s.onVl n f).tbFrac = s.tbFrac := rfl
@[simp] theorem State.onVl_free (n : Nat) (f : VlChan → VlChan) : (s.onVl n f).free = s.free := rfl
@[simp] theorem State.onVl_era (n : Nat) (f : VlChan → VlChan) : (s.onVl n f).era = s.era := rfl
@[simp] theorem State.onVl_pmrc (n : Nat) (f : VlChan → VlChan) : (s.onVl n f).pmrc = s.pmrc := rfl
@[simp] theorem State.onVl_xtalOk (n : Nat) (f : VlChan → VlChan) : (s.onVl n f).xtalOk = s.xtalOk := rfl
@[simp] theorem State.onVl_ev (n : Nat) (f : VlChan → VlChan) : (s.onVl n f).ev = s.ev := rfl
@[simp] theorem State.onVl_cal (n : Nat) (f : VlChan → VlChan) : (s.onVl n f).cal = s.cal := rfl
@[simp] theorem State.onVl_pw (n : Nat) (f : VlChan → VlChan) : (s.onVl n f).pw = s.pw := rfl
@[simp] theorem State.onVl_mgmt (n : Nat) (f : VlChan → VlChan) : (s.onVl n f).mgmt = s.mgmt := rfl
@[simp] theorem State.onVl_link (n : Nat) (f : VlChan → VlChan) : (s.onVl n f).link = s.link := rfl
@[simp] theorem State.onVl_rem (n : Nat) (f : VlChan → VlChan) : (s.onVl n f).rem = s.rem := rfl
@[simp] theorem State.onVl_com (n : Nat) (f : VlChan → VlChan) : (s.onVl n f).com = s.com := rfl
@[simp] theorem State.onVl_epoch (n : Nat) (f : VlChan → VlChan) : (s.onVl n f).epoch = s.epoch := rfl
@[simp] theorem State.onVl_tbc (n : Nat) (f : VlChan → VlChan) : (s.onVl n f).tbc = s.tbc := rfl
@[simp] theorem State.onVl_beatAt (n : Nat) (f : VlChan → VlChan) : (s.onVl n f).beatAt = s.beatAt := rfl
@[simp] theorem State.onVl_staged (n : Nat) (f : VlChan → VlChan) : (s.onVl n f).staged = s.staged := rfl
@[simp] theorem State.onVl_nextUid (n : Nat) (f : VlChan → VlChan) : (s.onVl n f).nextUid = s.nextUid := rfl
@[simp] theorem State.onVl_waits (n : Nat) (f : VlChan → VlChan) : (s.onVl n f).waits = s.waits := rfl
@[simp] theorem State.onVl_toApply (n : Nat) (f : VlChan → VlChan) : (s.onVl n f).toApply = s.toApply := rfl
@[simp] theorem State.onVl_applyDue (n : Nat) (f : VlChan → VlChan) : (s.onVl n f).applyDue = s.applyDue := rfl
@[simp] theorem State.onVl_groups (n : Nat) (f : VlChan → VlChan) : (s.onVl n f).groups = s.groups := rfl
@[simp] theorem State.onVl_snaps (n : Nat) (f : VlChan → VlChan) : (s.onVl n f).snaps = s.snaps := rfl
@[simp] theorem State.onVl_applied (n : Nat) (f : VlChan → VlChan) : (s.onVl n f).applied = s.applied := rfl
@[simp] theorem State.onVl_appliedVp (n : Nat) (f : VlChan → VlChan) : (s.onVl n f).appliedVp = s.appliedVp := rfl
@[simp] theorem State.onVl_latched (n : Nat) (f : VlChan → VlChan) : (s.onVl n f).latched = s.latched := rfl
@[simp] theorem State.onVl_prm (n : Nat) (f : VlChan → VlChan) : (s.onVl n f).prm = s.prm := rfl
@[simp] theorem State.onVl_sar (n : Nat) (f : VlChan → VlChan) : (s.onVl n f).sar = s.sar := rfl
@[simp] theorem State.onVl_pres (n : Nat) (f : VlChan → VlChan) : (s.onVl n f).pres = s.pres := rfl
@[simp] theorem State.onVl_out (n : Nat) (f : VlChan → VlChan) : (s.onVl n f).out = s.out := rfl
@[simp] theorem State.onVl_fio (n : Nat) (f : VlChan → VlChan) : (s.onVl n f).fio = s.fio := rfl
@[simp] theorem State.onVl_ilk (n : Nat) (f : VlChan → VlChan) : (s.onVl n f).ilk = s.ilk := rfl
@[simp] theorem State.onVl_svc (n : Nat) (f : VlChan → VlChan) : (s.onVl n f).svc = s.svc := rfl
@[simp] theorem State.onVl_bus (n : Nat) (f : VlChan → VlChan) : (s.onVl n f).bus = s.bus := rfl
@[simp] theorem State.onVl_pair (n : Nat) (f : VlChan → VlChan) : (s.onVl n f).pair = s.pair := rfl
@[simp] theorem State.onVl_caller (n : Nat) (f : VlChan → VlChan) : (s.onVl n f).caller = s.caller := rfl
@[simp] theorem State.onVl_unit (n : Nat) (f : VlChan → VlChan) : (s.onVl n f).unit = s.unit := rfl
@[simp] theorem State.onVl_unitStore (n : Nat) (f : VlChan → VlChan) : (s.onVl n f).unitStore = s.unitStore := rfl
@[simp] theorem State.onVl_areaA (n : Nat) (f : VlChan → VlChan) : (s.onVl n f).areaA = s.areaA := rfl
@[simp] theorem State.onVl_areaB (n : Nat) (f : VlChan → VlChan) : (s.onVl n f).areaB = s.areaB := rfl
@[simp] theorem State.onVl_cells (n : Nat) (f : VlChan → VlChan) : (s.onVl n f).cells = s.cells := rfl
@[simp] theorem State.onVl_badGroups (n : Nat) (f : VlChan → VlChan) : (s.onVl n f).badGroups = s.badGroups := rfl
@[simp] theorem State.onVl_worn (n : Nat) (f : VlChan → VlChan) : (s.onVl n f).worn = s.worn := rfl
@[simp] theorem State.onVl_unsteady (n : Nat) (f : VlChan → VlChan) : (s.onVl n f).unsteady = s.unsteady := rfl
@[simp] theorem State.onVl_store (n : Nat) (f : VlChan → VlChan) : (s.onVl n f).store = s.store := rfl
@[simp] theorem State.onVl_dsp (n : Nat) (f : VlChan → VlChan) : (s.onVl n f).dsp = s.dsp := rfl
@[simp] theorem State.onVl_keys (n : Nat) (f : VlChan → VlChan) : (s.onVl n f).keys = s.keys := rfl
@[simp] theorem State.onVl_hk (n : Nat) (f : VlChan → VlChan) : (s.onVl n f).hk = s.hk := rfl
@[simp] theorem State.onVl_aon (n : Nat) (f : VlChan → VlChan) : (s.onVl n f).aon = s.aon := rfl
@[simp] theorem State.onVl_heldAt (n : Nat) (f : VlChan → VlChan) : (s.onVl n f).heldAt = s.heldAt := rfl
@[simp] theorem State.onVl_heldRes (n : Nat) (f : VlChan → VlChan) : (s.onVl n f).heldRes = s.heldRes := rfl
@[simp] theorem State.onVl_w1cAt (n : Nat) (f : VlChan → VlChan) : (s.onVl n f).w1cAt = s.w1cAt := rfl
@[simp] theorem State.onVl_w1cNow (n : Nat) (f : VlChan → VlChan) : (s.onVl n f).w1cNow = s.w1cNow := rfl
@[simp] theorem State.onVl_pending (n : Nat) (f : VlChan → VlChan) : (s.onVl n f).pending = s.pending := rfl

/-! ### onBank -/
@[simp] theorem State.onBank_phase (b : Nat) (f : VlBank → VlBank) : (s.onBank b f).phase = s.phase := rfl
@[simp] theorem State.onBank_tb (b : Nat) (f : VlBank → VlBank) : (s.onBank b f).tb = s.tb := rfl
@[simp] theorem State.onBank_tbFrac (b : Nat) (f : VlBank → VlBank) : (s.onBank b f).tbFrac = s.tbFrac := rfl
@[simp] theorem State.onBank_free (b : Nat) (f : VlBank → VlBank) : (s.onBank b f).free = s.free := rfl
@[simp] theorem State.onBank_era (b : Nat) (f : VlBank → VlBank) : (s.onBank b f).era = s.era := rfl
@[simp] theorem State.onBank_pmrc (b : Nat) (f : VlBank → VlBank) : (s.onBank b f).pmrc = s.pmrc := rfl
@[simp] theorem State.onBank_xtalOk (b : Nat) (f : VlBank → VlBank) : (s.onBank b f).xtalOk = s.xtalOk := rfl
@[simp] theorem State.onBank_ev (b : Nat) (f : VlBank → VlBank) : (s.onBank b f).ev = s.ev := rfl
@[simp] theorem State.onBank_cal (b : Nat) (f : VlBank → VlBank) : (s.onBank b f).cal = s.cal := rfl
@[simp] theorem State.onBank_pw (b : Nat) (f : VlBank → VlBank) : (s.onBank b f).pw = s.pw := rfl
@[simp] theorem State.onBank_mgmt (b : Nat) (f : VlBank → VlBank) : (s.onBank b f).mgmt = s.mgmt := rfl
@[simp] theorem State.onBank_link (b : Nat) (f : VlBank → VlBank) : (s.onBank b f).link = s.link := rfl
@[simp] theorem State.onBank_rem (b : Nat) (f : VlBank → VlBank) : (s.onBank b f).rem = s.rem := rfl
@[simp] theorem State.onBank_com (b : Nat) (f : VlBank → VlBank) : (s.onBank b f).com = s.com := rfl
@[simp] theorem State.onBank_epoch (b : Nat) (f : VlBank → VlBank) : (s.onBank b f).epoch = s.epoch := rfl
@[simp] theorem State.onBank_tbc (b : Nat) (f : VlBank → VlBank) : (s.onBank b f).tbc = s.tbc := rfl
@[simp] theorem State.onBank_beatAt (b : Nat) (f : VlBank → VlBank) : (s.onBank b f).beatAt = s.beatAt := rfl
@[simp] theorem State.onBank_staged (b : Nat) (f : VlBank → VlBank) : (s.onBank b f).staged = s.staged := rfl
@[simp] theorem State.onBank_nextUid (b : Nat) (f : VlBank → VlBank) : (s.onBank b f).nextUid = s.nextUid := rfl
@[simp] theorem State.onBank_waits (b : Nat) (f : VlBank → VlBank) : (s.onBank b f).waits = s.waits := rfl
@[simp] theorem State.onBank_toApply (b : Nat) (f : VlBank → VlBank) : (s.onBank b f).toApply = s.toApply := rfl
@[simp] theorem State.onBank_applyDue (b : Nat) (f : VlBank → VlBank) : (s.onBank b f).applyDue = s.applyDue := rfl
@[simp] theorem State.onBank_groups (b : Nat) (f : VlBank → VlBank) : (s.onBank b f).groups = s.groups := rfl
@[simp] theorem State.onBank_snaps (b : Nat) (f : VlBank → VlBank) : (s.onBank b f).snaps = s.snaps := rfl
@[simp] theorem State.onBank_applied (b : Nat) (f : VlBank → VlBank) : (s.onBank b f).applied = s.applied := rfl
@[simp] theorem State.onBank_appliedVp (b : Nat) (f : VlBank → VlBank) : (s.onBank b f).appliedVp = s.appliedVp := rfl
@[simp] theorem State.onBank_latched (b : Nat) (f : VlBank → VlBank) : (s.onBank b f).latched = s.latched := rfl
@[simp] theorem State.onBank_prm (b : Nat) (f : VlBank → VlBank) : (s.onBank b f).prm = s.prm := rfl
@[simp] theorem State.onBank_sar (b : Nat) (f : VlBank → VlBank) : (s.onBank b f).sar = s.sar := rfl
@[simp] theorem State.onBank_pres (b : Nat) (f : VlBank → VlBank) : (s.onBank b f).pres = s.pres := rfl
@[simp] theorem State.onBank_out (b : Nat) (f : VlBank → VlBank) : (s.onBank b f).out = s.out := rfl
@[simp] theorem State.onBank_fio (b : Nat) (f : VlBank → VlBank) : (s.onBank b f).fio = s.fio := rfl
@[simp] theorem State.onBank_ilk (b : Nat) (f : VlBank → VlBank) : (s.onBank b f).ilk = s.ilk := rfl
@[simp] theorem State.onBank_svc (b : Nat) (f : VlBank → VlBank) : (s.onBank b f).svc = s.svc := rfl
@[simp] theorem State.onBank_bus (b : Nat) (f : VlBank → VlBank) : (s.onBank b f).bus = s.bus := rfl
@[simp] theorem State.onBank_pair (b : Nat) (f : VlBank → VlBank) : (s.onBank b f).pair = s.pair := rfl
@[simp] theorem State.onBank_caller (b : Nat) (f : VlBank → VlBank) : (s.onBank b f).caller = s.caller := rfl
@[simp] theorem State.onBank_unit (b : Nat) (f : VlBank → VlBank) : (s.onBank b f).unit = s.unit := rfl
@[simp] theorem State.onBank_unitStore (b : Nat) (f : VlBank → VlBank) : (s.onBank b f).unitStore = s.unitStore := rfl
@[simp] theorem State.onBank_areaA (b : Nat) (f : VlBank → VlBank) : (s.onBank b f).areaA = s.areaA := rfl
@[simp] theorem State.onBank_areaB (b : Nat) (f : VlBank → VlBank) : (s.onBank b f).areaB = s.areaB := rfl
@[simp] theorem State.onBank_cells (b : Nat) (f : VlBank → VlBank) : (s.onBank b f).cells = s.cells := rfl
@[simp] theorem State.onBank_badGroups (b : Nat) (f : VlBank → VlBank) : (s.onBank b f).badGroups = s.badGroups := rfl
@[simp] theorem State.onBank_worn (b : Nat) (f : VlBank → VlBank) : (s.onBank b f).worn = s.worn := rfl
@[simp] theorem State.onBank_unsteady (b : Nat) (f : VlBank → VlBank) : (s.onBank b f).unsteady = s.unsteady := rfl
@[simp] theorem State.onBank_store (b : Nat) (f : VlBank → VlBank) : (s.onBank b f).store = s.store := rfl
@[simp] theorem State.onBank_dsp (b : Nat) (f : VlBank → VlBank) : (s.onBank b f).dsp = s.dsp := rfl
@[simp] theorem State.onBank_keys (b : Nat) (f : VlBank → VlBank) : (s.onBank b f).keys = s.keys := rfl
@[simp] theorem State.onBank_hk (b : Nat) (f : VlBank → VlBank) : (s.onBank b f).hk = s.hk := rfl
@[simp] theorem State.onBank_aon (b : Nat) (f : VlBank → VlBank) : (s.onBank b f).aon = s.aon := rfl
@[simp] theorem State.onBank_heldAt (b : Nat) (f : VlBank → VlBank) : (s.onBank b f).heldAt = s.heldAt := rfl
@[simp] theorem State.onBank_heldRes (b : Nat) (f : VlBank → VlBank) : (s.onBank b f).heldRes = s.heldRes := rfl
@[simp] theorem State.onBank_w1cAt (b : Nat) (f : VlBank → VlBank) : (s.onBank b f).w1cAt = s.w1cAt := rfl
@[simp] theorem State.onBank_w1cNow (b : Nat) (f : VlBank → VlBank) : (s.onBank b f).w1cNow = s.w1cNow := rfl
@[simp] theorem State.onBank_pending (b : Nat) (f : VlBank → VlBank) : (s.onBank b f).pending = s.pending := rfl

/-! ### onAo -/
@[simp] theorem State.onAo_phase (n : Nat) (f : AoChan → AoChan) : (s.onAo n f).phase = s.phase := rfl
@[simp] theorem State.onAo_tb (n : Nat) (f : AoChan → AoChan) : (s.onAo n f).tb = s.tb := rfl
@[simp] theorem State.onAo_tbFrac (n : Nat) (f : AoChan → AoChan) : (s.onAo n f).tbFrac = s.tbFrac := rfl
@[simp] theorem State.onAo_free (n : Nat) (f : AoChan → AoChan) : (s.onAo n f).free = s.free := rfl
@[simp] theorem State.onAo_era (n : Nat) (f : AoChan → AoChan) : (s.onAo n f).era = s.era := rfl
@[simp] theorem State.onAo_pmrc (n : Nat) (f : AoChan → AoChan) : (s.onAo n f).pmrc = s.pmrc := rfl
@[simp] theorem State.onAo_xtalOk (n : Nat) (f : AoChan → AoChan) : (s.onAo n f).xtalOk = s.xtalOk := rfl
@[simp] theorem State.onAo_ev (n : Nat) (f : AoChan → AoChan) : (s.onAo n f).ev = s.ev := rfl
@[simp] theorem State.onAo_cal (n : Nat) (f : AoChan → AoChan) : (s.onAo n f).cal = s.cal := rfl
@[simp] theorem State.onAo_pw (n : Nat) (f : AoChan → AoChan) : (s.onAo n f).pw = s.pw := rfl
@[simp] theorem State.onAo_mgmt (n : Nat) (f : AoChan → AoChan) : (s.onAo n f).mgmt = s.mgmt := rfl
@[simp] theorem State.onAo_link (n : Nat) (f : AoChan → AoChan) : (s.onAo n f).link = s.link := rfl
@[simp] theorem State.onAo_rem (n : Nat) (f : AoChan → AoChan) : (s.onAo n f).rem = s.rem := rfl
@[simp] theorem State.onAo_com (n : Nat) (f : AoChan → AoChan) : (s.onAo n f).com = s.com := rfl
@[simp] theorem State.onAo_epoch (n : Nat) (f : AoChan → AoChan) : (s.onAo n f).epoch = s.epoch := rfl
@[simp] theorem State.onAo_tbc (n : Nat) (f : AoChan → AoChan) : (s.onAo n f).tbc = s.tbc := rfl
@[simp] theorem State.onAo_beatAt (n : Nat) (f : AoChan → AoChan) : (s.onAo n f).beatAt = s.beatAt := rfl
@[simp] theorem State.onAo_staged (n : Nat) (f : AoChan → AoChan) : (s.onAo n f).staged = s.staged := rfl
@[simp] theorem State.onAo_nextUid (n : Nat) (f : AoChan → AoChan) : (s.onAo n f).nextUid = s.nextUid := rfl
@[simp] theorem State.onAo_waits (n : Nat) (f : AoChan → AoChan) : (s.onAo n f).waits = s.waits := rfl
@[simp] theorem State.onAo_toApply (n : Nat) (f : AoChan → AoChan) : (s.onAo n f).toApply = s.toApply := rfl
@[simp] theorem State.onAo_applyDue (n : Nat) (f : AoChan → AoChan) : (s.onAo n f).applyDue = s.applyDue := rfl
@[simp] theorem State.onAo_groups (n : Nat) (f : AoChan → AoChan) : (s.onAo n f).groups = s.groups := rfl
@[simp] theorem State.onAo_snaps (n : Nat) (f : AoChan → AoChan) : (s.onAo n f).snaps = s.snaps := rfl
@[simp] theorem State.onAo_applied (n : Nat) (f : AoChan → AoChan) : (s.onAo n f).applied = s.applied := rfl
@[simp] theorem State.onAo_appliedVp (n : Nat) (f : AoChan → AoChan) : (s.onAo n f).appliedVp = s.appliedVp := rfl
@[simp] theorem State.onAo_latched (n : Nat) (f : AoChan → AoChan) : (s.onAo n f).latched = s.latched := rfl
@[simp] theorem State.onAo_prm (n : Nat) (f : AoChan → AoChan) : (s.onAo n f).prm = s.prm := rfl
@[simp] theorem State.onAo_sar (n : Nat) (f : AoChan → AoChan) : (s.onAo n f).sar = s.sar := rfl
@[simp] theorem State.onAo_pres (n : Nat) (f : AoChan → AoChan) : (s.onAo n f).pres = s.pres := rfl
@[simp] theorem State.onAo_vl (n : Nat) (f : AoChan → AoChan) : (s.onAo n f).vl = s.vl := rfl
@[simp] theorem State.onAo_fio (n : Nat) (f : AoChan → AoChan) : (s.onAo n f).fio = s.fio := rfl
@[simp] theorem State.onAo_ilk (n : Nat) (f : AoChan → AoChan) : (s.onAo n f).ilk = s.ilk := rfl
@[simp] theorem State.onAo_svc (n : Nat) (f : AoChan → AoChan) : (s.onAo n f).svc = s.svc := rfl
@[simp] theorem State.onAo_bus (n : Nat) (f : AoChan → AoChan) : (s.onAo n f).bus = s.bus := rfl
@[simp] theorem State.onAo_pair (n : Nat) (f : AoChan → AoChan) : (s.onAo n f).pair = s.pair := rfl
@[simp] theorem State.onAo_caller (n : Nat) (f : AoChan → AoChan) : (s.onAo n f).caller = s.caller := rfl
@[simp] theorem State.onAo_unit (n : Nat) (f : AoChan → AoChan) : (s.onAo n f).unit = s.unit := rfl
@[simp] theorem State.onAo_unitStore (n : Nat) (f : AoChan → AoChan) : (s.onAo n f).unitStore = s.unitStore := rfl
@[simp] theorem State.onAo_areaA (n : Nat) (f : AoChan → AoChan) : (s.onAo n f).areaA = s.areaA := rfl
@[simp] theorem State.onAo_areaB (n : Nat) (f : AoChan → AoChan) : (s.onAo n f).areaB = s.areaB := rfl
@[simp] theorem State.onAo_cells (n : Nat) (f : AoChan → AoChan) : (s.onAo n f).cells = s.cells := rfl
@[simp] theorem State.onAo_badGroups (n : Nat) (f : AoChan → AoChan) : (s.onAo n f).badGroups = s.badGroups := rfl
@[simp] theorem State.onAo_worn (n : Nat) (f : AoChan → AoChan) : (s.onAo n f).worn = s.worn := rfl
@[simp] theorem State.onAo_unsteady (n : Nat) (f : AoChan → AoChan) : (s.onAo n f).unsteady = s.unsteady := rfl
@[simp] theorem State.onAo_store (n : Nat) (f : AoChan → AoChan) : (s.onAo n f).store = s.store := rfl
@[simp] theorem State.onAo_dsp (n : Nat) (f : AoChan → AoChan) : (s.onAo n f).dsp = s.dsp := rfl
@[simp] theorem State.onAo_keys (n : Nat) (f : AoChan → AoChan) : (s.onAo n f).keys = s.keys := rfl
@[simp] theorem State.onAo_hk (n : Nat) (f : AoChan → AoChan) : (s.onAo n f).hk = s.hk := rfl
@[simp] theorem State.onAo_aon (n : Nat) (f : AoChan → AoChan) : (s.onAo n f).aon = s.aon := rfl
@[simp] theorem State.onAo_heldAt (n : Nat) (f : AoChan → AoChan) : (s.onAo n f).heldAt = s.heldAt := rfl
@[simp] theorem State.onAo_heldRes (n : Nat) (f : AoChan → AoChan) : (s.onAo n f).heldRes = s.heldRes := rfl
@[simp] theorem State.onAo_w1cAt (n : Nat) (f : AoChan → AoChan) : (s.onAo n f).w1cAt = s.w1cAt := rfl
@[simp] theorem State.onAo_w1cNow (n : Nat) (f : AoChan → AoChan) : (s.onAo n f).w1cNow = s.w1cNow := rfl
@[simp] theorem State.onAo_pending (n : Nat) (f : AoChan → AoChan) : (s.onAo n f).pending = s.pending := rfl

/-! ### onFn -/
@[simp] theorem State.onFn_phase (n : Nat) (f : FnChan → FnChan) : (s.onFn n f).phase = s.phase := rfl
@[simp] theorem State.onFn_tb (n : Nat) (f : FnChan → FnChan) : (s.onFn n f).tb = s.tb := rfl
@[simp] theorem State.onFn_tbFrac (n : Nat) (f : FnChan → FnChan) : (s.onFn n f).tbFrac = s.tbFrac := rfl
@[simp] theorem State.onFn_free (n : Nat) (f : FnChan → FnChan) : (s.onFn n f).free = s.free := rfl
@[simp] theorem State.onFn_era (n : Nat) (f : FnChan → FnChan) : (s.onFn n f).era = s.era := rfl
@[simp] theorem State.onFn_pmrc (n : Nat) (f : FnChan → FnChan) : (s.onFn n f).pmrc = s.pmrc := rfl
@[simp] theorem State.onFn_xtalOk (n : Nat) (f : FnChan → FnChan) : (s.onFn n f).xtalOk = s.xtalOk := rfl
@[simp] theorem State.onFn_ev (n : Nat) (f : FnChan → FnChan) : (s.onFn n f).ev = s.ev := rfl
@[simp] theorem State.onFn_cal (n : Nat) (f : FnChan → FnChan) : (s.onFn n f).cal = s.cal := rfl
@[simp] theorem State.onFn_pw (n : Nat) (f : FnChan → FnChan) : (s.onFn n f).pw = s.pw := rfl
@[simp] theorem State.onFn_mgmt (n : Nat) (f : FnChan → FnChan) : (s.onFn n f).mgmt = s.mgmt := rfl
@[simp] theorem State.onFn_link (n : Nat) (f : FnChan → FnChan) : (s.onFn n f).link = s.link := rfl
@[simp] theorem State.onFn_rem (n : Nat) (f : FnChan → FnChan) : (s.onFn n f).rem = s.rem := rfl
@[simp] theorem State.onFn_com (n : Nat) (f : FnChan → FnChan) : (s.onFn n f).com = s.com := rfl
@[simp] theorem State.onFn_epoch (n : Nat) (f : FnChan → FnChan) : (s.onFn n f).epoch = s.epoch := rfl
@[simp] theorem State.onFn_tbc (n : Nat) (f : FnChan → FnChan) : (s.onFn n f).tbc = s.tbc := rfl
@[simp] theorem State.onFn_beatAt (n : Nat) (f : FnChan → FnChan) : (s.onFn n f).beatAt = s.beatAt := rfl
@[simp] theorem State.onFn_staged (n : Nat) (f : FnChan → FnChan) : (s.onFn n f).staged = s.staged := rfl
@[simp] theorem State.onFn_nextUid (n : Nat) (f : FnChan → FnChan) : (s.onFn n f).nextUid = s.nextUid := rfl
@[simp] theorem State.onFn_waits (n : Nat) (f : FnChan → FnChan) : (s.onFn n f).waits = s.waits := rfl
@[simp] theorem State.onFn_toApply (n : Nat) (f : FnChan → FnChan) : (s.onFn n f).toApply = s.toApply := rfl
@[simp] theorem State.onFn_applyDue (n : Nat) (f : FnChan → FnChan) : (s.onFn n f).applyDue = s.applyDue := rfl
@[simp] theorem State.onFn_groups (n : Nat) (f : FnChan → FnChan) : (s.onFn n f).groups = s.groups := rfl
@[simp] theorem State.onFn_snaps (n : Nat) (f : FnChan → FnChan) : (s.onFn n f).snaps = s.snaps := rfl
@[simp] theorem State.onFn_applied (n : Nat) (f : FnChan → FnChan) : (s.onFn n f).applied = s.applied := rfl
@[simp] theorem State.onFn_appliedVp (n : Nat) (f : FnChan → FnChan) : (s.onFn n f).appliedVp = s.appliedVp := rfl
@[simp] theorem State.onFn_latched (n : Nat) (f : FnChan → FnChan) : (s.onFn n f).latched = s.latched := rfl
@[simp] theorem State.onFn_prm (n : Nat) (f : FnChan → FnChan) : (s.onFn n f).prm = s.prm := rfl
@[simp] theorem State.onFn_sar (n : Nat) (f : FnChan → FnChan) : (s.onFn n f).sar = s.sar := rfl
@[simp] theorem State.onFn_pres (n : Nat) (f : FnChan → FnChan) : (s.onFn n f).pres = s.pres := rfl
@[simp] theorem State.onFn_vl (n : Nat) (f : FnChan → FnChan) : (s.onFn n f).vl = s.vl := rfl
@[simp] theorem State.onFn_fio (n : Nat) (f : FnChan → FnChan) : (s.onFn n f).fio = s.fio := rfl
@[simp] theorem State.onFn_ilk (n : Nat) (f : FnChan → FnChan) : (s.onFn n f).ilk = s.ilk := rfl
@[simp] theorem State.onFn_svc (n : Nat) (f : FnChan → FnChan) : (s.onFn n f).svc = s.svc := rfl
@[simp] theorem State.onFn_bus (n : Nat) (f : FnChan → FnChan) : (s.onFn n f).bus = s.bus := rfl
@[simp] theorem State.onFn_pair (n : Nat) (f : FnChan → FnChan) : (s.onFn n f).pair = s.pair := rfl
@[simp] theorem State.onFn_caller (n : Nat) (f : FnChan → FnChan) : (s.onFn n f).caller = s.caller := rfl
@[simp] theorem State.onFn_unit (n : Nat) (f : FnChan → FnChan) : (s.onFn n f).unit = s.unit := rfl
@[simp] theorem State.onFn_unitStore (n : Nat) (f : FnChan → FnChan) : (s.onFn n f).unitStore = s.unitStore := rfl
@[simp] theorem State.onFn_areaA (n : Nat) (f : FnChan → FnChan) : (s.onFn n f).areaA = s.areaA := rfl
@[simp] theorem State.onFn_areaB (n : Nat) (f : FnChan → FnChan) : (s.onFn n f).areaB = s.areaB := rfl
@[simp] theorem State.onFn_cells (n : Nat) (f : FnChan → FnChan) : (s.onFn n f).cells = s.cells := rfl
@[simp] theorem State.onFn_badGroups (n : Nat) (f : FnChan → FnChan) : (s.onFn n f).badGroups = s.badGroups := rfl
@[simp] theorem State.onFn_worn (n : Nat) (f : FnChan → FnChan) : (s.onFn n f).worn = s.worn := rfl
@[simp] theorem State.onFn_unsteady (n : Nat) (f : FnChan → FnChan) : (s.onFn n f).unsteady = s.unsteady := rfl
@[simp] theorem State.onFn_store (n : Nat) (f : FnChan → FnChan) : (s.onFn n f).store = s.store := rfl
@[simp] theorem State.onFn_dsp (n : Nat) (f : FnChan → FnChan) : (s.onFn n f).dsp = s.dsp := rfl
@[simp] theorem State.onFn_keys (n : Nat) (f : FnChan → FnChan) : (s.onFn n f).keys = s.keys := rfl
@[simp] theorem State.onFn_hk (n : Nat) (f : FnChan → FnChan) : (s.onFn n f).hk = s.hk := rfl
@[simp] theorem State.onFn_aon (n : Nat) (f : FnChan → FnChan) : (s.onFn n f).aon = s.aon := rfl
@[simp] theorem State.onFn_heldAt (n : Nat) (f : FnChan → FnChan) : (s.onFn n f).heldAt = s.heldAt := rfl
@[simp] theorem State.onFn_heldRes (n : Nat) (f : FnChan → FnChan) : (s.onFn n f).heldRes = s.heldRes := rfl
@[simp] theorem State.onFn_w1cAt (n : Nat) (f : FnChan → FnChan) : (s.onFn n f).w1cAt = s.w1cAt := rfl
@[simp] theorem State.onFn_w1cNow (n : Nat) (f : FnChan → FnChan) : (s.onFn n f).w1cNow = s.w1cNow := rfl
@[simp] theorem State.onFn_pending (n : Nat) (f : FnChan → FnChan) : (s.onFn n f).pending = s.pending := rfl

/-! ### onFd -/
@[simp] theorem State.onFd_phase (k : Nat) (f : FloatRun → FloatRun) : (s.onFd k f).phase = s.phase := rfl
@[simp] theorem State.onFd_tb (k : Nat) (f : FloatRun → FloatRun) : (s.onFd k f).tb = s.tb := rfl
@[simp] theorem State.onFd_tbFrac (k : Nat) (f : FloatRun → FloatRun) : (s.onFd k f).tbFrac = s.tbFrac := rfl
@[simp] theorem State.onFd_free (k : Nat) (f : FloatRun → FloatRun) : (s.onFd k f).free = s.free := rfl
@[simp] theorem State.onFd_era (k : Nat) (f : FloatRun → FloatRun) : (s.onFd k f).era = s.era := rfl
@[simp] theorem State.onFd_pmrc (k : Nat) (f : FloatRun → FloatRun) : (s.onFd k f).pmrc = s.pmrc := rfl
@[simp] theorem State.onFd_xtalOk (k : Nat) (f : FloatRun → FloatRun) : (s.onFd k f).xtalOk = s.xtalOk := rfl
@[simp] theorem State.onFd_ev (k : Nat) (f : FloatRun → FloatRun) : (s.onFd k f).ev = s.ev := rfl
@[simp] theorem State.onFd_cal (k : Nat) (f : FloatRun → FloatRun) : (s.onFd k f).cal = s.cal := rfl
@[simp] theorem State.onFd_pw (k : Nat) (f : FloatRun → FloatRun) : (s.onFd k f).pw = s.pw := rfl
@[simp] theorem State.onFd_mgmt (k : Nat) (f : FloatRun → FloatRun) : (s.onFd k f).mgmt = s.mgmt := rfl
@[simp] theorem State.onFd_link (k : Nat) (f : FloatRun → FloatRun) : (s.onFd k f).link = s.link := rfl
@[simp] theorem State.onFd_rem (k : Nat) (f : FloatRun → FloatRun) : (s.onFd k f).rem = s.rem := rfl
@[simp] theorem State.onFd_com (k : Nat) (f : FloatRun → FloatRun) : (s.onFd k f).com = s.com := rfl
@[simp] theorem State.onFd_epoch (k : Nat) (f : FloatRun → FloatRun) : (s.onFd k f).epoch = s.epoch := rfl
@[simp] theorem State.onFd_tbc (k : Nat) (f : FloatRun → FloatRun) : (s.onFd k f).tbc = s.tbc := rfl
@[simp] theorem State.onFd_beatAt (k : Nat) (f : FloatRun → FloatRun) : (s.onFd k f).beatAt = s.beatAt := rfl
@[simp] theorem State.onFd_staged (k : Nat) (f : FloatRun → FloatRun) : (s.onFd k f).staged = s.staged := rfl
@[simp] theorem State.onFd_nextUid (k : Nat) (f : FloatRun → FloatRun) : (s.onFd k f).nextUid = s.nextUid := rfl
@[simp] theorem State.onFd_waits (k : Nat) (f : FloatRun → FloatRun) : (s.onFd k f).waits = s.waits := rfl
@[simp] theorem State.onFd_toApply (k : Nat) (f : FloatRun → FloatRun) : (s.onFd k f).toApply = s.toApply := rfl
@[simp] theorem State.onFd_applyDue (k : Nat) (f : FloatRun → FloatRun) : (s.onFd k f).applyDue = s.applyDue := rfl
@[simp] theorem State.onFd_groups (k : Nat) (f : FloatRun → FloatRun) : (s.onFd k f).groups = s.groups := rfl
@[simp] theorem State.onFd_snaps (k : Nat) (f : FloatRun → FloatRun) : (s.onFd k f).snaps = s.snaps := rfl
@[simp] theorem State.onFd_applied (k : Nat) (f : FloatRun → FloatRun) : (s.onFd k f).applied = s.applied := rfl
@[simp] theorem State.onFd_appliedVp (k : Nat) (f : FloatRun → FloatRun) : (s.onFd k f).appliedVp = s.appliedVp := rfl
@[simp] theorem State.onFd_latched (k : Nat) (f : FloatRun → FloatRun) : (s.onFd k f).latched = s.latched := rfl
@[simp] theorem State.onFd_prm (k : Nat) (f : FloatRun → FloatRun) : (s.onFd k f).prm = s.prm := rfl
@[simp] theorem State.onFd_sar (k : Nat) (f : FloatRun → FloatRun) : (s.onFd k f).sar = s.sar := rfl
@[simp] theorem State.onFd_pres (k : Nat) (f : FloatRun → FloatRun) : (s.onFd k f).pres = s.pres := rfl
@[simp] theorem State.onFd_vl (k : Nat) (f : FloatRun → FloatRun) : (s.onFd k f).vl = s.vl := rfl
@[simp] theorem State.onFd_fio (k : Nat) (f : FloatRun → FloatRun) : (s.onFd k f).fio = s.fio := rfl
@[simp] theorem State.onFd_ilk (k : Nat) (f : FloatRun → FloatRun) : (s.onFd k f).ilk = s.ilk := rfl
@[simp] theorem State.onFd_svc (k : Nat) (f : FloatRun → FloatRun) : (s.onFd k f).svc = s.svc := rfl
@[simp] theorem State.onFd_bus (k : Nat) (f : FloatRun → FloatRun) : (s.onFd k f).bus = s.bus := rfl
@[simp] theorem State.onFd_pair (k : Nat) (f : FloatRun → FloatRun) : (s.onFd k f).pair = s.pair := rfl
@[simp] theorem State.onFd_caller (k : Nat) (f : FloatRun → FloatRun) : (s.onFd k f).caller = s.caller := rfl
@[simp] theorem State.onFd_unit (k : Nat) (f : FloatRun → FloatRun) : (s.onFd k f).unit = s.unit := rfl
@[simp] theorem State.onFd_unitStore (k : Nat) (f : FloatRun → FloatRun) : (s.onFd k f).unitStore = s.unitStore := rfl
@[simp] theorem State.onFd_areaA (k : Nat) (f : FloatRun → FloatRun) : (s.onFd k f).areaA = s.areaA := rfl
@[simp] theorem State.onFd_areaB (k : Nat) (f : FloatRun → FloatRun) : (s.onFd k f).areaB = s.areaB := rfl
@[simp] theorem State.onFd_cells (k : Nat) (f : FloatRun → FloatRun) : (s.onFd k f).cells = s.cells := rfl
@[simp] theorem State.onFd_badGroups (k : Nat) (f : FloatRun → FloatRun) : (s.onFd k f).badGroups = s.badGroups := rfl
@[simp] theorem State.onFd_worn (k : Nat) (f : FloatRun → FloatRun) : (s.onFd k f).worn = s.worn := rfl
@[simp] theorem State.onFd_unsteady (k : Nat) (f : FloatRun → FloatRun) : (s.onFd k f).unsteady = s.unsteady := rfl
@[simp] theorem State.onFd_store (k : Nat) (f : FloatRun → FloatRun) : (s.onFd k f).store = s.store := rfl
@[simp] theorem State.onFd_dsp (k : Nat) (f : FloatRun → FloatRun) : (s.onFd k f).dsp = s.dsp := rfl
@[simp] theorem State.onFd_keys (k : Nat) (f : FloatRun → FloatRun) : (s.onFd k f).keys = s.keys := rfl
@[simp] theorem State.onFd_hk (k : Nat) (f : FloatRun → FloatRun) : (s.onFd k f).hk = s.hk := rfl
@[simp] theorem State.onFd_aon (k : Nat) (f : FloatRun → FloatRun) : (s.onFd k f).aon = s.aon := rfl
@[simp] theorem State.onFd_heldAt (k : Nat) (f : FloatRun → FloatRun) : (s.onFd k f).heldAt = s.heldAt := rfl
@[simp] theorem State.onFd_heldRes (k : Nat) (f : FloatRun → FloatRun) : (s.onFd k f).heldRes = s.heldRes := rfl
@[simp] theorem State.onFd_w1cAt (k : Nat) (f : FloatRun → FloatRun) : (s.onFd k f).w1cAt = s.w1cAt := rfl
@[simp] theorem State.onFd_w1cNow (k : Nat) (f : FloatRun → FloatRun) : (s.onFd k f).w1cNow = s.w1cNow := rfl
@[simp] theorem State.onFd_pending (k : Nat) (f : FloatRun → FloatRun) : (s.onFd k f).pending = s.pending := rfl

/-! ### onDi -/
@[simp] theorem State.onDi_phase (n : Nat) (f : DiChan → DiChan) : (s.onDi n f).phase = s.phase := rfl
@[simp] theorem State.onDi_tb (n : Nat) (f : DiChan → DiChan) : (s.onDi n f).tb = s.tb := rfl
@[simp] theorem State.onDi_tbFrac (n : Nat) (f : DiChan → DiChan) : (s.onDi n f).tbFrac = s.tbFrac := rfl
@[simp] theorem State.onDi_free (n : Nat) (f : DiChan → DiChan) : (s.onDi n f).free = s.free := rfl
@[simp] theorem State.onDi_era (n : Nat) (f : DiChan → DiChan) : (s.onDi n f).era = s.era := rfl
@[simp] theorem State.onDi_pmrc (n : Nat) (f : DiChan → DiChan) : (s.onDi n f).pmrc = s.pmrc := rfl
@[simp] theorem State.onDi_xtalOk (n : Nat) (f : DiChan → DiChan) : (s.onDi n f).xtalOk = s.xtalOk := rfl
@[simp] theorem State.onDi_ev (n : Nat) (f : DiChan → DiChan) : (s.onDi n f).ev = s.ev := rfl
@[simp] theorem State.onDi_cal (n : Nat) (f : DiChan → DiChan) : (s.onDi n f).cal = s.cal := rfl
@[simp] theorem State.onDi_pw (n : Nat) (f : DiChan → DiChan) : (s.onDi n f).pw = s.pw := rfl
@[simp] theorem State.onDi_mgmt (n : Nat) (f : DiChan → DiChan) : (s.onDi n f).mgmt = s.mgmt := rfl
@[simp] theorem State.onDi_link (n : Nat) (f : DiChan → DiChan) : (s.onDi n f).link = s.link := rfl
@[simp] theorem State.onDi_rem (n : Nat) (f : DiChan → DiChan) : (s.onDi n f).rem = s.rem := rfl
@[simp] theorem State.onDi_com (n : Nat) (f : DiChan → DiChan) : (s.onDi n f).com = s.com := rfl
@[simp] theorem State.onDi_epoch (n : Nat) (f : DiChan → DiChan) : (s.onDi n f).epoch = s.epoch := rfl
@[simp] theorem State.onDi_tbc (n : Nat) (f : DiChan → DiChan) : (s.onDi n f).tbc = s.tbc := rfl
@[simp] theorem State.onDi_beatAt (n : Nat) (f : DiChan → DiChan) : (s.onDi n f).beatAt = s.beatAt := rfl
@[simp] theorem State.onDi_staged (n : Nat) (f : DiChan → DiChan) : (s.onDi n f).staged = s.staged := rfl
@[simp] theorem State.onDi_nextUid (n : Nat) (f : DiChan → DiChan) : (s.onDi n f).nextUid = s.nextUid := rfl
@[simp] theorem State.onDi_waits (n : Nat) (f : DiChan → DiChan) : (s.onDi n f).waits = s.waits := rfl
@[simp] theorem State.onDi_toApply (n : Nat) (f : DiChan → DiChan) : (s.onDi n f).toApply = s.toApply := rfl
@[simp] theorem State.onDi_applyDue (n : Nat) (f : DiChan → DiChan) : (s.onDi n f).applyDue = s.applyDue := rfl
@[simp] theorem State.onDi_groups (n : Nat) (f : DiChan → DiChan) : (s.onDi n f).groups = s.groups := rfl
@[simp] theorem State.onDi_snaps (n : Nat) (f : DiChan → DiChan) : (s.onDi n f).snaps = s.snaps := rfl
@[simp] theorem State.onDi_applied (n : Nat) (f : DiChan → DiChan) : (s.onDi n f).applied = s.applied := rfl
@[simp] theorem State.onDi_appliedVp (n : Nat) (f : DiChan → DiChan) : (s.onDi n f).appliedVp = s.appliedVp := rfl
@[simp] theorem State.onDi_latched (n : Nat) (f : DiChan → DiChan) : (s.onDi n f).latched = s.latched := rfl
@[simp] theorem State.onDi_prm (n : Nat) (f : DiChan → DiChan) : (s.onDi n f).prm = s.prm := rfl
@[simp] theorem State.onDi_sar (n : Nat) (f : DiChan → DiChan) : (s.onDi n f).sar = s.sar := rfl
@[simp] theorem State.onDi_pres (n : Nat) (f : DiChan → DiChan) : (s.onDi n f).pres = s.pres := rfl
@[simp] theorem State.onDi_vl (n : Nat) (f : DiChan → DiChan) : (s.onDi n f).vl = s.vl := rfl
@[simp] theorem State.onDi_out (n : Nat) (f : DiChan → DiChan) : (s.onDi n f).out = s.out := rfl
@[simp] theorem State.onDi_ilk (n : Nat) (f : DiChan → DiChan) : (s.onDi n f).ilk = s.ilk := rfl
@[simp] theorem State.onDi_svc (n : Nat) (f : DiChan → DiChan) : (s.onDi n f).svc = s.svc := rfl
@[simp] theorem State.onDi_bus (n : Nat) (f : DiChan → DiChan) : (s.onDi n f).bus = s.bus := rfl
@[simp] theorem State.onDi_pair (n : Nat) (f : DiChan → DiChan) : (s.onDi n f).pair = s.pair := rfl
@[simp] theorem State.onDi_caller (n : Nat) (f : DiChan → DiChan) : (s.onDi n f).caller = s.caller := rfl
@[simp] theorem State.onDi_unit (n : Nat) (f : DiChan → DiChan) : (s.onDi n f).unit = s.unit := rfl
@[simp] theorem State.onDi_unitStore (n : Nat) (f : DiChan → DiChan) : (s.onDi n f).unitStore = s.unitStore := rfl
@[simp] theorem State.onDi_areaA (n : Nat) (f : DiChan → DiChan) : (s.onDi n f).areaA = s.areaA := rfl
@[simp] theorem State.onDi_areaB (n : Nat) (f : DiChan → DiChan) : (s.onDi n f).areaB = s.areaB := rfl
@[simp] theorem State.onDi_cells (n : Nat) (f : DiChan → DiChan) : (s.onDi n f).cells = s.cells := rfl
@[simp] theorem State.onDi_badGroups (n : Nat) (f : DiChan → DiChan) : (s.onDi n f).badGroups = s.badGroups := rfl
@[simp] theorem State.onDi_worn (n : Nat) (f : DiChan → DiChan) : (s.onDi n f).worn = s.worn := rfl
@[simp] theorem State.onDi_unsteady (n : Nat) (f : DiChan → DiChan) : (s.onDi n f).unsteady = s.unsteady := rfl
@[simp] theorem State.onDi_store (n : Nat) (f : DiChan → DiChan) : (s.onDi n f).store = s.store := rfl
@[simp] theorem State.onDi_dsp (n : Nat) (f : DiChan → DiChan) : (s.onDi n f).dsp = s.dsp := rfl
@[simp] theorem State.onDi_keys (n : Nat) (f : DiChan → DiChan) : (s.onDi n f).keys = s.keys := rfl
@[simp] theorem State.onDi_hk (n : Nat) (f : DiChan → DiChan) : (s.onDi n f).hk = s.hk := rfl
@[simp] theorem State.onDi_aon (n : Nat) (f : DiChan → DiChan) : (s.onDi n f).aon = s.aon := rfl
@[simp] theorem State.onDi_heldAt (n : Nat) (f : DiChan → DiChan) : (s.onDi n f).heldAt = s.heldAt := rfl
@[simp] theorem State.onDi_heldRes (n : Nat) (f : DiChan → DiChan) : (s.onDi n f).heldRes = s.heldRes := rfl
@[simp] theorem State.onDi_w1cAt (n : Nat) (f : DiChan → DiChan) : (s.onDi n f).w1cAt = s.w1cAt := rfl
@[simp] theorem State.onDi_w1cNow (n : Nat) (f : DiChan → DiChan) : (s.onDi n f).w1cNow = s.w1cNow := rfl
@[simp] theorem State.onDi_pending (n : Nat) (f : DiChan → DiChan) : (s.onDi n f).pending = s.pending := rfl

/-! ### onDo -/
@[simp] theorem State.onDo_phase (n : Nat) (f : DoChan → DoChan) : (s.onDo n f).phase = s.phase := rfl
@[simp] theorem State.onDo_tb (n : Nat) (f : DoChan → DoChan) : (s.onDo n f).tb = s.tb := rfl
@[simp] theorem State.onDo_tbFrac (n : Nat) (f : DoChan → DoChan) : (s.onDo n f).tbFrac = s.tbFrac := rfl
@[simp] theorem State.onDo_free (n : Nat) (f : DoChan → DoChan) : (s.onDo n f).free = s.free := rfl
@[simp] theorem State.onDo_era (n : Nat) (f : DoChan → DoChan) : (s.onDo n f).era = s.era := rfl
@[simp] theorem State.onDo_pmrc (n : Nat) (f : DoChan → DoChan) : (s.onDo n f).pmrc = s.pmrc := rfl
@[simp] theorem State.onDo_xtalOk (n : Nat) (f : DoChan → DoChan) : (s.onDo n f).xtalOk = s.xtalOk := rfl
@[simp] theorem State.onDo_ev (n : Nat) (f : DoChan → DoChan) : (s.onDo n f).ev = s.ev := rfl
@[simp] theorem State.onDo_cal (n : Nat) (f : DoChan → DoChan) : (s.onDo n f).cal = s.cal := rfl
@[simp] theorem State.onDo_pw (n : Nat) (f : DoChan → DoChan) : (s.onDo n f).pw = s.pw := rfl
@[simp] theorem State.onDo_mgmt (n : Nat) (f : DoChan → DoChan) : (s.onDo n f).mgmt = s.mgmt := rfl
@[simp] theorem State.onDo_link (n : Nat) (f : DoChan → DoChan) : (s.onDo n f).link = s.link := rfl
@[simp] theorem State.onDo_rem (n : Nat) (f : DoChan → DoChan) : (s.onDo n f).rem = s.rem := rfl
@[simp] theorem State.onDo_com (n : Nat) (f : DoChan → DoChan) : (s.onDo n f).com = s.com := rfl
@[simp] theorem State.onDo_epoch (n : Nat) (f : DoChan → DoChan) : (s.onDo n f).epoch = s.epoch := rfl
@[simp] theorem State.onDo_tbc (n : Nat) (f : DoChan → DoChan) : (s.onDo n f).tbc = s.tbc := rfl
@[simp] theorem State.onDo_beatAt (n : Nat) (f : DoChan → DoChan) : (s.onDo n f).beatAt = s.beatAt := rfl
@[simp] theorem State.onDo_staged (n : Nat) (f : DoChan → DoChan) : (s.onDo n f).staged = s.staged := rfl
@[simp] theorem State.onDo_nextUid (n : Nat) (f : DoChan → DoChan) : (s.onDo n f).nextUid = s.nextUid := rfl
@[simp] theorem State.onDo_waits (n : Nat) (f : DoChan → DoChan) : (s.onDo n f).waits = s.waits := rfl
@[simp] theorem State.onDo_toApply (n : Nat) (f : DoChan → DoChan) : (s.onDo n f).toApply = s.toApply := rfl
@[simp] theorem State.onDo_applyDue (n : Nat) (f : DoChan → DoChan) : (s.onDo n f).applyDue = s.applyDue := rfl
@[simp] theorem State.onDo_groups (n : Nat) (f : DoChan → DoChan) : (s.onDo n f).groups = s.groups := rfl
@[simp] theorem State.onDo_snaps (n : Nat) (f : DoChan → DoChan) : (s.onDo n f).snaps = s.snaps := rfl
@[simp] theorem State.onDo_applied (n : Nat) (f : DoChan → DoChan) : (s.onDo n f).applied = s.applied := rfl
@[simp] theorem State.onDo_appliedVp (n : Nat) (f : DoChan → DoChan) : (s.onDo n f).appliedVp = s.appliedVp := rfl
@[simp] theorem State.onDo_latched (n : Nat) (f : DoChan → DoChan) : (s.onDo n f).latched = s.latched := rfl
@[simp] theorem State.onDo_prm (n : Nat) (f : DoChan → DoChan) : (s.onDo n f).prm = s.prm := rfl
@[simp] theorem State.onDo_sar (n : Nat) (f : DoChan → DoChan) : (s.onDo n f).sar = s.sar := rfl
@[simp] theorem State.onDo_pres (n : Nat) (f : DoChan → DoChan) : (s.onDo n f).pres = s.pres := rfl
@[simp] theorem State.onDo_vl (n : Nat) (f : DoChan → DoChan) : (s.onDo n f).vl = s.vl := rfl
@[simp] theorem State.onDo_out (n : Nat) (f : DoChan → DoChan) : (s.onDo n f).out = s.out := rfl
@[simp] theorem State.onDo_ilk (n : Nat) (f : DoChan → DoChan) : (s.onDo n f).ilk = s.ilk := rfl
@[simp] theorem State.onDo_svc (n : Nat) (f : DoChan → DoChan) : (s.onDo n f).svc = s.svc := rfl
@[simp] theorem State.onDo_bus (n : Nat) (f : DoChan → DoChan) : (s.onDo n f).bus = s.bus := rfl
@[simp] theorem State.onDo_pair (n : Nat) (f : DoChan → DoChan) : (s.onDo n f).pair = s.pair := rfl
@[simp] theorem State.onDo_caller (n : Nat) (f : DoChan → DoChan) : (s.onDo n f).caller = s.caller := rfl
@[simp] theorem State.onDo_unit (n : Nat) (f : DoChan → DoChan) : (s.onDo n f).unit = s.unit := rfl
@[simp] theorem State.onDo_unitStore (n : Nat) (f : DoChan → DoChan) : (s.onDo n f).unitStore = s.unitStore := rfl
@[simp] theorem State.onDo_areaA (n : Nat) (f : DoChan → DoChan) : (s.onDo n f).areaA = s.areaA := rfl
@[simp] theorem State.onDo_areaB (n : Nat) (f : DoChan → DoChan) : (s.onDo n f).areaB = s.areaB := rfl
@[simp] theorem State.onDo_cells (n : Nat) (f : DoChan → DoChan) : (s.onDo n f).cells = s.cells := rfl
@[simp] theorem State.onDo_badGroups (n : Nat) (f : DoChan → DoChan) : (s.onDo n f).badGroups = s.badGroups := rfl
@[simp] theorem State.onDo_worn (n : Nat) (f : DoChan → DoChan) : (s.onDo n f).worn = s.worn := rfl
@[simp] theorem State.onDo_unsteady (n : Nat) (f : DoChan → DoChan) : (s.onDo n f).unsteady = s.unsteady := rfl
@[simp] theorem State.onDo_store (n : Nat) (f : DoChan → DoChan) : (s.onDo n f).store = s.store := rfl
@[simp] theorem State.onDo_dsp (n : Nat) (f : DoChan → DoChan) : (s.onDo n f).dsp = s.dsp := rfl
@[simp] theorem State.onDo_keys (n : Nat) (f : DoChan → DoChan) : (s.onDo n f).keys = s.keys := rfl
@[simp] theorem State.onDo_hk (n : Nat) (f : DoChan → DoChan) : (s.onDo n f).hk = s.hk := rfl
@[simp] theorem State.onDo_aon (n : Nat) (f : DoChan → DoChan) : (s.onDo n f).aon = s.aon := rfl
@[simp] theorem State.onDo_heldAt (n : Nat) (f : DoChan → DoChan) : (s.onDo n f).heldAt = s.heldAt := rfl
@[simp] theorem State.onDo_heldRes (n : Nat) (f : DoChan → DoChan) : (s.onDo n f).heldRes = s.heldRes := rfl
@[simp] theorem State.onDo_w1cAt (n : Nat) (f : DoChan → DoChan) : (s.onDo n f).w1cAt = s.w1cAt := rfl
@[simp] theorem State.onDo_w1cNow (n : Nat) (f : DoChan → DoChan) : (s.onDo n f).w1cNow = s.w1cNow := rfl
@[simp] theorem State.onDo_pending (n : Nat) (f : DoChan → DoChan) : (s.onDo n f).pending = s.pending := rfl

/-! ### onField -/
@[simp] theorem State.onField_phase (f : Field → Field) : (s.onField f).phase = s.phase := rfl
@[simp] theorem State.onField_tb (f : Field → Field) : (s.onField f).tb = s.tb := rfl
@[simp] theorem State.onField_tbFrac (f : Field → Field) : (s.onField f).tbFrac = s.tbFrac := rfl
@[simp] theorem State.onField_free (f : Field → Field) : (s.onField f).free = s.free := rfl
@[simp] theorem State.onField_era (f : Field → Field) : (s.onField f).era = s.era := rfl
@[simp] theorem State.onField_pmrc (f : Field → Field) : (s.onField f).pmrc = s.pmrc := rfl
@[simp] theorem State.onField_xtalOk (f : Field → Field) : (s.onField f).xtalOk = s.xtalOk := rfl
@[simp] theorem State.onField_ev (f : Field → Field) : (s.onField f).ev = s.ev := rfl
@[simp] theorem State.onField_cal (f : Field → Field) : (s.onField f).cal = s.cal := rfl
@[simp] theorem State.onField_pw (f : Field → Field) : (s.onField f).pw = s.pw := rfl
@[simp] theorem State.onField_mgmt (f : Field → Field) : (s.onField f).mgmt = s.mgmt := rfl
@[simp] theorem State.onField_link (f : Field → Field) : (s.onField f).link = s.link := rfl
@[simp] theorem State.onField_rem (f : Field → Field) : (s.onField f).rem = s.rem := rfl
@[simp] theorem State.onField_com (f : Field → Field) : (s.onField f).com = s.com := rfl
@[simp] theorem State.onField_epoch (f : Field → Field) : (s.onField f).epoch = s.epoch := rfl
@[simp] theorem State.onField_tbc (f : Field → Field) : (s.onField f).tbc = s.tbc := rfl
@[simp] theorem State.onField_beatAt (f : Field → Field) : (s.onField f).beatAt = s.beatAt := rfl
@[simp] theorem State.onField_staged (f : Field → Field) : (s.onField f).staged = s.staged := rfl
@[simp] theorem State.onField_nextUid (f : Field → Field) : (s.onField f).nextUid = s.nextUid := rfl
@[simp] theorem State.onField_waits (f : Field → Field) : (s.onField f).waits = s.waits := rfl
@[simp] theorem State.onField_toApply (f : Field → Field) : (s.onField f).toApply = s.toApply := rfl
@[simp] theorem State.onField_applyDue (f : Field → Field) : (s.onField f).applyDue = s.applyDue := rfl
@[simp] theorem State.onField_groups (f : Field → Field) : (s.onField f).groups = s.groups := rfl
@[simp] theorem State.onField_snaps (f : Field → Field) : (s.onField f).snaps = s.snaps := rfl
@[simp] theorem State.onField_applied (f : Field → Field) : (s.onField f).applied = s.applied := rfl
@[simp] theorem State.onField_appliedVp (f : Field → Field) : (s.onField f).appliedVp = s.appliedVp := rfl
@[simp] theorem State.onField_latched (f : Field → Field) : (s.onField f).latched = s.latched := rfl
@[simp] theorem State.onField_prm (f : Field → Field) : (s.onField f).prm = s.prm := rfl
@[simp] theorem State.onField_sar (f : Field → Field) : (s.onField f).sar = s.sar := rfl
@[simp] theorem State.onField_pres (f : Field → Field) : (s.onField f).pres = s.pres := rfl
@[simp] theorem State.onField_vl (f : Field → Field) : (s.onField f).vl = s.vl := rfl
@[simp] theorem State.onField_out (f : Field → Field) : (s.onField f).out = s.out := rfl
@[simp] theorem State.onField_ilk (f : Field → Field) : (s.onField f).ilk = s.ilk := rfl
@[simp] theorem State.onField_svc (f : Field → Field) : (s.onField f).svc = s.svc := rfl
@[simp] theorem State.onField_bus (f : Field → Field) : (s.onField f).bus = s.bus := rfl
@[simp] theorem State.onField_pair (f : Field → Field) : (s.onField f).pair = s.pair := rfl
@[simp] theorem State.onField_caller (f : Field → Field) : (s.onField f).caller = s.caller := rfl
@[simp] theorem State.onField_unit (f : Field → Field) : (s.onField f).unit = s.unit := rfl
@[simp] theorem State.onField_unitStore (f : Field → Field) : (s.onField f).unitStore = s.unitStore := rfl
@[simp] theorem State.onField_areaA (f : Field → Field) : (s.onField f).areaA = s.areaA := rfl
@[simp] theorem State.onField_areaB (f : Field → Field) : (s.onField f).areaB = s.areaB := rfl
@[simp] theorem State.onField_cells (f : Field → Field) : (s.onField f).cells = s.cells := rfl
@[simp] theorem State.onField_badGroups (f : Field → Field) : (s.onField f).badGroups = s.badGroups := rfl
@[simp] theorem State.onField_worn (f : Field → Field) : (s.onField f).worn = s.worn := rfl
@[simp] theorem State.onField_unsteady (f : Field → Field) : (s.onField f).unsteady = s.unsteady := rfl
@[simp] theorem State.onField_store (f : Field → Field) : (s.onField f).store = s.store := rfl
@[simp] theorem State.onField_dsp (f : Field → Field) : (s.onField f).dsp = s.dsp := rfl
@[simp] theorem State.onField_keys (f : Field → Field) : (s.onField f).keys = s.keys := rfl
@[simp] theorem State.onField_hk (f : Field → Field) : (s.onField f).hk = s.hk := rfl
@[simp] theorem State.onField_aon (f : Field → Field) : (s.onField f).aon = s.aon := rfl
@[simp] theorem State.onField_heldAt (f : Field → Field) : (s.onField f).heldAt = s.heldAt := rfl
@[simp] theorem State.onField_heldRes (f : Field → Field) : (s.onField f).heldRes = s.heldRes := rfl
@[simp] theorem State.onField_w1cAt (f : Field → Field) : (s.onField f).w1cAt = s.w1cAt := rfl
@[simp] theorem State.onField_w1cNow (f : Field → Field) : (s.onField f).w1cNow = s.w1cNow := rfl
@[simp] theorem State.onField_pending (f : Field → Field) : (s.onField f).pending = s.pending := rfl

/-! ### onIlk -/
@[simp] theorem State.onIlk_phase (f : Ilk → Ilk) : (s.onIlk f).phase = s.phase := rfl
@[simp] theorem State.onIlk_tb (f : Ilk → Ilk) : (s.onIlk f).tb = s.tb := rfl
@[simp] theorem State.onIlk_tbFrac (f : Ilk → Ilk) : (s.onIlk f).tbFrac = s.tbFrac := rfl
@[simp] theorem State.onIlk_free (f : Ilk → Ilk) : (s.onIlk f).free = s.free := rfl
@[simp] theorem State.onIlk_era (f : Ilk → Ilk) : (s.onIlk f).era = s.era := rfl
@[simp] theorem State.onIlk_pmrc (f : Ilk → Ilk) : (s.onIlk f).pmrc = s.pmrc := rfl
@[simp] theorem State.onIlk_xtalOk (f : Ilk → Ilk) : (s.onIlk f).xtalOk = s.xtalOk := rfl
@[simp] theorem State.onIlk_ev (f : Ilk → Ilk) : (s.onIlk f).ev = s.ev := rfl
@[simp] theorem State.onIlk_cal (f : Ilk → Ilk) : (s.onIlk f).cal = s.cal := rfl
@[simp] theorem State.onIlk_pw (f : Ilk → Ilk) : (s.onIlk f).pw = s.pw := rfl
@[simp] theorem State.onIlk_mgmt (f : Ilk → Ilk) : (s.onIlk f).mgmt = s.mgmt := rfl
@[simp] theorem State.onIlk_link (f : Ilk → Ilk) : (s.onIlk f).link = s.link := rfl
@[simp] theorem State.onIlk_rem (f : Ilk → Ilk) : (s.onIlk f).rem = s.rem := rfl
@[simp] theorem State.onIlk_com (f : Ilk → Ilk) : (s.onIlk f).com = s.com := rfl
@[simp] theorem State.onIlk_epoch (f : Ilk → Ilk) : (s.onIlk f).epoch = s.epoch := rfl
@[simp] theorem State.onIlk_tbc (f : Ilk → Ilk) : (s.onIlk f).tbc = s.tbc := rfl
@[simp] theorem State.onIlk_beatAt (f : Ilk → Ilk) : (s.onIlk f).beatAt = s.beatAt := rfl
@[simp] theorem State.onIlk_staged (f : Ilk → Ilk) : (s.onIlk f).staged = s.staged := rfl
@[simp] theorem State.onIlk_nextUid (f : Ilk → Ilk) : (s.onIlk f).nextUid = s.nextUid := rfl
@[simp] theorem State.onIlk_waits (f : Ilk → Ilk) : (s.onIlk f).waits = s.waits := rfl
@[simp] theorem State.onIlk_toApply (f : Ilk → Ilk) : (s.onIlk f).toApply = s.toApply := rfl
@[simp] theorem State.onIlk_applyDue (f : Ilk → Ilk) : (s.onIlk f).applyDue = s.applyDue := rfl
@[simp] theorem State.onIlk_groups (f : Ilk → Ilk) : (s.onIlk f).groups = s.groups := rfl
@[simp] theorem State.onIlk_snaps (f : Ilk → Ilk) : (s.onIlk f).snaps = s.snaps := rfl
@[simp] theorem State.onIlk_applied (f : Ilk → Ilk) : (s.onIlk f).applied = s.applied := rfl
@[simp] theorem State.onIlk_appliedVp (f : Ilk → Ilk) : (s.onIlk f).appliedVp = s.appliedVp := rfl
@[simp] theorem State.onIlk_latched (f : Ilk → Ilk) : (s.onIlk f).latched = s.latched := rfl
@[simp] theorem State.onIlk_prm (f : Ilk → Ilk) : (s.onIlk f).prm = s.prm := rfl
@[simp] theorem State.onIlk_sar (f : Ilk → Ilk) : (s.onIlk f).sar = s.sar := rfl
@[simp] theorem State.onIlk_pres (f : Ilk → Ilk) : (s.onIlk f).pres = s.pres := rfl
@[simp] theorem State.onIlk_vl (f : Ilk → Ilk) : (s.onIlk f).vl = s.vl := rfl
@[simp] theorem State.onIlk_out (f : Ilk → Ilk) : (s.onIlk f).out = s.out := rfl
@[simp] theorem State.onIlk_fio (f : Ilk → Ilk) : (s.onIlk f).fio = s.fio := rfl
@[simp] theorem State.onIlk_svc (f : Ilk → Ilk) : (s.onIlk f).svc = s.svc := rfl
@[simp] theorem State.onIlk_bus (f : Ilk → Ilk) : (s.onIlk f).bus = s.bus := rfl
@[simp] theorem State.onIlk_pair (f : Ilk → Ilk) : (s.onIlk f).pair = s.pair := rfl
@[simp] theorem State.onIlk_caller (f : Ilk → Ilk) : (s.onIlk f).caller = s.caller := rfl
@[simp] theorem State.onIlk_unit (f : Ilk → Ilk) : (s.onIlk f).unit = s.unit := rfl
@[simp] theorem State.onIlk_unitStore (f : Ilk → Ilk) : (s.onIlk f).unitStore = s.unitStore := rfl
@[simp] theorem State.onIlk_areaA (f : Ilk → Ilk) : (s.onIlk f).areaA = s.areaA := rfl
@[simp] theorem State.onIlk_areaB (f : Ilk → Ilk) : (s.onIlk f).areaB = s.areaB := rfl
@[simp] theorem State.onIlk_cells (f : Ilk → Ilk) : (s.onIlk f).cells = s.cells := rfl
@[simp] theorem State.onIlk_badGroups (f : Ilk → Ilk) : (s.onIlk f).badGroups = s.badGroups := rfl
@[simp] theorem State.onIlk_worn (f : Ilk → Ilk) : (s.onIlk f).worn = s.worn := rfl
@[simp] theorem State.onIlk_unsteady (f : Ilk → Ilk) : (s.onIlk f).unsteady = s.unsteady := rfl
@[simp] theorem State.onIlk_store (f : Ilk → Ilk) : (s.onIlk f).store = s.store := rfl
@[simp] theorem State.onIlk_dsp (f : Ilk → Ilk) : (s.onIlk f).dsp = s.dsp := rfl
@[simp] theorem State.onIlk_keys (f : Ilk → Ilk) : (s.onIlk f).keys = s.keys := rfl
@[simp] theorem State.onIlk_hk (f : Ilk → Ilk) : (s.onIlk f).hk = s.hk := rfl
@[simp] theorem State.onIlk_aon (f : Ilk → Ilk) : (s.onIlk f).aon = s.aon := rfl
@[simp] theorem State.onIlk_heldAt (f : Ilk → Ilk) : (s.onIlk f).heldAt = s.heldAt := rfl
@[simp] theorem State.onIlk_heldRes (f : Ilk → Ilk) : (s.onIlk f).heldRes = s.heldRes := rfl
@[simp] theorem State.onIlk_w1cAt (f : Ilk → Ilk) : (s.onIlk f).w1cAt = s.w1cAt := rfl
@[simp] theorem State.onIlk_w1cNow (f : Ilk → Ilk) : (s.onIlk f).w1cNow = s.w1cNow := rfl
@[simp] theorem State.onIlk_pending (f : Ilk → Ilk) : (s.onIlk f).pending = s.pending := rfl

/-! ### onSvc -/
@[simp] theorem State.onSvc_phase (f : Services → Services) : (s.onSvc f).phase = s.phase := rfl
@[simp] theorem State.onSvc_tb (f : Services → Services) : (s.onSvc f).tb = s.tb := rfl
@[simp] theorem State.onSvc_tbFrac (f : Services → Services) : (s.onSvc f).tbFrac = s.tbFrac := rfl
@[simp] theorem State.onSvc_free (f : Services → Services) : (s.onSvc f).free = s.free := rfl
@[simp] theorem State.onSvc_era (f : Services → Services) : (s.onSvc f).era = s.era := rfl
@[simp] theorem State.onSvc_pmrc (f : Services → Services) : (s.onSvc f).pmrc = s.pmrc := rfl
@[simp] theorem State.onSvc_xtalOk (f : Services → Services) : (s.onSvc f).xtalOk = s.xtalOk := rfl
@[simp] theorem State.onSvc_ev (f : Services → Services) : (s.onSvc f).ev = s.ev := rfl
@[simp] theorem State.onSvc_cal (f : Services → Services) : (s.onSvc f).cal = s.cal := rfl
@[simp] theorem State.onSvc_pw (f : Services → Services) : (s.onSvc f).pw = s.pw := rfl
@[simp] theorem State.onSvc_mgmt (f : Services → Services) : (s.onSvc f).mgmt = s.mgmt := rfl
@[simp] theorem State.onSvc_link (f : Services → Services) : (s.onSvc f).link = s.link := rfl
@[simp] theorem State.onSvc_rem (f : Services → Services) : (s.onSvc f).rem = s.rem := rfl
@[simp] theorem State.onSvc_com (f : Services → Services) : (s.onSvc f).com = s.com := rfl
@[simp] theorem State.onSvc_epoch (f : Services → Services) : (s.onSvc f).epoch = s.epoch := rfl
@[simp] theorem State.onSvc_tbc (f : Services → Services) : (s.onSvc f).tbc = s.tbc := rfl
@[simp] theorem State.onSvc_beatAt (f : Services → Services) : (s.onSvc f).beatAt = s.beatAt := rfl
@[simp] theorem State.onSvc_staged (f : Services → Services) : (s.onSvc f).staged = s.staged := rfl
@[simp] theorem State.onSvc_nextUid (f : Services → Services) : (s.onSvc f).nextUid = s.nextUid := rfl
@[simp] theorem State.onSvc_waits (f : Services → Services) : (s.onSvc f).waits = s.waits := rfl
@[simp] theorem State.onSvc_toApply (f : Services → Services) : (s.onSvc f).toApply = s.toApply := rfl
@[simp] theorem State.onSvc_applyDue (f : Services → Services) : (s.onSvc f).applyDue = s.applyDue := rfl
@[simp] theorem State.onSvc_groups (f : Services → Services) : (s.onSvc f).groups = s.groups := rfl
@[simp] theorem State.onSvc_snaps (f : Services → Services) : (s.onSvc f).snaps = s.snaps := rfl
@[simp] theorem State.onSvc_applied (f : Services → Services) : (s.onSvc f).applied = s.applied := rfl
@[simp] theorem State.onSvc_appliedVp (f : Services → Services) : (s.onSvc f).appliedVp = s.appliedVp := rfl
@[simp] theorem State.onSvc_latched (f : Services → Services) : (s.onSvc f).latched = s.latched := rfl
@[simp] theorem State.onSvc_prm (f : Services → Services) : (s.onSvc f).prm = s.prm := rfl
@[simp] theorem State.onSvc_sar (f : Services → Services) : (s.onSvc f).sar = s.sar := rfl
@[simp] theorem State.onSvc_pres (f : Services → Services) : (s.onSvc f).pres = s.pres := rfl
@[simp] theorem State.onSvc_vl (f : Services → Services) : (s.onSvc f).vl = s.vl := rfl
@[simp] theorem State.onSvc_out (f : Services → Services) : (s.onSvc f).out = s.out := rfl
@[simp] theorem State.onSvc_fio (f : Services → Services) : (s.onSvc f).fio = s.fio := rfl
@[simp] theorem State.onSvc_ilk (f : Services → Services) : (s.onSvc f).ilk = s.ilk := rfl
@[simp] theorem State.onSvc_bus (f : Services → Services) : (s.onSvc f).bus = s.bus := rfl
@[simp] theorem State.onSvc_pair (f : Services → Services) : (s.onSvc f).pair = s.pair := rfl
@[simp] theorem State.onSvc_caller (f : Services → Services) : (s.onSvc f).caller = s.caller := rfl
@[simp] theorem State.onSvc_unit (f : Services → Services) : (s.onSvc f).unit = s.unit := rfl
@[simp] theorem State.onSvc_unitStore (f : Services → Services) : (s.onSvc f).unitStore = s.unitStore := rfl
@[simp] theorem State.onSvc_areaA (f : Services → Services) : (s.onSvc f).areaA = s.areaA := rfl
@[simp] theorem State.onSvc_areaB (f : Services → Services) : (s.onSvc f).areaB = s.areaB := rfl
@[simp] theorem State.onSvc_cells (f : Services → Services) : (s.onSvc f).cells = s.cells := rfl
@[simp] theorem State.onSvc_badGroups (f : Services → Services) : (s.onSvc f).badGroups = s.badGroups := rfl
@[simp] theorem State.onSvc_worn (f : Services → Services) : (s.onSvc f).worn = s.worn := rfl
@[simp] theorem State.onSvc_unsteady (f : Services → Services) : (s.onSvc f).unsteady = s.unsteady := rfl
@[simp] theorem State.onSvc_store (f : Services → Services) : (s.onSvc f).store = s.store := rfl
@[simp] theorem State.onSvc_dsp (f : Services → Services) : (s.onSvc f).dsp = s.dsp := rfl
@[simp] theorem State.onSvc_keys (f : Services → Services) : (s.onSvc f).keys = s.keys := rfl
@[simp] theorem State.onSvc_hk (f : Services → Services) : (s.onSvc f).hk = s.hk := rfl
@[simp] theorem State.onSvc_aon (f : Services → Services) : (s.onSvc f).aon = s.aon := rfl
@[simp] theorem State.onSvc_heldAt (f : Services → Services) : (s.onSvc f).heldAt = s.heldAt := rfl
@[simp] theorem State.onSvc_heldRes (f : Services → Services) : (s.onSvc f).heldRes = s.heldRes := rfl
@[simp] theorem State.onSvc_w1cAt (f : Services → Services) : (s.onSvc f).w1cAt = s.w1cAt := rfl
@[simp] theorem State.onSvc_w1cNow (f : Services → Services) : (s.onSvc f).w1cNow = s.w1cNow := rfl
@[simp] theorem State.onSvc_pending (f : Services → Services) : (s.onSvc f).pending = s.pending := rfl

/-! ### onBus -/
@[simp] theorem State.onBus_phase (f : Bus → Bus) : (s.onBus f).phase = s.phase := rfl
@[simp] theorem State.onBus_tb (f : Bus → Bus) : (s.onBus f).tb = s.tb := rfl
@[simp] theorem State.onBus_tbFrac (f : Bus → Bus) : (s.onBus f).tbFrac = s.tbFrac := rfl
@[simp] theorem State.onBus_free (f : Bus → Bus) : (s.onBus f).free = s.free := rfl
@[simp] theorem State.onBus_era (f : Bus → Bus) : (s.onBus f).era = s.era := rfl
@[simp] theorem State.onBus_pmrc (f : Bus → Bus) : (s.onBus f).pmrc = s.pmrc := rfl
@[simp] theorem State.onBus_xtalOk (f : Bus → Bus) : (s.onBus f).xtalOk = s.xtalOk := rfl
@[simp] theorem State.onBus_ev (f : Bus → Bus) : (s.onBus f).ev = s.ev := rfl
@[simp] theorem State.onBus_cal (f : Bus → Bus) : (s.onBus f).cal = s.cal := rfl
@[simp] theorem State.onBus_pw (f : Bus → Bus) : (s.onBus f).pw = s.pw := rfl
@[simp] theorem State.onBus_mgmt (f : Bus → Bus) : (s.onBus f).mgmt = s.mgmt := rfl
@[simp] theorem State.onBus_link (f : Bus → Bus) : (s.onBus f).link = s.link := rfl
@[simp] theorem State.onBus_rem (f : Bus → Bus) : (s.onBus f).rem = s.rem := rfl
@[simp] theorem State.onBus_com (f : Bus → Bus) : (s.onBus f).com = s.com := rfl
@[simp] theorem State.onBus_epoch (f : Bus → Bus) : (s.onBus f).epoch = s.epoch := rfl
@[simp] theorem State.onBus_tbc (f : Bus → Bus) : (s.onBus f).tbc = s.tbc := rfl
@[simp] theorem State.onBus_beatAt (f : Bus → Bus) : (s.onBus f).beatAt = s.beatAt := rfl
@[simp] theorem State.onBus_staged (f : Bus → Bus) : (s.onBus f).staged = s.staged := rfl
@[simp] theorem State.onBus_nextUid (f : Bus → Bus) : (s.onBus f).nextUid = s.nextUid := rfl
@[simp] theorem State.onBus_waits (f : Bus → Bus) : (s.onBus f).waits = s.waits := rfl
@[simp] theorem State.onBus_toApply (f : Bus → Bus) : (s.onBus f).toApply = s.toApply := rfl
@[simp] theorem State.onBus_applyDue (f : Bus → Bus) : (s.onBus f).applyDue = s.applyDue := rfl
@[simp] theorem State.onBus_groups (f : Bus → Bus) : (s.onBus f).groups = s.groups := rfl
@[simp] theorem State.onBus_snaps (f : Bus → Bus) : (s.onBus f).snaps = s.snaps := rfl
@[simp] theorem State.onBus_applied (f : Bus → Bus) : (s.onBus f).applied = s.applied := rfl
@[simp] theorem State.onBus_appliedVp (f : Bus → Bus) : (s.onBus f).appliedVp = s.appliedVp := rfl
@[simp] theorem State.onBus_latched (f : Bus → Bus) : (s.onBus f).latched = s.latched := rfl
@[simp] theorem State.onBus_prm (f : Bus → Bus) : (s.onBus f).prm = s.prm := rfl
@[simp] theorem State.onBus_sar (f : Bus → Bus) : (s.onBus f).sar = s.sar := rfl
@[simp] theorem State.onBus_pres (f : Bus → Bus) : (s.onBus f).pres = s.pres := rfl
@[simp] theorem State.onBus_vl (f : Bus → Bus) : (s.onBus f).vl = s.vl := rfl
@[simp] theorem State.onBus_out (f : Bus → Bus) : (s.onBus f).out = s.out := rfl
@[simp] theorem State.onBus_fio (f : Bus → Bus) : (s.onBus f).fio = s.fio := rfl
@[simp] theorem State.onBus_ilk (f : Bus → Bus) : (s.onBus f).ilk = s.ilk := rfl
@[simp] theorem State.onBus_svc (f : Bus → Bus) : (s.onBus f).svc = s.svc := rfl
@[simp] theorem State.onBus_pair (f : Bus → Bus) : (s.onBus f).pair = s.pair := rfl
@[simp] theorem State.onBus_caller (f : Bus → Bus) : (s.onBus f).caller = s.caller := rfl
@[simp] theorem State.onBus_unit (f : Bus → Bus) : (s.onBus f).unit = s.unit := rfl
@[simp] theorem State.onBus_unitStore (f : Bus → Bus) : (s.onBus f).unitStore = s.unitStore := rfl
@[simp] theorem State.onBus_areaA (f : Bus → Bus) : (s.onBus f).areaA = s.areaA := rfl
@[simp] theorem State.onBus_areaB (f : Bus → Bus) : (s.onBus f).areaB = s.areaB := rfl
@[simp] theorem State.onBus_cells (f : Bus → Bus) : (s.onBus f).cells = s.cells := rfl
@[simp] theorem State.onBus_badGroups (f : Bus → Bus) : (s.onBus f).badGroups = s.badGroups := rfl
@[simp] theorem State.onBus_worn (f : Bus → Bus) : (s.onBus f).worn = s.worn := rfl
@[simp] theorem State.onBus_unsteady (f : Bus → Bus) : (s.onBus f).unsteady = s.unsteady := rfl
@[simp] theorem State.onBus_store (f : Bus → Bus) : (s.onBus f).store = s.store := rfl
@[simp] theorem State.onBus_dsp (f : Bus → Bus) : (s.onBus f).dsp = s.dsp := rfl
@[simp] theorem State.onBus_keys (f : Bus → Bus) : (s.onBus f).keys = s.keys := rfl
@[simp] theorem State.onBus_hk (f : Bus → Bus) : (s.onBus f).hk = s.hk := rfl
@[simp] theorem State.onBus_aon (f : Bus → Bus) : (s.onBus f).aon = s.aon := rfl
@[simp] theorem State.onBus_heldAt (f : Bus → Bus) : (s.onBus f).heldAt = s.heldAt := rfl
@[simp] theorem State.onBus_heldRes (f : Bus → Bus) : (s.onBus f).heldRes = s.heldRes := rfl
@[simp] theorem State.onBus_w1cAt (f : Bus → Bus) : (s.onBus f).w1cAt = s.w1cAt := rfl
@[simp] theorem State.onBus_w1cNow (f : Bus → Bus) : (s.onBus f).w1cNow = s.w1cNow := rfl
@[simp] theorem State.onBus_pending (f : Bus → Bus) : (s.onBus f).pending = s.pending := rfl

/-! ### onPair -/
@[simp] theorem State.onPair_phase (f : Pair → Pair) : (s.onPair f).phase = s.phase := rfl
@[simp] theorem State.onPair_tb (f : Pair → Pair) : (s.onPair f).tb = s.tb := rfl
@[simp] theorem State.onPair_tbFrac (f : Pair → Pair) : (s.onPair f).tbFrac = s.tbFrac := rfl
@[simp] theorem State.onPair_free (f : Pair → Pair) : (s.onPair f).free = s.free := rfl
@[simp] theorem State.onPair_era (f : Pair → Pair) : (s.onPair f).era = s.era := rfl
@[simp] theorem State.onPair_pmrc (f : Pair → Pair) : (s.onPair f).pmrc = s.pmrc := rfl
@[simp] theorem State.onPair_xtalOk (f : Pair → Pair) : (s.onPair f).xtalOk = s.xtalOk := rfl
@[simp] theorem State.onPair_ev (f : Pair → Pair) : (s.onPair f).ev = s.ev := rfl
@[simp] theorem State.onPair_cal (f : Pair → Pair) : (s.onPair f).cal = s.cal := rfl
@[simp] theorem State.onPair_pw (f : Pair → Pair) : (s.onPair f).pw = s.pw := rfl
@[simp] theorem State.onPair_mgmt (f : Pair → Pair) : (s.onPair f).mgmt = s.mgmt := rfl
@[simp] theorem State.onPair_link (f : Pair → Pair) : (s.onPair f).link = s.link := rfl
@[simp] theorem State.onPair_rem (f : Pair → Pair) : (s.onPair f).rem = s.rem := rfl
@[simp] theorem State.onPair_com (f : Pair → Pair) : (s.onPair f).com = s.com := rfl
@[simp] theorem State.onPair_epoch (f : Pair → Pair) : (s.onPair f).epoch = s.epoch := rfl
@[simp] theorem State.onPair_tbc (f : Pair → Pair) : (s.onPair f).tbc = s.tbc := rfl
@[simp] theorem State.onPair_beatAt (f : Pair → Pair) : (s.onPair f).beatAt = s.beatAt := rfl
@[simp] theorem State.onPair_staged (f : Pair → Pair) : (s.onPair f).staged = s.staged := rfl
@[simp] theorem State.onPair_nextUid (f : Pair → Pair) : (s.onPair f).nextUid = s.nextUid := rfl
@[simp] theorem State.onPair_waits (f : Pair → Pair) : (s.onPair f).waits = s.waits := rfl
@[simp] theorem State.onPair_toApply (f : Pair → Pair) : (s.onPair f).toApply = s.toApply := rfl
@[simp] theorem State.onPair_applyDue (f : Pair → Pair) : (s.onPair f).applyDue = s.applyDue := rfl
@[simp] theorem State.onPair_groups (f : Pair → Pair) : (s.onPair f).groups = s.groups := rfl
@[simp] theorem State.onPair_snaps (f : Pair → Pair) : (s.onPair f).snaps = s.snaps := rfl
@[simp] theorem State.onPair_applied (f : Pair → Pair) : (s.onPair f).applied = s.applied := rfl
@[simp] theorem State.onPair_appliedVp (f : Pair → Pair) : (s.onPair f).appliedVp = s.appliedVp := rfl
@[simp] theorem State.onPair_latched (f : Pair → Pair) : (s.onPair f).latched = s.latched := rfl
@[simp] theorem State.onPair_prm (f : Pair → Pair) : (s.onPair f).prm = s.prm := rfl
@[simp] theorem State.onPair_sar (f : Pair → Pair) : (s.onPair f).sar = s.sar := rfl
@[simp] theorem State.onPair_pres (f : Pair → Pair) : (s.onPair f).pres = s.pres := rfl
@[simp] theorem State.onPair_vl (f : Pair → Pair) : (s.onPair f).vl = s.vl := rfl
@[simp] theorem State.onPair_out (f : Pair → Pair) : (s.onPair f).out = s.out := rfl
@[simp] theorem State.onPair_fio (f : Pair → Pair) : (s.onPair f).fio = s.fio := rfl
@[simp] theorem State.onPair_ilk (f : Pair → Pair) : (s.onPair f).ilk = s.ilk := rfl
@[simp] theorem State.onPair_svc (f : Pair → Pair) : (s.onPair f).svc = s.svc := rfl
@[simp] theorem State.onPair_bus (f : Pair → Pair) : (s.onPair f).bus = s.bus := rfl
@[simp] theorem State.onPair_caller (f : Pair → Pair) : (s.onPair f).caller = s.caller := rfl
@[simp] theorem State.onPair_unit (f : Pair → Pair) : (s.onPair f).unit = s.unit := rfl
@[simp] theorem State.onPair_unitStore (f : Pair → Pair) : (s.onPair f).unitStore = s.unitStore := rfl
@[simp] theorem State.onPair_areaA (f : Pair → Pair) : (s.onPair f).areaA = s.areaA := rfl
@[simp] theorem State.onPair_areaB (f : Pair → Pair) : (s.onPair f).areaB = s.areaB := rfl
@[simp] theorem State.onPair_cells (f : Pair → Pair) : (s.onPair f).cells = s.cells := rfl
@[simp] theorem State.onPair_badGroups (f : Pair → Pair) : (s.onPair f).badGroups = s.badGroups := rfl
@[simp] theorem State.onPair_worn (f : Pair → Pair) : (s.onPair f).worn = s.worn := rfl
@[simp] theorem State.onPair_unsteady (f : Pair → Pair) : (s.onPair f).unsteady = s.unsteady := rfl
@[simp] theorem State.onPair_store (f : Pair → Pair) : (s.onPair f).store = s.store := rfl
@[simp] theorem State.onPair_dsp (f : Pair → Pair) : (s.onPair f).dsp = s.dsp := rfl
@[simp] theorem State.onPair_keys (f : Pair → Pair) : (s.onPair f).keys = s.keys := rfl
@[simp] theorem State.onPair_hk (f : Pair → Pair) : (s.onPair f).hk = s.hk := rfl
@[simp] theorem State.onPair_aon (f : Pair → Pair) : (s.onPair f).aon = s.aon := rfl
@[simp] theorem State.onPair_heldAt (f : Pair → Pair) : (s.onPair f).heldAt = s.heldAt := rfl
@[simp] theorem State.onPair_heldRes (f : Pair → Pair) : (s.onPair f).heldRes = s.heldRes := rfl
@[simp] theorem State.onPair_w1cAt (f : Pair → Pair) : (s.onPair f).w1cAt = s.w1cAt := rfl
@[simp] theorem State.onPair_w1cNow (f : Pair → Pair) : (s.onPair f).w1cNow = s.w1cNow := rfl
@[simp] theorem State.onPair_pending (f : Pair → Pair) : (s.onPair f).pending = s.pending := rfl

/-! ### onCaller -/
@[simp] theorem State.onCaller_phase (f : Caller → Caller) : (s.onCaller f).phase = s.phase := rfl
@[simp] theorem State.onCaller_tb (f : Caller → Caller) : (s.onCaller f).tb = s.tb := rfl
@[simp] theorem State.onCaller_tbFrac (f : Caller → Caller) : (s.onCaller f).tbFrac = s.tbFrac := rfl
@[simp] theorem State.onCaller_free (f : Caller → Caller) : (s.onCaller f).free = s.free := rfl
@[simp] theorem State.onCaller_era (f : Caller → Caller) : (s.onCaller f).era = s.era := rfl
@[simp] theorem State.onCaller_pmrc (f : Caller → Caller) : (s.onCaller f).pmrc = s.pmrc := rfl
@[simp] theorem State.onCaller_xtalOk (f : Caller → Caller) : (s.onCaller f).xtalOk = s.xtalOk := rfl
@[simp] theorem State.onCaller_ev (f : Caller → Caller) : (s.onCaller f).ev = s.ev := rfl
@[simp] theorem State.onCaller_cal (f : Caller → Caller) : (s.onCaller f).cal = s.cal := rfl
@[simp] theorem State.onCaller_pw (f : Caller → Caller) : (s.onCaller f).pw = s.pw := rfl
@[simp] theorem State.onCaller_mgmt (f : Caller → Caller) : (s.onCaller f).mgmt = s.mgmt := rfl
@[simp] theorem State.onCaller_link (f : Caller → Caller) : (s.onCaller f).link = s.link := rfl
@[simp] theorem State.onCaller_rem (f : Caller → Caller) : (s.onCaller f).rem = s.rem := rfl
@[simp] theorem State.onCaller_com (f : Caller → Caller) : (s.onCaller f).com = s.com := rfl
@[simp] theorem State.onCaller_epoch (f : Caller → Caller) : (s.onCaller f).epoch = s.epoch := rfl
@[simp] theorem State.onCaller_tbc (f : Caller → Caller) : (s.onCaller f).tbc = s.tbc := rfl
@[simp] theorem State.onCaller_beatAt (f : Caller → Caller) : (s.onCaller f).beatAt = s.beatAt := rfl
@[simp] theorem State.onCaller_staged (f : Caller → Caller) : (s.onCaller f).staged = s.staged := rfl
@[simp] theorem State.onCaller_nextUid (f : Caller → Caller) : (s.onCaller f).nextUid = s.nextUid := rfl
@[simp] theorem State.onCaller_waits (f : Caller → Caller) : (s.onCaller f).waits = s.waits := rfl
@[simp] theorem State.onCaller_toApply (f : Caller → Caller) : (s.onCaller f).toApply = s.toApply := rfl
@[simp] theorem State.onCaller_applyDue (f : Caller → Caller) : (s.onCaller f).applyDue = s.applyDue := rfl
@[simp] theorem State.onCaller_groups (f : Caller → Caller) : (s.onCaller f).groups = s.groups := rfl
@[simp] theorem State.onCaller_snaps (f : Caller → Caller) : (s.onCaller f).snaps = s.snaps := rfl
@[simp] theorem State.onCaller_applied (f : Caller → Caller) : (s.onCaller f).applied = s.applied := rfl
@[simp] theorem State.onCaller_appliedVp (f : Caller → Caller) : (s.onCaller f).appliedVp = s.appliedVp := rfl
@[simp] theorem State.onCaller_latched (f : Caller → Caller) : (s.onCaller f).latched = s.latched := rfl
@[simp] theorem State.onCaller_prm (f : Caller → Caller) : (s.onCaller f).prm = s.prm := rfl
@[simp] theorem State.onCaller_sar (f : Caller → Caller) : (s.onCaller f).sar = s.sar := rfl
@[simp] theorem State.onCaller_pres (f : Caller → Caller) : (s.onCaller f).pres = s.pres := rfl
@[simp] theorem State.onCaller_vl (f : Caller → Caller) : (s.onCaller f).vl = s.vl := rfl
@[simp] theorem State.onCaller_out (f : Caller → Caller) : (s.onCaller f).out = s.out := rfl
@[simp] theorem State.onCaller_fio (f : Caller → Caller) : (s.onCaller f).fio = s.fio := rfl
@[simp] theorem State.onCaller_ilk (f : Caller → Caller) : (s.onCaller f).ilk = s.ilk := rfl
@[simp] theorem State.onCaller_svc (f : Caller → Caller) : (s.onCaller f).svc = s.svc := rfl
@[simp] theorem State.onCaller_bus (f : Caller → Caller) : (s.onCaller f).bus = s.bus := rfl
@[simp] theorem State.onCaller_pair (f : Caller → Caller) : (s.onCaller f).pair = s.pair := rfl
@[simp] theorem State.onCaller_unit (f : Caller → Caller) : (s.onCaller f).unit = s.unit := rfl
@[simp] theorem State.onCaller_unitStore (f : Caller → Caller) : (s.onCaller f).unitStore = s.unitStore := rfl
@[simp] theorem State.onCaller_areaA (f : Caller → Caller) : (s.onCaller f).areaA = s.areaA := rfl
@[simp] theorem State.onCaller_areaB (f : Caller → Caller) : (s.onCaller f).areaB = s.areaB := rfl
@[simp] theorem State.onCaller_cells (f : Caller → Caller) : (s.onCaller f).cells = s.cells := rfl
@[simp] theorem State.onCaller_badGroups (f : Caller → Caller) : (s.onCaller f).badGroups = s.badGroups := rfl
@[simp] theorem State.onCaller_worn (f : Caller → Caller) : (s.onCaller f).worn = s.worn := rfl
@[simp] theorem State.onCaller_unsteady (f : Caller → Caller) : (s.onCaller f).unsteady = s.unsteady := rfl
@[simp] theorem State.onCaller_store (f : Caller → Caller) : (s.onCaller f).store = s.store := rfl
@[simp] theorem State.onCaller_dsp (f : Caller → Caller) : (s.onCaller f).dsp = s.dsp := rfl
@[simp] theorem State.onCaller_keys (f : Caller → Caller) : (s.onCaller f).keys = s.keys := rfl
@[simp] theorem State.onCaller_hk (f : Caller → Caller) : (s.onCaller f).hk = s.hk := rfl
@[simp] theorem State.onCaller_aon (f : Caller → Caller) : (s.onCaller f).aon = s.aon := rfl
@[simp] theorem State.onCaller_heldAt (f : Caller → Caller) : (s.onCaller f).heldAt = s.heldAt := rfl
@[simp] theorem State.onCaller_heldRes (f : Caller → Caller) : (s.onCaller f).heldRes = s.heldRes := rfl
@[simp] theorem State.onCaller_w1cAt (f : Caller → Caller) : (s.onCaller f).w1cAt = s.w1cAt := rfl
@[simp] theorem State.onCaller_w1cNow (f : Caller → Caller) : (s.onCaller f).w1cNow = s.w1cNow := rfl
@[simp] theorem State.onCaller_pending (f : Caller → Caller) : (s.onCaller f).pending = s.pending := rfl

/-! ### onDsp -/
@[simp] theorem State.onDsp_phase (f : Display → Display) : (s.onDsp f).phase = s.phase := rfl
@[simp] theorem State.onDsp_tb (f : Display → Display) : (s.onDsp f).tb = s.tb := rfl
@[simp] theorem State.onDsp_tbFrac (f : Display → Display) : (s.onDsp f).tbFrac = s.tbFrac := rfl
@[simp] theorem State.onDsp_free (f : Display → Display) : (s.onDsp f).free = s.free := rfl
@[simp] theorem State.onDsp_era (f : Display → Display) : (s.onDsp f).era = s.era := rfl
@[simp] theorem State.onDsp_pmrc (f : Display → Display) : (s.onDsp f).pmrc = s.pmrc := rfl
@[simp] theorem State.onDsp_xtalOk (f : Display → Display) : (s.onDsp f).xtalOk = s.xtalOk := rfl
@[simp] theorem State.onDsp_ev (f : Display → Display) : (s.onDsp f).ev = s.ev := rfl
@[simp] theorem State.onDsp_cal (f : Display → Display) : (s.onDsp f).cal = s.cal := rfl
@[simp] theorem State.onDsp_pw (f : Display → Display) : (s.onDsp f).pw = s.pw := rfl
@[simp] theorem State.onDsp_mgmt (f : Display → Display) : (s.onDsp f).mgmt = s.mgmt := rfl
@[simp] theorem State.onDsp_link (f : Display → Display) : (s.onDsp f).link = s.link := rfl
@[simp] theorem State.onDsp_rem (f : Display → Display) : (s.onDsp f).rem = s.rem := rfl
@[simp] theorem State.onDsp_com (f : Display → Display) : (s.onDsp f).com = s.com := rfl
@[simp] theorem State.onDsp_epoch (f : Display → Display) : (s.onDsp f).epoch = s.epoch := rfl
@[simp] theorem State.onDsp_tbc (f : Display → Display) : (s.onDsp f).tbc = s.tbc := rfl
@[simp] theorem State.onDsp_beatAt (f : Display → Display) : (s.onDsp f).beatAt = s.beatAt := rfl
@[simp] theorem State.onDsp_staged (f : Display → Display) : (s.onDsp f).staged = s.staged := rfl
@[simp] theorem State.onDsp_nextUid (f : Display → Display) : (s.onDsp f).nextUid = s.nextUid := rfl
@[simp] theorem State.onDsp_waits (f : Display → Display) : (s.onDsp f).waits = s.waits := rfl
@[simp] theorem State.onDsp_toApply (f : Display → Display) : (s.onDsp f).toApply = s.toApply := rfl
@[simp] theorem State.onDsp_applyDue (f : Display → Display) : (s.onDsp f).applyDue = s.applyDue := rfl
@[simp] theorem State.onDsp_groups (f : Display → Display) : (s.onDsp f).groups = s.groups := rfl
@[simp] theorem State.onDsp_snaps (f : Display → Display) : (s.onDsp f).snaps = s.snaps := rfl
@[simp] theorem State.onDsp_applied (f : Display → Display) : (s.onDsp f).applied = s.applied := rfl
@[simp] theorem State.onDsp_appliedVp (f : Display → Display) : (s.onDsp f).appliedVp = s.appliedVp := rfl
@[simp] theorem State.onDsp_latched (f : Display → Display) : (s.onDsp f).latched = s.latched := rfl
@[simp] theorem State.onDsp_prm (f : Display → Display) : (s.onDsp f).prm = s.prm := rfl
@[simp] theorem State.onDsp_sar (f : Display → Display) : (s.onDsp f).sar = s.sar := rfl
@[simp] theorem State.onDsp_pres (f : Display → Display) : (s.onDsp f).pres = s.pres := rfl
@[simp] theorem State.onDsp_vl (f : Display → Display) : (s.onDsp f).vl = s.vl := rfl
@[simp] theorem State.onDsp_out (f : Display → Display) : (s.onDsp f).out = s.out := rfl
@[simp] theorem State.onDsp_fio (f : Display → Display) : (s.onDsp f).fio = s.fio := rfl
@[simp] theorem State.onDsp_ilk (f : Display → Display) : (s.onDsp f).ilk = s.ilk := rfl
@[simp] theorem State.onDsp_svc (f : Display → Display) : (s.onDsp f).svc = s.svc := rfl
@[simp] theorem State.onDsp_bus (f : Display → Display) : (s.onDsp f).bus = s.bus := rfl
@[simp] theorem State.onDsp_pair (f : Display → Display) : (s.onDsp f).pair = s.pair := rfl
@[simp] theorem State.onDsp_caller (f : Display → Display) : (s.onDsp f).caller = s.caller := rfl
@[simp] theorem State.onDsp_unit (f : Display → Display) : (s.onDsp f).unit = s.unit := rfl
@[simp] theorem State.onDsp_unitStore (f : Display → Display) : (s.onDsp f).unitStore = s.unitStore := rfl
@[simp] theorem State.onDsp_areaA (f : Display → Display) : (s.onDsp f).areaA = s.areaA := rfl
@[simp] theorem State.onDsp_areaB (f : Display → Display) : (s.onDsp f).areaB = s.areaB := rfl
@[simp] theorem State.onDsp_cells (f : Display → Display) : (s.onDsp f).cells = s.cells := rfl
@[simp] theorem State.onDsp_badGroups (f : Display → Display) : (s.onDsp f).badGroups = s.badGroups := rfl
@[simp] theorem State.onDsp_worn (f : Display → Display) : (s.onDsp f).worn = s.worn := rfl
@[simp] theorem State.onDsp_unsteady (f : Display → Display) : (s.onDsp f).unsteady = s.unsteady := rfl
@[simp] theorem State.onDsp_store (f : Display → Display) : (s.onDsp f).store = s.store := rfl
@[simp] theorem State.onDsp_keys (f : Display → Display) : (s.onDsp f).keys = s.keys := rfl
@[simp] theorem State.onDsp_hk (f : Display → Display) : (s.onDsp f).hk = s.hk := rfl
@[simp] theorem State.onDsp_aon (f : Display → Display) : (s.onDsp f).aon = s.aon := rfl
@[simp] theorem State.onDsp_heldAt (f : Display → Display) : (s.onDsp f).heldAt = s.heldAt := rfl
@[simp] theorem State.onDsp_heldRes (f : Display → Display) : (s.onDsp f).heldRes = s.heldRes := rfl
@[simp] theorem State.onDsp_w1cAt (f : Display → Display) : (s.onDsp f).w1cAt = s.w1cAt := rfl
@[simp] theorem State.onDsp_w1cNow (f : Display → Display) : (s.onDsp f).w1cNow = s.w1cNow := rfl
@[simp] theorem State.onDsp_pending (f : Display → Display) : (s.onDsp f).pending = s.pending := rfl

/-! ### onKeys -/
@[simp] theorem State.onKeys_phase (f : Keys → Keys) : (s.onKeys f).phase = s.phase := rfl
@[simp] theorem State.onKeys_tb (f : Keys → Keys) : (s.onKeys f).tb = s.tb := rfl
@[simp] theorem State.onKeys_tbFrac (f : Keys → Keys) : (s.onKeys f).tbFrac = s.tbFrac := rfl
@[simp] theorem State.onKeys_free (f : Keys → Keys) : (s.onKeys f).free = s.free := rfl
@[simp] theorem State.onKeys_era (f : Keys → Keys) : (s.onKeys f).era = s.era := rfl
@[simp] theorem State.onKeys_pmrc (f : Keys → Keys) : (s.onKeys f).pmrc = s.pmrc := rfl
@[simp] theorem State.onKeys_xtalOk (f : Keys → Keys) : (s.onKeys f).xtalOk = s.xtalOk := rfl
@[simp] theorem State.onKeys_ev (f : Keys → Keys) : (s.onKeys f).ev = s.ev := rfl
@[simp] theorem State.onKeys_cal (f : Keys → Keys) : (s.onKeys f).cal = s.cal := rfl
@[simp] theorem State.onKeys_pw (f : Keys → Keys) : (s.onKeys f).pw = s.pw := rfl
@[simp] theorem State.onKeys_mgmt (f : Keys → Keys) : (s.onKeys f).mgmt = s.mgmt := rfl
@[simp] theorem State.onKeys_link (f : Keys → Keys) : (s.onKeys f).link = s.link := rfl
@[simp] theorem State.onKeys_rem (f : Keys → Keys) : (s.onKeys f).rem = s.rem := rfl
@[simp] theorem State.onKeys_com (f : Keys → Keys) : (s.onKeys f).com = s.com := rfl
@[simp] theorem State.onKeys_epoch (f : Keys → Keys) : (s.onKeys f).epoch = s.epoch := rfl
@[simp] theorem State.onKeys_tbc (f : Keys → Keys) : (s.onKeys f).tbc = s.tbc := rfl
@[simp] theorem State.onKeys_beatAt (f : Keys → Keys) : (s.onKeys f).beatAt = s.beatAt := rfl
@[simp] theorem State.onKeys_staged (f : Keys → Keys) : (s.onKeys f).staged = s.staged := rfl
@[simp] theorem State.onKeys_nextUid (f : Keys → Keys) : (s.onKeys f).nextUid = s.nextUid := rfl
@[simp] theorem State.onKeys_waits (f : Keys → Keys) : (s.onKeys f).waits = s.waits := rfl
@[simp] theorem State.onKeys_toApply (f : Keys → Keys) : (s.onKeys f).toApply = s.toApply := rfl
@[simp] theorem State.onKeys_applyDue (f : Keys → Keys) : (s.onKeys f).applyDue = s.applyDue := rfl
@[simp] theorem State.onKeys_groups (f : Keys → Keys) : (s.onKeys f).groups = s.groups := rfl
@[simp] theorem State.onKeys_snaps (f : Keys → Keys) : (s.onKeys f).snaps = s.snaps := rfl
@[simp] theorem State.onKeys_applied (f : Keys → Keys) : (s.onKeys f).applied = s.applied := rfl
@[simp] theorem State.onKeys_appliedVp (f : Keys → Keys) : (s.onKeys f).appliedVp = s.appliedVp := rfl
@[simp] theorem State.onKeys_latched (f : Keys → Keys) : (s.onKeys f).latched = s.latched := rfl
@[simp] theorem State.onKeys_prm (f : Keys → Keys) : (s.onKeys f).prm = s.prm := rfl
@[simp] theorem State.onKeys_sar (f : Keys → Keys) : (s.onKeys f).sar = s.sar := rfl
@[simp] theorem State.onKeys_pres (f : Keys → Keys) : (s.onKeys f).pres = s.pres := rfl
@[simp] theorem State.onKeys_vl (f : Keys → Keys) : (s.onKeys f).vl = s.vl := rfl
@[simp] theorem State.onKeys_out (f : Keys → Keys) : (s.onKeys f).out = s.out := rfl
@[simp] theorem State.onKeys_fio (f : Keys → Keys) : (s.onKeys f).fio = s.fio := rfl
@[simp] theorem State.onKeys_ilk (f : Keys → Keys) : (s.onKeys f).ilk = s.ilk := rfl
@[simp] theorem State.onKeys_svc (f : Keys → Keys) : (s.onKeys f).svc = s.svc := rfl
@[simp] theorem State.onKeys_bus (f : Keys → Keys) : (s.onKeys f).bus = s.bus := rfl
@[simp] theorem State.onKeys_pair (f : Keys → Keys) : (s.onKeys f).pair = s.pair := rfl
@[simp] theorem State.onKeys_caller (f : Keys → Keys) : (s.onKeys f).caller = s.caller := rfl
@[simp] theorem State.onKeys_unit (f : Keys → Keys) : (s.onKeys f).unit = s.unit := rfl
@[simp] theorem State.onKeys_unitStore (f : Keys → Keys) : (s.onKeys f).unitStore = s.unitStore := rfl
@[simp] theorem State.onKeys_areaA (f : Keys → Keys) : (s.onKeys f).areaA = s.areaA := rfl
@[simp] theorem State.onKeys_areaB (f : Keys → Keys) : (s.onKeys f).areaB = s.areaB := rfl
@[simp] theorem State.onKeys_cells (f : Keys → Keys) : (s.onKeys f).cells = s.cells := rfl
@[simp] theorem State.onKeys_badGroups (f : Keys → Keys) : (s.onKeys f).badGroups = s.badGroups := rfl
@[simp] theorem State.onKeys_worn (f : Keys → Keys) : (s.onKeys f).worn = s.worn := rfl
@[simp] theorem State.onKeys_unsteady (f : Keys → Keys) : (s.onKeys f).unsteady = s.unsteady := rfl
@[simp] theorem State.onKeys_store (f : Keys → Keys) : (s.onKeys f).store = s.store := rfl
@[simp] theorem State.onKeys_dsp (f : Keys → Keys) : (s.onKeys f).dsp = s.dsp := rfl
@[simp] theorem State.onKeys_hk (f : Keys → Keys) : (s.onKeys f).hk = s.hk := rfl
@[simp] theorem State.onKeys_aon (f : Keys → Keys) : (s.onKeys f).aon = s.aon := rfl
@[simp] theorem State.onKeys_heldAt (f : Keys → Keys) : (s.onKeys f).heldAt = s.heldAt := rfl
@[simp] theorem State.onKeys_heldRes (f : Keys → Keys) : (s.onKeys f).heldRes = s.heldRes := rfl
@[simp] theorem State.onKeys_w1cAt (f : Keys → Keys) : (s.onKeys f).w1cAt = s.w1cAt := rfl
@[simp] theorem State.onKeys_w1cNow (f : Keys → Keys) : (s.onKeys f).w1cNow = s.w1cNow := rfl
@[simp] theorem State.onKeys_pending (f : Keys → Keys) : (s.onKeys f).pending = s.pending := rfl

/-! ### onHk -/
@[simp] theorem State.onHk_phase (f : Hk → Hk) : (s.onHk f).phase = s.phase := rfl
@[simp] theorem State.onHk_tb (f : Hk → Hk) : (s.onHk f).tb = s.tb := rfl
@[simp] theorem State.onHk_tbFrac (f : Hk → Hk) : (s.onHk f).tbFrac = s.tbFrac := rfl
@[simp] theorem State.onHk_free (f : Hk → Hk) : (s.onHk f).free = s.free := rfl
@[simp] theorem State.onHk_era (f : Hk → Hk) : (s.onHk f).era = s.era := rfl
@[simp] theorem State.onHk_pmrc (f : Hk → Hk) : (s.onHk f).pmrc = s.pmrc := rfl
@[simp] theorem State.onHk_xtalOk (f : Hk → Hk) : (s.onHk f).xtalOk = s.xtalOk := rfl
@[simp] theorem State.onHk_ev (f : Hk → Hk) : (s.onHk f).ev = s.ev := rfl
@[simp] theorem State.onHk_cal (f : Hk → Hk) : (s.onHk f).cal = s.cal := rfl
@[simp] theorem State.onHk_pw (f : Hk → Hk) : (s.onHk f).pw = s.pw := rfl
@[simp] theorem State.onHk_mgmt (f : Hk → Hk) : (s.onHk f).mgmt = s.mgmt := rfl
@[simp] theorem State.onHk_link (f : Hk → Hk) : (s.onHk f).link = s.link := rfl
@[simp] theorem State.onHk_rem (f : Hk → Hk) : (s.onHk f).rem = s.rem := rfl
@[simp] theorem State.onHk_com (f : Hk → Hk) : (s.onHk f).com = s.com := rfl
@[simp] theorem State.onHk_epoch (f : Hk → Hk) : (s.onHk f).epoch = s.epoch := rfl
@[simp] theorem State.onHk_tbc (f : Hk → Hk) : (s.onHk f).tbc = s.tbc := rfl
@[simp] theorem State.onHk_beatAt (f : Hk → Hk) : (s.onHk f).beatAt = s.beatAt := rfl
@[simp] theorem State.onHk_staged (f : Hk → Hk) : (s.onHk f).staged = s.staged := rfl
@[simp] theorem State.onHk_nextUid (f : Hk → Hk) : (s.onHk f).nextUid = s.nextUid := rfl
@[simp] theorem State.onHk_waits (f : Hk → Hk) : (s.onHk f).waits = s.waits := rfl
@[simp] theorem State.onHk_toApply (f : Hk → Hk) : (s.onHk f).toApply = s.toApply := rfl
@[simp] theorem State.onHk_applyDue (f : Hk → Hk) : (s.onHk f).applyDue = s.applyDue := rfl
@[simp] theorem State.onHk_groups (f : Hk → Hk) : (s.onHk f).groups = s.groups := rfl
@[simp] theorem State.onHk_snaps (f : Hk → Hk) : (s.onHk f).snaps = s.snaps := rfl
@[simp] theorem State.onHk_applied (f : Hk → Hk) : (s.onHk f).applied = s.applied := rfl
@[simp] theorem State.onHk_appliedVp (f : Hk → Hk) : (s.onHk f).appliedVp = s.appliedVp := rfl
@[simp] theorem State.onHk_latched (f : Hk → Hk) : (s.onHk f).latched = s.latched := rfl
@[simp] theorem State.onHk_prm (f : Hk → Hk) : (s.onHk f).prm = s.prm := rfl
@[simp] theorem State.onHk_sar (f : Hk → Hk) : (s.onHk f).sar = s.sar := rfl
@[simp] theorem State.onHk_pres (f : Hk → Hk) : (s.onHk f).pres = s.pres := rfl
@[simp] theorem State.onHk_vl (f : Hk → Hk) : (s.onHk f).vl = s.vl := rfl
@[simp] theorem State.onHk_out (f : Hk → Hk) : (s.onHk f).out = s.out := rfl
@[simp] theorem State.onHk_fio (f : Hk → Hk) : (s.onHk f).fio = s.fio := rfl
@[simp] theorem State.onHk_ilk (f : Hk → Hk) : (s.onHk f).ilk = s.ilk := rfl
@[simp] theorem State.onHk_svc (f : Hk → Hk) : (s.onHk f).svc = s.svc := rfl
@[simp] theorem State.onHk_bus (f : Hk → Hk) : (s.onHk f).bus = s.bus := rfl
@[simp] theorem State.onHk_pair (f : Hk → Hk) : (s.onHk f).pair = s.pair := rfl
@[simp] theorem State.onHk_caller (f : Hk → Hk) : (s.onHk f).caller = s.caller := rfl
@[simp] theorem State.onHk_unit (f : Hk → Hk) : (s.onHk f).unit = s.unit := rfl
@[simp] theorem State.onHk_unitStore (f : Hk → Hk) : (s.onHk f).unitStore = s.unitStore := rfl
@[simp] theorem State.onHk_areaA (f : Hk → Hk) : (s.onHk f).areaA = s.areaA := rfl
@[simp] theorem State.onHk_areaB (f : Hk → Hk) : (s.onHk f).areaB = s.areaB := rfl
@[simp] theorem State.onHk_cells (f : Hk → Hk) : (s.onHk f).cells = s.cells := rfl
@[simp] theorem State.onHk_badGroups (f : Hk → Hk) : (s.onHk f).badGroups = s.badGroups := rfl
@[simp] theorem State.onHk_worn (f : Hk → Hk) : (s.onHk f).worn = s.worn := rfl
@[simp] theorem State.onHk_unsteady (f : Hk → Hk) : (s.onHk f).unsteady = s.unsteady := rfl
@[simp] theorem State.onHk_store (f : Hk → Hk) : (s.onHk f).store = s.store := rfl
@[simp] theorem State.onHk_dsp (f : Hk → Hk) : (s.onHk f).dsp = s.dsp := rfl
@[simp] theorem State.onHk_keys (f : Hk → Hk) : (s.onHk f).keys = s.keys := rfl
@[simp] theorem State.onHk_aon (f : Hk → Hk) : (s.onHk f).aon = s.aon := rfl
@[simp] theorem State.onHk_heldAt (f : Hk → Hk) : (s.onHk f).heldAt = s.heldAt := rfl
@[simp] theorem State.onHk_heldRes (f : Hk → Hk) : (s.onHk f).heldRes = s.heldRes := rfl
@[simp] theorem State.onHk_w1cAt (f : Hk → Hk) : (s.onHk f).w1cAt = s.w1cAt := rfl
@[simp] theorem State.onHk_w1cNow (f : Hk → Hk) : (s.onHk f).w1cNow = s.w1cNow := rfl
@[simp] theorem State.onHk_pending (f : Hk → Hk) : (s.onHk f).pending = s.pending := rfl

/-! ### pass -/
@[simp] theorem State.pass_phase (d : Nat) : (s.pass d).phase = s.phase := rfl
@[simp] theorem State.pass_tbFrac (d : Nat) : (s.pass d).tbFrac = s.tbFrac := rfl
@[simp] theorem State.pass_free (d : Nat) : (s.pass d).free = s.free := rfl
@[simp] theorem State.pass_era (d : Nat) : (s.pass d).era = s.era := rfl
@[simp] theorem State.pass_pmrc (d : Nat) : (s.pass d).pmrc = s.pmrc := rfl
@[simp] theorem State.pass_xtalOk (d : Nat) : (s.pass d).xtalOk = s.xtalOk := rfl
@[simp] theorem State.pass_ev (d : Nat) : (s.pass d).ev = s.ev := rfl
@[simp] theorem State.pass_cal (d : Nat) : (s.pass d).cal = s.cal := rfl
@[simp] theorem State.pass_pw (d : Nat) : (s.pass d).pw = s.pw := rfl
@[simp] theorem State.pass_mgmt (d : Nat) : (s.pass d).mgmt = s.mgmt := rfl
@[simp] theorem State.pass_link (d : Nat) : (s.pass d).link = s.link := rfl
@[simp] theorem State.pass_rem (d : Nat) : (s.pass d).rem = s.rem := rfl
@[simp] theorem State.pass_com (d : Nat) : (s.pass d).com = s.com := rfl
@[simp] theorem State.pass_epoch (d : Nat) : (s.pass d).epoch = s.epoch := rfl
@[simp] theorem State.pass_tbc (d : Nat) : (s.pass d).tbc = s.tbc := rfl
@[simp] theorem State.pass_beatAt (d : Nat) : (s.pass d).beatAt = s.beatAt := rfl
@[simp] theorem State.pass_staged (d : Nat) : (s.pass d).staged = s.staged := rfl
@[simp] theorem State.pass_nextUid (d : Nat) : (s.pass d).nextUid = s.nextUid := rfl
@[simp] theorem State.pass_waits (d : Nat) : (s.pass d).waits = s.waits := rfl
@[simp] theorem State.pass_toApply (d : Nat) : (s.pass d).toApply = s.toApply := rfl
@[simp] theorem State.pass_applyDue (d : Nat) : (s.pass d).applyDue = s.applyDue := rfl
@[simp] theorem State.pass_groups (d : Nat) : (s.pass d).groups = s.groups := rfl
@[simp] theorem State.pass_snaps (d : Nat) : (s.pass d).snaps = s.snaps := rfl
@[simp] theorem State.pass_applied (d : Nat) : (s.pass d).applied = s.applied := rfl
@[simp] theorem State.pass_appliedVp (d : Nat) : (s.pass d).appliedVp = s.appliedVp := rfl
@[simp] theorem State.pass_latched (d : Nat) : (s.pass d).latched = s.latched := rfl
@[simp] theorem State.pass_prm (d : Nat) : (s.pass d).prm = s.prm := rfl
@[simp] theorem State.pass_sar (d : Nat) : (s.pass d).sar = s.sar := rfl
@[simp] theorem State.pass_pres (d : Nat) : (s.pass d).pres = s.pres := rfl
@[simp] theorem State.pass_vl (d : Nat) : (s.pass d).vl = s.vl := rfl
@[simp] theorem State.pass_out (d : Nat) : (s.pass d).out = s.out := rfl
@[simp] theorem State.pass_fio (d : Nat) : (s.pass d).fio = s.fio := rfl
@[simp] theorem State.pass_ilk (d : Nat) : (s.pass d).ilk = s.ilk := rfl
@[simp] theorem State.pass_svc (d : Nat) : (s.pass d).svc = s.svc := rfl
@[simp] theorem State.pass_bus (d : Nat) : (s.pass d).bus = s.bus := rfl
@[simp] theorem State.pass_pair (d : Nat) : (s.pass d).pair = s.pair := rfl
@[simp] theorem State.pass_caller (d : Nat) : (s.pass d).caller = s.caller := rfl
@[simp] theorem State.pass_unit (d : Nat) : (s.pass d).unit = s.unit := rfl
@[simp] theorem State.pass_unitStore (d : Nat) : (s.pass d).unitStore = s.unitStore := rfl
@[simp] theorem State.pass_areaA (d : Nat) : (s.pass d).areaA = s.areaA := rfl
@[simp] theorem State.pass_areaB (d : Nat) : (s.pass d).areaB = s.areaB := rfl
@[simp] theorem State.pass_cells (d : Nat) : (s.pass d).cells = s.cells := rfl
@[simp] theorem State.pass_badGroups (d : Nat) : (s.pass d).badGroups = s.badGroups := rfl
@[simp] theorem State.pass_worn (d : Nat) : (s.pass d).worn = s.worn := rfl
@[simp] theorem State.pass_unsteady (d : Nat) : (s.pass d).unsteady = s.unsteady := rfl
@[simp] theorem State.pass_store (d : Nat) : (s.pass d).store = s.store := rfl
@[simp] theorem State.pass_dsp (d : Nat) : (s.pass d).dsp = s.dsp := rfl
@[simp] theorem State.pass_keys (d : Nat) : (s.pass d).keys = s.keys := rfl
@[simp] theorem State.pass_hk (d : Nat) : (s.pass d).hk = s.hk := rfl
@[simp] theorem State.pass_aon (d : Nat) : (s.pass d).aon = s.aon := rfl
@[simp] theorem State.pass_heldAt (d : Nat) : (s.pass d).heldAt = s.heldAt := rfl
@[simp] theorem State.pass_heldRes (d : Nat) : (s.pass d).heldRes = s.heldRes := rfl
@[simp] theorem State.pass_w1cAt (d : Nat) : (s.pass d).w1cAt = s.w1cAt := rfl
@[simp] theorem State.pass_w1cNow (d : Nat) : (s.pass d).w1cNow = s.w1cNow := rfl
@[simp] theorem State.pass_pending (d : Nat) : (s.pass d).pending = s.pending := rfl

/-! ### keepLatch -/
@[simp] theorem State.keepLatch_phase (i : Nat) (on : Bool) : (s.keepLatch i on).phase = s.phase := rfl
@[simp] theorem State.keepLatch_tb (i : Nat) (on : Bool) : (s.keepLatch i on).tb = s.tb := rfl
@[simp] theorem State.keepLatch_tbFrac (i : Nat) (on : Bool) : (s.keepLatch i on).tbFrac = s.tbFrac := rfl
@[simp] theorem State.keepLatch_free (i : Nat) (on : Bool) : (s.keepLatch i on).free = s.free := rfl
@[simp] theorem State.keepLatch_era (i : Nat) (on : Bool) : (s.keepLatch i on).era = s.era := rfl
@[simp] theorem State.keepLatch_pmrc (i : Nat) (on : Bool) : (s.keepLatch i on).pmrc = s.pmrc := rfl
@[simp] theorem State.keepLatch_xtalOk (i : Nat) (on : Bool) : (s.keepLatch i on).xtalOk = s.xtalOk := rfl
@[simp] theorem State.keepLatch_ev (i : Nat) (on : Bool) : (s.keepLatch i on).ev = s.ev := rfl
@[simp] theorem State.keepLatch_cal (i : Nat) (on : Bool) : (s.keepLatch i on).cal = s.cal := rfl
@[simp] theorem State.keepLatch_pw (i : Nat) (on : Bool) : (s.keepLatch i on).pw = s.pw := rfl
@[simp] theorem State.keepLatch_mgmt (i : Nat) (on : Bool) : (s.keepLatch i on).mgmt = s.mgmt := rfl
@[simp] theorem State.keepLatch_link (i : Nat) (on : Bool) : (s.keepLatch i on).link = s.link := rfl
@[simp] theorem State.keepLatch_rem (i : Nat) (on : Bool) : (s.keepLatch i on).rem = s.rem := rfl
@[simp] theorem State.keepLatch_com (i : Nat) (on : Bool) : (s.keepLatch i on).com = s.com := rfl
@[simp] theorem State.keepLatch_epoch (i : Nat) (on : Bool) : (s.keepLatch i on).epoch = s.epoch := rfl
@[simp] theorem State.keepLatch_tbc (i : Nat) (on : Bool) : (s.keepLatch i on).tbc = s.tbc := rfl
@[simp] theorem State.keepLatch_beatAt (i : Nat) (on : Bool) : (s.keepLatch i on).beatAt = s.beatAt := rfl
@[simp] theorem State.keepLatch_staged (i : Nat) (on : Bool) : (s.keepLatch i on).staged = s.staged := rfl
@[simp] theorem State.keepLatch_nextUid (i : Nat) (on : Bool) : (s.keepLatch i on).nextUid = s.nextUid := rfl
@[simp] theorem State.keepLatch_waits (i : Nat) (on : Bool) : (s.keepLatch i on).waits = s.waits := rfl
@[simp] theorem State.keepLatch_toApply (i : Nat) (on : Bool) : (s.keepLatch i on).toApply = s.toApply := rfl
@[simp] theorem State.keepLatch_applyDue (i : Nat) (on : Bool) : (s.keepLatch i on).applyDue = s.applyDue := rfl
@[simp] theorem State.keepLatch_groups (i : Nat) (on : Bool) : (s.keepLatch i on).groups = s.groups := rfl
@[simp] theorem State.keepLatch_snaps (i : Nat) (on : Bool) : (s.keepLatch i on).snaps = s.snaps := rfl
@[simp] theorem State.keepLatch_applied (i : Nat) (on : Bool) : (s.keepLatch i on).applied = s.applied := rfl
@[simp] theorem State.keepLatch_appliedVp (i : Nat) (on : Bool) : (s.keepLatch i on).appliedVp = s.appliedVp := rfl
@[simp] theorem State.keepLatch_latched (i : Nat) (on : Bool) : (s.keepLatch i on).latched = s.latched := rfl
@[simp] theorem State.keepLatch_prm (i : Nat) (on : Bool) : (s.keepLatch i on).prm = s.prm := rfl
@[simp] theorem State.keepLatch_sar (i : Nat) (on : Bool) : (s.keepLatch i on).sar = s.sar := rfl
@[simp] theorem State.keepLatch_pres (i : Nat) (on : Bool) : (s.keepLatch i on).pres = s.pres := rfl
@[simp] theorem State.keepLatch_vl (i : Nat) (on : Bool) : (s.keepLatch i on).vl = s.vl := rfl
@[simp] theorem State.keepLatch_out (i : Nat) (on : Bool) : (s.keepLatch i on).out = s.out := rfl
@[simp] theorem State.keepLatch_fio (i : Nat) (on : Bool) : (s.keepLatch i on).fio = s.fio := rfl
@[simp] theorem State.keepLatch_ilk (i : Nat) (on : Bool) : (s.keepLatch i on).ilk = s.ilk := rfl
@[simp] theorem State.keepLatch_svc (i : Nat) (on : Bool) : (s.keepLatch i on).svc = s.svc := rfl
@[simp] theorem State.keepLatch_bus (i : Nat) (on : Bool) : (s.keepLatch i on).bus = s.bus := rfl
@[simp] theorem State.keepLatch_pair (i : Nat) (on : Bool) : (s.keepLatch i on).pair = s.pair := rfl
@[simp] theorem State.keepLatch_caller (i : Nat) (on : Bool) : (s.keepLatch i on).caller = s.caller := rfl
@[simp] theorem State.keepLatch_unit (i : Nat) (on : Bool) : (s.keepLatch i on).unit = s.unit := rfl
@[simp] theorem State.keepLatch_unitStore (i : Nat) (on : Bool) : (s.keepLatch i on).unitStore = s.unitStore := rfl
@[simp] theorem State.keepLatch_areaA (i : Nat) (on : Bool) : (s.keepLatch i on).areaA = s.areaA := rfl
@[simp] theorem State.keepLatch_areaB (i : Nat) (on : Bool) : (s.keepLatch i on).areaB = s.areaB := rfl
@[simp] theorem State.keepLatch_cells (i : Nat) (on : Bool) : (s.keepLatch i on).cells = s.cells := rfl
@[simp] theorem State.keepLatch_badGroups (i : Nat) (on : Bool) : (s.keepLatch i on).badGroups = s.badGroups := rfl
@[simp] theorem State.keepLatch_worn (i : Nat) (on : Bool) : (s.keepLatch i on).worn = s.worn := rfl
@[simp] theorem State.keepLatch_unsteady (i : Nat) (on : Bool) : (s.keepLatch i on).unsteady = s.unsteady := rfl
@[simp] theorem State.keepLatch_store (i : Nat) (on : Bool) : (s.keepLatch i on).store = s.store := rfl
@[simp] theorem State.keepLatch_dsp (i : Nat) (on : Bool) : (s.keepLatch i on).dsp = s.dsp := rfl
@[simp] theorem State.keepLatch_keys (i : Nat) (on : Bool) : (s.keepLatch i on).keys = s.keys := rfl
@[simp] theorem State.keepLatch_hk (i : Nat) (on : Bool) : (s.keepLatch i on).hk = s.hk := rfl
@[simp] theorem State.keepLatch_heldAt (i : Nat) (on : Bool) : (s.keepLatch i on).heldAt = s.heldAt := rfl
@[simp] theorem State.keepLatch_heldRes (i : Nat) (on : Bool) : (s.keepLatch i on).heldRes = s.heldRes := rfl
@[simp] theorem State.keepLatch_w1cAt (i : Nat) (on : Bool) : (s.keepLatch i on).w1cAt = s.w1cAt := rfl
@[simp] theorem State.keepLatch_w1cNow (i : Nat) (on : Bool) : (s.keepLatch i on).w1cNow = s.w1cNow := rfl
@[simp] theorem State.keepLatch_pending (i : Nat) (on : Bool) : (s.keepLatch i on).pending = s.pending := rfl

/-! ### linkQueue -/
@[simp] theorem State.linkQueue_phase (typ : Nat) (b : Bytes) : (s.linkQueue typ b).phase = s.phase := rfl
@[simp] theorem State.linkQueue_tb (typ : Nat) (b : Bytes) : (s.linkQueue typ b).tb = s.tb := rfl
@[simp] theorem State.linkQueue_tbFrac (typ : Nat) (b : Bytes) : (s.linkQueue typ b).tbFrac = s.tbFrac := rfl
@[simp] theorem State.linkQueue_free (typ : Nat) (b : Bytes) : (s.linkQueue typ b).free = s.free := rfl
@[simp] theorem State.linkQueue_era (typ : Nat) (b : Bytes) : (s.linkQueue typ b).era = s.era := rfl
@[simp] theorem State.linkQueue_pmrc (typ : Nat) (b : Bytes) : (s.linkQueue typ b).pmrc = s.pmrc := rfl
@[simp] theorem State.linkQueue_xtalOk (typ : Nat) (b : Bytes) : (s.linkQueue typ b).xtalOk = s.xtalOk := rfl
@[simp] theorem State.linkQueue_ev (typ : Nat) (b : Bytes) : (s.linkQueue typ b).ev = s.ev := rfl
@[simp] theorem State.linkQueue_cal (typ : Nat) (b : Bytes) : (s.linkQueue typ b).cal = s.cal := rfl
@[simp] theorem State.linkQueue_pw (typ : Nat) (b : Bytes) : (s.linkQueue typ b).pw = s.pw := rfl
@[simp] theorem State.linkQueue_mgmt (typ : Nat) (b : Bytes) : (s.linkQueue typ b).mgmt = s.mgmt := rfl
@[simp] theorem State.linkQueue_link (typ : Nat) (b : Bytes) : (s.linkQueue typ b).link = s.link := rfl
@[simp] theorem State.linkQueue_rem (typ : Nat) (b : Bytes) : (s.linkQueue typ b).rem = s.rem := rfl
@[simp] theorem State.linkQueue_com (typ : Nat) (b : Bytes) : (s.linkQueue typ b).com = s.com := rfl
@[simp] theorem State.linkQueue_epoch (typ : Nat) (b : Bytes) : (s.linkQueue typ b).epoch = s.epoch := rfl
@[simp] theorem State.linkQueue_tbc (typ : Nat) (b : Bytes) : (s.linkQueue typ b).tbc = s.tbc := rfl
@[simp] theorem State.linkQueue_beatAt (typ : Nat) (b : Bytes) : (s.linkQueue typ b).beatAt = s.beatAt := rfl
@[simp] theorem State.linkQueue_staged (typ : Nat) (b : Bytes) : (s.linkQueue typ b).staged = s.staged := rfl
@[simp] theorem State.linkQueue_nextUid (typ : Nat) (b : Bytes) : (s.linkQueue typ b).nextUid = s.nextUid := rfl
@[simp] theorem State.linkQueue_waits (typ : Nat) (b : Bytes) : (s.linkQueue typ b).waits = s.waits := rfl
@[simp] theorem State.linkQueue_toApply (typ : Nat) (b : Bytes) : (s.linkQueue typ b).toApply = s.toApply := rfl
@[simp] theorem State.linkQueue_applyDue (typ : Nat) (b : Bytes) : (s.linkQueue typ b).applyDue = s.applyDue := rfl
@[simp] theorem State.linkQueue_groups (typ : Nat) (b : Bytes) : (s.linkQueue typ b).groups = s.groups := rfl
@[simp] theorem State.linkQueue_snaps (typ : Nat) (b : Bytes) : (s.linkQueue typ b).snaps = s.snaps := rfl
@[simp] theorem State.linkQueue_applied (typ : Nat) (b : Bytes) : (s.linkQueue typ b).applied = s.applied := rfl
@[simp] theorem State.linkQueue_appliedVp (typ : Nat) (b : Bytes) : (s.linkQueue typ b).appliedVp = s.appliedVp := rfl
@[simp] theorem State.linkQueue_latched (typ : Nat) (b : Bytes) : (s.linkQueue typ b).latched = s.latched := rfl
@[simp] theorem State.linkQueue_prm (typ : Nat) (b : Bytes) : (s.linkQueue typ b).prm = s.prm := rfl
@[simp] theorem State.linkQueue_sar (typ : Nat) (b : Bytes) : (s.linkQueue typ b).sar = s.sar := rfl
@[simp] theorem State.linkQueue_pres (typ : Nat) (b : Bytes) : (s.linkQueue typ b).pres = s.pres := rfl
@[simp] theorem State.linkQueue_vl (typ : Nat) (b : Bytes) : (s.linkQueue typ b).vl = s.vl := rfl
@[simp] theorem State.linkQueue_out (typ : Nat) (b : Bytes) : (s.linkQueue typ b).out = s.out := rfl
@[simp] theorem State.linkQueue_fio (typ : Nat) (b : Bytes) : (s.linkQueue typ b).fio = s.fio := rfl
@[simp] theorem State.linkQueue_ilk (typ : Nat) (b : Bytes) : (s.linkQueue typ b).ilk = s.ilk := rfl
@[simp] theorem State.linkQueue_svc (typ : Nat) (b : Bytes) : (s.linkQueue typ b).svc = s.svc := rfl
@[simp] theorem State.linkQueue_bus (typ : Nat) (b : Bytes) : (s.linkQueue typ b).bus = s.bus := rfl
@[simp] theorem State.linkQueue_caller (typ : Nat) (b : Bytes) : (s.linkQueue typ b).caller = s.caller := rfl
@[simp] theorem State.linkQueue_unit (typ : Nat) (b : Bytes) : (s.linkQueue typ b).unit = s.unit := rfl
@[simp] theorem State.linkQueue_unitStore (typ : Nat) (b : Bytes) : (s.linkQueue typ b).unitStore = s.unitStore := rfl
@[simp] theorem State.linkQueue_areaA (typ : Nat) (b : Bytes) : (s.linkQueue typ b).areaA = s.areaA := rfl
@[simp] theorem State.linkQueue_areaB (typ : Nat) (b : Bytes) : (s.linkQueue typ b).areaB = s.areaB := rfl
@[simp] theorem State.linkQueue_cells (typ : Nat) (b : Bytes) : (s.linkQueue typ b).cells = s.cells := rfl
@[simp] theorem State.linkQueue_badGroups (typ : Nat) (b : Bytes) : (s.linkQueue typ b).badGroups = s.badGroups := rfl
@[simp] theorem State.linkQueue_worn (typ : Nat) (b : Bytes) : (s.linkQueue typ b).worn = s.worn := rfl
@[simp] theorem State.linkQueue_unsteady (typ : Nat) (b : Bytes) : (s.linkQueue typ b).unsteady = s.unsteady := rfl
@[simp] theorem State.linkQueue_store (typ : Nat) (b : Bytes) : (s.linkQueue typ b).store = s.store := rfl
@[simp] theorem State.linkQueue_dsp (typ : Nat) (b : Bytes) : (s.linkQueue typ b).dsp = s.dsp := rfl
@[simp] theorem State.linkQueue_keys (typ : Nat) (b : Bytes) : (s.linkQueue typ b).keys = s.keys := rfl
@[simp] theorem State.linkQueue_hk (typ : Nat) (b : Bytes) : (s.linkQueue typ b).hk = s.hk := rfl
@[simp] theorem State.linkQueue_aon (typ : Nat) (b : Bytes) : (s.linkQueue typ b).aon = s.aon := rfl
@[simp] theorem State.linkQueue_heldAt (typ : Nat) (b : Bytes) : (s.linkQueue typ b).heldAt = s.heldAt := rfl
@[simp] theorem State.linkQueue_heldRes (typ : Nat) (b : Bytes) : (s.linkQueue typ b).heldRes = s.heldRes := rfl
@[simp] theorem State.linkQueue_w1cAt (typ : Nat) (b : Bytes) : (s.linkQueue typ b).w1cAt = s.w1cAt := rfl
@[simp] theorem State.linkQueue_w1cNow (typ : Nat) (b : Bytes) : (s.linkQueue typ b).w1cNow = s.w1cNow := rfl
@[simp] theorem State.linkQueue_pending (typ : Nat) (b : Bytes) : (s.linkQueue typ b).pending = s.pending := rfl

/-! ### shiftOut -/
@[simp] theorem State.shiftOut_phase (b : Bytes) : (s.shiftOut b).phase = s.phase := rfl
@[simp] theorem State.shiftOut_tb (b : Bytes) : (s.shiftOut b).tb = s.tb := rfl
@[simp] theorem State.shiftOut_tbFrac (b : Bytes) : (s.shiftOut b).tbFrac = s.tbFrac := rfl
@[simp] theorem State.shiftOut_free (b : Bytes) : (s.shiftOut b).free = s.free := rfl
@[simp] theorem State.shiftOut_era (b : Bytes) : (s.shiftOut b).era = s.era := rfl
@[simp] theorem State.shiftOut_pmrc (b : Bytes) : (s.shiftOut b).pmrc = s.pmrc := rfl
@[simp] theorem State.shiftOut_xtalOk (b : Bytes) : (s.shiftOut b).xtalOk = s.xtalOk := rfl
@[simp] theorem State.shiftOut_ev (b : Bytes) : (s.shiftOut b).ev = s.ev := rfl
@[simp] theorem State.shiftOut_cal (b : Bytes) : (s.shiftOut b).cal = s.cal := rfl
@[simp] theorem State.shiftOut_pw (b : Bytes) : (s.shiftOut b).pw = s.pw := rfl
@[simp] theorem State.shiftOut_mgmt (b : Bytes) : (s.shiftOut b).mgmt = s.mgmt := rfl
@[simp] theorem State.shiftOut_rem (b : Bytes) : (s.shiftOut b).rem = s.rem := rfl
@[simp] theorem State.shiftOut_com (b : Bytes) : (s.shiftOut b).com = s.com := rfl
@[simp] theorem State.shiftOut_epoch (b : Bytes) : (s.shiftOut b).epoch = s.epoch := rfl
@[simp] theorem State.shiftOut_tbc (b : Bytes) : (s.shiftOut b).tbc = s.tbc := rfl
@[simp] theorem State.shiftOut_beatAt (b : Bytes) : (s.shiftOut b).beatAt = s.beatAt := rfl
@[simp] theorem State.shiftOut_staged (b : Bytes) : (s.shiftOut b).staged = s.staged := rfl
@[simp] theorem State.shiftOut_nextUid (b : Bytes) : (s.shiftOut b).nextUid = s.nextUid := rfl
@[simp] theorem State.shiftOut_waits (b : Bytes) : (s.shiftOut b).waits = s.waits := rfl
@[simp] theorem State.shiftOut_toApply (b : Bytes) : (s.shiftOut b).toApply = s.toApply := rfl
@[simp] theorem State.shiftOut_applyDue (b : Bytes) : (s.shiftOut b).applyDue = s.applyDue := rfl
@[simp] theorem State.shiftOut_groups (b : Bytes) : (s.shiftOut b).groups = s.groups := rfl
@[simp] theorem State.shiftOut_snaps (b : Bytes) : (s.shiftOut b).snaps = s.snaps := rfl
@[simp] theorem State.shiftOut_applied (b : Bytes) : (s.shiftOut b).applied = s.applied := rfl
@[simp] theorem State.shiftOut_appliedVp (b : Bytes) : (s.shiftOut b).appliedVp = s.appliedVp := rfl
@[simp] theorem State.shiftOut_latched (b : Bytes) : (s.shiftOut b).latched = s.latched := rfl
@[simp] theorem State.shiftOut_prm (b : Bytes) : (s.shiftOut b).prm = s.prm := rfl
@[simp] theorem State.shiftOut_sar (b : Bytes) : (s.shiftOut b).sar = s.sar := rfl
@[simp] theorem State.shiftOut_pres (b : Bytes) : (s.shiftOut b).pres = s.pres := rfl
@[simp] theorem State.shiftOut_vl (b : Bytes) : (s.shiftOut b).vl = s.vl := rfl
@[simp] theorem State.shiftOut_out (b : Bytes) : (s.shiftOut b).out = s.out := rfl
@[simp] theorem State.shiftOut_fio (b : Bytes) : (s.shiftOut b).fio = s.fio := rfl
@[simp] theorem State.shiftOut_ilk (b : Bytes) : (s.shiftOut b).ilk = s.ilk := rfl
@[simp] theorem State.shiftOut_svc (b : Bytes) : (s.shiftOut b).svc = s.svc := rfl
@[simp] theorem State.shiftOut_bus (b : Bytes) : (s.shiftOut b).bus = s.bus := rfl
@[simp] theorem State.shiftOut_pair (b : Bytes) : (s.shiftOut b).pair = s.pair := rfl
@[simp] theorem State.shiftOut_caller (b : Bytes) : (s.shiftOut b).caller = s.caller := rfl
@[simp] theorem State.shiftOut_unit (b : Bytes) : (s.shiftOut b).unit = s.unit := rfl
@[simp] theorem State.shiftOut_unitStore (b : Bytes) : (s.shiftOut b).unitStore = s.unitStore := rfl
@[simp] theorem State.shiftOut_areaA (b : Bytes) : (s.shiftOut b).areaA = s.areaA := rfl
@[simp] theorem State.shiftOut_areaB (b : Bytes) : (s.shiftOut b).areaB = s.areaB := rfl
@[simp] theorem State.shiftOut_cells (b : Bytes) : (s.shiftOut b).cells = s.cells := rfl
@[simp] theorem State.shiftOut_badGroups (b : Bytes) : (s.shiftOut b).badGroups = s.badGroups := rfl
@[simp] theorem State.shiftOut_worn (b : Bytes) : (s.shiftOut b).worn = s.worn := rfl
@[simp] theorem State.shiftOut_unsteady (b : Bytes) : (s.shiftOut b).unsteady = s.unsteady := rfl
@[simp] theorem State.shiftOut_store (b : Bytes) : (s.shiftOut b).store = s.store := rfl
@[simp] theorem State.shiftOut_dsp (b : Bytes) : (s.shiftOut b).dsp = s.dsp := rfl
@[simp] theorem State.shiftOut_keys (b : Bytes) : (s.shiftOut b).keys = s.keys := rfl
@[simp] theorem State.shiftOut_hk (b : Bytes) : (s.shiftOut b).hk = s.hk := rfl
@[simp] theorem State.shiftOut_aon (b : Bytes) : (s.shiftOut b).aon = s.aon := rfl
@[simp] theorem State.shiftOut_heldAt (b : Bytes) : (s.shiftOut b).heldAt = s.heldAt := rfl
@[simp] theorem State.shiftOut_heldRes (b : Bytes) : (s.shiftOut b).heldRes = s.heldRes := rfl
@[simp] theorem State.shiftOut_w1cAt (b : Bytes) : (s.shiftOut b).w1cAt = s.w1cAt := rfl
@[simp] theorem State.shiftOut_w1cNow (b : Bytes) : (s.shiftOut b).w1cNow = s.w1cNow := rfl
@[simp] theorem State.shiftOut_pending (b : Bytes) : (s.shiftOut b).pending = s.pending := rfl

/-! ### stage -/
@[simp] theorem State.stage_phase (sv : Bool) (ws : List Write) : (s.stage sv ws).phase = s.phase := rfl
@[simp] theorem State.stage_tb (sv : Bool) (ws : List Write) : (s.stage sv ws).tb = s.tb := rfl
@[simp] theorem State.stage_tbFrac (sv : Bool) (ws : List Write) : (s.stage sv ws).tbFrac = s.tbFrac := rfl
@[simp] theorem State.stage_free (sv : Bool) (ws : List Write) : (s.stage sv ws).free = s.free := rfl
@[simp] theorem State.stage_era (sv : Bool) (ws : List Write) : (s.stage sv ws).era = s.era := rfl
@[simp] theorem State.stage_pmrc (sv : Bool) (ws : List Write) : (s.stage sv ws).pmrc = s.pmrc := rfl
@[simp] theorem State.stage_xtalOk (sv : Bool) (ws : List Write) : (s.stage sv ws).xtalOk = s.xtalOk := rfl
@[simp] theorem State.stage_ev (sv : Bool) (ws : List Write) : (s.stage sv ws).ev = s.ev := rfl
@[simp] theorem State.stage_cal (sv : Bool) (ws : List Write) : (s.stage sv ws).cal = s.cal := rfl
@[simp] theorem State.stage_pw (sv : Bool) (ws : List Write) : (s.stage sv ws).pw = s.pw := rfl
@[simp] theorem State.stage_mgmt (sv : Bool) (ws : List Write) : (s.stage sv ws).mgmt = s.mgmt := rfl
@[simp] theorem State.stage_link (sv : Bool) (ws : List Write) : (s.stage sv ws).link = s.link := rfl
@[simp] theorem State.stage_rem (sv : Bool) (ws : List Write) : (s.stage sv ws).rem = s.rem := rfl
@[simp] theorem State.stage_com (sv : Bool) (ws : List Write) : (s.stage sv ws).com = s.com := rfl
@[simp] theorem State.stage_epoch (sv : Bool) (ws : List Write) : (s.stage sv ws).epoch = s.epoch := rfl
@[simp] theorem State.stage_tbc (sv : Bool) (ws : List Write) : (s.stage sv ws).tbc = s.tbc := rfl
@[simp] theorem State.stage_beatAt (sv : Bool) (ws : List Write) : (s.stage sv ws).beatAt = s.beatAt := rfl
@[simp] theorem State.stage_waits (sv : Bool) (ws : List Write) : (s.stage sv ws).waits = s.waits := rfl
@[simp] theorem State.stage_toApply (sv : Bool) (ws : List Write) : (s.stage sv ws).toApply = s.toApply := rfl
@[simp] theorem State.stage_applyDue (sv : Bool) (ws : List Write) : (s.stage sv ws).applyDue = s.applyDue := rfl
@[simp] theorem State.stage_groups (sv : Bool) (ws : List Write) : (s.stage sv ws).groups = s.groups := rfl
@[simp] theorem State.stage_snaps (sv : Bool) (ws : List Write) : (s.stage sv ws).snaps = s.snaps := rfl
@[simp] theorem State.stage_applied (sv : Bool) (ws : List Write) : (s.stage sv ws).applied = s.applied := rfl
@[simp] theorem State.stage_appliedVp (sv : Bool) (ws : List Write) : (s.stage sv ws).appliedVp = s.appliedVp := rfl
@[simp] theorem State.stage_latched (sv : Bool) (ws : List Write) : (s.stage sv ws).latched = s.latched := rfl
@[simp] theorem State.stage_prm (sv : Bool) (ws : List Write) : (s.stage sv ws).prm = s.prm := rfl
@[simp] theorem State.stage_sar (sv : Bool) (ws : List Write) : (s.stage sv ws).sar = s.sar := rfl
@[simp] theorem State.stage_pres (sv : Bool) (ws : List Write) : (s.stage sv ws).pres = s.pres := rfl
@[simp] theorem State.stage_vl (sv : Bool) (ws : List Write) : (s.stage sv ws).vl = s.vl := rfl
@[simp] theorem State.stage_out (sv : Bool) (ws : List Write) : (s.stage sv ws).out = s.out := rfl
@[simp] theorem State.stage_fio (sv : Bool) (ws : List Write) : (s.stage sv ws).fio = s.fio := rfl
@[simp] theorem State.stage_ilk (sv : Bool) (ws : List Write) : (s.stage sv ws).ilk = s.ilk := rfl
@[simp] theorem State.stage_svc (sv : Bool) (ws : List Write) : (s.stage sv ws).svc = s.svc := rfl
@[simp] theorem State.stage_bus (sv : Bool) (ws : List Write) : (s.stage sv ws).bus = s.bus := rfl
@[simp] theorem State.stage_pair (sv : Bool) (ws : List Write) : (s.stage sv ws).pair = s.pair := rfl
@[simp] theorem State.stage_caller (sv : Bool) (ws : List Write) : (s.stage sv ws).caller = s.caller := rfl
@[simp] theorem State.stage_unit (sv : Bool) (ws : List Write) : (s.stage sv ws).unit = s.unit := rfl
@[simp] theorem State.stage_unitStore (sv : Bool) (ws : List Write) : (s.stage sv ws).unitStore = s.unitStore := rfl
@[simp] theorem State.stage_areaA (sv : Bool) (ws : List Write) : (s.stage sv ws).areaA = s.areaA := rfl
@[simp] theorem State.stage_areaB (sv : Bool) (ws : List Write) : (s.stage sv ws).areaB = s.areaB := rfl
@[simp] theorem State.stage_cells (sv : Bool) (ws : List Write) : (s.stage sv ws).cells = s.cells := rfl
@[simp] theorem State.stage_badGroups (sv : Bool) (ws : List Write) : (s.stage sv ws).badGroups = s.badGroups := rfl
@[simp] theorem State.stage_worn (sv : Bool) (ws : List Write) : (s.stage sv ws).worn = s.worn := rfl
@[simp] theorem State.stage_unsteady (sv : Bool) (ws : List Write) : (s.stage sv ws).unsteady = s.unsteady := rfl
@[simp] theorem State.stage_store (sv : Bool) (ws : List Write) : (s.stage sv ws).store = s.store := rfl
@[simp] theorem State.stage_dsp (sv : Bool) (ws : List Write) : (s.stage sv ws).dsp = s.dsp := rfl
@[simp] theorem State.stage_keys (sv : Bool) (ws : List Write) : (s.stage sv ws).keys = s.keys := rfl
@[simp] theorem State.stage_hk (sv : Bool) (ws : List Write) : (s.stage sv ws).hk = s.hk := rfl
@[simp] theorem State.stage_aon (sv : Bool) (ws : List Write) : (s.stage sv ws).aon = s.aon := rfl
@[simp] theorem State.stage_heldAt (sv : Bool) (ws : List Write) : (s.stage sv ws).heldAt = s.heldAt := rfl
@[simp] theorem State.stage_heldRes (sv : Bool) (ws : List Write) : (s.stage sv ws).heldRes = s.heldRes := rfl
@[simp] theorem State.stage_w1cAt (sv : Bool) (ws : List Write) : (s.stage sv ws).w1cAt = s.w1cAt := rfl
@[simp] theorem State.stage_w1cNow (sv : Bool) (ws : List Write) : (s.stage sv ws).w1cNow = s.w1cNow := rfl
@[simp] theorem State.stage_pending (sv : Bool) (ws : List Write) : (s.stage sv ws).pending = s.pending := rfl

/-! ### stageRank -/
@[simp] theorem State.stageRank_phase (r : Nat) (ws : List Write) : (s.stageRank r ws).phase = s.phase := rfl
@[simp] theorem State.stageRank_tb (r : Nat) (ws : List Write) : (s.stageRank r ws).tb = s.tb := rfl
@[simp] theorem State.stageRank_tbFrac (r : Nat) (ws : List Write) : (s.stageRank r ws).tbFrac = s.tbFrac := rfl
@[simp] theorem State.stageRank_free (r : Nat) (ws : List Write) : (s.stageRank r ws).free = s.free := rfl
@[simp] theorem State.stageRank_era (r : Nat) (ws : List Write) : (s.stageRank r ws).era = s.era := rfl
@[simp] theorem State.stageRank_pmrc (r : Nat) (ws : List Write) : (s.stageRank r ws).pmrc = s.pmrc := rfl
@[simp] theorem State.stageRank_xtalOk (r : Nat) (ws : List Write) : (s.stageRank r ws).xtalOk = s.xtalOk := rfl
@[simp] theorem State.stageRank_ev (r : Nat) (ws : List Write) : (s.stageRank r ws).ev = s.ev := rfl
@[simp] theorem State.stageRank_cal (r : Nat) (ws : List Write) : (s.stageRank r ws).cal = s.cal := rfl
@[simp] theorem State.stageRank_pw (r : Nat) (ws : List Write) : (s.stageRank r ws).pw = s.pw := rfl
@[simp] theorem State.stageRank_mgmt (r : Nat) (ws : List Write) : (s.stageRank r ws).mgmt = s.mgmt := rfl
@[simp] theorem State.stageRank_link (r : Nat) (ws : List Write) : (s.stageRank r ws).link = s.link := rfl
@[simp] theorem State.stageRank_rem (r : Nat) (ws : List Write) : (s.stageRank r ws).rem = s.rem := rfl
@[simp] theorem State.stageRank_com (r : Nat) (ws : List Write) : (s.stageRank r ws).com = s.com := rfl
@[simp] theorem State.stageRank_epoch (r : Nat) (ws : List Write) : (s.stageRank r ws).epoch = s.epoch := rfl
@[simp] theorem State.stageRank_tbc (r : Nat) (ws : List Write) : (s.stageRank r ws).tbc = s.tbc := rfl
@[simp] theorem State.stageRank_beatAt (r : Nat) (ws : List Write) : (s.stageRank r ws).beatAt = s.beatAt := rfl
@[simp] theorem State.stageRank_waits (r : Nat) (ws : List Write) : (s.stageRank r ws).waits = s.waits := rfl
@[simp] theorem State.stageRank_toApply (r : Nat) (ws : List Write) : (s.stageRank r ws).toApply = s.toApply := rfl
@[simp] theorem State.stageRank_applyDue (r : Nat) (ws : List Write) : (s.stageRank r ws).applyDue = s.applyDue := rfl
@[simp] theorem State.stageRank_groups (r : Nat) (ws : List Write) : (s.stageRank r ws).groups = s.groups := rfl
@[simp] theorem State.stageRank_snaps (r : Nat) (ws : List Write) : (s.stageRank r ws).snaps = s.snaps := rfl
@[simp] theorem State.stageRank_applied (r : Nat) (ws : List Write) : (s.stageRank r ws).applied = s.applied := rfl
@[simp] theorem State.stageRank_appliedVp (r : Nat) (ws : List Write) : (s.stageRank r ws).appliedVp = s.appliedVp := rfl
@[simp] theorem State.stageRank_latched (r : Nat) (ws : List Write) : (s.stageRank r ws).latched = s.latched := rfl
@[simp] theorem State.stageRank_prm (r : Nat) (ws : List Write) : (s.stageRank r ws).prm = s.prm := rfl
@[simp] theorem State.stageRank_sar (r : Nat) (ws : List Write) : (s.stageRank r ws).sar = s.sar := rfl
@[simp] theorem State.stageRank_pres (r : Nat) (ws : List Write) : (s.stageRank r ws).pres = s.pres := rfl
@[simp] theorem State.stageRank_vl (r : Nat) (ws : List Write) : (s.stageRank r ws).vl = s.vl := rfl
@[simp] theorem State.stageRank_out (r : Nat) (ws : List Write) : (s.stageRank r ws).out = s.out := rfl
@[simp] theorem State.stageRank_fio (r : Nat) (ws : List Write) : (s.stageRank r ws).fio = s.fio := rfl
@[simp] theorem State.stageRank_ilk (r : Nat) (ws : List Write) : (s.stageRank r ws).ilk = s.ilk := rfl
@[simp] theorem State.stageRank_svc (r : Nat) (ws : List Write) : (s.stageRank r ws).svc = s.svc := rfl
@[simp] theorem State.stageRank_bus (r : Nat) (ws : List Write) : (s.stageRank r ws).bus = s.bus := rfl
@[simp] theorem State.stageRank_pair (r : Nat) (ws : List Write) : (s.stageRank r ws).pair = s.pair := rfl
@[simp] theorem State.stageRank_caller (r : Nat) (ws : List Write) : (s.stageRank r ws).caller = s.caller := rfl
@[simp] theorem State.stageRank_unit (r : Nat) (ws : List Write) : (s.stageRank r ws).unit = s.unit := rfl
@[simp] theorem State.stageRank_unitStore (r : Nat) (ws : List Write) : (s.stageRank r ws).unitStore = s.unitStore := rfl
@[simp] theorem State.stageRank_areaA (r : Nat) (ws : List Write) : (s.stageRank r ws).areaA = s.areaA := rfl
@[simp] theorem State.stageRank_areaB (r : Nat) (ws : List Write) : (s.stageRank r ws).areaB = s.areaB := rfl
@[simp] theorem State.stageRank_cells (r : Nat) (ws : List Write) : (s.stageRank r ws).cells = s.cells := rfl
@[simp] theorem State.stageRank_badGroups (r : Nat) (ws : List Write) : (s.stageRank r ws).badGroups = s.badGroups := rfl
@[simp] theorem State.stageRank_worn (r : Nat) (ws : List Write) : (s.stageRank r ws).worn = s.worn := rfl
@[simp] theorem State.stageRank_unsteady (r : Nat) (ws : List Write) : (s.stageRank r ws).unsteady = s.unsteady := rfl
@[simp] theorem State.stageRank_store (r : Nat) (ws : List Write) : (s.stageRank r ws).store = s.store := rfl
@[simp] theorem State.stageRank_dsp (r : Nat) (ws : List Write) : (s.stageRank r ws).dsp = s.dsp := rfl
@[simp] theorem State.stageRank_keys (r : Nat) (ws : List Write) : (s.stageRank r ws).keys = s.keys := rfl
@[simp] theorem State.stageRank_hk (r : Nat) (ws : List Write) : (s.stageRank r ws).hk = s.hk := rfl
@[simp] theorem State.stageRank_aon (r : Nat) (ws : List Write) : (s.stageRank r ws).aon = s.aon := rfl
@[simp] theorem State.stageRank_heldAt (r : Nat) (ws : List Write) : (s.stageRank r ws).heldAt = s.heldAt := rfl
@[simp] theorem State.stageRank_heldRes (r : Nat) (ws : List Write) : (s.stageRank r ws).heldRes = s.heldRes := rfl
@[simp] theorem State.stageRank_w1cAt (r : Nat) (ws : List Write) : (s.stageRank r ws).w1cAt = s.w1cAt := rfl
@[simp] theorem State.stageRank_w1cNow (r : Nat) (ws : List Write) : (s.stageRank r ws).w1cNow = s.w1cNow := rfl
@[simp] theorem State.stageRank_pending (r : Nat) (ws : List Write) : (s.stageRank r ws).pending = s.pending := rfl

/-! ### crystal -/
@[simp] theorem State.crystal_phase (n : Nat) : (s.crystal n).phase = s.phase := rfl
@[simp] theorem State.crystal_free (n : Nat) : (s.crystal n).free = s.free := rfl
@[simp] theorem State.crystal_era (n : Nat) : (s.crystal n).era = s.era := rfl
@[simp] theorem State.crystal_pmrc (n : Nat) : (s.crystal n).pmrc = s.pmrc := rfl
@[simp] theorem State.crystal_xtalOk (n : Nat) : (s.crystal n).xtalOk = s.xtalOk := rfl
@[simp] theorem State.crystal_ev (n : Nat) : (s.crystal n).ev = s.ev := rfl
@[simp] theorem State.crystal_cal (n : Nat) : (s.crystal n).cal = s.cal := rfl
@[simp] theorem State.crystal_pw (n : Nat) : (s.crystal n).pw = s.pw := rfl
@[simp] theorem State.crystal_mgmt (n : Nat) : (s.crystal n).mgmt = s.mgmt := rfl
@[simp] theorem State.crystal_link (n : Nat) : (s.crystal n).link = s.link := rfl
@[simp] theorem State.crystal_rem (n : Nat) : (s.crystal n).rem = s.rem := rfl
@[simp] theorem State.crystal_com (n : Nat) : (s.crystal n).com = s.com := rfl
@[simp] theorem State.crystal_epoch (n : Nat) : (s.crystal n).epoch = s.epoch := rfl
@[simp] theorem State.crystal_tbc (n : Nat) : (s.crystal n).tbc = s.tbc := rfl
@[simp] theorem State.crystal_beatAt (n : Nat) : (s.crystal n).beatAt = s.beatAt := rfl
@[simp] theorem State.crystal_staged (n : Nat) : (s.crystal n).staged = s.staged := rfl
@[simp] theorem State.crystal_nextUid (n : Nat) : (s.crystal n).nextUid = s.nextUid := rfl
@[simp] theorem State.crystal_waits (n : Nat) : (s.crystal n).waits = s.waits := rfl
@[simp] theorem State.crystal_toApply (n : Nat) : (s.crystal n).toApply = s.toApply := rfl
@[simp] theorem State.crystal_applyDue (n : Nat) : (s.crystal n).applyDue = s.applyDue := rfl
@[simp] theorem State.crystal_groups (n : Nat) : (s.crystal n).groups = s.groups := rfl
@[simp] theorem State.crystal_snaps (n : Nat) : (s.crystal n).snaps = s.snaps := rfl
@[simp] theorem State.crystal_applied (n : Nat) : (s.crystal n).applied = s.applied := rfl
@[simp] theorem State.crystal_appliedVp (n : Nat) : (s.crystal n).appliedVp = s.appliedVp := rfl
@[simp] theorem State.crystal_latched (n : Nat) : (s.crystal n).latched = s.latched := rfl
@[simp] theorem State.crystal_prm (n : Nat) : (s.crystal n).prm = s.prm := rfl
@[simp] theorem State.crystal_sar (n : Nat) : (s.crystal n).sar = s.sar := rfl
@[simp] theorem State.crystal_pres (n : Nat) : (s.crystal n).pres = s.pres := rfl
@[simp] theorem State.crystal_vl (n : Nat) : (s.crystal n).vl = s.vl := rfl
@[simp] theorem State.crystal_out (n : Nat) : (s.crystal n).out = s.out := rfl
@[simp] theorem State.crystal_fio (n : Nat) : (s.crystal n).fio = s.fio := rfl
@[simp] theorem State.crystal_ilk (n : Nat) : (s.crystal n).ilk = s.ilk := rfl
@[simp] theorem State.crystal_svc (n : Nat) : (s.crystal n).svc = s.svc := rfl
@[simp] theorem State.crystal_bus (n : Nat) : (s.crystal n).bus = s.bus := rfl
@[simp] theorem State.crystal_pair (n : Nat) : (s.crystal n).pair = s.pair := rfl
@[simp] theorem State.crystal_caller (n : Nat) : (s.crystal n).caller = s.caller := rfl
@[simp] theorem State.crystal_unit (n : Nat) : (s.crystal n).unit = s.unit := rfl
@[simp] theorem State.crystal_unitStore (n : Nat) : (s.crystal n).unitStore = s.unitStore := rfl
@[simp] theorem State.crystal_areaA (n : Nat) : (s.crystal n).areaA = s.areaA := rfl
@[simp] theorem State.crystal_areaB (n : Nat) : (s.crystal n).areaB = s.areaB := rfl
@[simp] theorem State.crystal_cells (n : Nat) : (s.crystal n).cells = s.cells := rfl
@[simp] theorem State.crystal_badGroups (n : Nat) : (s.crystal n).badGroups = s.badGroups := rfl
@[simp] theorem State.crystal_worn (n : Nat) : (s.crystal n).worn = s.worn := rfl
@[simp] theorem State.crystal_unsteady (n : Nat) : (s.crystal n).unsteady = s.unsteady := rfl
@[simp] theorem State.crystal_store (n : Nat) : (s.crystal n).store = s.store := rfl
@[simp] theorem State.crystal_dsp (n : Nat) : (s.crystal n).dsp = s.dsp := rfl
@[simp] theorem State.crystal_keys (n : Nat) : (s.crystal n).keys = s.keys := rfl
@[simp] theorem State.crystal_hk (n : Nat) : (s.crystal n).hk = s.hk := rfl
@[simp] theorem State.crystal_aon (n : Nat) : (s.crystal n).aon = s.aon := rfl
@[simp] theorem State.crystal_heldAt (n : Nat) : (s.crystal n).heldAt = s.heldAt := rfl
@[simp] theorem State.crystal_heldRes (n : Nat) : (s.crystal n).heldRes = s.heldRes := rfl
@[simp] theorem State.crystal_w1cAt (n : Nat) : (s.crystal n).w1cAt = s.w1cAt := rfl
@[simp] theorem State.crystal_w1cNow (n : Nat) : (s.crystal n).w1cNow = s.w1cNow := rfl
@[simp] theorem State.crystal_pending (n : Nat) : (s.crystal n).pending = s.pending := rfl

/-! ### dropUnits -/
@[simp] theorem State.dropUnits_phase (m : BitVec 14) : (s.dropUnits m).phase = s.phase := rfl
@[simp] theorem State.dropUnits_tb (m : BitVec 14) : (s.dropUnits m).tb = s.tb := rfl
@[simp] theorem State.dropUnits_tbFrac (m : BitVec 14) : (s.dropUnits m).tbFrac = s.tbFrac := rfl
@[simp] theorem State.dropUnits_free (m : BitVec 14) : (s.dropUnits m).free = s.free := rfl
@[simp] theorem State.dropUnits_era (m : BitVec 14) : (s.dropUnits m).era = s.era := rfl
@[simp] theorem State.dropUnits_pmrc (m : BitVec 14) : (s.dropUnits m).pmrc = s.pmrc := rfl
@[simp] theorem State.dropUnits_xtalOk (m : BitVec 14) : (s.dropUnits m).xtalOk = s.xtalOk := rfl
@[simp] theorem State.dropUnits_ev (m : BitVec 14) : (s.dropUnits m).ev = s.ev := rfl
@[simp] theorem State.dropUnits_cal (m : BitVec 14) : (s.dropUnits m).cal = s.cal := rfl
@[simp] theorem State.dropUnits_mgmt (m : BitVec 14) : (s.dropUnits m).mgmt = s.mgmt := rfl
@[simp] theorem State.dropUnits_link (m : BitVec 14) : (s.dropUnits m).link = s.link := rfl
@[simp] theorem State.dropUnits_rem (m : BitVec 14) : (s.dropUnits m).rem = s.rem := rfl
@[simp] theorem State.dropUnits_com (m : BitVec 14) : (s.dropUnits m).com = s.com := rfl
@[simp] theorem State.dropUnits_epoch (m : BitVec 14) : (s.dropUnits m).epoch = s.epoch := rfl
@[simp] theorem State.dropUnits_tbc (m : BitVec 14) : (s.dropUnits m).tbc = s.tbc := rfl
@[simp] theorem State.dropUnits_beatAt (m : BitVec 14) : (s.dropUnits m).beatAt = s.beatAt := rfl
@[simp] theorem State.dropUnits_staged (m : BitVec 14) : (s.dropUnits m).staged = s.staged := rfl
@[simp] theorem State.dropUnits_nextUid (m : BitVec 14) : (s.dropUnits m).nextUid = s.nextUid := rfl
@[simp] theorem State.dropUnits_waits (m : BitVec 14) : (s.dropUnits m).waits = s.waits := rfl
@[simp] theorem State.dropUnits_toApply (m : BitVec 14) : (s.dropUnits m).toApply = s.toApply := rfl
@[simp] theorem State.dropUnits_applyDue (m : BitVec 14) : (s.dropUnits m).applyDue = s.applyDue := rfl
@[simp] theorem State.dropUnits_groups (m : BitVec 14) : (s.dropUnits m).groups = s.groups := rfl
@[simp] theorem State.dropUnits_snaps (m : BitVec 14) : (s.dropUnits m).snaps = s.snaps := rfl
@[simp] theorem State.dropUnits_applied (m : BitVec 14) : (s.dropUnits m).applied = s.applied := rfl
@[simp] theorem State.dropUnits_appliedVp (m : BitVec 14) : (s.dropUnits m).appliedVp = s.appliedVp := rfl
@[simp] theorem State.dropUnits_latched (m : BitVec 14) : (s.dropUnits m).latched = s.latched := rfl
@[simp] theorem State.dropUnits_prm (m : BitVec 14) : (s.dropUnits m).prm = s.prm := rfl
@[simp] theorem State.dropUnits_sar (m : BitVec 14) : (s.dropUnits m).sar = s.sar := rfl
@[simp] theorem State.dropUnits_pres (m : BitVec 14) : (s.dropUnits m).pres = s.pres := rfl
@[simp] theorem State.dropUnits_vl (m : BitVec 14) : (s.dropUnits m).vl = s.vl := rfl
@[simp] theorem State.dropUnits_out (m : BitVec 14) : (s.dropUnits m).out = s.out := rfl
@[simp] theorem State.dropUnits_fio (m : BitVec 14) : (s.dropUnits m).fio = s.fio := rfl
@[simp] theorem State.dropUnits_ilk (m : BitVec 14) : (s.dropUnits m).ilk = s.ilk := rfl
@[simp] theorem State.dropUnits_svc (m : BitVec 14) : (s.dropUnits m).svc = s.svc := rfl
@[simp] theorem State.dropUnits_bus (m : BitVec 14) : (s.dropUnits m).bus = s.bus := rfl
@[simp] theorem State.dropUnits_pair (m : BitVec 14) : (s.dropUnits m).pair = s.pair := rfl
@[simp] theorem State.dropUnits_caller (m : BitVec 14) : (s.dropUnits m).caller = s.caller := rfl
@[simp] theorem State.dropUnits_unit (m : BitVec 14) : (s.dropUnits m).unit = s.unit := rfl
@[simp] theorem State.dropUnits_unitStore (m : BitVec 14) : (s.dropUnits m).unitStore = s.unitStore := rfl
@[simp] theorem State.dropUnits_areaA (m : BitVec 14) : (s.dropUnits m).areaA = s.areaA := rfl
@[simp] theorem State.dropUnits_areaB (m : BitVec 14) : (s.dropUnits m).areaB = s.areaB := rfl
@[simp] theorem State.dropUnits_cells (m : BitVec 14) : (s.dropUnits m).cells = s.cells := rfl
@[simp] theorem State.dropUnits_badGroups (m : BitVec 14) : (s.dropUnits m).badGroups = s.badGroups := rfl
@[simp] theorem State.dropUnits_worn (m : BitVec 14) : (s.dropUnits m).worn = s.worn := rfl
@[simp] theorem State.dropUnits_unsteady (m : BitVec 14) : (s.dropUnits m).unsteady = s.unsteady := rfl
@[simp] theorem State.dropUnits_store (m : BitVec 14) : (s.dropUnits m).store = s.store := rfl
@[simp] theorem State.dropUnits_dsp (m : BitVec 14) : (s.dropUnits m).dsp = s.dsp := rfl
@[simp] theorem State.dropUnits_keys (m : BitVec 14) : (s.dropUnits m).keys = s.keys := rfl
@[simp] theorem State.dropUnits_hk (m : BitVec 14) : (s.dropUnits m).hk = s.hk := rfl
@[simp] theorem State.dropUnits_aon (m : BitVec 14) : (s.dropUnits m).aon = s.aon := rfl
@[simp] theorem State.dropUnits_heldAt (m : BitVec 14) : (s.dropUnits m).heldAt = s.heldAt := rfl
@[simp] theorem State.dropUnits_heldRes (m : BitVec 14) : (s.dropUnits m).heldRes = s.heldRes := rfl
@[simp] theorem State.dropUnits_w1cAt (m : BitVec 14) : (s.dropUnits m).w1cAt = s.w1cAt := rfl
@[simp] theorem State.dropUnits_w1cNow (m : BitVec 14) : (s.dropUnits m).w1cNow = s.w1cNow := rfl
@[simp] theorem State.dropUnits_pending (m : BitVec 14) : (s.dropUnits m).pending = s.pending := rfl

/-! ### flag -/
@[simp] theorem State.flag_phase (a : Nat) (v : W32) : (s.flag a v).phase = s.phase := rfl
@[simp] theorem State.flag_tb (a : Nat) (v : W32) : (s.flag a v).tb = s.tb := rfl
@[simp] theorem State.flag_tbFrac (a : Nat) (v : W32) : (s.flag a v).tbFrac = s.tbFrac := rfl
@[simp] theorem State.flag_free (a : Nat) (v : W32) : (s.flag a v).free = s.free := rfl
@[simp] theorem State.flag_era (a : Nat) (v : W32) : (s.flag a v).era = s.era := rfl
@[simp] theorem State.flag_pmrc (a : Nat) (v : W32) : (s.flag a v).pmrc = s.pmrc := rfl
@[simp] theorem State.flag_xtalOk (a : Nat) (v : W32) : (s.flag a v).xtalOk = s.xtalOk := rfl
@[simp] theorem State.flag_ev (a : Nat) (v : W32) : (s.flag a v).ev = s.ev := rfl
@[simp] theorem State.flag_cal (a : Nat) (v : W32) : (s.flag a v).cal = s.cal := rfl
@[simp] theorem State.flag_pw (a : Nat) (v : W32) : (s.flag a v).pw = s.pw := rfl
@[simp] theorem State.flag_mgmt (a : Nat) (v : W32) : (s.flag a v).mgmt = s.mgmt := rfl
@[simp] theorem State.flag_link (a : Nat) (v : W32) : (s.flag a v).link = s.link := rfl
@[simp] theorem State.flag_rem (a : Nat) (v : W32) : (s.flag a v).rem = s.rem := rfl
@[simp] theorem State.flag_com (a : Nat) (v : W32) : (s.flag a v).com = s.com := rfl
@[simp] theorem State.flag_epoch (a : Nat) (v : W32) : (s.flag a v).epoch = s.epoch := rfl
@[simp] theorem State.flag_tbc (a : Nat) (v : W32) : (s.flag a v).tbc = s.tbc := rfl
@[simp] theorem State.flag_beatAt (a : Nat) (v : W32) : (s.flag a v).beatAt = s.beatAt := rfl
@[simp] theorem State.flag_staged (a : Nat) (v : W32) : (s.flag a v).staged = s.staged := rfl
@[simp] theorem State.flag_nextUid (a : Nat) (v : W32) : (s.flag a v).nextUid = s.nextUid := rfl
@[simp] theorem State.flag_waits (a : Nat) (v : W32) : (s.flag a v).waits = s.waits := rfl
@[simp] theorem State.flag_toApply (a : Nat) (v : W32) : (s.flag a v).toApply = s.toApply := rfl
@[simp] theorem State.flag_applyDue (a : Nat) (v : W32) : (s.flag a v).applyDue = s.applyDue := rfl
@[simp] theorem State.flag_groups (a : Nat) (v : W32) : (s.flag a v).groups = s.groups := rfl
@[simp] theorem State.flag_snaps (a : Nat) (v : W32) : (s.flag a v).snaps = s.snaps := rfl
@[simp] theorem State.flag_applied (a : Nat) (v : W32) : (s.flag a v).applied = s.applied := rfl
@[simp] theorem State.flag_appliedVp (a : Nat) (v : W32) : (s.flag a v).appliedVp = s.appliedVp := rfl
@[simp] theorem State.flag_latched (a : Nat) (v : W32) : (s.flag a v).latched = s.latched := rfl
@[simp] theorem State.flag_prm (a : Nat) (v : W32) : (s.flag a v).prm = s.prm := rfl
@[simp] theorem State.flag_sar (a : Nat) (v : W32) : (s.flag a v).sar = s.sar := rfl
@[simp] theorem State.flag_pres (a : Nat) (v : W32) : (s.flag a v).pres = s.pres := rfl
@[simp] theorem State.flag_vl (a : Nat) (v : W32) : (s.flag a v).vl = s.vl := rfl
@[simp] theorem State.flag_out (a : Nat) (v : W32) : (s.flag a v).out = s.out := rfl
@[simp] theorem State.flag_fio (a : Nat) (v : W32) : (s.flag a v).fio = s.fio := rfl
@[simp] theorem State.flag_ilk (a : Nat) (v : W32) : (s.flag a v).ilk = s.ilk := rfl
@[simp] theorem State.flag_svc (a : Nat) (v : W32) : (s.flag a v).svc = s.svc := rfl
@[simp] theorem State.flag_bus (a : Nat) (v : W32) : (s.flag a v).bus = s.bus := rfl
@[simp] theorem State.flag_pair (a : Nat) (v : W32) : (s.flag a v).pair = s.pair := rfl
@[simp] theorem State.flag_caller (a : Nat) (v : W32) : (s.flag a v).caller = s.caller := rfl
@[simp] theorem State.flag_unit (a : Nat) (v : W32) : (s.flag a v).unit = s.unit := rfl
@[simp] theorem State.flag_unitStore (a : Nat) (v : W32) : (s.flag a v).unitStore = s.unitStore := rfl
@[simp] theorem State.flag_areaA (a : Nat) (v : W32) : (s.flag a v).areaA = s.areaA := rfl
@[simp] theorem State.flag_areaB (a : Nat) (v : W32) : (s.flag a v).areaB = s.areaB := rfl
@[simp] theorem State.flag_cells (a : Nat) (v : W32) : (s.flag a v).cells = s.cells := rfl
@[simp] theorem State.flag_badGroups (a : Nat) (v : W32) : (s.flag a v).badGroups = s.badGroups := rfl
@[simp] theorem State.flag_worn (a : Nat) (v : W32) : (s.flag a v).worn = s.worn := rfl
@[simp] theorem State.flag_unsteady (a : Nat) (v : W32) : (s.flag a v).unsteady = s.unsteady := rfl
@[simp] theorem State.flag_store (a : Nat) (v : W32) : (s.flag a v).store = s.store := rfl
@[simp] theorem State.flag_dsp (a : Nat) (v : W32) : (s.flag a v).dsp = s.dsp := rfl
@[simp] theorem State.flag_keys (a : Nat) (v : W32) : (s.flag a v).keys = s.keys := rfl
@[simp] theorem State.flag_hk (a : Nat) (v : W32) : (s.flag a v).hk = s.hk := rfl
@[simp] theorem State.flag_aon (a : Nat) (v : W32) : (s.flag a v).aon = s.aon := rfl
@[simp] theorem State.flag_heldAt (a : Nat) (v : W32) : (s.flag a v).heldAt = s.heldAt := rfl
@[simp] theorem State.flag_heldRes (a : Nat) (v : W32) : (s.flag a v).heldRes = s.heldRes := rfl
@[simp] theorem State.flag_pending (a : Nat) (v : W32) : (s.flag a v).pending = s.pending := rfl

/-! ### jump -/
@[simp] theorem State.jump_phase (d : Nat) : (s.jump d).phase = s.phase := State.jump_cases (P := fun t => t.phase = s.phase) rfl (fun _ => rfl) (fun _ => rfl)
@[simp] theorem State.jump_free (d : Nat) : (s.jump d).free = s.free := State.jump_cases (P := fun t => t.free = s.free) rfl (fun _ => rfl) (fun _ => rfl)
@[simp] theorem State.jump_era (d : Nat) : (s.jump d).era = s.era := State.jump_cases (P := fun t => t.era = s.era) rfl (fun _ => rfl) (fun _ => rfl)
@[simp] theorem State.jump_pmrc (d : Nat) : (s.jump d).pmrc = s.pmrc := State.jump_cases (P := fun t => t.pmrc = s.pmrc) rfl (fun _ => rfl) (fun _ => rfl)
@[simp] theorem State.jump_xtalOk (d : Nat) : (s.jump d).xtalOk = s.xtalOk := State.jump_cases (P := fun t => t.xtalOk = s.xtalOk) rfl (fun _ => rfl) (fun _ => rfl)
@[simp] theorem State.jump_ev (d : Nat) : (s.jump d).ev = s.ev := State.jump_cases (P := fun t => t.ev = s.ev) rfl (fun _ => rfl) (fun _ => rfl)
@[simp] theorem State.jump_cal (d : Nat) : (s.jump d).cal = s.cal := State.jump_cases (P := fun t => t.cal = s.cal) rfl (fun _ => rfl) (fun _ => rfl)
@[simp] theorem State.jump_pw (d : Nat) : (s.jump d).pw = s.pw := State.jump_cases (P := fun t => t.pw = s.pw) rfl (fun _ => rfl) (fun _ => rfl)
@[simp] theorem State.jump_mgmt (d : Nat) : (s.jump d).mgmt = s.mgmt := State.jump_cases (P := fun t => t.mgmt = s.mgmt) rfl (fun _ => rfl) (fun _ => rfl)
@[simp] theorem State.jump_link (d : Nat) : (s.jump d).link = s.link := State.jump_cases (P := fun t => t.link = s.link) rfl (fun _ => rfl) (fun _ => rfl)
@[simp] theorem State.jump_rem (d : Nat) : (s.jump d).rem = s.rem := State.jump_cases (P := fun t => t.rem = s.rem) rfl (fun _ => rfl) (fun _ => rfl)
@[simp] theorem State.jump_com (d : Nat) : (s.jump d).com = s.com := State.jump_cases (P := fun t => t.com = s.com) rfl (fun _ => rfl) (fun _ => rfl)
@[simp] theorem State.jump_epoch (d : Nat) : (s.jump d).epoch = s.epoch := State.jump_cases (P := fun t => t.epoch = s.epoch) rfl (fun _ => rfl) (fun _ => rfl)
@[simp] theorem State.jump_tbc (d : Nat) : (s.jump d).tbc = s.tbc := State.jump_cases (P := fun t => t.tbc = s.tbc) rfl (fun _ => rfl) (fun _ => rfl)
@[simp] theorem State.jump_beatAt (d : Nat) : (s.jump d).beatAt = s.beatAt := State.jump_cases (P := fun t => t.beatAt = s.beatAt) rfl (fun _ => rfl) (fun _ => rfl)
@[simp] theorem State.jump_staged (d : Nat) : (s.jump d).staged = s.staged := State.jump_cases (P := fun t => t.staged = s.staged) rfl (fun _ => rfl) (fun _ => rfl)
@[simp] theorem State.jump_nextUid (d : Nat) : (s.jump d).nextUid = s.nextUid := State.jump_cases (P := fun t => t.nextUid = s.nextUid) rfl (fun _ => rfl) (fun _ => rfl)
@[simp] theorem State.jump_waits (d : Nat) : (s.jump d).waits = s.waits := State.jump_cases (P := fun t => t.waits = s.waits) rfl (fun _ => rfl) (fun _ => rfl)
@[simp] theorem State.jump_toApply (d : Nat) : (s.jump d).toApply = s.toApply := State.jump_cases (P := fun t => t.toApply = s.toApply) rfl (fun _ => rfl) (fun _ => rfl)
@[simp] theorem State.jump_applyDue (d : Nat) : (s.jump d).applyDue = s.applyDue := State.jump_cases (P := fun t => t.applyDue = s.applyDue) rfl (fun _ => rfl) (fun _ => rfl)
@[simp] theorem State.jump_groups (d : Nat) : (s.jump d).groups = s.groups := State.jump_cases (P := fun t => t.groups = s.groups) rfl (fun _ => rfl) (fun _ => rfl)
@[simp] theorem State.jump_snaps (d : Nat) : (s.jump d).snaps = s.snaps := State.jump_cases (P := fun t => t.snaps = s.snaps) rfl (fun _ => rfl) (fun _ => rfl)
@[simp] theorem State.jump_applied (d : Nat) : (s.jump d).applied = s.applied := State.jump_cases (P := fun t => t.applied = s.applied) rfl (fun _ => rfl) (fun _ => rfl)
@[simp] theorem State.jump_appliedVp (d : Nat) : (s.jump d).appliedVp = s.appliedVp := State.jump_cases (P := fun t => t.appliedVp = s.appliedVp) rfl (fun _ => rfl) (fun _ => rfl)
@[simp] theorem State.jump_latched (d : Nat) : (s.jump d).latched = s.latched := State.jump_cases (P := fun t => t.latched = s.latched) rfl (fun _ => rfl) (fun _ => rfl)
@[simp] theorem State.jump_prm (d : Nat) : (s.jump d).prm = s.prm := State.jump_cases (P := fun t => t.prm = s.prm) rfl (fun _ => rfl) (fun _ => rfl)
@[simp] theorem State.jump_sar (d : Nat) : (s.jump d).sar = s.sar := State.jump_cases (P := fun t => t.sar = s.sar) rfl (fun _ => rfl) (fun _ => rfl)
@[simp] theorem State.jump_pres (d : Nat) : (s.jump d).pres = s.pres := State.jump_cases (P := fun t => t.pres = s.pres) rfl (fun _ => rfl) (fun _ => rfl)
@[simp] theorem State.jump_vl (d : Nat) : (s.jump d).vl = s.vl := State.jump_cases (P := fun t => t.vl = s.vl) rfl (fun _ => rfl) (fun _ => rfl)
@[simp] theorem State.jump_out (d : Nat) : (s.jump d).out = s.out := State.jump_cases (P := fun t => t.out = s.out) rfl (fun _ => rfl) (fun _ => rfl)
@[simp] theorem State.jump_fio (d : Nat) : (s.jump d).fio = s.fio := State.jump_cases (P := fun t => t.fio = s.fio) rfl (fun _ => rfl) (fun _ => rfl)
@[simp] theorem State.jump_ilk (d : Nat) : (s.jump d).ilk = s.ilk := State.jump_cases (P := fun t => t.ilk = s.ilk) rfl (fun _ => rfl) (fun _ => rfl)
@[simp] theorem State.jump_svc (d : Nat) : (s.jump d).svc = s.svc := State.jump_cases (P := fun t => t.svc = s.svc) rfl (fun _ => rfl) (fun _ => rfl)
@[simp] theorem State.jump_bus (d : Nat) : (s.jump d).bus = s.bus := State.jump_cases (P := fun t => t.bus = s.bus) rfl (fun _ => rfl) (fun _ => rfl)
@[simp] theorem State.jump_pair (d : Nat) : (s.jump d).pair = s.pair := State.jump_cases (P := fun t => t.pair = s.pair) rfl (fun _ => rfl) (fun _ => rfl)
@[simp] theorem State.jump_caller (d : Nat) : (s.jump d).caller = s.caller := State.jump_cases (P := fun t => t.caller = s.caller) rfl (fun _ => rfl) (fun _ => rfl)
@[simp] theorem State.jump_unit (d : Nat) : (s.jump d).unit = s.unit := State.jump_cases (P := fun t => t.unit = s.unit) rfl (fun _ => rfl) (fun _ => rfl)
@[simp] theorem State.jump_unitStore (d : Nat) : (s.jump d).unitStore = s.unitStore := State.jump_cases (P := fun t => t.unitStore = s.unitStore) rfl (fun _ => rfl) (fun _ => rfl)
@[simp] theorem State.jump_areaA (d : Nat) : (s.jump d).areaA = s.areaA := State.jump_cases (P := fun t => t.areaA = s.areaA) rfl (fun _ => rfl) (fun _ => rfl)
@[simp] theorem State.jump_areaB (d : Nat) : (s.jump d).areaB = s.areaB := State.jump_cases (P := fun t => t.areaB = s.areaB) rfl (fun _ => rfl) (fun _ => rfl)
@[simp] theorem State.jump_cells (d : Nat) : (s.jump d).cells = s.cells := State.jump_cases (P := fun t => t.cells = s.cells) rfl (fun _ => rfl) (fun _ => rfl)
@[simp] theorem State.jump_badGroups (d : Nat) : (s.jump d).badGroups = s.badGroups := State.jump_cases (P := fun t => t.badGroups = s.badGroups) rfl (fun _ => rfl) (fun _ => rfl)
@[simp] theorem State.jump_worn (d : Nat) : (s.jump d).worn = s.worn := State.jump_cases (P := fun t => t.worn = s.worn) rfl (fun _ => rfl) (fun _ => rfl)
@[simp] theorem State.jump_unsteady (d : Nat) : (s.jump d).unsteady = s.unsteady := State.jump_cases (P := fun t => t.unsteady = s.unsteady) rfl (fun _ => rfl) (fun _ => rfl)
@[simp] theorem State.jump_store (d : Nat) : (s.jump d).store = s.store := State.jump_cases (P := fun t => t.store = s.store) rfl (fun _ => rfl) (fun _ => rfl)
@[simp] theorem State.jump_dsp (d : Nat) : (s.jump d).dsp = s.dsp := State.jump_cases (P := fun t => t.dsp = s.dsp) rfl (fun _ => rfl) (fun _ => rfl)
@[simp] theorem State.jump_keys (d : Nat) : (s.jump d).keys = s.keys := State.jump_cases (P := fun t => t.keys = s.keys) rfl (fun _ => rfl) (fun _ => rfl)
@[simp] theorem State.jump_hk (d : Nat) : (s.jump d).hk = s.hk := State.jump_cases (P := fun t => t.hk = s.hk) rfl (fun _ => rfl) (fun _ => rfl)
@[simp] theorem State.jump_aon (d : Nat) : (s.jump d).aon = s.aon := State.jump_cases (P := fun t => t.aon = s.aon) rfl (fun _ => rfl) (fun _ => rfl)
@[simp] theorem State.jump_heldAt (d : Nat) : (s.jump d).heldAt = s.heldAt := State.jump_cases (P := fun t => t.heldAt = s.heldAt) rfl (fun _ => rfl) (fun _ => rfl)
@[simp] theorem State.jump_heldRes (d : Nat) : (s.jump d).heldRes = s.heldRes := State.jump_cases (P := fun t => t.heldRes = s.heldRes) rfl (fun _ => rfl) (fun _ => rfl)
@[simp] theorem State.jump_w1cAt (d : Nat) : (s.jump d).w1cAt = s.w1cAt := State.jump_cases (P := fun t => t.w1cAt = s.w1cAt) rfl (fun _ => rfl) (fun _ => rfl)
@[simp] theorem State.jump_w1cNow (d : Nat) : (s.jump d).w1cNow = s.w1cNow := State.jump_cases (P := fun t => t.w1cNow = s.w1cNow) rfl (fun _ => rfl) (fun _ => rfl)
@[simp] theorem State.jump_pending (d : Nat) : (s.jump d).pending = s.pending := State.jump_cases (P := fun t => t.pending = s.pending) rfl (fun _ => rfl) (fun _ => rfl)

/-! ### raise -/
@[simp] theorem State.raise_phase (n : Nat) : (s.raise n).phase = s.phase := by unfold State.raise; (repeat' split) <;> rfl
@[simp] theorem State.raise_tb (n : Nat) : (s.raise n).tb = s.tb := by unfold State.raise; (repeat' split) <;> rfl
@[simp] theorem State.raise_tbFrac (n : Nat) : (s.raise n).tbFrac = s.tbFrac := by unfold State.raise; (repeat' split) <;> rfl
@[simp] theorem State.raise_free (n : Nat) : (s.raise n).free = s.free := by unfold State.raise; (repeat' split) <;> rfl
@[simp] theorem State.raise_era (n : Nat) : (s.raise n).era = s.era := by unfold State.raise; (repeat' split) <;> rfl
@[simp] theorem State.raise_pmrc (n : Nat) : (s.raise n).pmrc = s.pmrc := by unfold State.raise; (repeat' split) <;> rfl
@[simp] theorem State.raise_xtalOk (n : Nat) : (s.raise n).xtalOk = s.xtalOk := by unfold State.raise; (repeat' split) <;> rfl
@[simp] theorem State.raise_cal (n : Nat) : (s.raise n).cal = s.cal := by unfold State.raise; (repeat' split) <;> rfl
@[simp] theorem State.raise_pw (n : Nat) : (s.raise n).pw = s.pw := by unfold State.raise; (repeat' split) <;> rfl
@[simp] theorem State.raise_mgmt (n : Nat) : (s.raise n).mgmt = s.mgmt := by unfold State.raise; (repeat' split) <;> rfl
@[simp] theorem State.raise_link (n : Nat) : (s.raise n).link = s.link := by unfold State.raise; (repeat' split) <;> rfl
@[simp] theorem State.raise_rem (n : Nat) : (s.raise n).rem = s.rem := by unfold State.raise; (repeat' split) <;> rfl
@[simp] theorem State.raise_com (n : Nat) : (s.raise n).com = s.com := by unfold State.raise; (repeat' split) <;> rfl
@[simp] theorem State.raise_epoch (n : Nat) : (s.raise n).epoch = s.epoch := by unfold State.raise; (repeat' split) <;> rfl
@[simp] theorem State.raise_tbc (n : Nat) : (s.raise n).tbc = s.tbc := by unfold State.raise; (repeat' split) <;> rfl
@[simp] theorem State.raise_beatAt (n : Nat) : (s.raise n).beatAt = s.beatAt := by unfold State.raise; (repeat' split) <;> rfl
@[simp] theorem State.raise_staged (n : Nat) : (s.raise n).staged = s.staged := by unfold State.raise; (repeat' split) <;> rfl
@[simp] theorem State.raise_nextUid (n : Nat) : (s.raise n).nextUid = s.nextUid := by unfold State.raise; (repeat' split) <;> rfl
@[simp] theorem State.raise_waits (n : Nat) : (s.raise n).waits = s.waits := by unfold State.raise; (repeat' split) <;> rfl
@[simp] theorem State.raise_toApply (n : Nat) : (s.raise n).toApply = s.toApply := by unfold State.raise; (repeat' split) <;> rfl
@[simp] theorem State.raise_applyDue (n : Nat) : (s.raise n).applyDue = s.applyDue := by unfold State.raise; (repeat' split) <;> rfl
@[simp] theorem State.raise_groups (n : Nat) : (s.raise n).groups = s.groups := by unfold State.raise; (repeat' split) <;> rfl
@[simp] theorem State.raise_snaps (n : Nat) : (s.raise n).snaps = s.snaps := by unfold State.raise; (repeat' split) <;> rfl
@[simp] theorem State.raise_applied (n : Nat) : (s.raise n).applied = s.applied := by unfold State.raise; (repeat' split) <;> rfl
@[simp] theorem State.raise_appliedVp (n : Nat) : (s.raise n).appliedVp = s.appliedVp := by unfold State.raise; (repeat' split) <;> rfl
@[simp] theorem State.raise_latched (n : Nat) : (s.raise n).latched = s.latched := by unfold State.raise; (repeat' split) <;> rfl
@[simp] theorem State.raise_prm (n : Nat) : (s.raise n).prm = s.prm := by unfold State.raise; (repeat' split) <;> rfl
@[simp] theorem State.raise_sar (n : Nat) : (s.raise n).sar = s.sar := by unfold State.raise; (repeat' split) <;> rfl
@[simp] theorem State.raise_pres (n : Nat) : (s.raise n).pres = s.pres := by unfold State.raise; (repeat' split) <;> rfl
@[simp] theorem State.raise_vl (n : Nat) : (s.raise n).vl = s.vl := by unfold State.raise; (repeat' split) <;> rfl
@[simp] theorem State.raise_out (n : Nat) : (s.raise n).out = s.out := by unfold State.raise; (repeat' split) <;> rfl
@[simp] theorem State.raise_fio (n : Nat) : (s.raise n).fio = s.fio := by unfold State.raise; (repeat' split) <;> rfl
@[simp] theorem State.raise_ilk (n : Nat) : (s.raise n).ilk = s.ilk := by unfold State.raise; (repeat' split) <;> rfl
@[simp] theorem State.raise_svc (n : Nat) : (s.raise n).svc = s.svc := by unfold State.raise; (repeat' split) <;> rfl
@[simp] theorem State.raise_bus (n : Nat) : (s.raise n).bus = s.bus := by unfold State.raise; (repeat' split) <;> rfl
@[simp] theorem State.raise_pair (n : Nat) : (s.raise n).pair = s.pair := by unfold State.raise; (repeat' split) <;> rfl
@[simp] theorem State.raise_caller (n : Nat) : (s.raise n).caller = s.caller := by unfold State.raise; (repeat' split) <;> rfl
@[simp] theorem State.raise_unit (n : Nat) : (s.raise n).unit = s.unit := by unfold State.raise; (repeat' split) <;> rfl
@[simp] theorem State.raise_unitStore (n : Nat) : (s.raise n).unitStore = s.unitStore := by unfold State.raise; (repeat' split) <;> rfl
@[simp] theorem State.raise_areaA (n : Nat) : (s.raise n).areaA = s.areaA := by unfold State.raise; (repeat' split) <;> rfl
@[simp] theorem State.raise_areaB (n : Nat) : (s.raise n).areaB = s.areaB := by unfold State.raise; (repeat' split) <;> rfl
@[simp] theorem State.raise_cells (n : Nat) : (s.raise n).cells = s.cells := by unfold State.raise; (repeat' split) <;> rfl
@[simp] theorem State.raise_badGroups (n : Nat) : (s.raise n).badGroups = s.badGroups := by unfold State.raise; (repeat' split) <;> rfl
@[simp] theorem State.raise_worn (n : Nat) : (s.raise n).worn = s.worn := by unfold State.raise; (repeat' split) <;> rfl
@[simp] theorem State.raise_unsteady (n : Nat) : (s.raise n).unsteady = s.unsteady := by unfold State.raise; (repeat' split) <;> rfl
@[simp] theorem State.raise_store (n : Nat) : (s.raise n).store = s.store := by unfold State.raise; (repeat' split) <;> rfl
@[simp] theorem State.raise_dsp (n : Nat) : (s.raise n).dsp = s.dsp := by unfold State.raise; (repeat' split) <;> rfl
@[simp] theorem State.raise_keys (n : Nat) : (s.raise n).keys = s.keys := by unfold State.raise; (repeat' split) <;> rfl
@[simp] theorem State.raise_hk (n : Nat) : (s.raise n).hk = s.hk := by unfold State.raise; (repeat' split) <;> rfl
@[simp] theorem State.raise_aon (n : Nat) : (s.raise n).aon = s.aon := by unfold State.raise; (repeat' split) <;> rfl
@[simp] theorem State.raise_heldAt (n : Nat) : (s.raise n).heldAt = s.heldAt := by unfold State.raise; (repeat' split) <;> rfl
@[simp] theorem State.raise_heldRes (n : Nat) : (s.raise n).heldRes = s.heldRes := by unfold State.raise; (repeat' split) <;> rfl
@[simp] theorem State.raise_w1cAt (n : Nat) : (s.raise n).w1cAt = s.w1cAt := by unfold State.raise; (repeat' split) <;> rfl
@[simp] theorem State.raise_w1cNow (n : Nat) : (s.raise n).w1cNow = s.w1cNow := by unfold State.raise; (repeat' split) <;> rfl
@[simp] theorem State.raise_pending (n : Nat) : (s.raise n).pending = s.pending := by unfold State.raise; (repeat' split) <;> rfl

/-! ### raiseIf -/
@[simp] theorem State.raiseIf_phase (c : Bool) (n : Nat) : (s.raiseIf c n).phase = s.phase := by unfold State.raiseIf; split <;> simp
@[simp] theorem State.raiseIf_tb (c : Bool) (n : Nat) : (s.raiseIf c n).tb = s.tb := by unfold State.raiseIf; split <;> simp
@[simp] theorem State.raiseIf_tbFrac (c : Bool) (n : Nat) : (s.raiseIf c n).tbFrac = s.tbFrac := by unfold State.raiseIf; split <;> simp
@[simp] theorem State.raiseIf_free (c : Bool) (n : Nat) : (s.raiseIf c n).free = s.free := by unfold State.raiseIf; split <;> simp
@[simp] theorem State.raiseIf_era (c : Bool) (n : Nat) : (s.raiseIf c n).era = s.era := by unfold State.raiseIf; split <;> simp
@[simp] theorem State.raiseIf_pmrc (c : Bool) (n : Nat) : (s.raiseIf c n).pmrc = s.pmrc := by unfold State.raiseIf; split <;> simp
@[simp] theorem State.raiseIf_xtalOk (c : Bool) (n : Nat) : (s.raiseIf c n).xtalOk = s.xtalOk := by unfold State.raiseIf; split <;> simp
@[simp] theorem State.raiseIf_cal (c : Bool) (n : Nat) : (s.raiseIf c n).cal = s.cal := by unfold State.raiseIf; split <;> simp
@[simp] theorem State.raiseIf_pw (c : Bool) (n : Nat) : (s.raiseIf c n).pw = s.pw := by unfold State.raiseIf; split <;> simp
@[simp] theorem State.raiseIf_mgmt (c : Bool) (n : Nat) : (s.raiseIf c n).mgmt = s.mgmt := by unfold State.raiseIf; split <;> simp
@[simp] theorem State.raiseIf_link (c : Bool) (n : Nat) : (s.raiseIf c n).link = s.link := by unfold State.raiseIf; split <;> simp
@[simp] theorem State.raiseIf_rem (c : Bool) (n : Nat) : (s.raiseIf c n).rem = s.rem := by unfold State.raiseIf; split <;> simp
@[simp] theorem State.raiseIf_com (c : Bool) (n : Nat) : (s.raiseIf c n).com = s.com := by unfold State.raiseIf; split <;> simp
@[simp] theorem State.raiseIf_epoch (c : Bool) (n : Nat) : (s.raiseIf c n).epoch = s.epoch := by unfold State.raiseIf; split <;> simp
@[simp] theorem State.raiseIf_tbc (c : Bool) (n : Nat) : (s.raiseIf c n).tbc = s.tbc := by unfold State.raiseIf; split <;> simp
@[simp] theorem State.raiseIf_beatAt (c : Bool) (n : Nat) : (s.raiseIf c n).beatAt = s.beatAt := by unfold State.raiseIf; split <;> simp
@[simp] theorem State.raiseIf_staged (c : Bool) (n : Nat) : (s.raiseIf c n).staged = s.staged := by unfold State.raiseIf; split <;> simp
@[simp] theorem State.raiseIf_nextUid (c : Bool) (n : Nat) : (s.raiseIf c n).nextUid = s.nextUid := by unfold State.raiseIf; split <;> simp
@[simp] theorem State.raiseIf_waits (c : Bool) (n : Nat) : (s.raiseIf c n).waits = s.waits := by unfold State.raiseIf; split <;> simp
@[simp] theorem State.raiseIf_toApply (c : Bool) (n : Nat) : (s.raiseIf c n).toApply = s.toApply := by unfold State.raiseIf; split <;> simp
@[simp] theorem State.raiseIf_applyDue (c : Bool) (n : Nat) : (s.raiseIf c n).applyDue = s.applyDue := by unfold State.raiseIf; split <;> simp
@[simp] theorem State.raiseIf_groups (c : Bool) (n : Nat) : (s.raiseIf c n).groups = s.groups := by unfold State.raiseIf; split <;> simp
@[simp] theorem State.raiseIf_snaps (c : Bool) (n : Nat) : (s.raiseIf c n).snaps = s.snaps := by unfold State.raiseIf; split <;> simp
@[simp] theorem State.raiseIf_applied (c : Bool) (n : Nat) : (s.raiseIf c n).applied = s.applied := by unfold State.raiseIf; split <;> simp
@[simp] theorem State.raiseIf_appliedVp (c : Bool) (n : Nat) : (s.raiseIf c n).appliedVp = s.appliedVp := by unfold State.raiseIf; split <;> simp
@[simp] theorem State.raiseIf_latched (c : Bool) (n : Nat) : (s.raiseIf c n).latched = s.latched := by unfold State.raiseIf; split <;> simp
@[simp] theorem State.raiseIf_prm (c : Bool) (n : Nat) : (s.raiseIf c n).prm = s.prm := by unfold State.raiseIf; split <;> simp
@[simp] theorem State.raiseIf_sar (c : Bool) (n : Nat) : (s.raiseIf c n).sar = s.sar := by unfold State.raiseIf; split <;> simp
@[simp] theorem State.raiseIf_pres (c : Bool) (n : Nat) : (s.raiseIf c n).pres = s.pres := by unfold State.raiseIf; split <;> simp
@[simp] theorem State.raiseIf_vl (c : Bool) (n : Nat) : (s.raiseIf c n).vl = s.vl := by unfold State.raiseIf; split <;> simp
@[simp] theorem State.raiseIf_out (c : Bool) (n : Nat) : (s.raiseIf c n).out = s.out := by unfold State.raiseIf; split <;> simp
@[simp] theorem State.raiseIf_fio (c : Bool) (n : Nat) : (s.raiseIf c n).fio = s.fio := by unfold State.raiseIf; split <;> simp
@[simp] theorem State.raiseIf_ilk (c : Bool) (n : Nat) : (s.raiseIf c n).ilk = s.ilk := by unfold State.raiseIf; split <;> simp
@[simp] theorem State.raiseIf_svc (c : Bool) (n : Nat) : (s.raiseIf c n).svc = s.svc := by unfold State.raiseIf; split <;> simp
@[simp] theorem State.raiseIf_bus (c : Bool) (n : Nat) : (s.raiseIf c n).bus = s.bus := by unfold State.raiseIf; split <;> simp
@[simp] theorem State.raiseIf_pair (c : Bool) (n : Nat) : (s.raiseIf c n).pair = s.pair := by unfold State.raiseIf; split <;> simp
@[simp] theorem State.raiseIf_caller (c : Bool) (n : Nat) : (s.raiseIf c n).caller = s.caller := by unfold State.raiseIf; split <;> simp
@[simp] theorem State.raiseIf_unit (c : Bool) (n : Nat) : (s.raiseIf c n).unit = s.unit := by unfold State.raiseIf; split <;> simp
@[simp] theorem State.raiseIf_unitStore (c : Bool) (n : Nat) : (s.raiseIf c n).unitStore = s.unitStore := by unfold State.raiseIf; split <;> simp
@[simp] theorem State.raiseIf_areaA (c : Bool) (n : Nat) : (s.raiseIf c n).areaA = s.areaA := by unfold State.raiseIf; split <;> simp
@[simp] theorem State.raiseIf_areaB (c : Bool) (n : Nat) : (s.raiseIf c n).areaB = s.areaB := by unfold State.raiseIf; split <;> simp
@[simp] theorem State.raiseIf_cells (c : Bool) (n : Nat) : (s.raiseIf c n).cells = s.cells := by unfold State.raiseIf; split <;> simp
@[simp] theorem State.raiseIf_badGroups (c : Bool) (n : Nat) : (s.raiseIf c n).badGroups = s.badGroups := by unfold State.raiseIf; split <;> simp
@[simp] theorem State.raiseIf_worn (c : Bool) (n : Nat) : (s.raiseIf c n).worn = s.worn := by unfold State.raiseIf; split <;> simp
@[simp] theorem State.raiseIf_unsteady (c : Bool) (n : Nat) : (s.raiseIf c n).unsteady = s.unsteady := by unfold State.raiseIf; split <;> simp
@[simp] theorem State.raiseIf_store (c : Bool) (n : Nat) : (s.raiseIf c n).store = s.store := by unfold State.raiseIf; split <;> simp
@[simp] theorem State.raiseIf_dsp (c : Bool) (n : Nat) : (s.raiseIf c n).dsp = s.dsp := by unfold State.raiseIf; split <;> simp
@[simp] theorem State.raiseIf_keys (c : Bool) (n : Nat) : (s.raiseIf c n).keys = s.keys := by unfold State.raiseIf; split <;> simp
@[simp] theorem State.raiseIf_hk (c : Bool) (n : Nat) : (s.raiseIf c n).hk = s.hk := by unfold State.raiseIf; split <;> simp
@[simp] theorem State.raiseIf_aon (c : Bool) (n : Nat) : (s.raiseIf c n).aon = s.aon := by unfold State.raiseIf; split <;> simp
@[simp] theorem State.raiseIf_heldAt (c : Bool) (n : Nat) : (s.raiseIf c n).heldAt = s.heldAt := by unfold State.raiseIf; split <;> simp
@[simp] theorem State.raiseIf_heldRes (c : Bool) (n : Nat) : (s.raiseIf c n).heldRes = s.heldRes := by unfold State.raiseIf; split <;> simp
@[simp] theorem State.raiseIf_w1cAt (c : Bool) (n : Nat) : (s.raiseIf c n).w1cAt = s.w1cAt := by unfold State.raiseIf; split <;> simp
@[simp] theorem State.raiseIf_w1cNow (c : Bool) (n : Nat) : (s.raiseIf c n).w1cNow = s.w1cNow := by unfold State.raiseIf; split <;> simp
@[simp] theorem State.raiseIf_pending (c : Bool) (n : Nat) : (s.raiseIf c n).pending = s.pending := by unfold State.raiseIf; split <;> simp

end Sys2Proof.Machine
end

