-- ==== Sys2Proof/Laws/Memory.lean ====
section
/-! SUPPORT. The store's cells: every operation on them keeps the canonical form, a byte written reads back, every other byte
reads as before (R391, R393). -/

namespace Sys2Proof.Machine

/-- A cell of the result of a put is the one put or was there. -/
theorem Memory.mem_put {m : List Host.Cell} {a : Nat} {b : Byte} {c : Host.Cell} (h : c ∈ Memory.put m a b) :
    c = (a, b) ∧ b ≠ Memory.unlisted ∨ c ∈ m := by
  induction m with
  | nil =>
    by_cases hb : b = Memory.unlisted
    · simp [Memory.put, hb] at h
    · simp [Memory.put, hb] at h; exact .inl ⟨h, hb⟩
  | cons x m ih =>
    obtain ⟨a', b'⟩ := x
    unfold Memory.put at h
    split at h
    · split at h
      · exact .inr h
      · rename_i hb
        rcases List.mem_cons.1 h with h | h
        · exact .inl ⟨h, hb⟩
        · exact .inr h
    · split at h
      · split at h
        · exact .inr (List.mem_cons_of_mem _ h)
        · rename_i hb
          rcases List.mem_cons.1 h with h | h
          · exact .inl ⟨h, hb⟩
          · exact .inr (List.mem_cons_of_mem _ h)
      · rcases List.mem_cons.1 h with h | h
        · exact .inr (h ▸ List.mem_cons_self)
        · rcases ih h with h | h
          · exact .inl h
          · exact .inr (List.mem_cons_of_mem _ h)

/-- The part of the form that a tail keeps. -/
theorem Memory.wf_cons {x : Host.Cell} {m : List Host.Cell} (h : Memory.wf (x :: m)) :
    Memory.wf m ∧ (∀ c ∈ m, x.1 < c.1) ∧ x.1 < Memory.size ∧ x.2 ≠ Memory.unlisted := by
  obtain ⟨hp, hc⟩ := h
  obtain ⟨h1, h2⟩ := List.pairwise_cons.1 hp
  exact ⟨⟨h2, fun c hm => hc c (List.mem_cons_of_mem _ hm)⟩, h1, hc x List.mem_cons_self⟩

/-- The form of a list from its head and its tail. -/
theorem Memory.wf_of_cons {x : Host.Cell} {m : List Host.Cell} (h : Memory.wf m) (h1 : ∀ c ∈ m, x.1 < c.1)
    (h2 : x.1 < Memory.size) (h3 : x.2 ≠ Memory.unlisted) : Memory.wf (x :: m) := by
  refine ⟨List.pairwise_cons.2 ⟨h1, h.1⟩, fun c hm => ?_⟩
  rcases List.mem_cons.1 hm with rfl | hm
  · exact ⟨h2, h3⟩
  · exact h.2 c hm

/-- A put keeps the form. -/
theorem Memory.wf_put {m : List Host.Cell} {a : Nat} {b : Byte} (h : Memory.wf m) (ha : a < Memory.size) :
    Memory.wf (Memory.put m a b) := by
  induction m with
  | nil =>
    by_cases hb : b = Memory.unlisted
    · simpa [Memory.put, hb] using h
    · rw [Memory.put, if_neg hb]
      exact Memory.wf_of_cons h (by simp) ha hb
  | cons x m ih =>
    obtain ⟨a', b'⟩ := x
    obtain ⟨hm, hlt, hx, hb'⟩ := Memory.wf_cons h
    unfold Memory.put
    split
    · rename_i hlt'
      split
      · exact h
      · rename_i hb
        refine Memory.wf_of_cons h (fun c hc => ?_) ha hb
        rcases List.mem_cons.1 hc with rfl | hc
        · exact hlt'
        · exact Nat.lt_trans hlt' (hlt c hc)
    · rename_i hge
      split
      · rename_i heq
        split
        · exact hm
        · rename_i hb
          exact Memory.wf_of_cons hm (fun c hc => heq ▸ hlt c hc) ha hb
      · rename_i hne
        refine Memory.wf_of_cons (ih hm) (fun c hc => ?_) hx hb'
        rcases Memory.mem_put hc with ⟨rfl, -⟩ | hc
        · simp only at hge hne ⊢; omega
        · exact hlt c hc

/-- A byte not listed reads as an unlisted one does. -/
theorem Memory.read_of_lt {m : List Host.Cell} {a : Nat} (h : ∀ c ∈ m, a < c.1) : Memory.read m a = Memory.unlisted := by
  induction m with
  | nil => rfl
  | cons x m ih =>
    have hx := h x List.mem_cons_self
    unfold Memory.read
    split
    · omega
    · exact ih fun c hc => h c (List.mem_cons_of_mem _ hc)

/-- What a byte reads after a put. -/
theorem Memory.read_put {m : List Host.Cell} {a : Nat} {b : Byte} (h : Memory.wf m) (x : Nat) :
    Memory.read (Memory.put m a b) x = if x = a then b else Memory.read m x := by
  induction m with
  | nil =>
    by_cases hb : b = Memory.unlisted
    · by_cases hx : x = a <;> simp [Memory.put, Memory.read, hb, hx]
    · by_cases hx : x = a
      · simp [Memory.put, Memory.read, hb, hx]
      · simp [Memory.put, Memory.read, hb, hx, Ne.symm hx]
  | cons y m ih =>
    obtain ⟨a', b'⟩ := y
    obtain ⟨hm, hlt, -, -⟩ := Memory.wf_cons h
    unfold Memory.put
    split
    · rename_i hlt'
      by_cases hx : x = a
      · subst hx
        rw [if_pos rfl]
        split
        · rename_i hb
          have := Memory.read_of_lt (m := (a', b') :: m) (a := x) fun c hc => by
            rcases List.mem_cons.1 hc with rfl | hc
            · exact hlt'
            · exact Nat.lt_trans hlt' (hlt c hc)
          rw [this, hb]
        · simp [Memory.read]
      · rw [if_neg hx]
        split
        · rfl
        · rw [Memory.read, if_neg (Ne.symm hx)]
    · split
      · rename_i heq
        subst heq
        by_cases hx : x = a
        · subst hx
          rw [if_pos rfl]
          split
          · rename_i hb
            rw [Memory.read_of_lt hlt, hb]
          · simp [Memory.read]
        · rw [if_neg hx]
          split
          · rw [Memory.read, if_neg (Ne.symm hx)]
          · rw [Memory.read, if_neg (Ne.symm hx), Memory.read, if_neg (Ne.symm hx)]
      · rename_i hge hne
        by_cases hx : a' = x
        · subst hx
          rw [Memory.read, if_pos rfl, if_neg (fun h => hne h.symm), Memory.read, if_pos rfl]
        · rw [Memory.read, if_neg hx, ih hm, Memory.read, if_neg hx]

/-- A write keeps the form. -/
theorem Memory.wf_write {m : List Host.Cell} (h : Memory.wf m) (a : Nat) (b : Byte) : Memory.wf (Memory.write m a b) := by
  unfold Memory.write
  split
  · exact Memory.wf_put h ‹_›
  · exact h

/-- What a byte reads after a write. -/
theorem Memory.read_write {m : List Host.Cell} (h : Memory.wf m) {a : Nat} (b : Byte) (x : Nat) :
    Memory.read (Memory.write m a b) x = if x = a ∧ a < Memory.size then b else Memory.read m x := by
  unfold Memory.write
  by_cases ha : a < Memory.size
  · simp [ha, Memory.read_put h]
  · simp [ha]

/-- Writing several bytes keeps the form. -/
theorem Memory.wf_writeN {bs : Bytes} {m : List Host.Cell} {a : Nat} (h : Memory.wf m) : Memory.wf (Memory.writeN m a bs) := by
  induction bs generalizing m a with
  | nil => exact h
  | cons b bs ih => exact ih (Memory.wf_write h a b)

/-- Cells dropped leave the form. -/
theorem Memory.wf_filter {m : List Host.Cell} (h : Memory.wf m) (p : Host.Cell → Bool) : Memory.wf (m.filter p) :=
  ⟨h.1.filter p, fun c hc => h.2 c (List.mem_of_mem_filter hc)⟩

/-- Copying between two pictures keeps the form of the one copied into. -/
theorem wf_copyCells {dst : List Host.Cell} (h : Memory.wf dst) (src : List Host.Cell) (a n : Nat) :
    Memory.wf (copyCells src dst a n) := Memory.wf_writeN h

/-- Writing pieces one after the other keeps the form. -/
theorem Memory.wf_foldl {α : Type} {f : List Host.Cell → α → List Host.Cell} (hf : ∀ m x, Memory.wf m → Memory.wf (f m x))
    {m : List Host.Cell} (h : Memory.wf m) (l : List α) : Memory.wf (l.foldl f m) := by
  induction l generalizing m with
  | nil => exact h
  | cons x l ih => exact ih (hf m x h)

/-! ### The operations of the store on State -/

/-- A step that keeps the form, taken for every element of a list, keeps it. -/
theorem State.storeWf_foldl {α : Type} {f : State → α → State} (hf : ∀ s x, s.storeWf → (f s x).storeWf) {s : State}
    (h : s.storeWf) (l : List α) : (l.foldl f s).storeWf := by
  induction l generalizing s with
  | nil => exact h
  | cons x l ih => exact ih (hf s x h)

/-- A group that did not verify. -/
theorem State.garble_wf {s : State} (h : Memory.wf s.cells) (g : Nat) : Memory.wf (s.garble g).cells := by
  unfold State.garble
  dsimp only
  split
  · exact Memory.wf_writeN h
  · exact h

/-- A write that may still run is the one kept. -/
theorem State.writing_inflight {s : State} {op : StoreOp} (h : s.writing = some op) : s.store.inflight = some op := by
  unfold State.writing at h
  rw [Option.filter_eq_some_iff] at h
  exact h.1

/-- The cells written, those that do not verify left open. -/
theorem State.putCells_wf {s : State} (h : s.storeWf) {new : List Host.Cell} (hn : Memory.wf new) (ps : List (Nat × Nat)) :
    (s.putCells new ps).storeWf := by
  have hg : ∀ (l : List Nat) (t : State), Memory.wf t.cells → Memory.wf (l.foldl (fun s g => s.garble g) t).cells := by
    intro l
    induction l with
    | nil => exact fun _ ht => ht
    | cons g l ih => exact fun t ht => ih _ (State.garble_wf ht g)
  have hc : Memory.wf (s.putCells new ps).cells := hg _ _ hn
  refine ⟨hc, fun op ho => ?_⟩
  cases ho
  refine ⟨?_, hc⟩
  cases hw : s.writing with
  | none => exact h.1
  | some op => exact (h.2 op (State.writing_inflight hw)).1

/-- Pieces written. -/
theorem State.putBytes_wf {s : State} (h : s.storeWf) (ps : List (Nat × Bytes)) : (s.putBytes ps).storeWf :=
  State.putCells_wf h (Memory.wf_foldl (fun _ _ hm => Memory.wf_writeN hm) h.1 ps) _

/-- A verify failure counted. -/
theorem State.countFail_wf {s : State} (h : s.storeWf) (g : Nat) : (s.countFail g).storeWf := by
  unfold State.countFail State.storeWf
  simp only [State.raise_cells, State.raise_store]
  exact h

/-- A record of the store error log, begun now or owed. -/
theorem State.putError_wf {s : State} (h : s.storeWf) (data : Bytes) : (s.putError data).storeWf :=
  State.storeWf_foldl (fun _ g hs => State.countFail_wf hs g) (State.putBytes_wf h _) _

theorem State.logError_wf {s : State} (h : s.storeWf) (typ addr : Nat) : (s.logError typ addr).storeWf := by
  unfold State.logError
  dsimp only
  split
  · exact h
  · exact State.putError_wf h _

/-- Verify failures counted and logged. -/
theorem State.noteFails_wf {s : State} (h : s.storeWf) (bad : List Nat) : (s.noteFails bad).storeWf :=
  State.storeWf_foldl (fun _ g hs => State.logError_wf (State.countFail_wf hs g) 3 g) h bad

/-- A write of pieces. -/
theorem State.writeCells_wf {s : State} (h : s.storeWf) (ps : List (Nat × Bytes)) : (s.writeCells ps).storeWf :=
  State.noteFails_wf (State.putBytes_wf h ps) _

/-- A stretch set to zero. -/
theorem State.zeroCells_wf {s : State} (h : s.storeWf) (a n : Nat) : (s.zeroCells a n).storeWf :=
  State.noteFails_wf (State.putCells_wf h (Memory.wf_filter h.1 _) _) _

/-- A write cut without warning. -/
theorem State.tearCells_wf {s : State} (h : s.storeWf) (c : StoreCut) {op : StoreOp} (ho : Memory.wf op.old) :
    (s.tearCells c op).storeWf := by
  have hm : ∀ gs : List Nat, Memory.wf (gs.foldl (fun m g => copyCells op.new m g 8) op.old) :=
    Memory.wf_foldl (fun _ _ hm => wf_copyCells hm _ _ _) ho
  unfold State.tearCells
  dsimp only
  split
  · exact ⟨hm _, h.2⟩
  · exact ⟨Memory.wf_writeN (hm _), h.2⟩

/-- Two states with the same cells and the same write in progress. -/
theorem State.storeWf_congr {s t : State} (hc : t.cells = s.cells) (hi : t.store.inflight = s.store.inflight) (h : s.storeWf) :
    t.storeWf := by
  unfold State.storeWf
  rw [hc, hi]
  exact h

/-- A persistence stopped changes no cell. -/
theorem State.stopImage_cells (s : State) (n : Nat) :
    (s.stopImage n).cells = s.cells ∧ (s.stopImage n).store.inflight = s.store.inflight := by
  unfold State.stopImage
  cases s.imaging with
  | none => exact ⟨rfl, rfl⟩
  | some op =>
    dsimp only
    split
    · exact ⟨rfl, rfl⟩
    · cases op.switchTo with
      | none => exact ⟨rfl, rfl⟩
      | some b =>
        dsimp only
        split
        · exact ⟨rfl, rfl⟩
        · cases b <;> exact ⟨rfl, rfl⟩

/-- Stopping a write of unit records changes no cell and no write in progress. -/
theorem State.stopUnitWrite_cells (s : State) (n : Nat) :
    (s.stopUnitWrite n).cells = s.cells ∧ (s.stopUnitWrite n).store.inflight = s.store.inflight := by
  have ho : ∀ (l : List (Nat × Bool)) (t : State), (l.foldl (fun s r => s.owe (.unit r.1 r.2 none)) t).cells = t.cells ∧
      (l.foldl (fun s r => s.owe (.unit r.1 r.2 none)) t).store.inflight = t.store.inflight := by
    intro l
    induction l with
    | nil => exact fun _ => ⟨rfl, rfl⟩
    | cons r l ih => exact fun t => ⟨(ih _).1, (ih _).2⟩
  unfold State.stopUnitWrite
  cases s.unitWriting with
  | none => exact ⟨rfl, rfl⟩
  | some op => exact ho _ _

/-- A write stopped by the power-fail warning. -/
theorem State.stopStore_wf {s : State} (h : s.storeWf) (n : Nat) : (s.stopStore n).storeWf := by
  have hs := State.storeWf_congr (State.stopUnitWrite_cells _ n).1 (State.stopUnitWrite_cells _ n).2
    (State.storeWf_congr (State.stopImage_cells s n).1 (State.stopImage_cells s n).2 h)
  unfold State.stopStore
  dsimp only
  cases hw : ((s.stopImage n).stopUnitWrite n).writing with
  | none => exact hs
  | some op =>
    obtain ⟨h1, h2⟩ := hs.2 op (State.writing_inflight hw)
    dsimp only
    split
    · exact hs
    · refine ⟨Memory.wf_foldl (fun _ _ hm => wf_copyCells hm _ _ _) h1 _, fun o ho => ?_⟩
      cases ho
      exact ⟨h1, h2⟩

/-- A stopped write resumed. -/
theorem State.resumeStore_wf {s : State} (h : s.storeWf) : s.resumeStore.storeWf := by
  unfold State.resumeStore
  split
  · exact h
  · rename_i op ho
    split
    · exact h
    · refine ⟨Memory.wf_foldl (fun _ _ hm => wf_copyCells hm _ _ _) h.1 _, fun o hs => ?_⟩
      cases hs
      exact ⟨h.1, (h.2 op ho).2⟩

/-- A corrected group rewritten. -/
theorem State.scrub_wf {s : State} (h : s.storeWf) (g : Nat) : (s.scrub g).storeWf := by
  unfold State.scrub
  split
  · exact h
  · exact State.noteFails_wf (State.putCells_wf h h.1 _) _

/-- A bad group met by a read. -/
theorem State.meetGroup_wf {s : State} (h : s.storeWf) (g : Nat × Nat) : (s.meetGroup g).storeWf := by
  have hr : ∀ (c : Bool) (t : State), t.storeWf → (t.raiseIf c 122).storeWf := fun c t ht => by
    cases c
    · exact ht
    · exact State.storeWf_congr (State.raise_cells ..) (congrArg StoreRun.inflight (State.raise_store ..)) ht
  unfold State.meetGroup
  split
  · exact State.scrub_wf (hr s.store.eccArmed _ (State.logError_wf (s := { s with
        store := { s.store with corr := s.store.corr + 1, lastbad := g.1, eccArmed := false } }) h 1 g.1)) _
  · split
    · exact hr true _ (State.logError_wf (s := { s with
        store := { s.store with uncorr := s.store.uncorr + 1, lastbad := g.1 } }) h 2 g.1)
    · exact h

/-- Indeterminate bytes read. -/
theorem State.reread_wf {s : State} (h : s.storeWf) (g : Nat) : (s.reread g).storeWf :=
  ⟨Memory.wf_foldl (fun _ _ hm => Memory.wf_writeN hm) h.1 _, h.2⟩

theorem State.settled_wf {s : State} (h : s.storeWf) (ps : List (Nat × Nat)) : (s.settled ps).storeWf :=
  State.storeWf_foldl (fun _ g hs => State.reread_wf hs g) h _

/-- With no indeterminate byte a reading finds the cells as they are. -/
@[simp] theorem State.settled_none {s : State} (h : s.unsteady = []) (ps : List (Nat × Nat)) : s.settled ps = s := by
  simp [State.settled, h, List.eraseDups]

/-- A checked read. -/
theorem State.readCheck_wf {s : State} (h : s.storeWf) (ps : List (Nat × Nat)) : (s.readCheck ps).storeWf :=
  State.storeWf_foldl (fun _ g hs => State.meetGroup_wf hs g) h _

theorem State.lookAt_wf {s : State} (h : s.storeWf) (ps : List (Nat × Nat)) : (s.lookAt ps).storeWf :=
  State.readCheck_wf (State.settled_wf h ps) ps

end Sys2Proof.Machine
end

