-- ==== Sys2Proof/Tests/Slice0.lean ====
section
/-! SUPPORT. For each statement, and each clause of it that has hypotheses, a concrete state with operands that meets them all
together, at a bound of the operands' ranges; and checks of single steps. -/

open Sys2Proof Sys2Proof.Machine

namespace Sys2Proof.Tests

set_option Elab.async false

/-! ### Small states -/

def up : State := { State.reset with phase := .run, tb := 1, store := { recalled := true }, pw := { strap := 1 } }
def upT : State := { up with pw := { strap := 0 } }
def upC : State := { up with pw := { strap := 4 } }
def upP : State := { up with pw := { strap := 2 }, pair := { role := .active } }
def upG : State := { up with groups := upd up.groups 7 fun _ => some { openAt := 1, held := [.point 0x100 0] } }
def upS : State := { up with snaps := upd up.snaps 3 fun _ => some { epoch := 1, data := [1, 2], usedAt := 1 } }
def upK (k : KeySlot) : State := { up with unit := { keys := upd up.unit.keys 7 fun _ => some k } }
def upR : State := { up with pw := { strap := 1, pmun := 0x3FFF } }
def cfgAll : Cfg := { up.com.cfg with
  pt := { chans := Vector.replicate 16 { en := true }, hu := Vector.replicate 16 { en := true } }
  sar := { seqs := Vector.replicate 8 [(0, 0)] }
  vl := { chans := Vector.replicate 16 { en := true } }
  ao := Vector.replicate 16 { en := true }
  dout := Vector.replicate 8 { en := true }
  key := { mask := 0xFFFFFFFFFFFFFFFF } }
def upE : State := { upR with com := { upR.com with cfg := cfgAll }, applied := cfgAll }
def upM : State := { upE with prm := { groups := Vector.replicate 4 { state := 2 } } }
def upCal : State := { upM with prm := { ch := Vector.replicate 16 { cal := { zero := some { avg := 0, span := 0, ref := 0 }, full := some { avg := 0x4000000, span := 0, ref := 0x800000 } } } } }
def upObj : State := { up with cal := { isSet := true }, com := { up.com with objs :=
  [(0x1000F, { epochW := 1, body := le 1 1 ++ le 63 0 }), (0x2001F, { epochW := 1, body := le 40 0 }),
   (0x3001F, { epochW := 1, body := le 1 1 ++ le 63 0 }), (0x5007F, { epochW := 1, body := le 40 0 })] } }
def ringD : RingDef := { en := true, copies := 2, base := 0x40000, slots := 4, slotsz := 16 }
def upRing : State := { up with unit := { rings := upd up.unit.rings 63 fun _ => some ringD } }
def upRec : State := { upRing with cells := (upRing.ringWrite ringD 3 1 [9]).cells }
def upAmb : State := { upRing with cells := Memory.writeN (Memory.writeN [] (ringD.addr 0 3) (recordBytes ringD 1 [9])) (ringD.addr 1 3) (recordBytes ringD 1 [8]) }
def upLog : State := { up with cells := (up.ringWrite (logDef 2) 63 1 [9]).cells }
def upTherm : State := { up with cells := (up.ringWrite (logDef 0) 63 1 [9]).cells }
def schB : Bytes := [1] ++ le 15 0 ++ (List.replicate 7 (le 2 0x21E0 ++ (List.replicate 7 (le 2 0x7FF)).flatten)).flatten
def upSch : State := { up with xtalOk := true, cal := { isSet := true }, com := { up.com with objs :=
  [(0x1000F, { epochW := 1, body := le 1 1 ++ le 63 0 }), (0x30000, { epochW := 1, body := schB })] } }
def mb (n : Nat) : MboxCmd := { id := n, tag := 0, opc := 0, params := [], recvAt := 1 }
def rep : Reply := { slot := some 4, tag := 0, status := 0, epoch := 0, results := [], final := true, readAt := 1 }
def upRep : State := { up with link := { replies := [rep], mbox := [mb 4] } }
def upMb (c : MboxCmd) : State := { up with link := { mbox := List.replicate 7 { mb 1 with done := true } ++ [c] } }
def upBus : State := { up with bus := { phase := .active } }
def rc (d : Bytes) : RemoteCmd := { id := 0, data := d, classic := false, recvAt := 1 }
def key7 : KeySlot := { key := List.replicate 32 1, mask := 0, cnt0 := 0 }
def rec7 (cnt : Nat) : Bytes := let b : Bytes := [7] ++ le 4 cnt ++ [0, 0, 0xF0]
  b ++ recordMac key7.key up.unit.serial.toNat b
def rec0 (cnt : Nat) : Bytes := let b : Bytes := [7] ++ le 4 cnt ++ [0, 0, 0]
  b ++ recordMac key7.key up.unit.serial.toNat b
def upRcM : State := { upK { key7 with mask := 0xFFFF } with bus := { phase := .active }, rem := { box := [rc (rec0 1)] } }
def upRc (d : Bytes) : State := { upK key7 with rem := { box := [rc d] } }
def ent : TxEntry := { txseq := 1, f := {}, life := 0, at_ := 1 }
def upTx : State := { up with bus := { phase := .active, fifo := [ent] } }
def upFlt : State := { up with bus := { phase := .active, filters := [(31, [0x1F, 0, 47, 1] ++ le 8 0)] } }
def upPh (p : BusPhase) : State := { up with bus := { phase := p } }
def verd (fl : Byte) (tm : Nat) : Frame := { id := frameId 0 0 7, data := [1] ++ le 48 0 ++ le 4 0x21F7 ++ le 4 5 ++ [fl] ++ le 2 tm ++ le 4 9 }
def upPB (r : Role) : State := { upP with bus := { phase := .active }, pair := { role := r } }
def upL (p : Pair) : State := { up with pw := { strap := 2, pmun := 0x3FFF }, pair := p }
def lk (t : Nat) (b : Bytes) : LinkFrame := { typ := t, payload := b }
def asm : Assembly := { epoch := 5, prev := 0, nblk := 0, bytes := 0 }
def upCs (k : CallSlot) : State := { upC with
  bus := { phase := .active }
  applied := { up.applied with caller := upd up.applied.caller 3 fun _ => { en := true, serA := 1, serB := 2 } }
  caller := { slots := upd up.caller.slots 3 fun _ => k } }
def grantF (c fl : Byte) : Frame := { id := 0x1EF00000 + low up.unit.serial.toNat 20, data := le 8 up.unit.serial.toNat ++ [c, fl, 0, 0] }
def upQ : State := { up with pw := { strap := 2, pmun := 0x3FFF }, pair := { role := .active } }
def conf (c : Cfg) (s : State) : State := { s with applied := c }
def upPub : State := { up with com := { up.com with cfg := { up.com.cfg with pub := { pper := 1, points := [0x1FF] } } }, svc := { pubDue := true }, bus := { phase := .active } }
def pf : List Frame × List (Nat × W32) := State.pubFrames { upPub with svc := { upPub.svc with pubDue := false } } (upPub.svc.roundAt / 1000000)
def ptCf : Cfg := { up.applied with pt := { chans := Vector.replicate 16 { en := true }, hu := Vector.replicate 16 { en := true } } }
def upPt (n : Nat) : State := { conf ptCf upR with prm := { groups := Vector.replicate 4 { state := n } } }
def upSar : State := { conf { up.applied with sar := { started := 0xFF, trigs := Vector.replicate 8 { src := 4 } }, fn := Vector.replicate 8 { en := true } } upR with out := { fn := Vector.replicate 8 { cur := 5000 } } }
def upPr (m : Nat) (c : PrChan) : State := { conf { up.applied with pr := { mode := m, chans := Vector.replicate 16 { en := true, wen := true, wcredit := true } } } upR with pres := { sampling := true, ch := upd up.pres.ch 15 fun _ => c } }
def vlCf : Cfg := { up.applied with vl := { chans := Vector.replicate 16 { en := true } } }
def upVl (c : VlChan) : State := { conf vlCf upR with vl := { ch := upd up.vl.ch 15 fun _ => c } }
def upBk (b : VlBank) : State := { conf vlCf upR with vl := { bank := upd up.vl.bank 3 fun _ => b } }
def fresh (c : Int) : Sar := { vl := upd up.sar.vl 15 fun _ => { code := c, fresh := true } }
def upAo (c : AoChan) : State := { conf { up.applied with ao := Vector.replicate 16 { en := true, slew := 1 } } upR with out := { ao := upd up.out.ao 15 fun _ => c } }
def upFn (c : FnChan) : State := { conf { up.applied with fn := Vector.replicate 8 { en := true, ppr := 1, stallact := 1 } } upR with out := { fn := upd up.out.fn 7 fun _ => c } }
def upFd (v : W32) (c : FloatRun) : State := { conf { up.applied with fd := Vector.replicate 8 { en := true } } upR with out := { fd := upd up.out.fd 7 fun _ => c }, appliedVp := [(0x100, v)] }
def diCf : Cfg := { up.applied with di := Vector.replicate 16 { en := true, wben := true, wake := true }, dout := Vector.replicate 8 { en := true, retry := true } }
def upDi (c : DiChan) : State := { conf diCf upR with fio := { lpres := true, linkok := true, fullAt := some 0, di := upd up.fio.di 15 fun _ => c } }
def upDo (c : DoChan) : State := { conf diCf upR with fio := { lpres := true, linkok := true, fullAt := some 0, dout := upd up.fio.dout 7 fun _ => c } }
def upIlk (r : IlkRun) : State := { conf { up.applied with ilk := { entries := Vector.replicate 32 { en := true, latch := true } } } up with ilk := { running := true, run := upd up.ilk.run 31 fun _ => r } }
def upDsp (m : Nat) (d : Display) : State := { conf { up.applied with dsp := { conf := { mode := m }, page := 15 } } upR with dsp := d }
def upKey : State := conf { up.applied with key := { en := true, mask := 0xFFFFFFFFFFFFFFFF, enc := Vector.replicate 4 { en := true }, autolock := 5 } } up
def upVh : State := { upVl { phase := .hold } with sar := fresh 3000 }
def vhE : Rat := ((upVh.vlCh 15).ihold : Rat) / 200 - 3 / 10
def vhD : Rat := (((upVh.vlCh 15).ihold : Rat) / 200 * 20 + 5 / 100 / (4 * upVh.vlT 15) * vhE + 20 / 8 * vhE) / 24
def hkCv (rails : Bool) (z : Rat) : List (Nat × Rat) := (hkChannels rails).map fun ch => (ch, if ch = 0x38 then 24000 else if ch = 0x39 then 26900 else if ch = 0x42 then 58982 else if ch = 0x43 then z else 0)

/-! ### Hypotheses met -/

theorem witness_ReportingCommandsAnswer :
    (∃ (s : State), s.ready 0x00) ∧
    (∃ (s : State), s.ready 0x04) ∧
    (∃ (s : State) (i : Nat), s.ready 0x0A ∧ i < 8 ∧ nth s.unit.keys i none = none) ∧
    (∃ (s : State) (i : Nat) (k : KeySlot), s.ready 0x0A ∧ i < 8 ∧ nth s.unit.keys i none = some k) ∧
    (∃ (s : State), s.ready 0x0D) ∧
    (∃ (s : State), s.ready 0x10) ∧
    (∃ (s : State), s.ready 0xF2) ∧
    (∃ (s : State), s.ready 0xF0) ∧
    (∃ (s : State) (o : Nat) (r : Bytes), s.ready 0xF1 ∧ o < 65536 ∧ s.capAt o = some r) :=
  ⟨⟨up, by decide +kernel⟩,
    ⟨up, by decide +kernel⟩,
    ⟨up, 7, by decide +kernel⟩,
    ⟨upK { key := List.replicate 32 1, mask := 1, cnt0 := 0 }, 7, { key := List.replicate 32 1, mask := 1, cnt0 := 0 },
      by decide +kernel⟩,
    ⟨up, by decide +kernel⟩,
    ⟨up, by decide +kernel⟩,
    ⟨up, by decide +kernel⟩,
    ⟨up, by decide +kernel⟩,
    ⟨{ up with link := { replies := [] } }, 0, ((up.capAt 0).getD []), by decide +kernel⟩⟩

theorem witness_DeviceCommandsComplete :
    (∃ (s : State) (p : Bytes), s.readyToStage 0x03 1 ∧ p.length = 3 ∧ u8 p 0 ≤ 3 ∧ u16 p 1 ≤ 2000) ∧
    (∃ (s : State) (p : Bytes), s.readyToStage 0x05 1 ∧ p.length = 2 ∧ u16 p 0 < 2 ^ 14 ∧ (s.aon.thermLatched = false ∨
      BitVec.ofNat 14 (u16 p 0) &&& driveUnits = 0)) ∧
    (∃ (s : State) (p : Bytes), s.readyToStage 0x06 1 ∧ p.length = 2 ∧ u16 p 0 < 2 ^ 14 ∧ u16 p 0 % 2 = 0 ∧
      s.stopNeeded (BitVec.ofNat 14 (u16 p 0)) = false) ∧
    (∃ (s : State) (p : Bytes), s.readyToStage 0x08 1 ∧ p.length = 39 ∧ u8 p 0 ≤ 7 ∧ u16 p 1 ≠ 0 ∧
      slice p 7 32 ≠ List.replicate 32 0) ∧
    (∃ (s : State) (p : Bytes), s.readyToStage 0x09 1 ∧ p.length = 1 ∧ u8 p 0 ≤ 7) ∧
    (∃ (s : State) (p : Bytes), s.readyToStage 0x0C 1 ∧ p.length = 8 ∧ (u8 p 0 = 2 ∨ u8 p 0 ≤ 1 ∧
      within 2000 (u16 p 1) 2099 ∧ within 1 (u8 p 3) 12 ∧ within 1 (u8 p 4) (daysIn (u16 p 1) (u8 p 3)) ∧ u8 p 5 ≤ 23 ∧
      u8 p 6 ≤ 59 ∧ u8 p 7 ≤ 59)) ∧
    (∃ (s : State) (p : Bytes), s.ready 0x02 ∧ p.length = 2 ∧ u16 p 0 = 0xC35A) ∧
    (∃ (s : State) (p : Bytes), s.ready 0x02 ∧ p.length = 2 ∧ u16 p 0 ≠ 0xC35A) ∧
    (∃ (s : State), s.ready 0xF3) :=
  ⟨⟨up, [3, 0xD0, 0x07], by decide +kernel⟩,
    ⟨up, [0xFF, 0x3F], by decide +kernel⟩,
    ⟨up, [0xFE, 0x3F], by decide +kernel⟩,
    ⟨up, ([7, 0xFF, 0xFF] ++ le 4 0 ++ List.replicate 31 0 ++ [1]), by decide +kernel⟩,
    ⟨up, [7], by decide +kernel⟩,
    ⟨up, [0, 0x33, 0x08, 2, 28, 23, 59, 59], by decide +kernel⟩,
    ⟨up, [0x5A, 0xC3], by decide +kernel⟩,
    ⟨up, [0x5A, 0xC2], by decide +kernel⟩,
    ⟨{ up with link := { nextId := 3 } }, by decide +kernel⟩⟩

theorem witness_WritesGroupsAndSnapshots :
    (∃ (s : State) (p : Bytes), s.readyToStage 0x11 (u8 p 1) ∧ p.length = 2 + 6 * u8 p 1 ∧ u8 p 0 = 0 ∧ 1 ≤ u8 p 1 ∧
      u8 p 1 ≤ 40 ∧ (∀ e ∈ pointList p, s.takesPoint e.1 e.2)) ∧
    (∃ (s : State) (p : Bytes), s.readyToStage 0x12 1 ∧ 11 ≤ p.length ∧ p.length ≤ 246 ∧ u8 p 0 = 0 ∧
      s.takesObj (u8 p 1) (u16 p 2) (u16 p 8) (p.drop 10)) ∧
    (∃ (s : State) (i : Nat), s.ready 0x13 ∧ s.acting = true ∧ s.freeGroup = some i) ∧
    (∃ (s : State) (p : Bytes) (gr : Group), s.readyToStage 0x11 (u8 p 1) ∧ p.length = 2 + 6 * u8 p 1 ∧ 1 ≤ u8 p 0 ∧
      u8 p 0 ≤ 8 ∧ 1 ≤ u8 p 1 ∧ u8 p 1 ≤ 40 ∧ s.groupOpen (u8 p 0) = some gr ∧ gr.held.length + u8 p 1 ≤ 64 ∧
      (∀ e ∈ pointList p, s.takesPoint e.1 e.2)) ∧
    (∃ (s : State) (p : Bytes) (gr : Group), s.ready 0x14 ∧ s.acting = true ∧ p.length = 2 ∧ u8 p 1 = 0 ∧
      s.groupOpen (u8 p 0) = some gr ∧ gr.held ≠ [] ∧ s.staged.length + gr.held.length ≤ 512) ∧
    (∃ (s : State) (p : Bytes) (gr : Group), s.ready 0x14 ∧ s.acting = true ∧ p.length = 2 ∧ u8 p 1 = 1 ∧
      s.groupOpen (u8 p 0) = some gr) ∧
    (∃ (s : State) (p : Bytes) (h : Nat), s.ready 0x15 ∧ p.length = 1 + 3 * u8 p 0 ∧ 1 ≤ u8 p 0 ∧ u8 p 0 ≤ 64 ∧
      s.freeSnap = some h ∧ (∀ i < u8 p 0,
      ∀ e ∈ checkRef (u8 p (1 + 3 * i)) (u16 p (2 + 3 * i)) s.pers (1 + 3 * i) (2 + 3 * i), e.1 = false) ∧
      ((refList p).flatMap fun r => s.snapRecord r.1 r.2).length ≤ 4096) ∧
    (∃ (s : State) (p : Bytes) (sn : Snap), s.ready 0x16 ∧ p.length = 4 ∧ nth s.snaps (u8 p 0) none = some sn ∧
      u16 p 1 < sn.data.length ∧ 1 ≤ u8 p 3 ∧ u8 p 3 ≤ 240) ∧
    (∃ (s : State) (p : Bytes) (sn : Snap), s.ready 0x17 ∧ p.length = 1 ∧ nth s.snaps (u8 p 0) none = some sn) :=
  ⟨⟨up, ([0, 40] ++ (List.range 40).flatMap fun i => le 2 (0x100 + i) ++ le 4 0), by decide +kernel⟩,
    ⟨up, ([0, 7, 0, 0] ++ le 4 0 ++ [0, 0, 0]), by decide +kernel⟩,
    ⟨up, 0, by decide +kernel⟩,
    ⟨upG, ([8, 1] ++ le 2 0x1FF ++ le 4 7), { openAt := 1, held := [.point 0x100 0] }, by decide +kernel⟩,
    ⟨upG, [8, 0], { openAt := 1, held := [.point 0x100 0] }, by decide +kernel⟩,
    ⟨upG, [8, 1], { openAt := 1, held := [.point 0x100 0] }, by decide +kernel⟩,
    ⟨up, [1, 0, 0xFF, 0x01], 0, by decide +kernel⟩,
    ⟨upS, [3, 1, 0, 240], { epoch := 1, data := [1, 2], usedAt := 1 }, by decide +kernel⟩,
    ⟨upS, [3], { epoch := 1, data := [1, 2], usedAt := 1 }, by decide +kernel⟩⟩

theorem witness_MeasurementConfigurationStages :
    (∃ (s : State) (p : Bytes), s.readyToStage 0x20 1 ∧ p.length = 6 ∧ u8 p 0 = 0 ∧ u8 p 1 ≤ 3 ∧ u8 p 2 ≤ 8 ∧ (u8 p 3 = 0 ∧
      u8 p 4 ≤ 3 ∨ u8 p 3 = 1 ∧ u8 p 4 ≤ 5) ∧ 1 ≤ u8 p 5 ∧ u8 p 5 ≤ 100 ∧ (setPtConfig p s.futurePt).tpOk = true) ∧
    (∃ (s : State) (p : Bytes), s.readyToStage 0x20 1 ∧ p.length = 19 ∧ u8 p 0 = 1 ∧ u8 p 1 ≤ 15 ∧ u8 p 2 ≤ 1 ∧ u8 p 3 ≤ 2 ∧
      u8 p 4 ≤ 7 ∧ (u8 p 3 = 0 → ((nth s.futurePt.lins (u8 p 1) none).map PtLin.lin).getD 0 = 0) ∧ (u8 p 3 ≠ 0 →
      u32 p 5 ≠ 0) ∧ u32 p 11 < u32 p 15 ∧ (setPtConfig p s.futurePt).tpOk = true ∧ (u8 p 2 = 0 → s.names (u8 p 1) = false)) ∧
    (∃ (s : State) (p : Bytes), s.readyToStage 0x21 1 ∧ p.length = 1 ∧ u8 p 0 ≤ 15 ∧ (∀ g ∈ groupsIn (u8 p 0),
      s.futurePt.enabledIn g ≠ [])) ∧
    (∃ (s : State) (p : Bytes), s.readyToStage 0x22 1 ∧ p.length = 1 ∧ u8 p 0 ≤ 15 ∧ (∀ g ∈ groupsIn (u8 p 0), ∀ i < 4,
      s.names (4 * g + i) = false)) ∧
    (∃ (s : State) (p : Bytes) (n : Nat), s.readyToStage 0x24 1 ∧ p.length = 20 ∧ u8 p 0 ≤ 15 ∧ u8 p 1 ≤ 3 ∧ u16 p 2 = 0 ∧
      n = (if u8 p 1 = 1 then 4 else if u8 p 1 = 2 then 3 else 2) ∧ (u8 p 1 ≠ 0 →
      (nth s.futurePt.chans (u8 p 0) {}).topo ≠ 0) ∧ (∀ i < n, (f32 (w32 p (4 + 4 * i))).isSome) ∧ (∀ i < n, (u8 p 1 = 1 ∧
      i < 2 ∨ u8 p 1 = 3) → ∀ v ∈ f32 (w32 p (4 + 4 * i)), 0 < v) ∧ (∀ i < 4, n ≤ i → u32 p (4 + 4 * i) = 0)) ∧
    (∃ (s : State) (p : Bytes), s.readyToStage 0x28 1 ∧ p.length = 3 ∧ u8 p 0 = 0 ∧ u8 p 1 ≤ 4 ∧ u8 p 2 ≤ 3 ∧
      (setHuConfig p s.futurePt).sweepOk = true) ∧
    (∃ (s : State) (p : Bytes), s.readyToStage 0x28 1 ∧ p.length = 16 ∧ u8 p 0 = 1 ∧ u8 p 1 ≤ 15 ∧ u8 p 2 ≤ 1 ∧
      (u8 p 3 ≤ 15 ∨ u8 p 3 = 0xFF) ∧ u32 p 8 ≠ 0 ∧ (setHuConfig p s.futurePt).sweepOk = true ∧ (u8 p 2 = 0 →
      s.names (0x10 + u8 p 1) = false)) ∧
    (∃ (s : State) (p : Bytes), s.readyToStage 0x30 1 ∧ p.length = 2 + 2 * u8 p 1 ∧ u8 p 0 ≤ 7 ∧ 1 ≤ u8 p 1 ∧ u8 p 1 ≤ 8 ∧
      (∀ i < u8 p 1, u8 p (2 + 2 * i) ≤ 0x43 ∧ bit (u8 p (3 + 2 * i)) 4 = false) ∧
      ((setSarSeq p s.futureSar).started.getLsbD (u8 p 0) = true → (setSarSeq p s.futureSar).demandOk = true)) ∧
    (∃ (s : State) (p : Bytes), s.readyToStage 0x31 1 ∧ p.length = 13 ∧ u8 p 0 ≤ 7 ∧ u8 p 1 ≤ 5 ∧ (u8 p 1 < 2 ∧ u8 p 2 = 0 ∨
      (u8 p 1 = 2 ∨ u8 p 1 = 3) ∧ u8 p 2 ≤ 15 ∨ 4 ≤ u8 p 1 ∧ u8 p 2 ≤ 7) ∧ (u8 p 1 = 1 → 5 ≤ u32 p 5 ∧
      1000000 % u32 p 5 = 0 ∧ u32 p 9 < u32 p 5) ∧ ((setSarTrig p s.futureSar).started.getLsbD (u8 p 0) = true →
      (setSarTrig p s.futureSar).demandOk = true)) ∧
    (∃ (s : State) (p : Bytes), s.readyToStage 0x33 1 ∧ p.length = 1 ∧ (∀ k < 8, bit (u8 p 0) k = true →
      nth s.com.cfg.sar.seqs k [] ≠ []) ∧ (setSarStarted 0x33 p s.futureSar).demandOk = true) ∧
    (∃ (s : State) (p : List Byte), s.readyToStage 0x34 1 ∧ p.length = 1) ∧
    (∃ (s : State) (p : Bytes), s.readyToStage 0x38 1 ∧ p.length = 5 ∧ u8 p 0 = 0 ∧ u8 p 1 ≤ 1 ∧ 5 ≤ u16 p 2 ∧
      u16 p 2 ≤ 3600 ∧ u8 p 4 ≤ 60) ∧
    (∃ (s : State) (p : Bytes), s.readyToStage 0x38 1 ∧ p.length = 14 ∧ u8 p 0 = 1 ∧ u8 p 1 ≤ 15 ∧ u8 p 2 ≤ 1 ∧
      (u8 p 3 = 0xFF ∨ u8 p 3 ≤ 15 ∧ s.pers ≠ .transport) ∧ u8 p 4 ≤ 3 ∧ u8 p 5 ≤ 3 ∧ 1 ≤ u16 p 6 ∧ u16 p 6 ≤ 32767 ∧
      1 ≤ u8 p 8 ∧ u8 p 8 ≤ 100 ∧ 1 ≤ u8 p 9 ∧ u8 p 9 ≤ 8 ∧ 100 ≤ u16 p 10 ∧ u16 p 10 ≤ 10000 ∧ u16 p 12 ≤ 600 ∧
      (s.pers = .service → (nth s.com.cfg.pr.chans (u8 p 1) {}).en = true ∧ u8 p 2 = 0 ∨
      u8 p 3 ≠ (nth s.com.cfg.pr.chans (u8 p 1) {}).zone → s.names (0x20 + u8 p 1) = false ∧
      ((nth s.com.cfg.pr.chans (u8 p 1) {}).zone < 16 → s.com.body 1 (nth s.com.cfg.pr.chans (u8 p 1) {}).zone = none))) ∧
    (∃ (s : State) (p : Bytes), s.readyToStage 0x39 1 ∧ p.length = 4 ∧ u8 p 0 ≤ 15 ∧ (u8 p 1 = 0 ∨ u8 p 1 = 1 ∧
      (nth s.futurePr.chans (u8 p 0) {}).en = true) ∧ 1 ≤ u8 p 2 ∧ u8 p 2 ≤ 50 ∧ u8 p 3 ≤ 1) :=
  ⟨⟨up, [0, 3, 0, 1, 5, 100], by decide +kernel⟩,
    ⟨up, ([1, 15, 0, 2, 7] ++ le 4 1 ++ le 2 0 ++ le 4 0 ++ le 4 1), by decide +kernel⟩,
    ⟨upE, [15], by decide +kernel⟩,
    ⟨up, [15], by decide +kernel⟩,
    ⟨{ up with com := { up.com with cfg := { up.com.cfg with pt := { chans := Vector.replicate 16 { topo := 2 } } } } },
      ([15, 3, 0, 0] ++ le 4 0x3F800000 ++ le 4 0x3F800000 ++ le 8 0), 2, by decide +kernel⟩,
    ⟨up, [0, 4, 3], by decide +kernel⟩,
    ⟨up, ([1, 15, 0, 0xFF] ++ le 4 0 ++ le 4 1 ++ le 4 0), by decide +kernel⟩,
    ⟨up, [7, 1, 0x43, 0], by decide +kernel⟩,
    ⟨up, ([7, 1, 0] ++ le 2 0 ++ le 4 5 ++ le 4 4), by decide +kernel⟩,
    ⟨upE, [0x80], by decide +kernel⟩,
    ⟨up, [0xFF], by decide +kernel⟩,
    ⟨up, ([0, 1] ++ le 2 3600 ++ [60]), by decide +kernel⟩,
    ⟨up, ([1, 15, 1, 15, 3, 3] ++ le 2 32767 ++ [100, 8] ++ le 2 10000 ++ le 2 600), by decide +kernel⟩,
    ⟨up, [15, 0, 50, 1], by decide +kernel⟩⟩

theorem witness_CalibrationCommandsComplete :
    (∃ (s : State) (p : Bytes), s.ready 0x23 ∧ p.length = 7 ∧ u8 p 0 ≤ 15 ∧ u8 p 1 ≤ 1 ∧ 4 ≤ u8 p 2 ∧
      (nth s.prm.groups (u8 p 0 / 4) {}).state = 2 ∧ (nth s.applied.pt.chans (u8 p 0) {}).en = true ∧
      (nth s.prm.ch (u8 p 0) {}).cal.run = none) ∧
    (∃ (s : State) (p : Bytes) (z : Capture) (f : Capture) (g : Nat) (o : Int), s.ready 0x23 ∧ p.length = 7 ∧ u8 p 0 ≤ 15 ∧
      u8 p 1 = 2 ∧ (nth s.prm.ch (u8 p 0) {}).cal.zero = some z ∧ (nth s.prm.ch (u8 p 0) {}).cal.full = some f ∧
      solveCal z f (32 / (2 ^ f.conf.gain : Nat)) 65536 = .ok (g, o) ∧ s.unitFailing 1 = [] ∧ s.pw.pfw = false) ∧
    (∃ (s : State) (p : Bytes), s.ready 0x23 ∧ p.length = 7 ∧ u8 p 0 ≤ 15 ∧ u8 p 1 = 4 ∧ s.unitFailing 1 = [] ∧
      s.pw.pfw = false) ∧
    (∃ (s : State) (p : Bytes), s.ready 0x29 ∧ p.length = 7 ∧ u8 p 0 ≤ 15 ∧ u8 p 1 ≤ 1 ∧ 4 ≤ u8 p 2 ∧ u8 p 2 ≤ 64 ∧
      u32 p 3 ≤ 400000 ∧ (nth s.applied.pt.hu (u8 p 0) {}).en = true ∧ (nth s.prm.hu (u8 p 0) {}).cal.run = none) ∧
    (∃ (s : State) (p : Bytes), s.ready 0x29 ∧ p.length = 7 ∧ u8 p 0 ≤ 15 ∧ u8 p 1 = 4 ∧ s.unitFailing 2 = [] ∧
      s.pw.pfw = false) ∧
    (∃ (s : State) (p : Bytes) (z : Capture) (f : Capture) (g : Nat) (o : Int), s.ready 0x29 ∧ p.length = 7 ∧ u8 p 0 ≤ 15 ∧
      u8 p 1 = 2 ∧ (nth s.prm.hu (u8 p 0) {}).cal.zero = some z ∧ (nth s.prm.hu (u8 p 0) {}).cal.full = some f ∧
      solveCal z f (25 / 512) 524288 = .ok (g, o) ∧ s.unitFailing 2 = [] ∧ s.pw.pfw = false) ∧
    (∃ (s : State) (p : Bytes), s.ready 0x23 ∧ p.length = 7 ∧ u8 p 0 ≤ 15 ∧ u8 p 1 = 3) ∧
    (∃ (s : State) (p : Bytes), s.ready 0x29 ∧ p.length = 7 ∧ u8 p 0 ≤ 15 ∧ u8 p 1 = 3) ∧
    (∃ (s : State) (p : Bytes) (z : Capture) (f : Capture) (g : Nat) (o : Int), s.ready 0x23 ∧ p.length = 7 ∧ u8 p 0 ≤ 15 ∧
      u8 p 1 = 2 ∧ (nth s.prm.ch (u8 p 0) {}).cal.zero = some z ∧ (nth s.prm.ch (u8 p 0) {}).cal.full = some f ∧
      solveCal z f (32 / (2 ^ f.conf.gain : Nat)) 65536 = .ok (g, o) ∧ s.pw.pfw = true) :=
  ⟨⟨upM, [15, 1, 4, 0, 0, 0, 0], by decide +kernel⟩,
    ⟨upCal, [15, 2, 0, 0, 0, 0, 0], { avg := 0, span := 0, ref := 0 }, { avg := 0x4000000, span := 0, ref := 0x800000 },
      536870912, 0, by decide +kernel⟩,
    ⟨up, [15, 4, 0, 0, 0, 0, 0], by decide +kernel⟩,
    ⟨upE, ([15, 1, 64] ++ le 4 400000), by decide +kernel⟩,
    ⟨up, [15, 4, 0, 0, 0, 0, 0], by decide +kernel⟩,
    ⟨{ upM with prm := { hu := Vector.replicate 16 { cal := { zero := some { avg := 0, span := 0, ref := 0 }, full := some { avg := 0x4000000, span := 0, ref := 12800 } } } } },
      [15, 2, 0, 0, 0, 0, 0], { avg := 0, span := 0, ref := 0 }, { avg := 0x4000000, span := 0, ref := 12800 }, 819200, 0,
      by decide +kernel⟩,
    ⟨up, [15, 3, 0, 0, 0, 0, 0], by decide +kernel⟩,
    ⟨up, [15, 3, 0, 0, 0, 0, 0], by decide +kernel⟩,
    ⟨{ upCal with pw := { upCal.pw with pfw := true } }, [15, 2, 0, 0, 0, 0, 0], { avg := 0, span := 0, ref := 0 },
      { avg := 0x4000000, span := 0, ref := 0x800000 }, 536870912, 0, by decide +kernel⟩⟩

theorem witness_MeasurementStatusAnswers :
    (∃ (s : State) (n : Nat), s.ready 0x25 ∧ n ≤ 15) ∧
    (∃ (s : State) (n : Nat), s.ready 0x2A ∧ n ≤ 15) ∧
    (∃ (s : State) (n : Nat), s.ready 0x3A ∧ n ≤ 15) ∧
    (∃ (s : State), s.ready 0x3A) ∧
    (∃ (s : State), s.ready 0x32 ∧ s.sar.calRun = false ∧ s.runs 1 = true) :=
  ⟨⟨up, 15, by decide +kernel⟩,
    ⟨up, 15, by decide +kernel⟩,
    ⟨up, 15, by decide +kernel⟩,
    ⟨up, by decide +kernel⟩,
    ⟨upR, by decide +kernel⟩⟩

theorem witness_ValveCommandsComplete :
    (∃ (s : State) (p : Bytes), s.readyToStage 0x40 1 ∧ p.length = 12 ∧ u8 p 0 ≤ 15 ∧ u8 p 1 ≤ 1 ∧ 10 ≤ u8 p 2 ∧
      u8 p 2 ≤ 250 ∧ 10 ≤ u8 p 3 ∧ u8 p 3 ≤ 240 ∧ u8 p 3 < 2 * u8 p 2 ∧ 5 ≤ u16 p 4 ∧ u16 p 4 ≤ 2000 ∧ u8 p 6 ≤ 6 ∧
      u8 p 7 ≤ 1 ∧ 5 ≤ u8 p 9 ∧ u8 p 9 ≤ 200 ∧ u8 p 11 ≤ 1 ∧ (setVlConfig p s.futureVl).budgetOk = true ∧ (u8 p 1 = 0 →
      s.com.cfg.vl.setp.getLsbD (u8 p 0) = false ∧ (s.vlCh (u8 p 0)).phase ≠ .diag ∧ s.names (0x40 + u8 p 0) = false)) ∧
    (∃ (s : State) (p : Bytes), s.readyToStage 0x41 (u8 p 0) ∧ p.length = 1 + 2 * u8 p 0 ∧ 1 ≤ u8 p 0 ∧ u8 p 0 ≤ 16 ∧
      (∀ i < u8 p 0, (nth s.futureVl.chans (u8 p (1 + 2 * i)) {}).en = true ∧ u8 p (2 + 2 * i) ≤ 2 ∧
      s.serviceOwned (0x40 + u8 p (1 + 2 * i)) = false)) ∧
    (∃ (s : State) (p : Bytes), s.readyToStage 0x42 1 ∧ p.length = 6 ∧ (u8 p 0 ≤ 15 ∨ u8 p 0 = 0xFF) ∧ (∀ i < 4,
      u8 p (i + 1) ≤ 2) ∧ 10 ≤ u8 p 5 ∧ u8 p 5 ≤ 90) ∧
    (∃ (s : State) (p : Bytes), s.readyToStage 0x43 1 ∧ p.length = 4 ∧ u8 p 0 ≤ 15 ∧ 5 ≤ u8 p 2 ∧ u8 p 2 ≤ 100 ∧ u8 p 3 ≤ 1) ∧
    (∃ (s : State) (p : Bytes), s.readyToStage 0x44 1 ∧ p.length = 5 ∧ u8 p 0 ≤ 3 ∧ u8 p 1 ≤ 1 ∧ 20 ≤ u8 p 2 ∧ u8 p 2 ≤ 100 ∧
      20 ≤ u8 p 3 ∧ u8 p 3 ≤ 60 ∧ u8 p 4 ≤ 100 ∧ (setVlBank p s.futureVl).budgetOk = true) ∧
    (∃ (s : State) (p : Bytes), s.readyToStage 0x47 1 ∧ p.length = 3 ∧ u8 p 2 ≤ 15) ∧
    (∃ (s : State) (p : Bytes), s.ready 0x45 ∧ s.acting = true ∧ p.length = 2 ∧ u8 p 0 ≤ 15 ∧ 4 ≤ u8 p 1 ∧ u8 p 1 ≤ 40 ∧
      s.aon.thermLatched = false ∧ s.hk.shut = false ∧ s.serviceOwned (0x40 + u8 p 0) = false ∧
      (s.vlConf (u8 p 0)).en = true ∧ (s.vlCh (u8 p 0)).phase = .off ∧ s.com.cfg.vl.setp.getLsbD (u8 p 0) = false ∧
      (s.vlCh (u8 p 0)).diagReq = none ∧ s.bankRuns (u8 p 0 / 4) = true ∧ (s.vlCh (u8 p 0)).fault = 0) ∧
    (∃ (s : State) (n : Nat), s.ready 0x46 ∧ n ≤ 15) ∧
    (∃ (s : State) (k : Nat), s.ready 0x46 ∧ k ≤ 3) :=
  ⟨⟨up, ([15, 0, 250, 240] ++ le 2 2000 ++ [6, 1, 0, 200, 0, 1]), by decide +kernel⟩,
    ⟨upE, [1, 15, 2], by decide +kernel⟩,
    ⟨up, [0xFF, 2, 2, 2, 2, 90], by decide +kernel⟩,
    ⟨up, [15, 1, 100, 1], by decide +kernel⟩,
    ⟨up, [3, 1, 100, 60, 100], by decide +kernel⟩,
    ⟨up, [0xFF, 0xFF, 15], by decide +kernel⟩,
    ⟨upE, [15, 40], by decide +kernel⟩,
    ⟨up, 15, by decide +kernel⟩,
    ⟨up, 3, by decide +kernel⟩⟩

theorem witness_OutputCommandsComplete :
    (∃ (s : State) (p : Bytes), s.readyToStage 0x50 1 ∧ p.length = 5 ∧ u8 p 0 ≤ 15 ∧ u8 p 1 ≤ 1 ∧ u16 p 2 ≤ 10000 ∧
      5 ≤ u8 p 4 ∧ u8 p 4 ≤ 100 ∧ (u8 p 1 = 0 → s.com.cfg.driveOf (0x50 + u8 p 0) = none ∧ s.names (0x50 + u8 p 0) = false)) ∧
    (∃ (s : State) (p : Bytes), s.readyToStage 0x52 1 ∧ p.length = 13 ∧ u8 p 0 ≤ 7 ∧ u8 p 1 ≤ 1 ∧ 20 ≤ u16 p 2 ∧
      u16 p 2 ≤ 25000 ∧ u8 p 4 ≤ 1 ∧ u16 p 5 ≤ 5000 ∧ u8 p 7 ≤ 4 ∧ 5 ≤ u8 p 9 ∧ u8 p 12 ≤ 1 ∧ (u8 p 1 = 0 →
      s.names (0x60 + u8 p 0) = false)) ∧
    (∃ (s : State) (p : Bytes) (base : Nat) (lim : Nat), s.readyToStage 0x54 1 ∧ p.length = 12 ∧ u8 p 0 ≤ 7 ∧ u8 p 1 ≤ 1 ∧
      (u8 p 2 = 0 ∧ base = 0x50 ∧ lim = 15 ∨ u8 p 2 = 1 ∧ base = 0x80 ∧ lim = 7) ∧ u8 p 3 ≤ lim ∧ u8 p 4 ≤ lim ∧
      u8 p 3 ≠ u8 p 4 ∧ s.com.cfg.enabled (base + u8 p 3) = true ∧ s.com.cfg.enabled (base + u8 p 4) = true ∧
      0x100 ≤ u16 p 5 ∧ u16 p 5 ≤ 0x1FF ∧ 10 ≤ u16 p 7 ∧ u16 p 7 ≤ 6000 ∧ 5 ≤ u8 p 9 ∧ 10 ≤ u16 p 10 ∧ u16 p 10 ≤ 2000 ∧
      (∀ i ∈ [u8 p 3, u8 p 4], s.com.targets.contains (base + i) = false ∧ (s.com.cfg.driveOf (base + i) = none ∨
      s.com.cfg.driveOf (base + i) = some (u8 p 0)))) ∧
    (∃ (s : State) (p : Bytes), s.readyToStage 0x58 1 ∧ p.length = 7 ∧ (u8 p 0 ≤ 15 ∨ u8 p 0 = 0xFF) ∧ u8 p 1 ≤ 1 ∧
      (u8 p 2 = 1 ∨ u8 p 2 = 3) ∧ u8 p 3 ≤ 5 ∧ u8 p 4 ≤ 1 ∧ 1 ≤ u8 p 5 ∧ u8 p 6 ≤ 1 ∧ (u8 p 1 = 0 → ∀ i < 16, u8 p 0 = i ∨
      u8 p 0 = 0xFF → s.names (0x70 + i) = false)) ∧
    (∃ (s : State) (p : Bytes), s.readyToStage 0x59 1 ∧ p.length = 4 ∧ u8 p 0 ≤ 7 ∧ u8 p 1 ≤ 1 ∧ u8 p 2 ≤ 1 ∧ u8 p 3 ≤ 1 ∧
      (u8 p 1 = 0 → s.com.cfg.driveOf (0x80 + u8 p 0) = none ∧ s.names (0x80 + u8 p 0) = false)) ∧
    (∃ (s : State) (p : List Byte), s.readyToStage 0x5B 1 ∧ p.length = 1) ∧
    (∃ (s : State) (n : Nat), s.ready 0x51 ∧ n ≤ 15) ∧
    (∃ (s : State) (k : Nat) (r : FloatRun), s.ready 0x51 ∧ k ≤ 7 ∧ r = (s.fdRun k).advance (s.fdConf k).stroke s.tb) ∧
    (∃ (s : State) (n : Nat), s.ready 0x53 ∧ n ≤ 7) ∧
    (∃ (s : State), s.ready 0x5A) :=
  ⟨⟨up, ([15, 0] ++ le 2 10000 ++ [100]), by decide +kernel⟩,
    ⟨up, ([7, 0] ++ le 2 25000 ++ [1] ++ le 2 5000 ++ [4, 0, 5, 0, 0, 1]), by decide +kernel⟩,
    ⟨upE, ([7, 1, 1, 0, 7] ++ le 2 0x1FF ++ le 2 6000 ++ [5] ++ le 2 2000), 0x80, 7, by decide +kernel⟩,
    ⟨up, [0xFF, 0, 3, 5, 1, 1, 1], by decide +kernel⟩,
    ⟨up, [7, 0, 1, 1], by decide +kernel⟩,
    ⟨up, [0xFF], by decide +kernel⟩,
    ⟨up, 15, by decide +kernel⟩,
    ⟨up, 7, ((up.fdRun 7).advance (up.fdConf 7).stroke up.tb), by decide +kernel⟩,
    ⟨up, 7, by decide +kernel⟩,
    ⟨up, by decide +kernel⟩⟩

theorem witness_ServiceCommandsStage :
    (∃ (s : State) (p : Bytes), s.readyToStage 0x60 1 ∧ p.length = 2 ∧ (u8 p 0 = 0xFF ∨ u8 p 0 ≤ 15 ∧
      (s.com.body 1 (u8 p 0)).isSome) ∧ u8 p 1 ≤ 5) ∧
    (∃ (s : State) (p : Bytes), s.readyToStage 0x61 1 ∧ p.length = 4 ∧ u8 p 0 ≤ 15 ∧ (s.com.body 1 (u8 p 0)).isSome ∧
      isMode (u8 p 1) = true ∧ (u16 p 2 ≤ 1440 ∨ u16 p 2 = 0xFFFF) ∧ s.cal.isSet = true) ∧
    (∃ (s : State) (p : Bytes), s.readyToStage 0x62 1 ∧ p.length = 5 ∧ (∀ i < 32, bit (u32 p 0) i = true →
      (s.com.body 2 i).isSome) ∧ u8 p 4 ≤ 1) ∧
    (∃ (s : State) (p : Bytes), s.readyToStage 0x64 1 ∧ p.length = 1 ∧ (u8 p 0 ≤ 15 ∨ u8 p 0 = 0xFF)) ∧
    (∃ (s : State) (p : Bytes), s.readyToStage 0x65 1 ∧ p.length = 10 + 2 * u8 p 9 ∧ u16 p 2 ≤ 3600 ∧ u8 p 4 ≤ 1 ∧
      1 ≤ u16 p 5 ∧ u16 p 5 ≤ 1000 ∧ u16 p 7 ≤ 3600 ∧ u8 p 9 ≤ 9 ∧ (∀ i < u8 p 9, validPoint (u16 p (10 + 2 * i)) = true)) ∧
    (∃ (s : State) (p : Bytes), s.readyToStage 0x70 1 ∧ p.length = 5 ∧ (∀ i < 32, bit (u32 p 0) i = true →
      (s.com.body 3 i).isSome) ∧ u8 p 4 ≤ 1) ∧
    (∃ (s : State) (p : Bytes), s.readyToStage 0x72 1 ∧ p.length = 13 ∧ within (-720) (s16 p 0) 840 ∧ s16 p 0 % 15 = 0 ∧
      (u8 p 2 = 0 ∨ (u8 p 2 = 30 ∨ u8 p 2 = 60 ∨ u8 p 2 = 120) ∧ slice p 3 5 ≠ slice p 8 5) ∧ (∀ o ∈ [3, 8], 1 ≤ u8 p o ∧
      u8 p o ≤ 12 ∧ 1 ≤ u8 p (o + 1) ∧ u8 p (o + 1) ≤ 5 ∧ u8 p (o + 2) ≤ 6 ∧ u16 p (o + 3) ≤ 1439)) ∧
    (∃ (s : State) (p : Bytes), s.readyToStage 0x80 1 ∧ p.length = 17 ∧ (∀ i < 128, bit (un p 0 16) i = true →
      (s.com.body 5 i).isSome) ∧ u8 p 16 ≤ 1) ∧
    (∃ (s : State) (p : Bytes), s.readyToStage 0x88 1 ∧ p.length = 37 ∧ u8 p 0 ≤ 31 ∧ u8 p 1 ≤ 1 ∧ u8 p 2 ≤ 1 ∧ 1 ≤ u8 p 3 ∧
      u8 p 3 ≤ 4 ∧ (∀ k < u8 p 3, termSrcOk (u8 p 0) (u8 p (4 + 3 * k)) = true ∧ u8 p (4 + 3 * k + 1) ≤ 1 ∧
      u8 p (4 + 3 * k + 2) ≤ 2) ∧ (∀ k < 4, u8 p 3 ≤ k → ∀ j < 3, u8 p (4 + 3 * k + j) = 0) ∧ u32 p 16 ≤ 60000000 ∧
      u32 p 20 ≤ 60000000 ∧ u8 p 24 ≤ 1 ∧ u8 p 31 ≤ 1 ∧ u16 p 32 ≤ 10000 ∧ u16 p 34 ≤ 10000 ∧ u8 p 36 ≤ 1) ∧
    (∃ (s : State) (p : Bytes), s.readyToStage 0x8A 1 ∧ p.length = 5 ∧ u8 p 0 ≤ 1) ∧
    (∃ (s : State) (p : Bytes), s.readyToStage 0x8C 1 ∧ p.length = 6 ∧ u8 p 0 ≤ 3 ∧ (2 ≤ u8 p 0 → u16 p 1 ≤ 255) ∧
      u8 p 3 ≤ 1 ∧ (u16 p 4 ≤ (if u8 p 0 = 0 ∨ u8 p 0 = 3 then 1 else 10000))) :=
  ⟨⟨upObj, [15, 5], by decide +kernel⟩,
    ⟨upObj, ([15, 1] ++ le 2 1440), by decide +kernel⟩,
    ⟨upObj, (le 4 0x80000000 ++ [1]), by decide +kernel⟩,
    ⟨up, [0xFF], by decide +kernel⟩,
    ⟨up, (le 2 0 ++ le 2 3600 ++ [1] ++ le 2 1000 ++ le 2 3600 ++ [9] ++ (List.replicate 9 (le 2 0x1FF)).flatten),
      by decide +kernel⟩,
    ⟨upObj, (le 4 0x80000000 ++ [1]), by decide +kernel⟩,
    ⟨up, (leI 2 840 ++ [120] ++ [12, 5, 6] ++ le 2 1439 ++ [1, 1, 0] ++ le 2 0), by decide +kernel⟩,
    ⟨upObj, (le 15 0 ++ [0x80, 1]), by decide +kernel⟩,
    ⟨up, ([31, 1, 1, 4] ++ (List.replicate 4 [0, 1, 2]).flatten ++ le 4 60000000 ++ le 4 60000000 ++ [1] ++ le 6 0 ++ [1] ++ le 2 10000 ++ le 2 10000 ++ [1]),
      by decide +kernel⟩,
    ⟨up, [1, 0, 0, 0, 0], by decide +kernel⟩,
    ⟨up, [3, 255, 0, 1, 1, 0], by decide +kernel⟩⟩

theorem witness_ServiceAndInterlockReportsAnswer :
    (∃ (s : State) (i : Nat), s.ready 0x63 ∧ i ≤ 31) ∧
    (∃ (s : State) (i : Nat), s.ready 0x63 ∧ i ≤ 31) ∧
    (∃ (s : State), s.ready 0x63) ∧
    (∃ (s : State), s.ready 0x63) ∧
    (∃ (s : State) (p : Bytes) (zb : Bytes) (k : Nat) (b : Bytes) (x : Int), s.ready 0x71 ∧ p.length = 5 ∧ u8 p 0 < 16 ∧
      u32 p 1 ≤ calendarEnd ∧ s.com.body 1 (u8 p 0) = some zb ∧ s.clockOk = true ∧ s.com.schedOf zb = some (k, b) ∧
      earliest (switchesIn s.svc.tz s.com k b (u32 p 1) 691200) = some x) ∧
    (∃ (s : State) (p : Bytes) (zb : Bytes), s.ready 0x71 ∧ p.length = 5 ∧ u8 p 0 < 16 ∧ u32 p 1 ≤ calendarEnd ∧
      s.com.body 1 (u8 p 0) = some zb ∧ s.com.schedOf zb = none) ∧
    (∃ (s : State) (i : Nat) (r : RuleRun), s.ready 0x81 ∧ i ≤ 127 ∧ r = (mget s.com.rules i).getD {}) ∧
    (∃ (s : State), s.ready 0x81) ∧
    (∃ (s : State) (i : Nat), s.ready 0x89 ∧ i ≤ 31) ∧
    (∃ (s : State), s.ready 0x8B) :=
  ⟨⟨up, 31, by decide +kernel⟩,
    ⟨up, 31, by decide +kernel⟩,
    ⟨up, by decide +kernel⟩,
    ⟨up, by decide +kernel⟩,
    ⟨upSch, ([15] ++ le 4 0), (le 1 1 ++ le 63 0), 0, schB, 28800, by decide +kernel⟩,
    ⟨upObj, ([15] ++ le 4 calendarEnd), (le 1 1 ++ le 63 0), by decide +kernel⟩,
    ⟨upObj, 127, {}, by decide +kernel⟩,
    ⟨up, by decide +kernel⟩,
    ⟨up, 31, by decide +kernel⟩,
    ⟨up, by decide +kernel⟩⟩

theorem witness_BusCommandsComplete :
    (∃ (s : State) (p : Bytes), s.readyToStage 0x90 1 ∧ p.length = 13 ∧ u8 p 0 ≤ 3 ∧ (u8 p 1 = 0 ∨ 29 ≤ u8 p 1 ∧
      u8 p 1 ≤ 35) ∧ u8 p 2 ≤ 39 - (if u8 p 1 = 0 then 34 else u8 p 1) ∧ u8 p 3 = 0xFF ∧ u8 p 4 = 0 ∧ u8 p 5 = 0 ∧
      u8 p 6 ≤ 1 ∧ u8 p 8 ≤ 1 ∧ u32 p 9 ≤ 0xFFFFF ∧ (u8 p 6 = 1 → s.supervised = false)) ∧
    (∃ (s : State) (p : Bytes), s.readyToStage 0x90 1 ∧ p.length = 13 ∧ u8 p 0 ≤ 3 ∧ (u8 p 1 = 0 ∨ 29 ≤ u8 p 1 ∧
      u8 p 1 ≤ 35) ∧ u8 p 2 ≤ 39 - (if u8 p 1 = 0 then 34 else u8 p 1) ∧ (u8 p 3 = 0 ∧ (u8 p 4 = 0 ∨ 23 ≤ u8 p 4 ∧
      u8 p 4 ≤ 31) ∧ u8 p 5 ≤ 39 - (if u8 p 4 = 0 then 29 else u8 p 4) ∨ u8 p 3 = 1 ∧ (u8 p 4 = 0 ∨ 11 ≤ u8 p 4 ∧
      u8 p 4 ≤ 15) ∧ u8 p 5 ≤ 19 - (if u8 p 4 = 0 then 14 else u8 p 4) ∨ u8 p 3 = 2 ∧ (u8 p 4 = 0 ∨ 5 ≤ u8 p 4 ∧
      u8 p 4 ≤ 7) ∧ u8 p 5 ≤ 9 - (if u8 p 4 = 0 then 6 else u8 p 4)) ∧ u8 p 6 ≤ 1 ∧ u8 p 8 ≤ 1 ∧ u32 p 9 ≤ 0xFFFFF ∧
      (u8 p 6 = 1 → s.supervised = false)) ∧
    (∃ (s : State), s.ready 0x91 ∧ (s.bus.phase = .sleep ∨ s.bus.phase = .stopped) ∧ s.bus.tec < 256 ∧ s.runs 1 = true) ∧
    (∃ (s : State), s.ready 0x91 ∧ s.applied.bus.listen = false ∧ (s.bus.phase = .sleep ∨ s.bus.phase = .stopped) ∧
      s.bus.tec < 256 ∧ s.runs 1 = true) ∧
    (∃ (s : State), s.ready 0x92 ∧ s.supervised = false ∧ s.bus.fifo = [] ∧ s.bus.allot = none ∧ s.bus.phase ≠ .sleep) ∧
    (∃ (s : State), s.ready 0x92 ∧ s.supervised = false ∧ s.bus.phase ≠ .sleep) ∧
    (∃ (s : State) (p : Bytes) (f : Frame), s.ready 0x93 ∧ s.acting = true ∧ p.length = 8 + u8 p 5 ∧ u32 p 0 < 2 ^ 30 ∧
      u8 p 4 ≤ 7 ∧ f = ({ ide := bit (u32 p 0) 29, id := u32 p 0 % 2 ^ 29, fdf := bit (u8 p 4) 0, brs := bit (u8 p 4) 1, data := slice p 8 (u8 p 5) } : Frame) ∧
      s.badFrame f = false ∧ (s.bus.phase = .integrating ∨ s.bus.phase = .active ∨ s.bus.phase = .passive) ∧
      s.applied.bus.listen = false ∧ s.bus.fifo.length < 32) ∧
    (∃ (s : State), s.ready 0x94) ∧
    (∃ (s : State), s.ready 0x95 ∧ s.bus.phase = .busOff) ∧
    (∃ (s : State), s.ready 0x95) ∧
    (∃ (s : State), s.ready 0x95 ∧ s.bus.onLine = false ∧ s.bus.phase ≠ .busOff ∧ (∀ c ∈ s.rem.box, c.out = [])) ∧
    (∃ (s : State), s.ready 0x91 ∧ (s.bus.phase = .sleep ∨ s.bus.phase = .stopped) ∧ s.runs 0 = true ∧ s.runs 1 = false ∧
      s.pw.pav = none) :=
  ⟨⟨up, ([3, 35, 4, 0xFF, 0, 0, 1, 0, 1] ++ le 4 0xFFFFF), by decide +kernel⟩,
    ⟨up, ([3, 0, 5, 2, 7, 2, 1, 0, 1] ++ le 4 0xFFFFF), by decide +kernel⟩,
    ⟨upR, by decide +kernel⟩,
    ⟨upR, by decide +kernel⟩,
    ⟨up, by decide +kernel⟩,
    ⟨up, by decide +kernel⟩,
    ⟨{ up with bus := { phase := .active } }, (le 4 (2 ^ 29 + 0x123) ++ [3, 64, 0, 0] ++ le 64 0),
      { ide := true, id := 0x123, fdf := true, brs := true, data := le 64 0 }, by decide +kernel⟩,
    ⟨up, by decide +kernel⟩,
    ⟨{ up with bus := { phase := .busOff } }, by decide +kernel⟩,
    ⟨up, by decide +kernel⟩,
    ⟨up, by decide +kernel⟩,
    ⟨{ up with pw := { strap := 1, pmun := 1 } }, by decide +kernel⟩⟩

theorem witness_PairAndCallerCommandsComplete :
    (∃ (s : State), s.ready 0xA0) ∧
    (∃ (s : State) (p : Bytes), s.ready 0xA1 ∧ s.staged.length < 512 ∧ p.length = 6 ∧ 2 ≤ u8 p 0 ∧ u8 p 0 ≤ 20 ∧ u8 p 1 ≤ 1 ∧
      u32 p 2 ≤ 0xFFFFF) ∧
    (∃ (s : State), s.ready 0xA2 ∧ s.acting = true ∧ s.pair.role ≠ .solo) ∧
    (∃ (s : State) (p : Bytes), s.readyToStage 0xA3 1 ∧ p.length = 19 ∧ u8 p 0 ≤ 3 ∧ u8 p 1 ≤ 1 ∧ un p 2 8 ≠ 0 ∧
      un p 10 8 ≠ 0 ∧ un p 2 8 % 2 ^ 32 ≠ un p 10 8 % 2 ^ 32 ∧ (∀ j < 4, j ≠ u8 p 0 → (nth s.callerNext j {}).serA ≠ 0 →
      ∀ o ∈ [2, 10], low (nth s.callerNext j {}).serA 32 ≠ un p o 8 % 2 ^ 32 ∧
      low (nth s.callerNext j {}).serB 32 ≠ un p o 8 % 2 ^ 32) ∧ 5 ≤ u8 p 18 ∧ u8 p 18 ≤ 50) ∧
    (∃ (s : State) (i : Nat) (k : CallSlot), s.ready 0xA4 ∧ i ≤ 3 ∧ k = s.callSlot i) :=
  ⟨⟨upP, by decide +kernel⟩,
    ⟨upP, ([20, 1] ++ le 4 0xFFFFF), by decide +kernel⟩,
    ⟨upP, by decide +kernel⟩,
    ⟨upC, ([3, 1] ++ le 8 1 ++ le 8 2 ++ [50]), by decide +kernel⟩,
    ⟨upC, 3, (upC.callSlot 3), by decide +kernel⟩⟩

theorem witness_StoreCommandsComplete :
    (∃ (s : State) (p : Bytes), s.ready 0xB0 ∧ p.length = 5 ∧ 0x40000 ≤ u32 p 0 ∧ 1 ≤ u8 p 4 ∧ u8 p 4 ≤ 240 ∧
      u32 p 0 + u8 p 4 ≤ 0x100000 ∧ s.badIn (u32 p 0) (u8 p 4) = [] ∧ s.unsteady = []) ∧
    (∃ (s : State) (p : Bytes), s.ready 0xB0 ∧ p.length = 5 ∧ 0x40000 ≤ u32 p 0 ∧ 1 ≤ u8 p 4 ∧ u8 p 4 ≤ 240 ∧
      u32 p 0 + u8 p 4 ≤ 0x100000) ∧
    (∃ (s : State) (p : Bytes), s.ready 0xB1 ∧ 5 ≤ p.length ∧ p.length ≤ 244 ∧ 0x40000 ≤ u32 p 0 ∧
      u32 p 0 + (p.length - 4) ≤ 0x100000 ∧ s.protected_ (u32 p 0) (p.length - 4) = false ∧
      s.failing [(u32 p 0, p.length - 4)] = [] ∧ s.unsteady = [] ∧ (∀ g ∈ s.badGroups,
      touches (mergedGroups (u32 p 0) (p.length - 4)) g.1 = false)) ∧
    (∃ (s : State) (p : Bytes), s.ready 0xB2 ∧ p.length = 1 ∧ u8 p 0 ≤ 3 ∧ s.unitFailing 6 = []) ∧
    (∃ (s : State) (p : Bytes), s.ready 0xB7 ∧ 5 ≤ p.length ∧ p.length ≤ 244 ∧ u32 p 0 + (p.length - 4) ≤ 98304 ∧
      s.failing [(u32 p 0, p.length - 4)] = [] ∧ (u32 p 0 = 0 → s.unitFailing 6 = []) ∧ s.unsteady = [] ∧ (∀ g ∈ s.badGroups,
      touches (mergedGroups (u32 p 0) (p.length - 4)) g.1 = false)) ∧
    (∃ (s : State), s.ready 0xB8 ∧ s.unitFailing 6 = []) ∧
    (∃ (s : State), s.ready 0xB8 ∧ s.unsteady = [] ∧ (∀ g ∈ s.badGroups, touches s.patchReads g.1 = false) ∧ s.patchCheck ≠ 0) ∧
    (∃ (s : State), s.ready 0xB9) ∧
    (∃ (s : State) (p : Bytes), s.ready 0xB1 ∧ 5 ≤ p.length ∧ p.length ≤ 244 ∧ 0x40000 ≤ u32 p 0 ∧
      u32 p 0 + (p.length - 4) ≤ 0x100000 ∧ s.protected_ (u32 p 0) (p.length - 4) = false ∧
      s.failing [(u32 p 0, p.length - 4)] ≠ []) ∧
    (∃ (s : State) (p : Bytes), s.ready 0xB2 ∧ p.length = 1 ∧ u8 p 0 ≤ 3 ∧ s.unitFailing 6 ≠ []) ∧
    (∃ (s : State) (p : Bytes) (g : Nat), s.ready 0xB1 ∧ 5 ≤ p.length ∧ p.length ≤ 244 ∧ 0x40000 ≤ u32 p 0 ∧
      u32 p 0 + (p.length - 4) ≤ 0x100000 ∧ s.protected_ (u32 p 0) (p.length - 4) = false ∧
      s.failing [(u32 p 0, p.length - 4)] = [] ∧ s.unsteady = [] ∧ s.badGroups = [(g, 1)] ∧
      touches (mergedGroups (u32 p 0) (p.length - 4)) g = true) ∧
    (∃ (s : State) (p : Bytes), s.ready 0xB7 ∧ 5 ≤ p.length ∧ p.length ≤ 244 ∧ u32 p 0 = 0 ∧ s.unitFailing 6 ≠ []) ∧
    (∃ (s : State), s.ready 0xB8 ∧ s.unitFailing 6 = [] ∧ s.unsteady = [] ∧ (∀ g ∈ s.badGroups,
      touches s.patchReads g.1 = false)) ∧
    (∃ (s : State) (p : Bytes), (s.awake = true ∧ s.mgmt.restarting = false ∧ s.link.mbox = [] ∧ s.pair.handoverAt = none ∧
      s.store.recalled = true ∧ s.opcAllowed 0xB1 = true) ∧ s.pw.pfw = true ∧ 5 ≤ p.length ∧ p.length ≤ 244 ∧
      0x40000 ≤ u32 p 0 ∧ u32 p 0 + (p.length - 4) ≤ 0x100000 ∧ s.protected_ (u32 p 0) (p.length - 4) = false) :=
  ⟨⟨up, (le 4 (0x100000 - 240) ++ [240]), by decide +kernel⟩,
    ⟨{ up with badGroups := [(0xFFF00, 2)] }, (le 4 (0x100000 - 240) ++ [240]), by decide +kernel⟩,
    ⟨up, (le 4 0x40000 ++ [1]), by decide +kernel⟩,
    ⟨up, [3], by decide +kernel⟩,
    ⟨up, (le 4 98303 ++ [1]), by decide +kernel⟩,
    ⟨up, by decide +kernel⟩,
    ⟨up, by decide +kernel⟩,
    ⟨up, by decide +kernel⟩,
    ⟨{ up with worn := [0x40000] }, (le 4 0x40000 ++ [1]), by decide +kernel⟩,
    ⟨{ up with worn := [(Config.unitGroups 13).1] }, [3], by decide +kernel, by decide, by decide,
      (by simp only [State.unitFailing, show (!(({ up with worn := [(Config.unitGroups 13).1] } : State).unitRec 6).newB) = true from by decide +kernel]; simp [copyGroups, b2n])⟩,
    ⟨{ up with badGroups := [(0x40000, 1)] }, (le 4 0x40000 ++ [1]), 0x40000, by decide +kernel⟩,
    ⟨{ up with worn := [(Config.unitGroups 13).1] }, (le 4 0 ++ [1]), by decide +kernel, by decide, by decide, by decide,
      (by simp only [State.unitFailing, show (!(({ up with worn := [(Config.unitGroups 13).1] } : State).unitRec 6).newB) = true from by decide +kernel]; simp [copyGroups, b2n])⟩,
    ⟨up, by decide +kernel⟩,
    ⟨{ up with pw := { strap := 1, pfw := true } }, (le 4 0x40000 ++ [1]), by decide +kernel⟩⟩

theorem witness_RingAndLogCommandsComplete :
    (∃ (s : State) (p : Bytes) (d : RingDef), s.ready 0xB3 ∧ p.length = 12 ∧ u8 p 0 ≤ 63 ∧ u8 p 1 ≤ 1 ∧ u8 p 3 = 0 ∧
      d = ringOf p ∧ 1 ≤ d.copies ∧ d.copies ≤ 2 ∧ d.base % 64 = 0 ∧ 4 ≤ d.slots ∧ d.slots ≤ 256 ∧ 16 ≤ d.slotsz ∧
      d.slotsz ≤ 256 ∧ d.slotsz % 16 = 0 ∧ 0x40000 ≤ d.base ∧ d.base + d.size ≤ 0x100000 ∧ (d.en = true → ∀ i < 64,
      i ≠ u8 p 0 → ∀ o, nth s.unit.rings i none = some o → o.en = true → overlaps d.base d.size o.base o.size = false) ∧
      s.unitFailing 5 = []) ∧
    (∃ (s : State) (p : Bytes) (d : RingDef), s.ready 0xB4 ∧ 2 ≤ p.length ∧ p.length ≤ 248 ∧ s.ring (u8 p 0) = some d ∧
      s.store.seek.contains (u8 p 0) = false ∧ u8 p 1 = 0 ∧ p.length - 2 ≤ d.slotsz - 12 ∧
      s.protected_ d.base d.size = false ∧
      s.failing (extents (ringPieces d (ringNext d (ringHits s.cells d)).1 (ringNext d (ringHits s.cells d)).2 (p.drop 2))) = []) ∧
    (∃ (s : State) (p : Bytes) (d : RingDef) (h : RingHit), s.ready 0xB4 ∧ 2 ≤ p.length ∧ p.length ≤ 248 ∧
      s.ring (u8 p 0) = some d ∧ s.store.seek.contains (u8 p 0) = false ∧ u8 p 1 = 1 ∧ p.length - 2 ≤ d.slotsz - 12 ∧
      s.protected_ d.base d.size = false ∧ d.copies = 2 ∧ ringNewest (ringHits s.cells d) = some h ∧
      s.failing (extents (ringPieces d h.slot h.seq (p.drop 2))) = []) ∧
    (∃ (s : State) (p : Bytes) (d : RingDef) (q : Nat) (h : RingHit) (rest : List RingHit), s.ready 0xB5 ∧ p.length = 9 ∧
      s.ring (u8 p 0) = some d ∧ s.store.seek.contains (u8 p 0) = false ∧ s.unsteady = [] ∧ (u8 p 1 = 0 ∧
      (ringNewest (ringHits s.cells d)).map RingHit.seq = some q ∨ u8 p 1 = 1 ∧ u32 p 2 = q ∨ u8 p 1 = 2 ∧
      (ringOldest (ringHits s.cells d)).map RingHit.seq = some q) ∧
      (ringHits s.cells d).filter (fun x => x.seq == q && (u8 p 6 == 0 || x.copy + 1 == u8 p 6)) = h :: rest ∧ (∀ x ∈ rest,
      x.data = h.data ∧ x.rsvd = h.rsvd) ∧ u8 p 6 ≤ 2 ∧ u8 p 7 ≤ h.data.length ∧ 1 ≤ u8 p 8 ∧ u8 p 8 ≤ 240) ∧
    (∃ (s : State) (p : Bytes) (q : Nat) (h : RingHit) (rest : List RingHit), s.ready 0xB6 ∧ p.length = 9 ∧ u8 p 0 ≤ 2 ∧
      s.unsteady = [] ∧ (u8 p 1 = 0 ∧ (ringNewest (ringHits s.cells (logDef (u8 p 0)))).map RingHit.seq = some q ∨
      u8 p 1 = 1 ∧ u32 p 2 = q ∨ u8 p 1 = 2 ∧ (ringOldest (ringHits s.cells (logDef (u8 p 0)))).map RingHit.seq = some q) ∧
      (ringHits s.cells (logDef (u8 p 0))).filter (fun x => x.seq == q && (u8 p 6 == 0 || x.copy + 1 == u8 p 6)) = h :: rest ∧
      (∀ x ∈ rest, x.data = h.data ∧ x.rsvd = h.rsvd) ∧ u8 p 6 ≤ 2 ∧ u8 p 7 ≤ h.data.length ∧ 1 ≤ u8 p 8 ∧ u8 p 8 ≤ 240) ∧
    (∃ (s : State) (p : Bytes) (d : RingDef), s.ready 0xB3 ∧ p.length = 12 ∧ u8 p 0 ≤ 63 ∧ u8 p 1 ≤ 1 ∧ u8 p 3 = 1 ∧
      d = ringOf p ∧ 1 ≤ d.copies ∧ d.copies ≤ 2 ∧ d.base % 64 = 0 ∧ 4 ≤ d.slots ∧ d.slots ≤ 256 ∧ 16 ≤ d.slotsz ∧
      d.slotsz ≤ 256 ∧ d.slotsz % 16 = 0 ∧ 0x40000 ≤ d.base ∧ d.base + d.size ≤ 0x100000 ∧
      s.protected_ d.base d.size = false ∧ (d.en = true → ∀ i < 64, i ≠ u8 p 0 → ∀ o, nth s.unit.rings i none = some o →
      o.en = true → overlaps d.base d.size o.base o.size = false) ∧ s.unitFailing 5 = [] ∧ s.failing [(d.base, d.size)] = []) ∧
    (∃ (s : State) (p : Bytes) (d : RingDef), s.ready 0xB4 ∧ 2 ≤ p.length ∧ p.length ≤ 248 ∧ s.ring (u8 p 0) = some d ∧
      s.store.seek.contains (u8 p 0) = false ∧ u8 p 1 = 0 ∧ p.length - 2 ≤ d.slotsz - 12 ∧
      s.protected_ d.base d.size = false ∧
      s.failing (extents (ringPieces d (ringNext d (ringHits s.cells d)).1 (ringNext d (ringHits s.cells d)).2 (p.drop 2))) ≠ []) ∧
    (∃ (s : State) (p : Bytes) (d : RingDef) (q : Nat) (h : RingHit) (rest : List RingHit), s.ready 0xB5 ∧ p.length = 9 ∧
      s.ring (u8 p 0) = some d ∧ s.store.seek.contains (u8 p 0) = false ∧ s.unsteady = [] ∧ u8 p 1 = 1 ∧ u32 p 2 = q ∧
      u8 p 6 = 0 ∧ (ringHits s.cells d).filter (fun x => x.seq == q) = h :: rest ∧ (∃ x ∈ rest, x.data ≠ h.data ∨
      x.rsvd ≠ h.rsvd) ∧ u8 p 7 ≤ h.data.length ∧ 1 ≤ u8 p 8 ∧ u8 p 8 ≤ 240) :=
  ⟨⟨up, ([63, 1, 2, 0] ++ le 4 0x40000 ++ le 2 4 ++ le 2 256),
      { en := true, copies := 2, base := 0x40000, slots := 4, slotsz := 256 }, by decide +kernel⟩,
    ⟨upRing, [63, 0, 1, 2, 3, 4], ringD, by decide +kernel⟩,
    ⟨upRec, [63, 1, 1, 2, 3, 4], ringD, { slot := 3, copy := 0, seq := 1, data := [9] }, by decide +kernel⟩,
    ⟨upRec, [63, 0, 0, 0, 0, 0, 2, 1, 240], ringD, 1, { slot := 3, copy := 1, seq := 1, data := [9] }, [], by decide +kernel⟩,
    ⟨upLog, [2, 0, 0, 0, 0, 0, 0, 1, 240], 1, { slot := 63, copy := 0, seq := 1, data := [9] }, [], by decide +kernel⟩,
    ⟨up, ([63, 1, 2, 1] ++ le 4 0x40000 ++ le 2 4 ++ le 2 256),
      { en := true, copies := 2, base := 0x40000, slots := 4, slotsz := 256 }, by decide +kernel⟩,
    ⟨{ upRing with worn := [0x40000] }, [63, 0, 1, 2, 3, 4], ringD, by decide +kernel⟩,
    ⟨upAmb, [63, 1, 1, 0, 0, 0, 0, 1, 240], ringD, 1, { slot := 3, copy := 0, seq := 1, data := [9] },
      [{ slot := 3, copy := 1, seq := 1, data := [8] }], by decide +kernel⟩⟩

theorem witness_DisplayAndKeyCommandsComplete :
    (∃ (s : State) (p : Bytes), s.readyToStage 0xC0 1 ∧ p.length = 44 ∧ (∀ e ∈ dspConfigChecks p, e.1 = false) ∧
      (u8 p 0 = s.com.cfg.dsp.conf.mode ∨ s.dsp.job = .none)) ∧
    (∃ (s : State) (p : Bytes), s.readyToStage 0xC1 1 ∧ p.length = 1 ∧ (u8 p 0 ≤ 15 ∨ u8 p 0 = 0xFF)) ∧
    (∃ (s : State) (p : Bytes), s.readyToStage 0xC2 1 ∧ p.length = 18 ∧ u8 p 0 = 0 ∧ u8 p 1 ≤ 15 ∧ (∀ i < 16,
      u8 p (2 + i) ≤ 15)) ∧
    (∃ (s : State) (p : Bytes), s.readyToStage 0xC2 1 ∧ p.length = 6 ∧ u8 p 0 = 1 ∧ u8 p 1 ≤ 3 ∧ (∀ i < 4, u8 p (2 + i) ≤ 15)) ∧
    (∃ (s : State) (p : Bytes), s.readyToStage 0xC3 1 ∧ p.length = 19 ∧ 1 ≤ u8 p 0 ∧ u8 p 0 ≤ 15 ∧ u8 p 1 ≤ 7 ∧ 1 ≤ u8 p 2 ∧
      u8 p 2 ≤ 8 ∧ (∀ i < u8 p 2, u8 p (3 + 2 * i) ≤ 2 ∧ 1 ≤ u8 p (4 + 2 * i)) ∧ (∀ i < 8, u8 p 2 ≤ i →
      u8 p (3 + 2 * i) = 0 ∧ u8 p (4 + 2 * i) = 0)) ∧
    (∃ (s : State) (p : Bytes), s.readyToStage 0xC4 1 ∧ p.length = 10 ∧ (∀ i < 4, u16 p (2 * i) ≤ 10000) ∧ u16 p 8 ≤ 5000) ∧
    (∃ (s : State) (p : Bytes), s.readyToStage 0xD0 1 ∧ p.length = 13 ∧ u8 p 0 = 0 ∧ u8 p 1 ≤ 1 ∧ 2 ≤ u8 p 10 ∧
      u8 p 10 ≤ 126 ∧ 2 ≤ u8 p 11 ∧ u8 p 11 ≤ 126 ∧ u8 p 12 ≤ 1) ∧
    (∃ (s : State) (p : Bytes), s.readyToStage 0xD0 1 ∧ p.length = 9 ∧ u8 p 0 = 1 ∧ u8 p 1 ≤ 63 ∧ u8 p 2 ≤ 4 ∧
      (s.pers ≠ .service → u8 p 2 = 0) ∧ (u16 p 3 = 0xFFFF ∨ s.pers = .service ∧ isVP (u16 p 3) = true ∧
      s.serviceOwned (u16 p 3) = false)) ∧
    (∃ (s : State) (p : Bytes), s.readyToStage 0xD1 1 ∧ p.length = 18 ∧ u8 p 0 ≤ 3 ∧ u8 p 1 ≤ 1 ∧ (u8 p 2 = 1 ∨ u8 p 2 = 2 ∨
      u8 p 2 = 4) ∧ u8 p 3 ≤ 1 ∧ (u16 p 4 = 0xFFFF ∨ s.pers = .service ∧ isVP (u16 p 4) = true ∧
      s.serviceOwned (u16 p 4) = false) ∧ s32 p 10 < s32 p 14) ∧
    (∃ (s : State) (p : Bytes), s.readyToStage 0xD2 1 ∧ p.length = 12 ∧ u8 p 0 ≤ 1 ∧ u8 p 1 ≤ 8 ∧ (∀ i < u8 p 1,
      u8 p (2 + i) ≤ 63 ∧ s.com.cfg.key.mask.getLsbD (u8 p (2 + i)) = true) ∧ (∀ i < 8, u8 p 1 ≤ i → u8 p (2 + i) = 0xFF) ∧
      (u16 p 10 = 0 ∨ 5 ≤ u16 p 10 ∧ u16 p 10 ≤ 3600)) ∧
    (∃ (s : State), s.ready 0xC5) ∧
    (∃ (s : State), s.ready 0xD3) :=
  ⟨⟨up, ([1, 200, 1, 15] ++ le 12 0 ++ le 2 0xFFFF ++ (List.range 7).flatMap (fun i => le 2 i) ++ [50] ++ List.replicate 8 240 ++ [15, 3, 100]),
      by decide +kernel⟩,
    ⟨up, [0xFF], by decide +kernel⟩,
    ⟨up, ([0, 15] ++ List.replicate 16 15), by decide +kernel⟩,
    ⟨up, [1, 3, 15, 15, 15, 15], by decide +kernel⟩,
    ⟨up, ([15, 7, 7] ++ (List.replicate 7 [2, 1]).flatten ++ [0, 0]), by decide +kernel⟩,
    ⟨up, ((List.replicate 4 (le 2 10000)).flatten ++ le 2 5000), by decide +kernel⟩,
    ⟨up, ([0, 1] ++ List.replicate 8 255 ++ [126, 126, 1]), by decide +kernel⟩,
    ⟨up, ([1, 63, 4] ++ le 2 0x1FF ++ le 4 0), by decide +kernel⟩,
    ⟨up, ([3, 1, 4, 1] ++ le 2 0x1FF ++ le 4 0 ++ leI 4 (-1) ++ le 4 0), by decide +kernel⟩,
    ⟨upE, ([1, 7] ++ List.replicate 7 63 ++ [0xFF] ++ le 2 3600), by decide +kernel⟩,
    ⟨up, by decide +kernel⟩,
    ⟨up, by decide +kernel⟩⟩

theorem witness_HousekeepingCommandsComplete :
    (∃ (s : State) (p : Bytes), s.readyToStage 0xE1 1 ∧ p.length = 6 ∧ 700 ≤ (thermCfgOf p).twarn ∧
      (thermCfgOf p).twarn ≤ 1300 ∧ 900 ≤ (thermCfgOf p).tshut ∧ (thermCfgOf p).tshut ≤ 1350 ∧
      (thermCfgOf p).twarn < (thermCfgOf p).tshut ∧ 2 ≤ (thermCfgOf p).rwarn ∧ (thermCfgOf p).rwarn ≤ 30 ∧
      10 ≤ (thermCfgOf p).rshut ∧ (thermCfgOf p).rshut ≤ 30 ∧ (thermCfgOf p).rwarn < (thermCfgOf p).rshut) ∧
    (∃ (s : State), s.ready 0xE0 ∧ (∀ i < 4, nth s.hk.newest (3 + i) noVal ≠ noVal)) ∧
    (∃ (s : State), s.ready 0xE0) ∧
    (∃ (s : State), s.ready 0xE2 ∧ s.aon.thermLatched = false) ∧
    (∃ (s : State), s.ready 0xE2 ∧ s.aon.thermLatched = true ∧ s.hk.runAt = none) ∧
    (∃ (s : State) (p : Bytes) (q : Nat) (h : RingHit) (rest : List RingHit), s.ready 0xE3 ∧ p.length = 5 ∧ (u8 p 0 = 0 ∧
      (ringNewest (ringHits s.cells (logDef 0))).map RingHit.seq = some q ∨ u8 p 0 = 1 ∧ u32 p 1 = q ∨ u8 p 0 = 2 ∧
      (ringOldest (ringHits s.cells (logDef 0))).map RingHit.seq = some q) ∧
      (ringHits s.cells (logDef 0)).filter (fun x => x.seq == q) = h :: rest ∧ (∀ x ∈ rest, x.data = h.data ∧
      x.rsvd = h.rsvd) ∧ s.unsteady = []) :=
  ⟨⟨up, (le 2 1300 ++ le 2 1350 ++ [29, 30]), by decide +kernel⟩,
    ⟨{ up with hk := { newest := Vector.replicate 10 0 } }, by decide +kernel⟩,
    ⟨up, by decide +kernel⟩,
    ⟨up, by decide +kernel⟩,
    ⟨{ up with aon := { thermLatched := true } }, by decide +kernel⟩,
    ⟨upTherm, [0, 0, 0, 0, 0], 1, { slot := 63, copy := 0, seq := 1, data := [9] },
      [{ slot := 63, copy := 1, seq := 1, data := [9] }], by decide +kernel⟩⟩

theorem witness_CommandPacketsReceived :
    (∃ (s : State) (opc : Nat) (p : Bytes), s.awake = true ∧ s.link.mbox.length < 8 ∧ opc < 256 ∧ p.length < 256) ∧
    (∃ (s : State) (opc : Nat) (p : Bytes), s.awake = true ∧ 8 ≤ s.link.mbox.length ∧ opc < 256 ∧ p.length < 256) ∧
    (∃ (s : State) (bs : List Byte), s.awake = true ∧ (bs[0]? ≠ some 0xC7 ∨ bs.length < 6)) ∧
    (∃ (s : State) (x : Transaction), s.awake = true ∧ (x.type = 0 ∨ 5 < x.type.toNat)) :=
  ⟨⟨up, 0xFF, List.replicate 255 0, by decide +kernel⟩,
    ⟨{ up with link := { mbox := List.replicate 8 (mb 0) } }, 0xFF, List.replicate 255 0, by decide +kernel⟩,
    ⟨up, [], by decide +kernel⟩,
    ⟨up, { type := 6 }, by decide +kernel⟩⟩

theorem witness_RepliesAndTaking :
    (∃ (s : State) (r : Reply) (rest : List Reply) (id : Nat) (n : Nat), s.awake = true ∧ s.link.replies = r :: rest ∧
      r.final = true ∧ r.slot = some id ∧ s.pw.devResetCmd ≠ some id ∧ s.link.mbox.length < 8 ∧ r.bytes.length ≤ n) ∧
    (∃ (s : State) (r : Reply) (rest : List Reply) (n : Nat), s.awake = true ∧ s.link.replies = r :: rest ∧ n < r.bytes.length) ∧
    (∃ (s : State), s.awake = true ∧ s.link.replies = []) ∧
    (∃ (s : State) (r : Reply) (rest : List Reply) (id : Nat), s.awake = true ∧ s.link.replies = r :: rest ∧ r.final = true ∧
      r.slot = some id ∧ s.pw.devResetCmd = some id) ∧
    (∃ (s : State) (c : MboxCmd) (rest : List MboxCmd), s.awake = true ∧ s.mgmt.restarting = false ∧
      s.pair.handoverAt = none ∧ s.store.recalled = true ∧ s.link.mbox = c :: rest ∧ c.taken = false ∧ c.done = false ∧
      (∀ d ∈ rest, d.id ≠ c.id) ∧ opRow c.opc = none) ∧
    (∃ (s : State) (c : MboxCmd) (rest : List MboxCmd), s.awake = true ∧ s.mgmt.restarting = false ∧
      s.pair.handoverAt = none ∧ s.store.recalled = true ∧ s.opcAllowed 0x00 = true ∧ s.link.mbox = c :: rest ∧
      c.taken = false ∧ c.done = false ∧ (∀ d ∈ rest, d.id ≠ c.id) ∧ c.opc = 0 ∧ c.params = []) ∧
    (∃ (s : State) (r : Reply) (rest : List Reply) (id : Nat), s.awake = true ∧ s.link.replies = r :: rest ∧ r.final = true ∧
      r.slot = some id ∧ s.link.mbox.length < 8 ∧ s.tb = nextMultiple 1000000 (tbAdd r.readAt 10000000)) ∧
    (∃ (s : State) (c : MboxCmd) (i : Nat), s.awake = true ∧ s.tb < tbMod ∧ i < 8 ∧ s.link.mbox[i]? = some c ∧
      c.done = false ∧ c.deferAt = none ∧ s.tb = tbAdd c.recvAt 20000) ∧
    (∃ (s : State) (c : MboxCmd) (i : Nat) (u : Nat), s.awake = true ∧ s.tb < tbMod ∧ i < 8 ∧ s.link.mbox[i]? = some c ∧
      c.done = false ∧ c.taken = false ∧ c.wait ≠ 3 ∧ c.deferAt = some u) ∧
    (∃ (s : State) (c : MboxCmd), s.awake = true ∧ s.mgmt.restarting = false ∧ s.link.mbox.find? s.open_ = some c ∧
      c.taken = false ∧ s.waitsHandover c.opc = false) ∧
    (∃ (s : State) (c : MboxCmd), s.awake = true ∧ s.mgmt.restarting = false ∧ s.link.mbox.find? s.open_ = some c ∧
      c.taken = true) ∧
    (∃ (s : State), s.link.mbox.find? s.open_ = none) ∧
    (∃ (s : State) (c : MboxCmd), s.link.mbox.find? s.open_ = some c ∧ c.taken = false ∧ s.waitsHandover c.opc = true) :=
  ⟨⟨upRep, rep, [], 4, 10, by decide +kernel⟩,
    ⟨upRep, rep, [], 9, by decide +kernel⟩,
    ⟨up, by decide +kernel⟩,
    ⟨{ upRep with pw := { devResetCmd := some 4 } }, rep, [], 4, by decide +kernel⟩,
    ⟨{ up with link := { mbox := [{ mb 4 with opc := 0xFE }] } }, { mb 4 with opc := 0xFE }, [], by decide +kernel⟩,
    ⟨{ up with link := { mbox := [mb 4] } }, mb 4, [], by decide +kernel⟩,
    ⟨{ upRep with tb := 11000000 }, rep, [], 4, by decide +kernel⟩,
    ⟨{ upMb (mb 4) with tb := tbAdd 1 20000 }, mb 4, 7, by decide +kernel⟩,
    ⟨{ upMb { mb 4 with deferAt := some 1 } with tb := 2700000 }, { mb 4 with deferAt := some 1 }, 7, 1, by decide +kernel⟩,
    ⟨{ up with link := { mbox := [mb 4] } }, mb 4, by decide +kernel⟩,
    ⟨{ up with link := { mbox := [{ mb 4 with taken := true, wait := 3, opc := 0xB1 }] } },
      { mb 4 with taken := true, wait := 3, opc := 0xB1 }, by decide +kernel⟩,
    ⟨up, by decide +kernel⟩,
    ⟨{ up with link := { mbox := [{ mb 4 with opc := 0xA2 }] }, pair := { handoverAt := some 1 } },
      { mb 4 with opc := 0xA2 }, by decide +kernel⟩⟩

theorem witness_WindowAndFabricWrites :
    (∃ (s : State) (k : Nat), s.awake = true ∧ k < 4) ∧
    (∃ (s : State), s.awake = true) ∧
    (∃ (s : State) (a : Nat), s.awake = true ∧ a < 0x20) ∧
    (∃ (s : State) (bs : List Byte), s.awake = true ∧ bs.length < 4) ∧
    (∃ (s : State) (k : Nat), s.awake = true ∧ k < 4) ∧
    (∃ (k : Nat), 4 ≤ k) ∧
    (∃ (s : State), s.awake = true ∧ s.tb < 2 ^ 48) ∧
    (∃ (s : State) (h : Nat), s.ev.padA.highUntil = some h ∧ s.tb = h % tbMod ∧ s.tb < tbMod) ∧
    (∃ (s : State) (k : Nat), s.awake = true ∧ k < 4) ∧
    (∃ (s : State), s.awake = true) ∧
    (∃ (s : State) (a : Nat), s.awake = true ∧ s.w1cAt ≠ s.tb ∧
      a ∈ [0x20, 0x84, 0x90, 0x720, 0x728, 0x72C, 0xB44, 0xF00, 0x3408, 0x340C, 0x3414, 0x3000] ∧ absentBlock s.pers a = false) ∧
    (∃ (s : State), s.awake = true ∧ s.acting = true) ∧
    (∃ (s : State), s.awake = true ∧ s.acting = true) ∧
    (∃ (s : State) (i : Nat), s.awake = true ∧ s.acting = true ∧ i < 16) ∧
    (∃ (s : State) (a : Nat), s.awake = true ∧ s.acting = false ∧ 0x2000 ≤ a ∧ a < 0x2800) ∧
    (∃ (s : State), s.awake = true ∧ s.acting = true ∧ s.w1cAt ≠ s.tb) ∧
    (∃ (s : State) (n : Nat), s.awake = true ∧ n < 48 ∧ s.w1cAt ≠ s.tb) ∧
    (∃ (s : State), s.awake = true ∧ s.acting = true) ∧
    (∃ (s : State) (a : Nat), s.awake = true ∧ a % 4 = 0 ∧ a ≤ 0xFFFC ∧ a ≠ 0x200) ∧
    (∃ (s : State), s.awake = true) ∧
    (∃ (s : State) (x : Transaction), s.awake = true ∧ x.type = 5) ∧
    (∃ (s : State), s.awake = true) :=
  ⟨⟨up, 3, by decide +kernel⟩,
    ⟨up, by decide +kernel⟩,
    ⟨up, 0x1C, by decide +kernel⟩,
    ⟨up, [1, 2, 3], by decide +kernel⟩,
    ⟨{ up with ev := { st := 0xFFFFFFFFFFFFFFFFFFFFFFFFFFFFFFFF } }, 3, by decide +kernel⟩,
    ⟨4, by decide +kernel⟩,
    ⟨{ up with tb := 2 ^ 48 - 1 }, by decide +kernel⟩,
    ⟨{ up with ev := { padA := { highUntil := some 1 } } }, 1, by decide +kernel⟩,
    ⟨{ up with ev := { ov := 0xFFFFFFFFFFFFFFFFFFFFFFFFFFFFFFFF } }, 3, by decide +kernel⟩,
    ⟨up, by decide +kernel⟩,
    ⟨{ up with link := { refused := true, lerr := true } }, 0x20, by decide +kernel⟩,
    ⟨up, by decide +kernel⟩,
    ⟨up, by decide +kernel⟩,
    ⟨up, 15, by decide +kernel⟩,
    ⟨{ upP with pair := { role := .standby } }, 0x27FC, by decide +kernel⟩,
    ⟨{ up with bus := { pushfail := true, viglate := true } }, by decide +kernel⟩,
    ⟨up, 47, by decide +kernel⟩,
    ⟨up, by decide +kernel⟩,
    ⟨up, 0xFFFC, by decide +kernel⟩,
    ⟨up, by decide +kernel⟩,
    ⟨up, { type := 5 }, by decide +kernel⟩,
    ⟨up, by decide +kernel⟩⟩

theorem witness_RaiseSetsOneSource :
    ∃ (e : Events) (n : Nat) (t : Nat), n < 128 ∧ e.raisedAt ≠ t :=
  ⟨{}, 127, 1, by decide +kernel⟩

theorem witness_RemoteRecordsAuthenticated :
    (∃ (s : State) (f : Frame), s.frameArrives = true ∧ s.acting = true ∧ f.remote = false ∧ f.ide = true ∧
      f.id = frameId 4 0 s.nodeKey ∧ s.rem.box.length < 8) ∧
    (∃ (s : State) (f : Frame), s.frameArrives = true ∧ s.acting = true ∧ f.remote = false ∧ f.ide = true ∧
      f.id = frameId 4 0 s.nodeKey ∧ 8 ≤ s.rem.box.length) ∧
    (∃ (s : State) (c : RemoteCmd) (rest : List RemoteCmd), s.awake = true ∧ s.mgmt.restarting = false ∧ s.acting = true ∧
      s.pair.handoverAt = none ∧ s.rem.box = c :: rest ∧ c.taken = false ∧ c.done = false ∧ (c.lengthOk = false ∨
      nth s.unit.keys (u8 c.data 0) none = none)) ∧
    (∃ (s : State) (c : RemoteCmd) (rest : List RemoteCmd) (k : KeySlot), s.awake = true ∧ s.mgmt.restarting = false ∧
      s.acting = true ∧ s.pair.handoverAt = none ∧ s.rem.box = c :: rest ∧ c.taken = false ∧ c.done = false ∧
      c.lengthOk = true ∧ nth s.unit.keys (u8 c.data 0) none = some k ∧
      slice c.data (8 + u8 c.data 5) 8 ≠ recordMac k.key s.addressedSerial (c.data.take (8 + u8 c.data 5))) ∧
    (∃ (s : State) (c : RemoteCmd) (rest : List RemoteCmd) (k : KeySlot), s.awake = true ∧ s.mgmt.restarting = false ∧
      s.acting = true ∧ s.pair.handoverAt = none ∧ s.rem.box = c :: rest ∧ c.taken = false ∧ c.done = false ∧
      c.lengthOk = true ∧ nth s.unit.keys (u8 c.data 0) none = some k ∧
      slice c.data (8 + u8 c.data 5) 8 = recordMac k.key s.addressedSerial (c.data.take (8 + u8 c.data 5)) ∧
      (k.exhausted = true ∨ u32 c.data 1 ≤ nth s.com.keyCnt (u8 c.data 0) 0)) ∧
    (∃ (s : State) (c : RemoteCmd) (rest : List RemoteCmd) (k : KeySlot), s.awake = true ∧ s.mgmt.restarting = false ∧
      s.acting = true ∧ s.pair.handoverAt = none ∧ s.rem.box = c :: rest ∧ c.taken = false ∧ c.done = false ∧
      c.lengthOk = true ∧ u8 c.data 0 < 8 ∧ nth s.unit.keys (u8 c.data 0) none = some k ∧
      slice c.data (8 + u8 c.data 5) 8 = recordMac k.key s.addressedSerial (c.data.take (8 + u8 c.data 5)) ∧
      k.exhausted = false ∧ nth s.com.keyCnt (u8 c.data 0) 0 < u32 c.data 1 ∧ k.mask.getLsbD (u8 c.data 7 / 16) = false) ∧
    (∃ (s : State) (c : RemoteCmd) (rest : List RemoteCmd) (k : KeySlot) (u : State), s.awake = true ∧
      s.mgmt.restarting = false ∧ s.acting = true ∧ s.pair.handoverAt = none ∧ s.rem.box = c :: rest ∧ c.taken = false ∧
      c.done = false ∧ c.lengthOk = true ∧ nth s.unit.keys (u8 c.data 0) none = some k ∧
      slice c.data (8 + u8 c.data 5) 8 = recordMac k.key s.addressedSerial (c.data.take (8 + u8 c.data 5)) ∧
      k.exhausted = false ∧ nth s.com.keyCnt (u8 c.data 0) 0 < u32 c.data 1 ∧ k.mask.getLsbD (u8 c.data 7 / 16) = true ∧
      ((opRow (u8 c.data 7)).map OpRow.hostOnly).getD false = false ∧
      u = s.countKey (u8 c.data 0) (fun k => { k with exhausted := u32 c.data 1 == 0xFFFFFFFF })) ∧
    (∃ (s : State) (c : RemoteCmd) (rest : List RemoteCmd) (k : KeySlot), s.awake = true ∧ s.mgmt.restarting = false ∧
      s.acting = true ∧ s.pair.handoverAt = none ∧ s.rem.box = c :: rest ∧ (∀ d ∈ rest, d.id ≠ c.id ∧ d.out = []) ∧
      c.out = [] ∧ c.taken = false ∧ c.done = false ∧ c.lengthOk = true ∧ u8 c.data 0 < 8 ∧
      nth s.unit.keys (u8 c.data 0) none = some k ∧
      slice c.data (8 + u8 c.data 5) 8 = recordMac k.key s.addressedSerial (c.data.take (8 + u8 c.data 5)) ∧
      k.exhausted = false ∧ nth s.com.keyCnt (u8 c.data 0) 0 < u32 c.data 1 ∧ k.mask.getLsbD 0 = true ∧ u8 c.data 7 = 0 ∧
      u8 c.data 5 = 0 ∧ s.opcAllowed 0 = true ∧ s.fifoOpen = true ∧ s.bus.fifo.length < 32) ∧
    (∃ (s : State) (c : RemoteCmd) (rest : List RemoteCmd) (k : KeySlot) (u : State), s.awake = true ∧
      s.mgmt.restarting = false ∧ s.acting = true ∧ s.pair.handoverAt = none ∧ s.rem.box = c :: rest ∧ c.taken = false ∧
      c.done = false ∧ c.lengthOk = true ∧ nth s.unit.keys (u8 c.data 0) none = some k ∧
      slice c.data (8 + u8 c.data 5) 8 = recordMac k.key s.addressedSerial (c.data.take (8 + u8 c.data 5)) ∧
      k.exhausted = false ∧ nth s.com.keyCnt (u8 c.data 0) 0 < u32 c.data 1 ∧ (k.mask.getLsbD (u8 c.data 7 / 16) = false ∨
      ((opRow (u8 c.data 7)).map OpRow.hostOnly).getD false = true) ∧
      u = s.countKey (u8 c.data 0) (fun k => { k with exhausted := u32 c.data 1 == 0xFFFFFFFF })) ∧
    (∃ (s : State) (c : RemoteCmd) (rest : List RemoteCmd) (k : KeySlot), s.awake = true ∧ s.mgmt.restarting = false ∧
      s.acting = true ∧ s.pair.handoverAt = none ∧ s.rem.box = c :: rest ∧ (∀ d ∈ rest, d.id ≠ c.id ∧ d.out = []) ∧
      c.out = [] ∧ k.key ≠ [] ∧ c.taken = false ∧ c.done = false ∧ c.lengthOk = true ∧ u8 c.data 0 < 8 ∧
      nth s.unit.keys (u8 c.data 0) none = some k ∧
      slice c.data (8 + u8 c.data 5) 8 = recordMac k.key s.addressedSerial (c.data.take (8 + u8 c.data 5)) ∧
      k.exhausted = false ∧ nth s.com.keyCnt (u8 c.data 0) 0 < u32 c.data 1 ∧ k.mask.getLsbD (u8 c.data 7 / 16) = false ∧
      s.fifoOpen = true ∧ s.bus.fifo.length < 32) :=
  ⟨⟨upBus, { id := frameId 4 0 upBus.nodeKey, data := [1] }, by decide +kernel⟩,
    ⟨{ upBus with rem := { box := List.replicate 8 (rc []) } }, { id := frameId 4 0 upBus.nodeKey, data := [1] },
      by decide +kernel⟩,
    ⟨{ up with rem := { box := [rc (le 16 0)] } }, rc (le 16 0), [], by decide +kernel⟩,
    ⟨upRc ([7] ++ le 15 0), rc ([7] ++ le 15 0), [], key7, by decide +kernel⟩,
    ⟨upRc (rec7 0), rc (rec7 0), [], key7, by decide +kernel⟩,
    ⟨upRc (rec7 1), rc (rec7 1), [], key7, by decide +kernel⟩,
    ⟨upRcM, rc (rec0 1), [], { key7 with mask := 0xFFFF },
      (upRcM.countKey 7 fun k => { k with exhausted := u32 (rec0 1) 1 == 0xFFFFFFFF }),
      by and_intros <;> first | decide +kernel | rfl⟩,
    ⟨upRcM, rc (rec0 1), [], { key7 with mask := 0xFFFF }, by decide +kernel⟩,
    ⟨upRc (rec7 1), rc (rec7 1), [], key7,
      ((upRc (rec7 1)).countKey 7 fun k => { k with exhausted := u32 (rec7 1) 1 == 0xFFFFFFFF }),
      by and_intros <;> first | decide +kernel | rfl⟩,
    ⟨{ upRc (rec7 1) with bus := { phase := .active } }, rc (rec7 1), [], key7, by decide +kernel⟩⟩

theorem witness_GroupsAndSnapshotsExpire :
    (∃ (s : State) (g : Nat) (gr : Group), s.awake = true ∧ 1 ≤ g ∧ g ≤ 8 ∧ nth s.groups (g - 1) none = some gr ∧
      s.tb = nextMultiple 10000 (tbAdd gr.openAt 2000000)) ∧
    (∃ (g : Nat), (g = 0 ∨ 8 < g)) ∧
    (∃ (s : State) (h : Nat) (sn : Snap), s.awake = true ∧ h < 4 ∧ nth s.snaps h none = some sn ∧
      s.tb = nextMultiple 1000000 (tbAdd sn.usedAt 2000000)) ∧
    (∃ (h : Nat), 4 ≤ h) :=
  ⟨⟨{ upG with tb := 2010000 }, 8, { openAt := 1, held := [.point 0x100 0] }, by decide +kernel⟩,
    ⟨9, by decide +kernel⟩,
    ⟨{ upS with tb := 3000000 }, 3, { epoch := 1, data := [1, 2], usedAt := 1 }, by decide +kernel⟩,
    ⟨4, by decide +kernel⟩⟩

theorem witness_TransmitWindowPushes :
    (∃ (s : State), s.awake = true ∧ s.acting = true ∧ s.bus.fifo.length < 32 ∧ s.badFrame s.bus.stagedFrame = false ∧
      s.fifoOpen = true ∧ (∀ e ∈ s.bus.fifo, e.at_ ≠ s.tb ∨ e.window = true)) ∧
    (∃ (s : State) (why : Nat), s.awake = true ∧ s.acting = true ∧ why = s.pushWhy s.bus.stagedFrame ∧ why ≠ 0) ∧
    (∃ (s : State), s.awake = true ∧ s.acting = true ∧ s.bus.onLine = false ∧ (∀ c ∈ s.rem.box, c.out = [])) ∧
    (∃ (s : State), s.acting = false) :=
  ⟨⟨upBus, by decide +kernel⟩,
    ⟨up, 3, by decide +kernel⟩,
    ⟨up, by decide +kernel⟩,
    ⟨{ upP with pair := {} }, by decide +kernel⟩⟩

theorem witness_FramesComeAndGo :
    (∃ (s : State) (f : Frame) (n : Nat) (body : Bytes) (b : Nat), s.frameArrives = true ∧ s.bus.phase = .active ∧
      s.bus.tec ≤ 127 ∧ s.bus.rxec ≤ 127 ∧ f.remote = false ∧ allotFrame f = false ∧
      s.bus.filters.find? (fun e => filterTakes e.2 f) = some (n, body) ∧ n < 32 ∧
      (bufferOrder (u8 body 2) (u8 body 3) (nth s.bus.flt n {}).lastBuf).find? (fun i => !(nth s.bus.buf i {}).new) = some b ∧
      b < 48) ∧
    (∃ (s : State) (f : Frame), s.frameArrives = true ∧ s.bus.phase = .active ∧ s.bus.tec ≤ 127 ∧ s.bus.rxec ≤ 127 ∧
      f.remote = false ∧ allotFrame f = false ∧ s.bus.filters.find? (fun e => filterTakes e.2 f) = none) ∧
    (∃ (s : State) (f : Frame), s.frameArrives = true ∧ s.bus.phase = .active ∧ s.bus.tec ≤ 127 ∧ s.bus.rxec ≤ 127 ∧
      f.remote = true) ∧
    (∃ (s : State), s.busReceives = true ∧ s.applied.bus.listen = true ∧ s.bus.phase = .active ∧ s.bus.tec ≤ 95 ∧
      s.bus.rxec ≤ 95) ∧
    (∃ (s : State), s.busReceives = true ∧ s.applied.bus.listen = false) ∧
    (∃ (s : State) (e : TxEntry) (rest : List TxEntry) (tdc : Nat) (age : Nat), s.offers 2 = true ∧ s.bus.fifo = e :: rest ∧
      e.remote = none ∧ (∀ c ∈ s.rem.box, c.out = []) ∧ s.lineServes = true ∧ s.headLate age = false ∧
      s.delayTooLong 2 tdc = false ∧ s.bus.tec ≤ 96 ∧ s.bus.rxec < 96 ∧ s.bus.phase = .active) ∧
    (∃ (s : State) (tdc : Nat), s.offers 1 = true ∧ s.lineServes = true ∧ s.delayTooLong 1 tdc = false ∧ s.bus.tec ≤ 96 ∧
      s.bus.rxec < 96 ∧ s.bus.phase = .active) ∧
    (∃ (s : State) (tdc : Nat), s.offers 0 = true ∧ s.lineServes = true ∧ s.delayTooLong 0 tdc = false ∧ s.bus.tec ≤ 96 ∧
      s.bus.rxec < 96 ∧ s.bus.phase = .active) ∧
    (∃ (k : Nat), 3 ≤ k) ∧
    (∃ (s : State) (e : TxEntry) (rest : List TxEntry), s.offers 2 = true ∧ s.bus.fifo = e :: rest ∧ e.oneshot = false ∧
      e.windowOver s.tb = false) ∧
    (∃ (s : State) (e : TxEntry) (rest : List TxEntry) (inc : Nat), s.offers 2 = true ∧ s.bus.fifo = e :: rest ∧
      e.oneshot = false ∧ e.windowOver s.tb = false ∧ s.bus.faultNow = 0 ∧ (s.bus.col 2).k = 0 ∧ s.bus.tec + inc < 96 ∧
      s.bus.rxec < 96 ∧ s.bus.phase = .active) ∧
    (∃ (s : State) (w : Nat), s.awake = true ∧ s.bus.onLine = true ∧ s.firstHold = some w) ∧
    (∃ (s : State) (e : TxEntry) (rest : List TxEntry), s.awake = true ∧ s.bus.phase = .active ∧ s.bus.fifo = e :: rest ∧
      e.life ≠ 0 ∧ (∀ x ∈ rest, x.life = 0) ∧ e.remote = none ∧ (∀ c ∈ s.rem.box, c.out = []) ∧ s.tb = e.due) ∧
    (∃ (s : State) (k : Nat) (tdc : Nat) (age : Nat), k < 3 ∧ s.offers k = true ∧ s.lineServes = true ∧
      s.delayTooLong k tdc = true ∧ (k = 2 → s.headLate age = false ∧ ∀ e ∈ s.bus.fifo.head?, e.oneshot = false ∧
      e.windowOver s.tb = false) ∧ s.bus.tec < 88 ∧ s.bus.rxec < 96 ∧ s.bus.phase = .active) ∧
    (∃ (s : State), s.firstHold = none) ∧
    (∃ (s : State) (inc : Nat), s.offers 1 = true ∧ s.bus.faultNow = 0 ∧ (s.bus.col 1).k = 1 ∧ s.bus.tec + inc < 96 ∧
      s.bus.rxec < 96 ∧ s.bus.phase = .active) ∧
    (∃ (s : State) (e : TxEntry) (rest : List TxEntry), s.offers 2 = true ∧ s.bus.fifo = e :: rest ∧ e.oneshot = true ∧
      e.remote = none ∧ (∀ c ∈ s.rem.box, c.out = [])) ∧
    (∃ (s : State) (e : TxEntry) (rest : List TxEntry) (age : Nat), s.offers 2 = true ∧ s.lineServes = true ∧
      s.headLate age = true ∧ s.bus.fifo = e :: rest ∧ e.remote = none ∧ (∀ c ∈ s.rem.box, c.out = [])) ∧
    (∃ (s : State) (e : TxEntry) (x : TxEntry), s.awake = true ∧ s.bus.phase = .active ∧ s.bus.fifo = [e, x] ∧ e.life = 0 ∧
      x.life ≠ 0 ∧ x.remote = none ∧ (∀ c ∈ s.rem.box, c.out = []) ∧ s.tb = x.due) :=
  ⟨⟨upFlt, {}, 31, ([0x1F, 0, 47, 1] ++ le 8 0), 47, by decide +kernel⟩,
    ⟨upBus, {}, by decide +kernel⟩,
    ⟨upBus, { remote := true }, by decide +kernel⟩,
    ⟨{ upBus with applied := { up.applied with bus := { listen := true } } }, by decide +kernel⟩,
    ⟨upBus, by decide +kernel⟩,
    ⟨upTx, ent, [], 5, 3, by decide +kernel⟩,
    ⟨{ up with bus := { phase := .active, allot := some {} } }, 5, by decide +kernel⟩,
    ⟨{ up with bus := { phase := .active, vigil := some {} } }, 5, by decide +kernel⟩,
    ⟨3, by decide +kernel⟩,
    ⟨upTx, ent, [], by decide +kernel⟩,
    ⟨upTx, ent, [], 8, by decide +kernel⟩,
    ⟨{ upTx with bus := { upTx.bus with cols := Vector.replicate 3 { k := 16, held := true } } }, 0, by decide +kernel⟩,
    ⟨{ upTx with tb := tbAdd 1 65535000, bus := { phase := .active, fifo := [{ ent with life := 65535 }] } },
      { ent with life := 65535 }, [], by decide +kernel⟩,
    ⟨{ upTx with applied := { up.applied with bus := { drate := 2 } }, bus := { upTx.bus with fifo := [{ ent with f := { fdf := true, brs := true } }] } },
      2, 21, 3, by decide +kernel⟩,
    ⟨up, by decide +kernel⟩,
    ⟨{ up with bus := { phase := .active, allot := some {}, cols := Vector.replicate 3 { k := 1 } } }, 8, by decide +kernel⟩,
    ⟨{ upTx with bus := { upTx.bus with fifo := [{ ent with oneshot := true }] } }, { ent with oneshot := true }, [],
      by decide +kernel⟩,
    ⟨{ upTx with tb := 5000, bus := { phase := .active, fifo := [{ ent with life := 1 }] } }, { ent with life := 1 }, [], 3,
      by decide +kernel⟩,
    ⟨{ up with tb := ({ ent with txseq := 2, life := 1 } : TxEntry).due, bus := { phase := .active, fifo := [ent, { ent with txseq := 2, life := 1 }] } },
      ent, { ent with txseq := 2, life := 1 }, by decide +kernel⟩⟩

theorem witness_BusStatesAndLineFaults :
    (∃ (s : State), s.awake = true ∧ s.bus.phase = .integrating ∧ s.bus.wakePat = none ∧ s.bus.askReason = none ∧
      s.pw.allot.granted = true ∧ s.pers ≠ .caller ∧ (∀ c ∈ s.rem.box, c.out = [])) ∧
    (∃ (s : State), s.awake = true ∧ s.bus.phase = .integrating ∧ s.bus.wakePat = none ∧ s.pers = .caller) ∧
    (∃ (s : State) (c : BusCfg), s.bus.cfgNext = some c) ∧
    (∃ (s : State), s.bus.sleepReq = true ∧ s.bus.sleepFlush = false ∧ s.bus.cfgNext = none) ∧
    (∃ (s : State), s.awake = true ∧ s.bus.wakeReq = true ∧ (s.bus.phase = .integrating ∨ s.bus.onLine = true) ∧
      s.applied.bus.listen = false ∧ s.bus.faultNow.getLsbD 0 = false) ∧
    (∃ (s : State), s.bus.phase = .busOff ∧ s.applied.bus.autorec ≠ 0) ∧
    (∃ (s : State), s.awake = true ∧ s.bus.phase = .recovering ∧ s.bus.fifo = [] ∧ (∀ c ∈ s.rem.box, c.out = [])) ∧
    (∃ (s : State), s.bus.phase = .sleep ∧ s.awake = true) ∧
    (∃ (s : State), s.bus.phase = .sleep ∧ s.phase = .doze) ∧
    (∃ (s : State), s.awake = true ∧ s.bus.faultNow.getLsbD 0 = false) ∧
    (∃ (s : State), s.awake = true ∧ s.bus.faultNow.getLsbD 1 = false) ∧
    (∃ (s : State) (v : Nat), s.awake = true ∧ s.bus.faultNow.getLsbD 2 = false ∧ (v < 2700 ∨ 4300 < v)) ∧
    (∃ (s : State) (d : Nat), s.awake = true ∧ s.bus.faultNow.getLsbD 3 = false ∧ d < 600) ∧
    (∃ (w : Nat), w < 4) ∧
    (∃ (w : Nat), 4 ≤ w) ∧
    (∃ (s : State), s.awake = true) ∧
    (∃ (s : State), s.bus.sleepReq = true ∧ s.bus.sleepFlush = true ∧ (∀ c ∈ s.rem.box, c.out = [])) :=
  ⟨⟨{ upPh .integrating with pw := { strap := 1, allot := { granted := true } } }, by decide +kernel⟩,
    ⟨{ upPh .integrating with pw := { strap := 4 } }, by decide +kernel⟩,
    ⟨{ up with bus := { cfgNext := some { arate := 3 } } }, { arate := 3 }, by decide +kernel⟩,
    ⟨{ up with bus := { phase := .active, sleepReq := true } }, by decide +kernel⟩,
    ⟨{ up with bus := { phase := .integrating, wakeReq := true } }, by decide +kernel⟩,
    ⟨{ upPh .busOff with applied := { up.applied with bus := { autorec := 255 } } }, by decide +kernel⟩,
    ⟨upPh .recovering, by decide +kernel⟩,
    ⟨upPh .sleep, by decide +kernel⟩,
    ⟨{ upPh .sleep with phase := .doze }, by decide +kernel⟩,
    ⟨up, by decide +kernel⟩,
    ⟨up, by decide +kernel⟩,
    ⟨up, 2699, by decide +kernel⟩,
    ⟨up, 599, by decide +kernel⟩,
    ⟨3, by decide +kernel⟩,
    ⟨4, by decide +kernel⟩,
    ⟨up, by decide +kernel⟩,
    ⟨{ up with bus := { phase := .active, sleepReq := true, sleepFlush := true } }, by decide +kernel⟩⟩

theorem witness_RolesPassByLeases :
    (∃ (s : State) (f : Frame) (o : Nat), s.frameArrives = true ∧ s.paired = true ∧ supervision f 0 64 = true ∧
      s.callerOk f = true ∧ s.verdictAt f.data = some o ∧ bit (u8 f.data (o + 8)) 1 = false ∧
      bit (u8 f.data (o + 8)) 0 = s.unitB ∧ bit (u8 f.data (o + 8)) 2 = true ∧ s.acting = true ∧
      u16 f.data (o + 9) = s.unit.term) ∧
    (∃ (s : State) (f : Frame) (o : Nat), s.frameArrives = true ∧ s.paired = true ∧ supervision f 0 64 = true ∧
      s.callerOk f = true ∧ s.verdictAt f.data = some o ∧ bit (u8 f.data (o + 8)) 1 = false ∧
      bit (u8 f.data (o + 8)) 0 = s.unitB ∧ s.acting = false ∧ termNewerOr (u16 f.data (o + 9)) s.unit.term = true ∧
      s.unitFailing 7 = []) ∧
    (∃ (s : State) (f : Frame) (o : Nat), s.frameArrives = true ∧ s.paired = true ∧ supervision f 0 64 = true ∧
      s.callerOk f = true ∧ s.verdictAt f.data = some o ∧ bit (u8 f.data (o + 8)) 1 = false ∧
      bit (u8 f.data (o + 8)) 0 ≠ s.unitB ∧ s.acting = true ∧ termNewerOr (u16 f.data (o + 9)) s.unit.term = true ∧
      s.unitFailing 7 = []) ∧
    (∃ (s : State) (f : Frame), s.callerOk f = false) ∧
    (∃ (s : State) (d : Nat), s.awake = true ∧ s.paired = true ∧ s.acting = false ∧ s.pair.takeDue = some d) ∧
    (∃ (s : State) (d : Nat), s.awake = true ∧ s.paired = true ∧ s.acting = true ∧ s.pair.releaseDue = some d) ∧
    (∃ (s : State), s.awake = true ∧ s.paired = true ∧ s.acting = true) ∧
    (∃ (s : State) (h : Nat), s.awake = true ∧ s.pair.handoverAt = some h ∧ s.pair.handCmd = none ∧ s.tb = tbAdd h 200000) ∧
    (∃ (s : State) (h : Nat) (id : Nat) (tag : Byte), s.awake = true ∧ s.pair.handoverAt = some h ∧
      s.pair.handCmd = some (.host id, tag) ∧ s.tb = tbAdd h 200000) :=
  ⟨⟨upPB .active, verd 4 0, 49, by decide +kernel⟩,
    ⟨upPB .candidate, verd 0 1, 49, by decide +kernel⟩,
    ⟨upPB .active, verd 1 1, 49, by decide +kernel⟩,
    ⟨{ upP with unit := { pair := { ckey := 1 } } }, {}, by decide +kernel⟩,
    ⟨{ upP with pair := { role := .standby, takeDue := some 1 } }, 1, by decide +kernel⟩,
    ⟨{ upP with pair := { role := .active, releaseDue := some 1 } }, 1, by decide +kernel⟩,
    ⟨upP, by decide +kernel⟩,
    ⟨{ upP with tb := 200001, pair := { role := .active, handoverAt := some 1 } }, 1, by decide +kernel⟩,
    ⟨{ upP with tb := 200001, pair := { role := .active, handoverAt := some 1, handCmd := some (.host 3, 7) } }, 1, 3, 7,
      by decide +kernel⟩⟩

theorem witness_MinuetLinkExchanges :
    (∃ (s : State), s.paired = true ∧ s.awake = true ∧ s.bus.vigilOn = true ∧ s.slotLoads = true ∧ s.bus.vigil = none ∧
      s.tb = tbAdd s.beatAt 100) ∧
    (∃ (s : State) (f : LinkFrame), s.linkRuns = true ∧ s.pair.linkOut = [] ∧
      f = ({ typ := 0x01, seq := s.pair.linkSeq % 65536, payload := le 8 s.unit.serial.toNat ++ le 1 s.pw.strap ++ le 2 s.unit.term ++ le 4 s.epoch } : LinkFrame)) ∧
    (∃ (s : State) (lf : LinkFrame), s.linkRuns = true ∧ linkValid lf = true ∧ lf.typ = 1 ∧ lf.payload.length = 15 ∧
      u8 lf.payload 8 + s.pw.strap = 5 ∧ s.pair.linkUp = false ∧ 2 ≤ s.pair.linkGood ∧ s.pair.role = .candidate ∧
      s.pair.pserial = 0) ∧
    (∃ (s : State), s.awake = true ∧ s.pair.linkUp = true ∧ s.pair.inDelta = none ∧ s.pair.inCopy = none ∧
      s.pair.role = .active ∧ s.tb = tbAdd s.pair.linkAt 3000) ∧
    (∃ (s : State) (lf : LinkFrame), s.linkRuns = true ∧ linkValid lf = true ∧ lf.typ = 2 ∧ lf.payload.length = 2 ∧
      s.acting = true) ∧
    (∃ (s : State) (lf : LinkFrame), s.linkRuns = true ∧ linkValid lf = true ∧ lf.typ = 3 ∧ lf.payload.length = 2 ∧
      s.acting = true ∧ termNewerOr (u16 lf.payload 0) s.unit.term = true ∧ s.pair.releaseDue = none) ∧
    (∃ (s : State) (b : LinkFrame), s.linkRuns = true ∧ s.pair.linkOut = [b] ∧ linkBlock b = true ∧ s.linkWaits = 1) ∧
    (∃ (s : State) (lf : LinkFrame), s.linkRuns = true ∧ linkValid lf = true ∧ lf.typ = 0x21 ∧ lf.payload.length = 6 ∧
      s.acting = true ∧ u16 lf.payload 4 ≠ s.unit.term) ∧
    (∃ (s : State) (lf : LinkFrame), s.linkRuns = true ∧ linkValid lf = true ∧ lf.typ = 0x20 ∧ lf.payload.length = 4 ∧
      s.acting = true ∧ s.pair.copyEpoch = none ∧ s.pair.mirror = 2 ∧ s.waits = []) ∧
    (∃ (s : State) (u : Nat × Nat) (rest : List (Nat × Nat)), s.awake = true ∧ s.acting = true ∧ s.pair.unacked = u :: rest ∧
      s.waits = []) ∧
    (∃ (s : State) (lf : LinkFrame), s.linkRuns = true ∧ linkValid lf = true ∧ s.pair.role = .standby ∧ lf.typ = 0x10 ∧
      s.pair.inDelta = none ∧ lf.payload.length = 14) ∧
    (∃ (s : State) (lf : LinkFrame) (a : Assembly), s.linkRuns = true ∧ linkValid lf = true ∧ s.pair.role = .standby ∧
      lf.typ = 0x12 ∧ s.pair.inDelta = some a ∧ a.prev = s.epoch ∧ lf.payload.length = 14 ∧ u32 lf.payload 0 = a.epoch ∧
      u16 lf.payload 4 = a.nblk ∧ a.next = a.nblk ∧ u32 lf.payload 6 = a.bytes ∧ a.data.length = a.bytes ∧
      u32 lf.payload 10 = crc32 a.data) ∧
    (∃ (s : State) (lf : LinkFrame), s.linkRuns = true ∧ linkValid lf = true ∧ s.pair.role = .standby ∧ lf.typ = 0x18 ∧
      s.pair.inCopy = none ∧ lf.payload.length = 14) ∧
    (∃ (s : State) (lf : LinkFrame) (a : Assembly), s.linkRuns = true ∧ linkValid lf = true ∧ s.pair.role = .standby ∧
      lf.typ = 0x1A ∧ s.pair.inCopy = some a ∧ lf.payload.length = 14 ∧ u32 lf.payload 0 = a.epoch ∧
      u16 lf.payload 4 = a.nblk ∧ a.next = a.nblk ∧ u32 lf.payload 6 = a.bytes ∧ a.data.length = a.bytes ∧
      u32 lf.payload 10 = crc32 a.data ∧ s.worn = [] ∧ s.pw.pfw = false) :=
  ⟨⟨{ upPB .active with tb := 100, bus := { phase := .active, joined := true, vigilOn := true } }, by decide +kernel⟩,
    ⟨upL {}, { typ := 1, payload := le 8 up.unit.serial.toNat ++ [2] ++ le 6 0 }, by decide +kernel⟩,
    ⟨upL { linkGood := 2 }, lk 1 (le 8 9 ++ [3] ++ le 6 0), by decide +kernel⟩,
    ⟨{ upL { linkUp := true, role := .active } with tb := 3000 }, by decide +kernel⟩,
    ⟨upL { role := .active }, lk 2 [0, 0], by decide +kernel⟩,
    ⟨upL { role := .active }, lk 3 [1, 0], by decide +kernel⟩,
    ⟨upL { linkOut := [lk 0x11 (le 100 0)], linkEnd := 5 + 112 }, lk 0x11 (le 100 0), by decide +kernel⟩,
    ⟨upL { role := .active }, lk 0x21 (le 4 0 ++ le 2 1), by decide +kernel⟩,
    ⟨upL { role := .active, mirror := 2, unacked := [(4, 1), (6, 1)] }, lk 0x20 (le 4 5), by decide +kernel⟩,
    ⟨upL { role := .active, mirror := 2, unacked := [(4, 1), (6, 1)] }, (4, 1), [(6, 1)], by decide +kernel⟩,
    ⟨upL { role := .standby }, lk 0x10 (le 14 0), by decide +kernel⟩,
    ⟨upL { role := .standby, inDelta := some asm }, lk 0x12 (le 4 5 ++ le 10 0), asm, by decide +kernel⟩,
    ⟨upL { role := .standby }, lk 0x18 (le 14 0), by decide +kernel⟩,
    ⟨upL { role := .standby, inCopy := some asm }, lk 0x1A (le 4 5 ++ le 10 0), asm, by decide +kernel⟩⟩

theorem witness_CallerElects :
    (∃ (s : State) (f : Frame) (p : Nat) (b : Bool), s.frameArrives = true ∧ s.pers = .caller ∧ supervision f 1 24 = true ∧
      frameSub f = 0 ∧ s.vigilOf (un f.data 8 8) = some (p, b) ∧ p < 4 ∧ (s.callSlot p).phase = .listening ∧ u8 f.data 1 ≠ 4) ∧
    (∃ (s : State), s.awake = true ∧ s.caller.listening = true ∧ s.unitFailing 7 = []) ∧
    (∃ (s : State) (p : Nat) (b : Bool), s.awake = true ∧ p < 4 ∧
      (if b then (s.callSlot p).ub else (s.callSlot p).ua).alive = true ∧ (s.callSlot p).phase = .electing) ∧
    (∃ (p : Nat), 4 ≤ p) ∧
    (∃ (s : State) (p : Nat) (d : Nat), s.awake = true ∧ p < 4 ∧ (s.callSlot p).phase = .elected ∧
      (s.callSlot p).actB = false ∧ (s.callSlot p).ua.alive = true ∧ (s.callSlot p).ub.alive = true ∧
      (s.callSlot p).ua.badAt = some d ∧ (s.callSlot p).ub.handover = false ∧ s.unitFailing 7 = []) ∧
    (∃ (s : State) (p : Nat), s.awake = true ∧ p < 4 ∧ (s.callSlot p).phase = .electing ∧ (s.callSlot p).ub.alive = true ∧
      (s.callSlot p).ua.alive = false ∧ s.unitFailing 7 = []) ∧
    (∃ (s : State), s.pers = .caller ∧ s.caller.listened = true ∧ s.awake = true ∧ s.slotLoads = true ∧ s.caller.change = true) :=
  ⟨⟨upCs { phase := .listening }, { id := 0x01000000, data := [1] ++ le 7 0 ++ le 8 2 ++ le 8 0 }, 3, true, by decide +kernel⟩,
    ⟨{ upC with caller := { listening := true } }, by decide +kernel⟩,
    ⟨upCs { phase := .electing, ub := { alive := true } }, 3, true, by decide +kernel⟩,
    ⟨4, by decide +kernel⟩,
    ⟨upCs { phase := .elected, ua := { alive := true, badAt := some 1 }, ub := { alive := true } }, 3, 1, by decide +kernel⟩,
    ⟨upCs { phase := .electing, ub := { alive := true } }, 3, by decide +kernel⟩,
    ⟨{ upC with bus := { phase := .active, joined := true }, caller := { listened := true, change := true } },
      by decide +kernel⟩⟩

theorem witness_ResetsAndRestarts :
    (∃ (s : State), s.phase = .unpowered) ∧
    (∃ (s : State), s.phase ≠ .unpowered) ∧
    (∃ (s : State), s.phase ≠ .unpowered) ∧
    (∃ (s : State) (w : Nat) (k : Bool), s.phase ≠ .unpowered ∧ (1000 ≤ w ∨ 200 ≤ w ∧ k = true)) ∧
    (∃ (w : Nat), w < 200) ∧
    (∃ (s : State) (d : Nat), s.pw.devReset = some d ∧ s.tb = d % tbMod) ∧
    (∃ (s : State) (k : Nat), s.phase = .reset ∧ s.pw.lineBo = false ∧ s.pw.vpreBo = false ∧ k < 5 ∧ s.fio.lpres = false) ∧
    (∃ (s : State) (k : Nat) (m : Bool), s.phase = .reset ∧ s.pw.lineBo = false ∧ s.pw.vpreBo = false ∧ k < 8 ∧ (5 ≤ k ∨
      m = true)) ∧
    (∃ (s : State), s.awake = true) ∧
    (∃ (s : State), s.awake = true ∧ s.mgmt.restarting = false) ∧
    (∃ (s : State), s.awake = true ∧ s.mgmt.restarting = true) ∧
    (∃ (s : State) (d : Nat), s.mgmt.seriesAt = some d ∧ s.mgmt.restarting = true ∧ s.ilk.safe = false) ∧
    (∃ (s : State) (k : Nat), s.phase = .reset ∧ s.pw.lineBo = false ∧ s.pw.vpreBo = false ∧ k < 5) :=
  ⟨⟨{ up with phase := .unpowered }, by decide +kernel⟩,
    ⟨up, by decide +kernel⟩,
    ⟨up, by decide +kernel⟩,
    ⟨up, 200, true, by decide +kernel⟩,
    ⟨199, by decide +kernel⟩,
    ⟨{ up with pw := { devReset := some 1 } }, 1, by decide +kernel⟩,
    ⟨State.reset, 4, by decide +kernel⟩,
    ⟨State.reset, 7, false, by decide +kernel⟩,
    ⟨up, by decide +kernel⟩,
    ⟨up, by decide +kernel⟩,
    ⟨{ up with mgmt := { restarting := true } }, by decide +kernel⟩,
    ⟨{ up with mgmt := { restarting := true, seriesAt := some 1 } }, 1, by decide +kernel⟩,
    ⟨{ State.reset with fio := { lpres := true } }, 4, by decide +kernel⟩⟩

theorem witness_AllotmentAndLimiter :
    (∃ (s : State) (f : Frame) (c : Nat), s.frameArrives = true ∧ s.pw.allot.outstanding = true ∧ s.grantOf f = some (c, 0) ∧
      s.pw.pav = none) ∧
    (∃ (s : State) (f : Frame) (c : Nat), s.frameArrives = true ∧ s.grantOf f = some (c, 1) ∧ c < s.pw.allot.held) ∧
    (∃ (s : State) (c : Nat) (d : Nat) (rest : List (Nat × Nat)), s.pw.allot.lowers = (c, d) :: rest) ∧
    (∃ (s : State), s.awake = true ∧ s.pw.allot.outstanding = true ∧ s.pw.allot.noneRaised = false ∧ s.pw.pav = none) ∧
    (∃ (s : State), s.awake = true ∧ s.pw.allot.outstanding = true ∧ s.pw.allot.noneRaised = true ∧
      s.pw.allot.stopAsking = false ∧ s.applied.bus.listen = false) ∧
    (∃ (s : State) (v : Nat), s.awake = true ∧ 0 < v ∧ v < 65536) ∧
    (∃ (s : State), s.awake = true) ∧
    (∃ (s : State) (d : Nat), s.awake = true ∧ s.pw.limit = true ∧ s.pw.ovAt = none ∧ s.pw.limAt = some d ∧
      s.tb = tbAdd d 20000) ∧
    (∃ (s : State), s.pw.pav = none) :=
  ⟨⟨{ upBus with pw := { strap := 1, allot := { outstanding := true } } }, grantF 3 0, 3, by decide +kernel⟩,
    ⟨{ upBus with pw := { strap := 1, allot := { held := 3 } } }, grantF 2 1, 2, by decide +kernel⟩,
    ⟨{ up with pw := { allot := { held := 3, lowers := [(1, 1)] } } }, 1, 1, [], by decide +kernel⟩,
    ⟨{ up with pw := { allot := { outstanding := true } } }, by decide +kernel⟩,
    ⟨{ up with pw := { allot := { outstanding := true, noneRaised := true } } }, by decide +kernel⟩,
    ⟨up, 65535, by decide +kernel⟩,
    ⟨up, by decide +kernel⟩,
    ⟨{ up with tb := 20001, pw := { limit := true, limAt := some 1 } }, 1, by decide +kernel⟩,
    ⟨up, by decide +kernel⟩⟩

theorem witness_SupplyEvents :
    (∃ (s : State), s.awake = true ∧ s.pw.pfw = false) ∧
    (∃ (s : State), s.awake = true ∧ s.pw.pfw = true ∧ s.pw.pav = none ∧ s.store.owed = [] ∧ (∀ op,
      s.store.inflight = some op → op.stopped = none) ∧ (∀ op, s.store.imgOp = some op → op.stopped = none)) ∧
    (∃ (s : State), s.awake = true ∧ s.pw.vactOk = true) ∧
    (∃ (s : State), s.awake = true ∧ s.pw.vactOk = false) ∧
    (∃ (s : State), s.awake = true) ∧
    (∃ (s : State), s.phase ≠ .unpowered) ∧
    (∃ (s : State), s.awake = true) ∧
    (∃ (s : State), s.awake = true ∧ s.store.recalled = true ∧ s.pw.pfw = true ∧ s.pw.pav = none ∧ s.dspMode ≠ 2 ∧
      s.runs 0 = true ∧ s.runs 1 = true ∧ s.runs 7 = false ∧ s.runs 8 = false ∧ s.runs 9 = false) ∧
    (∃ (s : State), s.phase = .doze) ∧
    (∃ (s : State), s.phase = .doze ∧ s.pw.pfw = false) ∧
    (∃ (s : State) (op : StoreOp) (k : Nat), s.awake = true ∧ s.pw.pfw = true ∧ s.dspMode ≠ 2 ∧ s.store.owed = [] ∧
      s.store.inflight = some op ∧ op.stopped = some k ∧ s.store.imgOp = none) :=
  ⟨⟨upR, by decide +kernel⟩,
    ⟨{ upR with pw := { upR.pw with pfw := true } }, by decide +kernel⟩,
    ⟨{ upR with pw := { upR.pw with vactOk := true } }, by decide +kernel⟩,
    ⟨up, by decide +kernel⟩,
    ⟨up, by decide +kernel⟩,
    ⟨up, by decide +kernel⟩,
    ⟨up, by decide +kernel⟩,
    ⟨{ upR with pw := { strap := 1, pmun := 0x3C7F, pfw := true } }, by decide +kernel⟩,
    ⟨{ up with phase := .doze }, by decide +kernel⟩,
    ⟨{ up with phase := .doze }, by decide +kernel⟩,
    ⟨{ up with pw := { strap := 1, pfw := true }, store := { recalled := true, inflight := some { at_ := 1, old := [], new := [⟨5, 1⟩], pieces := [(5, 1)], stopped := some 0 } } },
      { at_ := 1, old := [], new := [⟨5, 1⟩], pieces := [(5, 1)], stopped := some 0 }, 0, by decide +kernel⟩⟩

theorem witness_WakeAndPavane :
    (∃ (s : State) (src : Nat), s.phase = .doze ∧ s.ev.firstWake = none ∧ src ≠ 63 ∧ s.wakes src = true) ∧
    (∃ (s : State), s.phase ≠ .doze) ∧
    (∃ (s : State) (d : Nat), s.phase = .doze ∧ s.scheduledAt = some d ∧ s.ev.firstWake = none) ∧
    (∃ (s : State), s.awake = true ∧ s.pw.pllStart = true ∧ s.pw.pav = none) ∧
    (∃ (s : State) (p : Pavane) (i : Nat), s.phase = .run ∧ s.pw.pllStart = false ∧ s.pw.pav = some p ∧
      s.pavNext p = some i ∧ s.pavWaits p i = false) ∧
    (∃ (s : State) (p : Pavane), s.phase = .run ∧ s.pw.pllStart = false ∧ s.pw.pav = some p ∧ s.pavNext p = none ∧
      p.cold = false ∧ p.next = 0) ∧
    (∃ (s : State) (n : Nat) (w : Nat), s.phase = .doze ∧ s.ev.firstWake = some (n, w)) ∧
    (∃ (s : State) (d : Nat) (n : Nat) (w : Nat), s.phase = .doze ∧ s.scheduledAt = some d ∧ s.ev.firstWake = some (n, w)) ∧
    (∃ (s : State) (d : Nat), s.phase = .nap ∧ s.huDueAt = some d) :=
  ⟨⟨{ up with phase := .doze }, 14, by decide +kernel⟩,
    ⟨up, by decide +kernel⟩,
    ⟨{ up with phase := .doze, xtalOk := true, cal := { alarm := some 2 } }, 2000000, by decide +kernel⟩,
    ⟨{ up with pw := { pllStart := true } }, by decide +kernel⟩,
    ⟨{ up with pw := { pav := some { todo := 2 } } }, { todo := 2 }, 1, by decide +kernel⟩,
    ⟨{ up with pw := { pav := some {} } }, {}, by decide +kernel⟩,
    ⟨{ up with phase := .doze, ev := { firstWake := some (85, 1) } }, 85, 1, by decide +kernel⟩,
    ⟨{ up with phase := .doze, xtalOk := true, cal := { alarm := some 2 }, ev := { firstWake := some (85, 1) } }, 2000000,
      85, 1, by decide +kernel⟩,
    ⟨{ up with phase := .nap, tb := 5, applied := { up.applied with pt := { hu := Vector.replicate 16 { en := true }, period := 1 } } },
      10000, by decide +kernel⟩⟩

theorem witness_BeatsCommitAndApply :
    (∃ (s : State) (w : Staged) (pt : Nat) (v : W32), s.awake = true ∧ s.acting = true ∧ s.paired = false ∧
      s.store.recalled = true ∧ s.mgmt.restarting = false ∧ s.tb % 10000 = 0 ∧ s.tb < tbMod ∧ s.beatAt ≠ s.tb ∧
      s.pair.bump = false ∧ s.staged = [w] ∧ w.at_ ≠ s.tb ∧ w.w = .point pt v ∧ v ≠ noVal) ∧
    (∃ (s : State), s.awake = true ∧ s.acting = true ∧ s.paired = false ∧ s.store.recalled = true ∧
      s.mgmt.restarting = false ∧ s.tb % 10000 = 0 ∧ s.tb < tbMod ∧ s.beatAt ≠ s.tb ∧ s.staged = [] ∧
      s.latchAll s.com.cfg = s.latched) ∧
    (∃ (s : State), s.phase = .doze) ∧
    (∃ (s : State) (w : Waiting) (e : Nat) (id : Nat), s.awake = true ∧ s.paired = false ∧ s.imageHeld = false ∧
      s.applyDue = some s.tb ∧ s.tb < tbMod ∧ s.waits = [w] ∧ w.epoch = some e ∧ w.fault = false ∧ w.org = .host id) ∧
    (∃ (s : State) (w : Waiting) (e : Nat) (id : Nat), s.awake = true ∧ s.imageHeld = false ∧ s.applyDue = some s.tb ∧
      s.tb < tbMod ∧ s.waits = [w] ∧ w.epoch = some e ∧ w.fault = true ∧ w.org = .host id) ∧
    (∃ (s : State) (e : Nat), (s.persist e).2 = true) ∧
    (∃ (s : State) (e : Nat), (s.persist e).2 = false) ∧
    (∃ (s : State) (e : Nat), s.store.switchOnly = true ∧ (s.persist e).2 = true) :=
  ⟨⟨{ up with tb := 10000, staged := [{ uid := 0, w := .point 0x100 5 }] }, { uid := 0, w := .point 0x100 5 }, 0x100, 5,
      by decide +kernel⟩,
    ⟨{ up with tb := 10000 }, by decide +kernel⟩,
    ⟨{ up with tb := 1, phase := .doze }, by decide +kernel⟩,
    ⟨{ up with applyDue := some 1, waits := [{ uid := 0, org := .host 3, tag := 7, epoch := some 9 }] },
      { uid := 0, org := .host 3, tag := 7, epoch := some 9 }, 9, 3, by decide +kernel⟩,
    ⟨{ up with applyDue := some 1, waits := [{ uid := 0, org := .host 3, tag := 7, epoch := some 9, fault := true }] },
      { uid := 0, org := .host 3, tag := 7, epoch := some 9, fault := true }, 9, 3, by decide +kernel⟩,
    ⟨up, 7, by decide +kernel⟩,
    ⟨{ up with worn := [areaBase true], store := { recalled := true, switchOnly := true, cur := some false } }, 7,
      by decide +kernel⟩,
    ⟨{ up with store := { switchOnly := true } }, 7, by decide +kernel⟩⟩

theorem witness_RoundsAdvance :
    (∃ (s : State), s.awake = true ∧ s.serves = false ∧ s.pers = .transport ∧ s.tb % 1000000 = 0 ∧ s.tb < tbMod ∧
      s.svc.roundAt ≠ s.tb) ∧
    (∃ (s : State), s.awake = true ∧ s.tb % 1000000 = 0 ∧ s.tb < tbMod ∧ s.svc.roundAt ≠ s.tb) ∧
    (∃ (s : State), s.awake = true ∧ s.svc.left ≠ []) ∧
    (∃ (s : State) (fs : List Frame) (zs : List (Nat × W32)), s.awake = true ∧ s.svc.pubDue = true ∧ s.svc.left = [] ∧
      s.staged = [] ∧ State.pubFrames { s with svc := { s.svc with pubDue := false } } (s.svc.roundAt / 1000000) = (fs, zs) ∧
      fs ≠ [] ∧ s.bus.fifo.length + fs.length ≤ 32 ∧ s.bus.onLine = true ∧ s.fifoOpen = true) ∧
    (∃ (s : State) (fs : List Frame) (zs : List (Nat × W32)), s.awake = true ∧ s.svc.pubDue = true ∧ s.svc.left = [] ∧
      s.staged = [] ∧ State.pubFrames { s with svc := { s.svc with pubDue := false } } (s.svc.roundAt / 1000000) = (fs, zs) ∧
      fs ≠ [] ∧ 32 < s.bus.fifo.length + fs.length) :=
  ⟨⟨{ up with tb := 1000000, pw := { strap := 0 } }, by decide +kernel⟩,
    ⟨{ up with tb := 1000000 }, by decide +kernel⟩,
    ⟨{ up with svc := { left := [31] } }, by decide +kernel⟩,
    ⟨upPub, pf.1, pf.2, by decide +kernel⟩,
    ⟨{ upPub with bus := { phase := .active, fifo := List.replicate 32 ent } }, pf.1, pf.2, by decide +kernel⟩⟩

theorem witness_RecallTakesTheImage :
    (∃ (s : State) (obs : RecallObs) (b : Bool) (a : ImageArea), s.awake = true ∧ s.runs 0 = false ∧ s.pw.overload = false ∧
      s.pw.pfw = false ∧ s.store.recalled = false ∧ (chooseArea s.areaA s.areaB obs.badA obs.badB).1 = some b ∧
      a = (if b then s.areaB else s.areaA)) ∧
    (∃ (s : State) (obs : RecallObs), s.awake = true ∧ s.pw.pfw = false ∧ s.store.recalled = false ∧
      (chooseArea s.areaA s.areaB obs.badA obs.badB).1 = none) ∧
    (∃ (s : State), s.awake = true ∧ s.store.recalled = true ∧ 2592000 ≤ s.unit.rounds ∧ (∀ r < 7, s.unitFailing (r + 1) = [])) ∧
    (∃ (s : State), s.unit.rounds < 2592000) :=
  ⟨⟨{ up with store := {}, areaA := { hdr := .valid, gen := 1 } }, {}, false, { hdr := .valid, gen := 1 }, by decide +kernel⟩,
    ⟨{ up with store := {} }, {}, by decide +kernel⟩,
    ⟨{ up with unit := { rounds := 2592000 } }, by decide +kernel⟩,
    ⟨up, by decide +kernel⟩⟩

theorem witness_PrecisionResultsPost :
    (∃ (s : State) (n : Nat) (d : Int), s.phase = .run ∧ n < 16 ∧ (nth s.prm.groups (n / 4) {}).state = 2 ∧
      (nth s.prm.groups (n / 4) {}).recov = 0 ∧ s.slotChan (n / 4) = some n ∧ (nth s.prm.ch n {}).susp = false ∧
      -8388608 < d ∧ d < 8388607) ∧
    (∃ (n : Nat), 16 ≤ n) ∧
    (∃ (s : State) (n : Nat) (obs : HuObs), s.phase = .run ∧ n < 16 ∧ s.huNow = some n ∧ -524288 ≤ obs.code ∧
      obs.code ≤ 8192000) ∧
    (∃ (s : State), s.phase = .run ∧ s.runs 1 = true ∧ s.prm.sweep = false ∧ s.applied.pt.huEnabled ≠ []) ∧
    (∃ (s : State) (g : Nat), g < 4 ∧ (nth s.prm.groups g {}).state = 1) ∧
    (∃ (s : State) (g : Nat), s.awake = true ∧ g < 4 ∧ (nth s.prm.groups g {}).state ≠ 0 ∧
      (nth s.prm.groups g {}).efault = false) :=
  ⟨⟨{ upPt 2 with prm := { groups := Vector.replicate 4 { state := 2, slots := 3 } } }, 15, 8388606, by decide +kernel⟩,
    ⟨16, by decide +kernel⟩,
    ⟨{ upPt 2 with prm := { sweep := true, huCur := 15 } }, 15, { code := 8192000, driveLimit := true }, by decide +kernel⟩,
    ⟨upPt 2, by decide +kernel⟩,
    ⟨upPt 1, 3, by decide +kernel⟩,
    ⟨upPt 2, 3, by decide +kernel⟩⟩

theorem witness_SarEventsRun :
    (∃ (s : State) (k : Nat), s.runs 1 = true ∧ k < 8 ∧ s.applied.sar.started.getLsbD k = true ∧ s.sar.calRun = false ∧
      s.trigPossible k = true ∧ (s.sar.calEnd = none ∨ 2 ≤ (nth s.applied.sar.trigs k {}).src ∧ s.sar.calEnd ≠ some s.tb) ∧
      (s.sarSeq k).pend = false) ∧
    (∃ (s : State) (k : Nat), s.awake = true ∧ s.runs 1 = true ∧ k < 8 ∧ s.applied.sar.started.getLsbD k = true ∧
      s.sar.calRun = false ∧ s.trigPossible k = true ∧ (s.sar.calEnd = none ∨ 2 ≤ (nth s.applied.sar.trigs k {}).src ∧
      s.sar.calEnd ≠ some s.tb) ∧ (s.sarSeq k).pend = true) ∧
    (∃ (k : Nat), 8 ≤ k) ∧
    (∃ (s : State) (u : Nat) (step : Nat), u < 20 ∧ s.runs 1 = true ∧ s.regDue u = some (s.tb, step) ∧ s.sar.cur = none ∧
      s.sar.gap = false ∧ s.sar.regq = []) ∧
    (∃ (s : State) (u : Nat) (c : Nat) (step : Nat), u < 20 ∧ s.runs 1 = true ∧ s.regDue u = some (s.tb, step) ∧
      s.sar.cur = some (.reg c) ∧ s.sar.regq = []) ∧
    (∃ (s : State) (u : Nat) (d : Nat) (st : Nat) (rest : List (Nat × Nat × Nat)), s.awake = true ∧ 16 ≤ u ∧ u < 20 ∧
      s.sar.regq = (u, d, st) :: rest ∧ s.tb = tbAdd d 2) ∧
    (∃ (s : State) (u : Nat) (d : Nat) (st : Nat) (rest : List (Nat × Nat × Nat)), s.awake = true ∧ u < 16 ∧ s.sar.regq = (u,
      d, st) :: rest) ∧
    (∃ (s : State) (u : Nat) (obs : SarObs), s.sar.cur = some (.reg u) ∧ u < 16 ∧ s.sar.regq = [] ∧ obs.ovr = none) ∧
    (∃ (s : State) (ch : Nat) (up : Bool) (obs : SarObs), s.sar.cur = some (.hk ch) ∧ 0x24 ≤ ch ∧ obs.ovr = some up) ∧
    (∃ (s : State), s.sar.gap = true) ∧
    (∃ (s : State) (obs : CalObs), s.awake = true ∧ s.sar.calRun = true ∧ s.tb = s.sar.calDue ∧ s.tb < tbMod ∧
      calWhyOf obs = 0 ∧ s.unitFailing 3 = []) ∧
    (∃ (s : State) (obs : CalObs), s.awake = true ∧ s.sar.calRun = true ∧ s.tb = s.sar.calDue ∧ s.tb < tbMod ∧ calWhyOf obs ≠ 0) ∧
    (∃ (s : State) (u : Nat), u < 20 ∧ s.regDue u = none) ∧
    (∃ (s : State) (u : Nat) (c : Nat) (step : Nat), u < 20 ∧ s.runs 1 = true ∧ s.regDue u = some (s.tb, step) ∧
      s.sar.cur = some (.hk c) ∧ s.sar.gap = false ∧ s.sar.regq = []) ∧
    (∃ (s : State) (k : Nat), k < 8 ∧ s.runs 1 = true ∧ s.applied.sar.started.getLsbD k = true ∧
      2 ≤ (nth s.applied.sar.trigs k {}).src ∧ s.sar.calEnd = some s.tb) :=
  ⟨⟨upSar, 7, by decide +kernel⟩,
    ⟨{ upSar with sar := { seqs := Vector.replicate 8 { pend := true } } }, 7, by decide +kernel⟩,
    ⟨8, by decide +kernel⟩,
    ⟨{ upR with tb := 50 }, 19, 0, by decide +kernel⟩,
    ⟨{ upR with tb := 50, sar := { cur := some (.reg 3) } }, 19, 3, 0, by decide +kernel⟩,
    ⟨{ upR with tb := 3, sar := { regq := [(19, 1, 0)] } }, 19, 1, 0, [], by decide +kernel⟩,
    ⟨{ upR with tb := 3, sar := { regq := [(15, 1, 0)] } }, 15, 1, 0, [], by decide +kernel⟩,
    ⟨{ upR with sar := { cur := some (.reg 15) } }, 15, { raw := 100 }, by decide +kernel⟩,
    ⟨{ upR with sar := { cur := some (.hk 0x24), hkq := [0x24] } }, 0x24, true, { raw := 100, ovr := some true },
      by decide +kernel⟩,
    ⟨{ up with sar := { gap := true } }, by decide +kernel⟩,
    ⟨{ up with sar := { calRun := true, calDue := 1 } },
      { gainU := 0x40000000, ofsU := 0, gainD := 0x40000000, ofsD := 1024 }, by decide +kernel⟩,
    ⟨{ up with sar := { calRun := true, calDue := 1 } },
      { gainU := 0x40000000, ofsU := 0, gainD := 0x40000000, ofsD := 1025 }, by decide +kernel⟩,
    ⟨up, 19, by decide +kernel⟩,
    ⟨{ upR with tb := 50, sar := { cur := some (.hk 0x24) } }, 19, 0x24, 0, by decide +kernel⟩,
    ⟨{ upSar with sar := { calEnd := some 1 } }, 7, by decide +kernel⟩⟩

theorem witness_PresenceEventsRun :
    (∃ (s : State) (n : Nat), n < 16 ∧ s.prSampled n = true ∧ s.tb % 1000 = 0 ∧ (s.prCh n).tick ≠ some s.tb ∧
      (s.prCh n).ovrNow = false) ∧
    (∃ (n : Nat), 16 ≤ n) ∧
    (∃ (s : State) (n : Nat) (d : Nat), n < 16 ∧ (s.prCh n).winAt = some d ∧ s.tb = tbAdd d (s.prCh n).winLen) ∧
    (∃ (s : State) (n : Nat) (d : Nat), n < 16 ∧ (s.prCh n).holdAt = some d ∧ s.tb = tbAdd d (s.prCh n).holdLen) ∧
    (∃ (s : State) (n : Nat) (d : Nat), n < 16 ∧ (s.prCh n).blankAt = some d ∧ s.tb = tbAdd d 500000) ∧
    (∃ (s : State) (n : Nat) (d : Nat), n < 16 ∧ s.armDue n = some d ∧ (s.prCh n).armed = false ∧ (s.prCh n).fault = false ∧
      s.prSampled n = true) ∧
    (∃ (s : State) (n : Nat) (d : Nat), n < 16 ∧ (s.prCh n).goodAt = some d ∧ (s.prCh n).fault = true ∧ s.tb = tbAdd d 1000000) ∧
    (∃ (s : State), s.applied.pr.mode = 1 ∧ s.pres.sampling = true) ∧
    (∃ (s : State) (n : Nat), n < 16 ∧ s.phase = .nap ∧ s.applied.pr.mode = 0 ∧ (s.prConf n).en = true ∧
      (s.prConf n).wen = true ∧ (s.prConf n).wcredit = true ∧ (s.prCh n).wkAt = none) ∧
    (∃ (s : State) (n : Nat) (o : PrObs), n < 16 ∧ s.prSampled n = true ∧ s.tb % 1000 = 0 ∧ (s.prCh n).tick ≠ some s.tb ∧
      (s.prFilter n o).2.2 = false ∧ o.biasLimit = false ∧ 200 ≤ o.dcMv ∧ o.dcMv ≤ 1800 ∧ ((s.prCh n).armed = false ∨
      (s.prFilter n o).2.1.natAbs ≤ (s.prConf n).th)) ∧
    (∃ (s : State) (n : Nat) (o : PrObs), n < 16 ∧ s.prSampled n = true ∧ s.tb % 1000 = 0 ∧ (s.prCh n).tick ≠ some s.tb ∧
      (s.prFilter n o).2.2 = false ∧ o.biasLimit = false ∧ 200 ≤ o.dcMv ∧ o.dcMv ≤ 1800 ∧ (s.prCh n).armed = true ∧
      (s.prCh n).fault = false ∧ (s.prCh n).blankAt = none ∧ (s.prCh n).pos.done = false ∧ (0 < (s.prCh n).pos.run ∨
      (s.prCh n).pos.spent = false) ∧ (s.prConf n).minw ≤ (s.prCh n).pos.run + 1 ∧ (s.prConf n).minw ≤ 100 ∧
      ((s.prConf n).th : Int) < (s.prFilter n o).2.1) :=
  ⟨⟨{ upPr 0 {} with tb := 1000 }, 15, by decide +kernel⟩,
    ⟨16, by decide +kernel⟩,
    ⟨{ upPr 0 { winAt := some 1, winLen := 5 } with tb := 6 }, 15, 1, by decide +kernel⟩,
    ⟨{ upPr 0 { holdAt := some 1, holdLen := 5 } with tb := 6 }, 15, 1, by decide +kernel⟩,
    ⟨{ upPr 0 { blankAt := some 1 } with tb := 500001 }, 15, 1, by decide +kernel⟩,
    ⟨upPr 0 { firstAt := some 1, biasAt := some 1 }, 15, 30000001, by decide +kernel⟩,
    ⟨{ upPr 0 { goodAt := some 1, fault := true } with tb := 1000001 }, 15, 1, by decide +kernel⟩,
    ⟨upPr 1 {}, by decide +kernel⟩,
    ⟨{ upPr 0 {} with phase := .nap }, 15, by decide +kernel⟩,
    ⟨{ upPr 0 {} with tb := 1000 }, 15, { input := 0 }, by decide +kernel⟩,
    ⟨{ upPr 0 { armed := true, firstAt := some 1, band := { h2 := 1000 * (1 + sqrt2 * tanL + tanL * tanL) / (tanL * tanL) } } with tb := 1000 },
      15, { input := 0 }, by decide +kernel⟩⟩

theorem witness_ValveTimingEvents :
    (∃ (s : State) (n : Nat), n < 16 ∧ (s.vlCh n).energised = true ∧ (s.vlBk (n / 4)).queue = []) ∧
    (∃ (n : Nat), 16 ≤ n) ∧
    (∃ (s : State) (n : Nat), n < 16 ∧ (nth s.sar.vl n {}).fresh = true ∧ (s.vlCh n).phase = .rise ∧
      (s.vlBk (n / 4)).queue = [] ∧ ((s.vlConf n).ipeak : Rat) / 100 ≤ ((nth s.sar.vl n {}).code : Rat) / 10000) ∧
    (∃ (s : State) (n : Nat), n < 16 ∧ (nth s.sar.vl n {}).fresh = true ∧ (s.vlCh n).phase = .fall ∧ (s.vlCh n).hiRun = 0 ∧
      (s.vlBk (n / 4)).queue = [] ∧ ((nth s.sar.vl n {}).code : Rat) / 10000 ≤ ((s.vlCh n).ihold : Rat) / 200) ∧
    (∃ (s : State) (n : Nat) (b : Nat), n < 16 ∧ n / 4 = b ∧ (s.vlBk b).queue = [n] ∧ (s.vlBk b).slot = none ∧
      (s.vlBk b).slotFreeAt = none ∧ (s.vlBk b).bfault = false ∧ (s.vlBk b).limit = false ∧ s.bankRuns b = true ∧
      s.energisedIn b n = [] ∧ (s.vlCh n).phase = .wait ∧ (s.vlCh n).diag = none) ∧
    (∃ (s : State) (n : Nat), n < 16 ∧ ((s.vlCh n).phase = .rise ∨ (s.vlCh n).phase = .peak) ∧ (s.vlConf n).pimode ≠ 0 ∧
      (s.vlCh n).pullAt = none ∧ (s.vlBk (n / 4)).queue = []) ∧
    (∃ (s : State) (n : Nat) (d : Nat), n < 16 ∧ ((s.vlCh n).phase = .rise ∨ (s.vlCh n).phase = .peak) ∧
      (s.vlConf n).pimode = 0 ∧ (s.vlCh n).pullAt = some d ∧ (s.vlCh n).fitDone = true ∧ (s.vlCh n).noSeek = false ∧
      (s.vlBk (n / 4)).queue = []) ∧
    (∃ (s : State) (n : Nat), n < 16 ∧ (s.vlCh n).phase = .fall ∧ (s.vlBk (n / 4)).queue = []) ∧
    (∃ (s : State), s.awake = true ∧ s.tb % 1000 = 0 ∧ s.vl.meanAt ≠ s.tb) ∧
    (∃ (s : State) (b : Nat) (d : Nat) (n : Nat), b < 4 ∧ s.phase ≠ .doze ∧ (s.vlBk b).singleAt = some d ∧
      s.energisedIn b 99 = [n] ∧ s.tb = carrierFrom (s.vlCh n).carrier (s.vlCh n).period (tbAdd d 10000)) ∧
    (∃ (s : State) (b : Nat), b < 4 ∧ s.tb % 100000 = 0 ∧ (s.vlBk b).winAt ≠ s.tb ∧ (s.vlBk b).late = [] ∧ 0 < (s.vlBk b).n ∧
      (s.vlBk b).limit = false ∧
      ((s.vlBk b).sum : Rat) / ((s.vlBk b).n : Rat) / 4 ≤ 50 * ((nth s.applied.vl.banks b {}).bcont : Rat) + 100) ∧
    (∃ (s : State) (b : Nat), b < 4 ∧ s.tb % 100000 = 0 ∧ (s.vlBk b).winAt ≠ s.tb ∧ (s.vlBk b).late = [] ∧ 0 < (s.vlBk b).n ∧
      50 * ((nth s.applied.vl.banks b {}).bcont : Rat) + 100 < ((s.vlBk b).sum : Rat) / ((s.vlBk b).n : Rat) / 4) ∧
    (∃ (s : State) (n : Nat) (d : Nat), n < 16 ∧ (s.vlCh n).winDue = some d ∧ (s.vlCh n).dutylim = false ∧ s.tb = d % tbMod) ∧
    (∃ (s : State) (n : Nat) (d : Nat), n < 16 ∧ (s.vlCh n).usedFrom = some d ∧ (s.vlCh n).inWin = true ∧
      (s.vlCh n).limitHit = false ∧ (nth s.applied.vl.duty n {}).limit < 100 ∧ (nth s.applied.vl.duty n {}).action = 0 ∧
      (s.vlBk (n / 4)).queue = []) ∧
    (∃ (s : State) (n : Nat) (obs : VlObs) (r : ℚ) (l : ℚ) (i : ℚ) (e : ℚ) (u : ℚ) (d : ℚ) (T : ℚ) (k : ℚ), n < 16 ∧
      (nth s.sar.vl n {}).fresh = true ∧ (s.vlCh n).phase = .hold ∧ (s.vlCh n).sat = false ∧ (s.vlCh n).hiRun < 19 ∧
      (s.vlBk (n / 4)).queue = [] ∧ 0 < obs.vactMv ∧ T = s.vlT n ∧ r = (s.vlCh n).rnow.getD 20 ∧
      l = (s.vlCh n).lest.getD (5 / 100) ∧ i = ((nth s.sar.vl n {}).code : Rat) / 10000 ∧
      e = ((s.vlCh n).ihold : Rat) / 200 - i ∧ u = (s.vlCh n).u + r / 8 * e ∧
      d = (((s.vlCh n).ihold : Rat) / 200 * r + l / (4 * T) * e + u) / ((obs.vactMv : Rat) / 1000) ∧
      k = min 1 (max 0 (min 1 d) + (s.vlCh n).carry)) ∧
    (∃ (s : State) (n : Nat) (obs : VlObs) (i : ℚ) (r : ℚ) (l : ℚ), n < 16 ∧ (nth s.sar.vl n {}).fresh = true ∧
      (s.vlCh n).phase = .rise ∧ (s.vlBk (n / 4)).queue = [] ∧ (s.vlCh n).hiRun < 20 ∧ (s.vlCh n).nsamp = 7 ∧
      (s.vlCh n).fitDone = false ∧ (s.vlCh n).samples.length = 5 ∧
      tbSub s.tb (s.vlCh n).boostAt < 100 * (s.vlConf n).piblank ∧ i = ((nth s.sar.vl n {}).code : Rat) / 10000 ∧
      i < ((s.vlConf n).ipeak : Rat) / 100 ∧
      fitCoil ((s.vlCh n).samples ++ [(i, i - ((s.vlCh n).prevI : Rat) / 10000, (obs.vactMv : Rat) / 1000)]) (s.vlT n) = some (r,
      l) ∧ 0 < l ∧ 1 ≤ r ∧ r ≤ 1000) ∧
    (∃ (s : State) (n : Nat) (obs : VlObs) (i : ℚ) (r : ℚ) (l : ℚ) (e : ℚ), n < 16 ∧ (nth s.sar.vl n {}).fresh = true ∧
      ((s.vlCh n).phase = .peak ∨ (s.vlCh n).phase = .rise ∧ (s.vlCh n).fitDone = true) ∧ (s.vlBk (n / 4)).queue = [] ∧
      s.awake = true ∧ (s.vlCh n).hiRun < 19 ∧ (s.vlCh n).noSeek = false ∧ (s.vlCh n).pullAt = none ∧
      (s.vlCh n).rest = some r ∧ (s.vlCh n).lest = some l ∧ 0 < l ∧ 1 ≤ r ∧ r ≤ 1000 ∧
      100 * (s.vlConf n).piblank ≤ tbSub s.tb (s.vlCh n).boostAt ∧ i = ((nth s.sar.vl n {}).code : Rat) / 10000 ∧
      e = (obs.vactMv : Rat) / 1000 * (s.vlCh n).duty - i * r - l * (i - ((s.vlCh n).prevI : Rat) / 10000) / s.vlT n) :=
  ⟨⟨upVl { phase := .hold, dnext := 1 / 2 }, 15, by decide +kernel⟩,
    ⟨16, by decide +kernel⟩,
    ⟨{ upVl { phase := .rise } with sar := fresh 10000 }, 15, by decide +kernel⟩,
    ⟨{ upVl { phase := .fall } with sar := fresh 3000 }, 15, by decide +kernel⟩,
    ⟨{ upVl { phase := .wait } with vl := { ch := upd up.vl.ch 15 fun _ => { phase := .wait }, bank := upd up.vl.bank 3 fun _ => { queue := [15] } } },
      15, 3, by decide +kernel⟩,
    ⟨{ conf { up.applied with vl := { chans := Vector.replicate 16 { en := true, pimode := 6 } } } upR with vl := { ch := upd up.vl.ch 15 fun _ => { phase := .peak } } },
      15, by decide +kernel⟩,
    ⟨upVl { phase := .peak, pullAt := some 1, fitDone := true }, 15, 1, by decide +kernel⟩,
    ⟨upVl { phase := .fall }, 15, by decide +kernel⟩,
    ⟨{ upVl {} with tb := 1000 }, by decide +kernel⟩,
    ⟨{ upBk { singleAt := some 1, shared := true } with tb := 10050, vl := { ch := upd up.vl.ch 15 fun _ => { phase := .hold }, bank := upd up.vl.bank 3 fun _ => { singleAt := some 1, shared := true } } },
      3, 1, 15, by decide +kernel⟩,
    ⟨{ upBk { sum := 12400, n := 1 } with tb := 100000 }, 3, by decide +kernel⟩,
    ⟨{ upBk { sum := 12401, n := 1 } with tb := 100000 }, 3, by decide +kernel⟩,
    ⟨upVl { winDue := some 1 }, 15, 1, by decide +kernel⟩,
    ⟨{ conf { up.applied with vl := { duty := Vector.replicate 16 { win := 1, limit := 99 } } } upR with vl := { ch := upd up.vl.ch 15 fun _ => { phase := .hold, usedFrom := some 1, inWin := true } } },
      15, 1, by decide +kernel⟩,
    ⟨upVh, 15, { vactMv := 24000 }, 20, 5 / 100, 3 / 10, vhE, (20 / 8 * vhE), vhD, (upVh.vlT 15),
      (min 1 (max 0 (min 1 vhD) + (upVh.vlCh 15).carry)), by decide +kernel⟩,
    ⟨{ upVl { phase := .rise, inPeriod := true, nsamp := 7, prevI := 5900, samples := [(1 / 10, 1 / 100, 12), (2 / 10, 1 / 100, 14), (3 / 10, 1 / 100, 16), (4 / 10, 1 / 100, 18), (5 / 10, 1 / 100, 20)] } with sar := fresh 6000 },
      15, { vactMv := 22000 }, 6 / 10, 20, 5 / 100, by decide +kernel⟩,
    ⟨{ upVl { phase := .peak, inPeriod := true, rest := some 20, lest := some (5 / 100), motion := true, prevI := 6000, duty := 1 / 2 } with sar := fresh 6000, tb := 100000 },
      15, { vactMv := 24000 }, 6 / 10, 20, 5 / 100, 0, by decide +kernel⟩⟩

theorem witness_ValveFaultEvents :
    (∃ (s : State) (n : Nat), n < 16 ∧ ((s.vlCh n).phase = .rise ∨ (s.vlCh n).phase = .peak) ∧ (s.vlCh n).prevI < 200 ∧
      (s.vlCh n).fault = 0 ∧ (s.vlBk (n / 4)).queue = []) ∧
    (∃ (s : State) (n : Nat), n < 16 ∧ (s.vlCh n).energised = true ∧ (s.vlCh n).leftWait = none ∧ (s.vlCh n).fault = 0 ∧
      (s.vlBk (n / 4)).queue = []) ∧
    (∃ (s : State) (n : Nat) (d : Nat), n < 16 ∧ (s.vlCh n).phase.on = true ∧ (s.vlCh n).leftWait = some d ∧
      tbSub s.tb d < 20 ∧ (s.vlCh n).fault = 0 ∧ (s.vlBk (n / 4)).queue = []) ∧
    (∃ (s : State) (n : Nat), n < 16 ∧ (s.vlConf n).en = true ∧ (s.vlCh n).fault = 0 ∧ (s.vlBk (n / 4)).queue = []) ∧
    (∃ (s : State) (b : Nat), b < 4 ∧ (s.vlBk b).bfault = false ∧ (s.vlBk b).queue = []) ∧
    (∃ (b : Nat), 4 ≤ b) ∧
    (∃ (s : State) (n : Nat), n < 16 ∧ (s.vlCh n).phase = .diag ∧ (s.vlCh n).diagReg = true ∧ (s.vlBk (n / 4)).queue = [] ∧
      (s.vlWant n && s.vlFree n) = false) ∧
    (∃ (s : State) (n : Nat), n < 16 ∧ (s.vlCh n).phase = .diag ∧ (s.vlCh n).diagReg = false ∧ (s.vlCh n).fault = 0 ∧
      (s.vlBk (n / 4)).queue = []) ∧
    (∃ (s : State) (n : Nat), n < 16 ∧ (s.vlConf n).en = true ∧ (s.vlCh n).energised = false ∧ (s.vlCh n).fault = 0 ∧
      (s.vlBk (n / 4)).queue = []) :=
  ⟨⟨upVl { phase := .peak, prevI := 199 }, 15, by decide +kernel⟩,
    ⟨upVl { phase := .hold }, 15, by decide +kernel⟩,
    ⟨{ upVl { phase := .rise, leftWait := some 1 } with tb := 20 }, 15, 1, by decide +kernel⟩,
    ⟨upVl {}, 15, by decide +kernel⟩,
    ⟨upBk {}, 3, by decide +kernel⟩,
    ⟨4, by decide +kernel⟩,
    ⟨upVl { phase := .diag, diagReg := true, iSum := 2, vdSum := 3 }, 15, by decide +kernel⟩,
    ⟨upVl { phase := .diag }, 15, by decide +kernel⟩,
    ⟨upVl {}, 15, by decide +kernel⟩⟩

theorem witness_AnalogOutputEvents :
    (∃ (s : State) (n : Nat), n < 16 ∧ (s.aoCh n).slewing = true ∧ s.outsDrive = true) ∧
    (∃ (n : Nat), 16 ≤ n) ∧
    (∃ (s : State) (n : Nat), n < 16 ∧ (s.aoConf n).en = true ∧ s.sar.cur = some (.hk (0x14 + n)) ∧ (s.aoCh n).slewing = true) ∧
    (∃ (s : State) (n : Nat) (obs : SarObs), n < 16 ∧ s.awake = true ∧ (s.aoConf n).en = true ∧
      s.sar.cur = some (.hk (0x14 + n)) ∧ s.acting = true ∧ s.pw.driveOff = false ∧ s.pw.pmEver.getLsbD 6 = true ∧
      (s.aoCh n).slewing = false ∧ (s.aoCh n).slewEnd = none ∧ (s.aoCh n).fault = false ∧ (s.aoCh n).mismatch = false ∧
      1 ≤ (s.aoCh n).badRun ∧ 50 * (s.aoConf n).mistol < (s.sarCode (0x14 + n) obs - 5 * (s.aoWant n : Int)).natAbs) ∧
    (∃ (s : State) (n : Nat), n < 16 ∧ s.awake = true ∧ (s.aoConf n).en = true ∧ s.outsDrive = true ∧ (s.aoCh n).fault = false) ∧
    (∃ (s : State) (n : Nat), n < 16 ∧ (s.aoCh n).fault = true ∧ (s.aoConf n).slew ≠ 0 ∧
      (s.gateEntry fun e => e.aoMask.getLsbD n) = none ∧ s.safeSets (nth s.applied.ilk.safeAo n {}) = false) ∧
    (∃ (s : State) (n : Nat), n < 16 ∧ s.sar.cur ≠ some (.hk (0x14 + n))) ∧
    (∃ (s : State) (n : Nat) (obs : SarObs) (d : Nat), n < 16 ∧ (s.aoConf n).en = true ∧ s.sar.cur = some (.hk (0x14 + n)) ∧
      (s.aoCh n).slewEnd = some d ∧ d < tbMod ∧ s.tb = tbAdd d 10000 ∧ obs.earlier = true) :=
  ⟨⟨upAo { slewing := true, target := 1 }, 15, by decide +kernel⟩,
    ⟨16, by decide +kernel⟩,
    ⟨{ upAo { slewing := true, target := 1 } with sar := { cur := some (.hk 0x23), hkq := [0x23] } }, 15, by decide +kernel⟩,
    ⟨{ upAo { badRun := 1 } with sar := { cur := some (.hk 0x23) }, pw := { up.pw with pmEver := 0x40 } }, 15,
      { raw := 500 }, by decide +kernel⟩,
    ⟨upAo { lvl := 5000, target := 5 }, 15, by decide +kernel⟩,
    ⟨upAo { fault := true }, 15, by decide +kernel⟩,
    ⟨up, 15, by decide +kernel⟩,
    ⟨{ upAo { slewEnd := some 1 } with tb := 10001, sar := { cur := some (.hk 0x23), hkq := [0x23] } }, 15,
      { raw := 51, earlier := true }, 1, by decide +kernel⟩⟩

theorem witness_FanEvents :
    (∃ (s : State) (n : Nat), n < 8 ∧ s.outsDrive = true ∧ (s.fnConf n).en = true) ∧
    (∃ (n : Nat), 8 ≤ n) ∧
    (∃ (n : Nat) (obs : TachObs), n < 8 ∧ obs.widthNs < 2000) ∧
    (∃ (s : State) (n : Nat) (obs : TachObs), n < 8 ∧ s.phase = .run ∧ (s.fnConf n).en = true ∧ (s.fnConf n).ppr ≠ 0 ∧
      2000 ≤ obs.widthNs ∧ 2000 < obs.fnEdgeNs ∧ (s.fnCh n).lastEdgeAt.isSome = true ∧
      (s.fnCh n).intervals.length + 1 = (s.fnConf n).ppr ∧ 0 < obs.count) ∧
    (∃ (s : State) (n : Nat) (d : Nat), n < 8 ∧ (s.fnCh n).lastEdgeAt = some d) ∧
    (∃ (s : State) (n : Nat), n < 8 ∧ s.awake = true ∧ (s.fnCh n).spinAt.isSome = true ∧ s.fnWatched n = true ∧
      (s.fnCh n).edgeSeen = false ∧ (s.fnCh n).toldLost = false) ∧
    (∃ (s : State) (n : Nat), n < 8 ∧ s.awake = true ∧ (s.fnCh n).spinAt.isSome = true ∧ (s.fnCh n).lowAt.isSome = true ∧
      s.fnWatched n = true ∧ (s.fnCh n).edgeSeen = true ∧ (s.fnCh n).told = false) ∧
    (∃ (s : State) (n : Nat) (d : Nat), n < 8 ∧ (s.fnCh n).stalloffAt = some d) ∧
    (∃ (s : State) (n : Nat) (d : Nat), n < 8 ∧ (s.fnCh n).highAt = some d ∧ (s.fnCh n).stall = true) :=
  ⟨⟨upFn {}, 7, by decide +kernel⟩,
    ⟨8, by decide +kernel⟩,
    ⟨7, { count := 1, widthNs := 1999, fnEdgeNs := 0 }, by decide +kernel⟩,
    ⟨upFn { lastEdgeAt := some 0 }, 7, { count := 1, widthNs := 2000, fnEdgeNs := 2001 }, by decide +kernel⟩,
    ⟨upFn { lastEdgeAt := some 1, rpm := 5 }, 7, 1, by decide +kernel⟩,
    ⟨upFn { applied := 5000, cur := 5000, spinAt := some 1 }, 7, by decide +kernel⟩,
    ⟨upFn { applied := 5000, cur := 5000, spinAt := some 1, edgeSeen := true, lowAt := some 1 }, 7, by decide +kernel⟩,
    ⟨upFn { stalloffAt := some 1 }, 7, 1, by decide +kernel⟩,
    ⟨upFn { highAt := some 1, stall := true }, 7, 1, by decide +kernel⟩⟩

theorem witness_FloatingEvents :
    (∃ (s : State) (k : Nat), k < 8 ∧ s.awake = true ∧ s.fdLive k = true ∧ (s.fdRun k).homing = false ∧
      (s.fdRun k).dir = .opening ∧ (s.fdRun k).unsure = false ∧ (s.fdRun k).target = some 10000 ∧ s.fdTarget k = some 10000) ∧
    (∃ (k : Nat), 8 ≤ k) ∧
    (∃ (s : State) (k : Nat) (tg : Nat), k < 8 ∧ (s.fdConf k).en = true ∧ s.acting = true ∧ s.fdLive k = true ∧
      (s.fdRun k).dir = .pause ∧ (s.fdRun k).held = false ∧ (s.fdRun k).on = .still ∧ (s.fdRun k).unsure = false ∧
      (s.fdRun k).last = .opening ∧ s.fdTarget k = some tg ∧ ((s.fdConf k).deadb : Rat) < (tg : Rat) - (s.fdRun k).p) ∧
    (∃ (s : State) (k : Nat), k < 8 ∧ s.awake = true ∧ s.fdLive k = true ∧ (s.fdRun k).homing = true ∧
      (s.fdRun k).dir = .closing ∧ s.fdTarget k = some 0) ∧
    (∃ (s : State) (k : Nat), k < 8 ∧ s.fdLive k = false ∧ (s.fdRun k).homing = false ∧ ((s.fdRun k).dir = .opening ∨
      (s.fdRun k).dir = .closing)) :=
  ⟨⟨upFd 10000 { dir := .opening, target := some 10000 }, 7, by decide +kernel⟩,
    ⟨8, by decide +kernel⟩,
    ⟨upFd 11 { dir := .pause, last := .opening }, 7, 11, by decide +kernel⟩,
    ⟨upFd 0 { homing := true, dir := .closing }, 7, by decide +kernel⟩,
    ⟨{ upFd 0 { dir := .opening } with pw := { strap := 1 } }, 7, by decide +kernel⟩⟩

theorem witness_FieldInputEvents :
    (∃ (s : State), s.awake = true ∧ s.fio.lpres = false) ∧
    (∃ (s : State), s.awake = true ∧ s.fio.lpres = true) ∧
    (∃ (s : State), s.awake = true ∧ s.fio.lpres = true ∧ s.fio.linkok = true) ∧
    (∃ (s : State), s.awake = true ∧ s.fio.lpres = true ∧ s.fio.linkok = false) ∧
    (∃ (s : State) (n : Nat) (mv : Int) (t0 : Nat) (l : Bool), n < 16 ∧ s.senses = true ∧ s.fio.linkok = true ∧
      (s.diConf n).en = true ∧ l = diLevel (s.diConf n).typ false mv (s.diCh n).level ∧ (s.diCh n).level ≠ l ∧
      tbSub t0 (s.diCh n).countFrom ≤ 2 ^ 40 ∧ (s.diCh n).valid = true) ∧
    (∃ (s : State) (n : Nat) (mv : Int) (t0 : Nat) (l : Bool), n < 16 ∧ s.senses = true ∧ s.fio.linkok = true ∧
      (s.diConf n).en = true ∧ l = diLevel (s.diConf n).typ false mv (s.diCh n).level ∧ (s.diCh n).level ≠ l ∧
      tbSub t0 (s.diCh n).countFrom ≤ 2 ^ 40 ∧ (s.diCh n).valid = false) ∧
    (∃ (n : Nat), 16 ≤ n) ∧
    (∃ (s : State) (n : Nat), n < 16 ∧ s.senses = true ∧ s.fio.linkok = true ∧ (s.diConf n).en = true) ∧
    (∃ (s : State) (n : Nat) (d : Nat), n < 16 ∧ s.senses = true ∧ s.fio.fullAt = some d ∧ s.tb % 1000 = 0 ∧
      (s.diCh n).tick ≠ some s.tb ∧ 1000 < tbSub s.tb d ∧ (s.diConf n).en = true ∧ (s.diConf n).wben = true) ∧
    (∃ (s : State) (n : Nat) (d : Nat), n < 16 ∧ s.awake = true ∧ (s.diCh n).lowT1 = some d ∧ (s.diCh n).wb = false ∧
      (s.diCh n).wbDie = false ∧ s.fio.linkok = true ∧ (s.diConf n).en = true ∧ (s.diConf n).wben = true ∧
      s.fio.fullAt.isSome = true) ∧
    (∃ (s : State) (n : Nat) (d : Nat), n < 16 ∧ s.awake = true ∧ (s.diCh n).highT1 = some d ∧ (s.diCh n).wb = true ∧
      (s.diCh n).wbDie = true ∧ s.fio.linkok = true ∧ s.fio.fullAt.isSome = true) ∧
    (∃ (s : State) (n : Nat) (mv : Int), n < 16 ∧ s.phase = .doze ∧ s.fio.lpres = true ∧ (s.diConf n).en = true ∧
      (s.diConf n).wake = true ∧ (s.diCh n).entryOk = true ∧
      diLevel (s.diConf n).typ true mv (s.diCh n).entry ≠ (s.diCh n).entry) ∧
    (∃ (s : State) (n : Nat) (d : Nat), n < 16 ∧ (s.diCh n).lowT1 = some d ∧ (s.diCh n).wbDie = false ∧
      s.fio.linkok = false ∧ (s.diConf n).en = true ∧ (s.diConf n).wben = true ∧ s.fio.fullAt.isSome = true) ∧
    (∃ (s : State) (n : Nat), n < 16 ∧ s.phase = .doze ∧ (s.diCh n).entryOk = false) :=
  ⟨⟨up, by decide +kernel⟩,
    ⟨{ upDi { valid := true, level := true } with fio := { lpres := true } }, by decide +kernel⟩,
    ⟨upDi { valid := true, level := true }, by decide +kernel⟩,
    ⟨{ up with fio := { lpres := true, di := Vector.replicate 16 { wbDie := true } } }, by decide +kernel⟩,
    ⟨upDi { valid := true }, 15, 11501, 1, true, by decide +kernel⟩,
    ⟨upDi {}, 15, 11501, 1, true, by decide +kernel⟩,
    ⟨16, by decide +kernel⟩,
    ⟨upDi {}, 15, by decide +kernel⟩,
    ⟨{ upDi {} with tb := 2000 }, 15, 0, by decide +kernel⟩,
    ⟨upDi { lowT1 := some 1 }, 15, 1, by decide +kernel⟩,
    ⟨upDi { highT1 := some 1, wb := true, wbDie := true }, 15, 1, by decide +kernel⟩,
    ⟨{ upDi { entry := true, entryOk := true, level := true } with phase := .doze }, 15, 8999, by decide +kernel⟩,
    ⟨{ upDi { lowT1 := some 1 } with fio := { lpres := true, fullAt := some 0, di := upd up.fio.di 15 fun _ => { lowT1 := some 1 } } },
      15, 1, by decide +kernel⟩,
    ⟨{ upDi {} with phase := .doze }, 15, by decide +kernel⟩⟩

theorem witness_FieldOutputEvents :
    (∃ (s : State) (n : Nat), n < 8 ∧ s.awake = true ∧ (s.doCh n).pad = true ∧ (s.doCh n).short = false) ∧
    (∃ (s : State) (n : Nat), n < 8 ∧ s.awake = true ∧ (s.doCh n).short = true ∧ (s.doConf n).retry = true) ∧
    (∃ (s : State) (n : Nat), n < 8 ∧ (s.doConf n).retry = false) ∧
    (∃ (s : State) (n : Nat), n < 8 ∧ s.awake = true ∧ (s.doCh n).pad = true) ∧
    (∃ (s : State) (n : Nat), n < 8 ∧ (s.doCh n).ovt = true) ∧
    (∃ (s : State) (n : Nat), n < 8 ∧ s.awake = true ∧ (s.doCh n).pad = true ∧ (s.doCh n).openl = false ∧
      s.fio.fullAt.isSome = true) ∧
    (∃ (n : Nat), n < 8) ∧
    (∃ (n : Nat), 8 ≤ n) :=
  ⟨⟨upDo { pad := true, cmd := true }, 7, by decide +kernel⟩,
    ⟨upDo { short := true }, 7, by decide +kernel⟩,
    ⟨up, 7, by decide +kernel⟩,
    ⟨upDo { pad := true, cmd := true }, 7, by decide +kernel⟩,
    ⟨upDo { ovt := true }, 7, by decide +kernel⟩,
    ⟨upDo { pad := true, cmd := true }, 7, by decide +kernel⟩,
    ⟨7, by decide +kernel⟩,
    ⟨8, by decide +kernel⟩⟩

theorem witness_InterlocksTripAndRelease :
    (∃ (s : State) (i : Nat) (d : Nat), i < 32 ∧ s.evaluates = true ∧ (s.ilkEntry i).en = true ∧
      (s.ilkRun i).tripped = false ∧ (s.ilkRun i).trueAt = some d) ∧
    (∃ (s : State) (i : Nat), i < 32 ∧ (s.ilkRun i).trueAt = none) ∧
    (∃ (s : State) (i : Nat) (d : Nat), i < 32 ∧ s.evaluates = true ∧ (s.ilkRun i).tripped = true ∧
      (s.ilkRun i).latched = false ∧ (s.ilkRun i).falseAt = some d) ∧
    (∃ (s : State) (i : Nat), i < 32 ∧ (s.ilkRun i).latched = true ∧ (s.ilkRun i).pendClear = false) ∧
    (∃ (i : Nat), 32 ≤ i) :=
  ⟨⟨upIlk { trueAt := some 1 }, 31, 1, by decide +kernel⟩,
    ⟨upIlk {}, 31, by decide +kernel⟩,
    ⟨upIlk { tripped := true, falseAt := some 1 }, 31, 1, by decide +kernel⟩,
    ⟨upIlk { tripped := true, latched := true }, 31, by decide +kernel⟩,
    ⟨32, by decide +kernel⟩⟩

theorem witness_HousekeepingEvents :
    (∃ (s : State), s.awake = true ∧ s.tb < tbMod ∧ s.tb % 100000 = 0 ∧ s.hk.lastRound ≠ s.tb / 100000) ∧
    (∃ (s : State) (o : HkCodes), s.hk.reading = true ∧ s.hk.starting = false ∧ s.runs 1 = true ∧ s.hkDone true = true ∧
      o = s.hkCodes true ∧ hkValid o = true ∧ s.hk.hist.length < 10 ∧ s.hk.shut = false ∧
      junction (o.v2 - o.v1) s.unit.nf < 100 * s.applied.therm.tshut ∧ -0x80000000 < junction (o.v2 - o.v1) s.unit.nf) ∧
    (∃ (s : State), s.hk.reading = true ∧ s.hk.starting = false ∧ s.runs 1 = true ∧ s.hkDone true = true ∧
      hkValid (s.hkCodes true) = false ∧ s.hk.badRun = 0) ∧
    (∃ (s : State) (o : HkCodes), s.hk.starting = true ∧ s.runs 1 = true ∧ s.hkDone false = true ∧ o = s.hkCodes false ∧
      hkValid o = true ∧ s.hk.shut = true) ∧
    (∃ (s : State) (d : Nat), s.awake = true ∧ s.hk.shut = true ∧ s.aon.thermLatched = false ∧ s.hk.runAt = some d) ∧
    (∃ (s : State), s.aon.thermLatched = true) ∧
    (∃ (s : State) (r : Bytes) (rest : List Bytes), s.hk.toLog = r :: rest) ∧
    (∃ (s : State), s.hk.toLog = []) ∧
    (∃ (s : State), (s.hk.starting = true ∨ s.hkDone true = false)) :=
  ⟨⟨{ upR with tb := 100000 }, by decide +kernel⟩,
    ⟨{ upR with hk := { reading := true, conv := hkCv true 0 } },
      (({ upR with hk := { reading := true, conv := hkCv true 0 } } : State).hkCodes true), by decide +kernel⟩,
    ⟨{ upR with hk := { reading := true, conv := hkCv true 17 } }, by decide +kernel⟩,
    ⟨{ upR with hk := { starting := true, shut := true, conv := hkCv false 0 } },
      (({ upR with hk := { starting := true, shut := true, conv := hkCv false 0 } } : State).hkCodes false), by decide +kernel⟩,
    ⟨{ up with hk := { shut := true, runAt := some 1 } }, 1, by decide +kernel⟩,
    ⟨{ up with aon := { thermLatched := true } }, by decide +kernel⟩,
    ⟨{ up with hk := { toLog := [[1, 2]] } }, [1, 2], [], by decide +kernel⟩,
    ⟨up, by decide +kernel⟩,
    ⟨up, by decide +kernel⟩⟩

theorem witness_DisplayEvents :
    (∃ (s : State) (e : Nat), s.awake = true ∧ s.dsp.frameDue = some e ∧ s.runs 8 = true ∧ s.dsp.inReg = true ∧
      s.dspMode = 1 ∧ s.applied.dsp.page < 16 ∧ s.dsp.showDue = true) ∧
    (∃ (s : State) (e : Nat), s.dsp.frameDue = some e ∧ s.runs 8 = true ∧ s.dsp.inReg = true ∧ s.dspMode = 1 ∧
      s.applied.dsp.page < 16 ∧ s.dsp.showDue = false) ∧
    (∃ (s : State), s.dsp.frameDue = none) ∧
    (∃ (s : State), s.dsp.job = .update ∧ s.dsp.verified = false) ∧
    (∃ (s : State), s.runs 8 = true ∧ s.dsp.inReg = false ∧ s.dspMode = 2) ∧
    (∃ (s : State), s.runs 8 = true ∧ s.dsp.inReg = true ∧ s.dsp.updEnd = none ∧ s.dsp.job = .update ∧
      s.dsp.verified = true ∧ s.tb % 1000 = 0) ∧
    (∃ (s : State), s.dsp.job = .update ∧ s.dsp.verified = false) ∧
    (∃ (s : State) (k : Nat) (e : Nat × List (Nat × Nat)), k < 96 ∧ s.dsp.figs.find? (fun x => x.1 == k) = some e) ∧
    (∃ (k : Nat), 96 ≤ k) ∧
    (∃ (s : State) (e : Nat), s.dsp.updEnd = some e ∧ s.dsp.job = .update) ∧
    (∃ (s : State), s.awake = true ∧ s.dspMode = 2 ∧ s.dsp.started = true ∧ s.dsp.fault = false ∧ s.pw.pfw = false ∧
      s.dsp.job = .none ∧ s.dsp.levels = none) ∧
    (∃ (s : State) (e : Nat), s.dsp.updEnd = some e ∧ s.dsp.job = .recovery) ∧
    (∃ (s : State), s.awake = true ∧ s.runs 8 = true) ∧
    (∃ (s : State), s.runs 8 = false) ∧
    (∃ (s : State), s.awake = true ∧ s.dsp.fault = true ∧ s.pw.pfw = false) ∧
    (∃ (s : State), s.pw.pfw = true) ∧
    (∃ (s : State) (e : Nat), s.dsp.holdDue = some e ∧ s.dsp.job = .none) :=
  ⟨⟨upDsp 1 { inReg := true, frameDue := some 1, showDue := true }, 1, by decide +kernel⟩,
    ⟨upDsp 1 { inReg := true, frameDue := some 1 }, 1, by decide +kernel⟩,
    ⟨up, by decide +kernel⟩,
    ⟨upDsp 2 { job := .update }, by decide +kernel⟩,
    ⟨upDsp 2 {}, by decide +kernel⟩,
    ⟨{ upDsp 2 { inReg := true, job := .update, verified := true } with tb := 1000 }, by decide +kernel⟩,
    ⟨upDsp 2 { job := .update }, by decide +kernel⟩,
    ⟨upDsp 2 { figs := [(95, [(1, 2)])] }, 95, (95, [(1, 2)]), by decide +kernel⟩,
    ⟨96, by decide +kernel⟩,
    ⟨upDsp 2 { job := .update, updEnd := some 1, target := [1] }, 1, by decide +kernel⟩,
    ⟨upDsp 2 { started := true }, by decide +kernel⟩,
    ⟨upDsp 2 { job := .recovery, updEnd := some 1, target := [1] }, 1, by decide +kernel⟩,
    ⟨upDsp 2 {}, by decide +kernel⟩,
    ⟨up, by decide +kernel⟩,
    ⟨upDsp 2 { fault := true, faultAt := 1 }, by decide +kernel⟩,
    ⟨{ up with pw := { pfw := true } }, by decide +kernel⟩,
    ⟨upDsp 2 { holdDue := some 1, inReg := true }, 1, by decide +kernel⟩⟩

theorem witness_KeyEvents :
    (∃ (s : State) (c : Nat), c < 8 ∧ s.scans = true) ∧
    (∃ (s : State) (c : Nat), c < 8 ∧ s.scans = false) ∧
    (∃ (s : State), s.awake = true) ∧
    (∃ (s : State) (i : Nat), i < 32 ∧ s.awake = true ∧ s.w1cAt ≠ s.tb) ∧
    (∃ (s : State) (d : Nat), s.awake = true ∧ s.acting = true ∧ s.keys.lastPress = some d ∧ s.applied.key.autolock ≠ 0 ∧
      s.applied.key.locked = false ∧ s.pair.handoverAt = none ∧ s.staged.length < 512) ∧
    (∃ (s : State) (code : Nat), code < 64 ∧ s.phase ≠ .doze) ∧
    (∃ (s : State) (code : Nat) (r : Nat), code < 64 ∧ s.phase = .doze ∧ s.applied.key.en = true ∧ s.keyColumns = true ∧
      r < 8 ∧ s.applied.key.mask.getLsbD (8 * r + code % 8) = true) ∧
    (∃ (s : State) (n : Nat), n < 4 ∧ s.phase = .doze ∧ (nth s.applied.key.enc n {}).en = true) ∧
    (∃ (s : State) (n : Nat), n < 4 ∧ s.phase ≠ .doze) ∧
    (∃ (s : State) (lf : LinkFrame), linkValid lf = true ∧ lf.typ = 0x30 ∧ lf.payload.length = 6 ∧ s.linkRuns = true ∧
      s.acting = true) ∧
    (∃ (lf : LinkFrame), linkValid lf = false) :=
  ⟨⟨upKey, 7, by decide +kernel⟩,
    ⟨up, 7, by decide +kernel⟩,
    ⟨upKey, by decide +kernel⟩,
    ⟨{ upKey with keys := { q := Vector.replicate 32 { valid := true } } }, 31, by decide +kernel⟩,
    ⟨{ upKey with keys := { lastPress := some 1 } }, 1, by decide +kernel⟩,
    ⟨up, 63, by decide +kernel⟩,
    ⟨{ upKey with phase := .doze }, 63, 7, by decide +kernel⟩,
    ⟨{ upKey with phase := .doze }, 3, by decide +kernel⟩,
    ⟨up, 3, by decide +kernel⟩,
    ⟨upQ, lk 0x30 (le 1 0 ++ [1] ++ le 4 0), by decide +kernel⟩,
    ⟨{ typ := 0x30, good := false }, by decide +kernel⟩⟩

theorem witness_EmptyQueueCountsTime :
    (∃ (s : State), s.pending = [] ∧ (s.phase = .reset ∨ s.phase = .held ∨ s.phase = .nap ∨ s.phase = .run)) ∧
    (∃ (s : State), s.pending = [] ∧ s.phase = .doze) ∧
    (∃ (s : State), s.pending = [] ∧ s.phase = .unpowered) :=
  ⟨⟨{ up with tb := 281474975999999 }, by decide +kernel⟩,
    ⟨{ up with phase := .doze, tbFrac := 511 }, by decide +kernel⟩,
    ⟨{ up with phase := .unpowered }, by decide +kernel⟩⟩

/-- NOP takes no parameter, CALLER_CONFIG is of the caller alone, and 0xFE is no opcode. -/
theorem witness_ChecksComeInOrder :
    (up.awake = true ∧ up.mgmt.restarting = false ∧ up.link.mbox = [] ∧ up.pair.handoverAt = none ∧ opRow 0xFE = none) ∧
    (∃ r, opRow 0xA3 = some r ∧ up.opcAllowed 0xA3 = false) ∧
    (∃ r, opRow 0x00 = some r ∧ up.opcAllowed 0x00 = true ∧ r.len [1] = false) ∧
    (∃ s : State, s.awake = true ∧ 8 ≤ s.link.mbox.length) ∧ ∃ s : State, s.awake = false :=
  ⟨by decide +kernel, ⟨_, rfl, by decide +kernel⟩, ⟨_, rfl, by decide +kernel⟩,
    ⟨{ up with link := { mbox := List.replicate 8 (mb 0) } }, by decide +kernel⟩, ⟨{ up with phase := .doze }, by decide +kernel⟩⟩

theorem witness_AnswersUntilTheRecall :
    ∃ s : State, (s.awake = true ∧ s.mgmt.restarting = false ∧ s.link.mbox = [] ∧ s.pair.handoverAt = none ∧
        s.store.recalled = false ∧ s.opcAllowed 0xB9 = true) ∧
      (∃ r, opRow 0xB8 = some r ∧ s.opcAllowed 0xB8 = true ∧ r.len [0] = true) ∧
      (∃ r, opRow 0x10 = some r ∧ s.opcAllowed 0x10 = true ∧ r.len [] = true) ∧
      ∃ r, opRow 0xE0 = some r ∧ s.opcAllowed 0xE0 = true ∧ r.len [] = true :=
  ⟨{ up with store := {} }, by decide +kernel, ⟨_, rfl, by decide +kernel⟩, ⟨_, rfl, by decide +kernel⟩, ⟨_, rfl, by decide +kernel⟩⟩

theorem witness_StagingHasALimit :
    (∃ (s : State) (p : Bytes), s.ready 0x11 ∧ s.acting = true ∧ 512 < s.staged.length + u8 p 1 ∧ p.length = 2 + 6 * u8 p 1 ∧
      u8 p 0 = 0 ∧ 1 ≤ u8 p 1 ∧ u8 p 1 ≤ 40 ∧ ∀ e ∈ pointList p, s.takesPoint e.1 e.2) ∧
    ∃ (s : State) (p : Bytes), s.ready 0x12 ∧ s.acting = true ∧ 512 < s.staged.length + 1 ∧ 11 ≤ p.length ∧ p.length ≤ 246 ∧
      u8 p 0 = 0 ∧ s.takesObj (u8 p 1) (u16 p 2) (u16 p 8) (p.drop 10) :=
  ⟨⟨{ up with staged := List.replicate 512 { uid := 0, w := .point 0x100 0 } }, [0, 1] ++ le 2 0x1FF ++ le 4 0, by decide +kernel⟩,
    ⟨{ up with staged := List.replicate 512 { uid := 0, w := .point 0x100 0 } }, [0, 7] ++ le 9 0, by decide +kernel⟩⟩

/-- A device whose newest TDRV and DTRISE are these. -/
def upWarm (t r : W32) : State := { up with hk := { newest := upd (upd up.hk.newest 0 fun _ => t) 1 fun _ => r } }

/-- The four cases at their bounds: TWARN 115.0 °C reached, 5.0 °C and more below it, between these, and a rise between
half of RWARN and RWARN. -/
theorem witness_WarningFollowsReadings :
    ((upWarm 115000 0).awake = true ∧ (nth (upWarm 115000 0).hk.newest 0 noVal).toInt ≥ 100 * (upWarm 115000 0).applied.therm.twarn) ∧
    ((upWarm 109999 noVal).awake = true ∧
      (nth (upWarm 109999 noVal).hk.newest 0 noVal).toInt < 100 * ((upWarm 109999 noVal).applied.therm.twarn : Int) - 5000) ∧
    ((upWarm 110000 noVal).awake = true ∧ (nth (upWarm 110000 noVal).hk.newest 0 noVal).toInt < 100 * (up.applied.therm.twarn : Int) ∧
      100 * (up.applied.therm.twarn : Int) - 5000 ≤ (nth (upWarm 110000 noVal).hk.newest 0 noVal).toInt) ∧
    ((upWarm 100000 500).awake = true ∧ (nth (upWarm 100000 500).hk.newest 0 noVal).toInt < 100 * (up.applied.therm.twarn : Int) ∧
      (nth (upWarm 100000 500).hk.newest 1 noVal) ≠ noVal ∧
      100 * (up.applied.therm.rwarn : Int) ≤ 2 * (nth (upWarm 100000 500).hk.newest 1 noVal).toInt ∧
      (nth (upWarm 100000 500).hk.newest 1 noVal).toInt < 100 * (up.applied.therm.rwarn : Int)) := by
  decide +kernel

theorem witness_StoreReadsBack :
    (∃ (m : List Host.Cell) (a : Nat) (bs : Bytes), Memory.wf m ∧ a + bs.length ≤ Memory.size ∧ bs ≠ []) ∧
    ∃ a, Memory.size ≤ a :=
  ⟨⟨[(0xFFFFF, 1)], 0xFFFFE, [7, 0], by decide +kernel⟩, ⟨0x100000, by decide +kernel⟩⟩

theorem witness_StepsKeepTheStoreCanonical : ∃ s t : State, s.storeWf ∧ step s = .next t :=
  ⟨State.reset, idle State.reset, ⟨⟨List.Pairwise.nil, fun _ h => nomatch h⟩, fun _ h => nomatch h⟩, rfl⟩

/-! ### Well-formedness -/

theorem test_wf_refuses_frames :
    ([{ ide := false, id := 2 ^ 11 }, { id := 2 ^ 29 }, { data := le 9 0 }, { fdf := false, data := le 9 0 }, { fdf := false, brs := true },
      { age := 2 ^ 24 }] : List Frame).all (fun f => !(Instr.frameReceived f).wf) = true := by decide +kernel

theorem test_wf_refuses_link_frames :
    ([{ typ := 256 }, { typ := 1, seq := 65536 }, { typ := 1, payload := List.replicate 513 0 }] : List LinkFrame).all
      (fun f => !(Instr.minuetLinkFrame f).wf) = true := by decide +kernel

theorem test_wf_refuses_units :
    ([.nop 0 (List.replicate 249 0), .resetRelease 8 false, .groupExpiry 0, .groupExpiry 9, .snapExpiry 4, .windowWrite 65536 { bytes := [] }, .unknownTransaction { type := 3, addr := 65536 },
      .evstClear 4 false 0, .kqeFree 32, .deferredTimeout false 8, .ptGroupFirstCycle 4, .ptResultPost 16 { code := 0 },
      .regulationRequestDue 20 false, .sarTrigger 8, .vlBoostAdmit 4, .fnPeriodStart 8, .floatRunEnd 8, .txFrameSent 3 0 0,
      .txAttemptFail { who := 3, err := 0 }, .txAttemptFail { who := 0, err := 7 }, .lineFaultEnd 4, .unitAliveTimeout 4 false,
      .dspFigureEnd 96, .keyColumnScan 8 0, .keyWake 64, .encWake 4, .busReceiveError { err := 0 }, .busReceiveError { err := 7 }] :
      List Instr).all (fun i => !i.wf) = true := by decide +kernel

theorem test_no_word_spells_a_row : decodeTableWord 64 0xC7 = none ∧ State.reset.withFetchWord 64 0xC7 = State.reset := ⟨rfl, rfl⟩

/-! ### Single steps -/

/-- What one step leads to. -/
def after (i : Instr) (s : State) : Option State :=
  match step { s with pending := [i] } with
  | .next t => some t
  | .fault _ => none
  | .refused _ => none

/-- R95: the check value of the packet CRC. -/
theorem test_crc16 : crc16 [0x31, 0x32, 0x33, 0x34, 0x35, 0x36, 0x37, 0x38, 0x39] = 0x29B1 := by decide +kernel

/-- R94 to R98: a NOP packet, its CRC 0x3DD6 low byte first, enters the mailbox; with a wrong CRC it is counted. -/
theorem test_packet_received :
    (after (.commandWrite [0xC7, 0x00, 0x55, 0x00, 0xD6, 0x3D]) up).map (fun t => (t.link.mbox.length, t.link.crcErr)) = some (1, 0) ∧
    (after (.commandWrite [0xC7, 0x00, 0x55, 0x00, 0x3D, 0xD6]) up).map (fun t => (t.link.mbox.length, t.link.crcErr)) = some (0, 1) := by
  decide +kernel

/-- R130, R135: TB wraps after 2⁴⁸ − 710 656 quanta' worth of whole rounds; 2000-01-01 was a Saturday, 2000-03-01 a Wednesday. -/
theorem test_time :
    (idle { up with tb := 281474975999999 }).tb = 0 ∧ weekday 0 = 5 ∧ weekday 60 = 2 ∧
    (civilOf (60 * 86400 + 3661)).month = 3 ∧ (civilOf (60 * 86400 + 3661)).day = 1 ∧ (civilOf (60 * 86400 + 3661)).sec = 1 := by
  decide +kernel

/-- R99, Table 05-4: LEN is checked before the parameters, and an opcode of the caller is refused in SERVICE. -/
theorem test_check_order :
    (after (.pwrConfig 0 [4]) up).map (fun t => t.link.replies.map Reply.status) = some [stBadLength] ∧
    (after (.pwrConfig 0 [4, 0, 0]) up).map (fun t => t.link.replies.map Reply.status) = some [stBadParam] ∧
    (after (.callerConfig 0 []) up).map (fun t => t.link.replies.map Reply.status) = some [stWrongPers] := by decide +kernel

/-- R14, R75: a point written at one beat is committed at the boundary and applied 200 µs later. -/
theorem test_point_commits :
    (after (.beatBoundary {}) { up with tb := 10000, staged := [{ uid := 0, w := .point 0x100 5 }] }).map
      (fun t => (mget t.com.vp 0x100, t.epoch, t.applyDue)) = some (some 5, 1, some 10200) := by decide +kernel

/-- R58, Table 01-6: a pulse of 1 µs on RESET_N resets, one of 199 ns does not. -/
theorem test_reset_pin :
    (after (.resetNAssert 1000 false none) up).map (fun t => (t.phase, t.pmrc)) = some (.reset, 9) ∧
    (after (.resetNAssert 199 true none) up).map (fun t => (t.phase, t.pmrc)) = some (.run, 1) := by decide +kernel

/-- R243: a drive opening for its whole run reaches 100 %. -/
theorem test_float_end :
    (after (.floatRunEnd 7) (upFd 10000 { dir := .opening, target := some 10000 })).map (fun t => (t.fdRun 7).dir) = some .still := by
  decide +kernel

theorem witness_PadsRestInReset :
    (State.reset.phase = .reset ∨ State.reset.phase = .held) ∧
    (upR.phase = .run ∧ upR.acting = true ∧ ∀ k, upR.ilk.still = some k → k.1 ≠ upR.tb) ∧
    ({ up with pw := { strap := 1 } } : State).runs 6 = false ∧ up.runs 9 = false ∧ up.runs 8 = false ∧ up.runs (2 + 3) = false ∧
    up.phase = .run ∧ up.acting = true ∧ up.bankRuns 3 = false ∧ (up.vlCh (4 * 3 + 3)).decaying = false := by
  refine ⟨by decide +kernel, ⟨by decide +kernel, by decide +kernel, fun _ h => nomatch h⟩, by decide +kernel⟩

/-- Tables 02-3 and 02-4, R28: the last pads of the groups, and where pads 1, 360 and 400 stand. -/
theorem test_pads :
    Signal.pads (.seg 95) = [96] ∧ Signal.pads (.enc 3 true) = [120] ∧ Signal.pads (.ptN 15) = [192] ∧ Signal.pads (.refN 3) = [208] ∧
    Signal.pads (.vhs 2) = [333, 334, 335, 336] ∧ Signal.pads (.vl 15) = [359, 360] ∧ Signal.pads (.dout 7) = [388] ∧
    (padX 1, padY 1) = (100, 100) ∧ (padX 360, padY 360) = (2000, 1800) ∧ (padX 400, padY 400) = (2000, 2400) := by decide +kernel

/-- R125, R127, Table 02-3: a source that is set and routed pulls IRQA_N low; in reset the pad is off. Table 19-1: in a
positive frame the selected COM pad stands at V4, the others at V1; R421: a segment of level 7 is on for 70 of 150 µs. -/
theorem test_pad_states :
    State.pad { upR with ev := { up.ev with st := 1, routeA := 1 } } (.irqN false) = .low ∧
    State.pad { upR with phase := .reset, ev := { up.ev with st := 1, routeA := 1 } } (.irqN false) = .off ∧
    comQuarters false true = 4 ∧ comQuarters false false = 1 ∧ segQuarters true 15 100 99 = 4 ∧ segQuarters true 7 150 70 = 2 := by
  decide +kernel

end Sys2Proof.Tests
end

section
/-! PROOFS. The statements about the machine as a whole: what reset leaves, resets and restarts, the window and the event fabric,
the checks before a command's own. -/

open Sys2Proof Sys2Proof.Machine

namespace Sys2Proof.Machine

/-! ### A jump to the present quantum in DOZE -/

/-- A count of no crystal period still carries the whole quanta of the kept fraction over into TB (R24). -/
theorem State.crystal_zero (s : State) :
    s.crystal 0 = { s with tb := tbAdd s.tb (s.tbFrac / 512), tbFrac := s.tbFrac % 512 } := by
  simp [State.crystal]

/-- A count of no crystal period changes nothing exactly where TB is below its modulus and the kept fraction below a quantum. -/
theorem State.crystal_zero_eq_self_iff (s : State) : s.crystal 0 = s ↔ s.tb < tbMod ∧ s.tbFrac < 512 := by
  rw [State.crystal_zero]
  constructor
  · intro h
    have hf : s.tbFrac % 512 = s.tbFrac := congrArg State.tbFrac h
    have ht : tbAdd s.tb (s.tbFrac / 512) = s.tb := congrArg State.tb h
    unfold tbAdd tbMod at *
    omega
  · rintro ⟨ht, hf⟩
    rw [Nat.div_eq_of_lt hf, Nat.mod_eq_of_lt hf, tbAdd, Nat.add_zero, Nat.mod_eq_of_lt ht]

/-- A quantum is no quanta away from itself. -/
theorem tbSub_present {d t : Nat} (h : t = d % tbMod) : tbSub d t = 0 := by
  unfold tbSub tbMod at *
  omega

/-- In DOZE a jump to the present quantum is one of no crystal period. -/
theorem State.jump_present_doze {s : State} {d : Nat} (hp : s.phase = .doze) (h : s.tb = d % tbMod) : s.jump d = s.crystal 0 := by
  simp [State.jump, tbSub_present h, hp]

/-- DEV_RESET_BEGIN in DOZE, in the quantum in which it is due. -/
theorem exec_devResetBegin_doze {s : State} {d : Nat} (hd : s.pw.devReset = some d) (hp : s.phase = .doze)
    (h : s.tb = d % tbMod) : exec .devResetBegin s = .next ((s.crystal 0).resetBy 4) := by
  rw [← State.jump_present_doze hp h]
  simp [exec, execDevResetBegin, hd]

/-- IRQ_PULSE_END of IRQA_N in DOZE, in the quantum in which its high time ends, changes the pad alone exactly where TB is below its
modulus and the kept fraction below a quantum. -/
theorem exec_irqPulseEnd_doze_iff {s : State} {h : Nat} (hh : s.ev.padA.highUntil = some h) (hp : s.phase = .doze)
    (ht : s.tb = h % tbMod) :
    exec (.irqPulseEnd false) s = .next { s with ev := { s.ev with padA := s.ev.padA.finish } } ↔
      s.tb < tbMod ∧ s.tbFrac < 512 := by
  have hx : exec (.irqPulseEnd false) s = .next { s.crystal 0 with ev := { s.ev with padA := s.ev.padA.finish } } := by
    rw [← State.jump_present_doze hp ht]
    simp [exec, execIrqPulseEnd, hh]
  rw [hx, ← State.crystal_zero_eq_self_iff]
  constructor
  · intro h
    injection h with h
    exact congrArg (fun t : State => { t with ev := s.ev }) h
  · intro h
    rw [h]

/-! ### A command that finds the mailbox full -/

/-- It is refused, and its transaction still shifts out HLST[7:0] and zeros (R92, R102). -/
theorem hostCommand_full {s : State} {opc : Nat} {tag : Byte} {p : Bytes} (ha : s.awake = true) (hm : 8 ≤ s.link.mbox.length) :
    s.hostCommand opc tag p = (s.shiftOut (List.replicate (p.length + 6) 0)).refuseCommand := by
  have full : 8 ≤ (s.shiftOut (List.replicate (p.length + 6) 0)).link.mbox.length := hm
  simp only [State.hostCommand, ha, Bool.not_true, Bool.false_eq_true, if_false, if_pos full]

/-- A refusal leaves what the transaction shifts out. -/
theorem State.refuseCommand_hmiso (s : State) : s.refuseCommand.link.hmiso = s.link.hmiso := rfl

end Sys2Proof.Machine

/-! ### The obligations -/

/-- Settles O52: each register, and each channel's register, evaluated in the reset state. -/
theorem resetLeavesTheseValues : Obligations.ResetLeavesTheseValues := by
  unfold Obligations.ResetLeavesTheseValues
  have points : ∀ n < 16, State.reset.readReg (0x040C + 0x20 * n) = 0x80000000 ∧
      State.reset.readReg (0x0C08 + 0x10 * n) = 0xFFFF0000 := by decide +kernel
  have humidity : ∀ n < 8, State.reset.readReg (0x0608 + 0x10 * n) = 0x80000000 := by decide +kernel
  have events : ∀ k < 4, State.reset.readReg (0x0100 + 4 * k) = 0 ∧ State.reset.readReg (0x0110 + 4 * k) = 0 := by decide +kernel
  exact ⟨by decide +kernel, by decide +kernel, by decide +kernel, by decide +kernel, by decide +kernel, by decide +kernel,
    by decide +kernel, by decide +kernel, points, humidity, events, rfl, rfl, rfl⟩

/-- Refutes O53: a full mailbox does refuse the command (R102), but the transaction that brought it has shifted out HLST[7:0]
and zeros (R92), which the clause on a full mailbox leaves out. Eight commands wait here, and nothing has been shifted out
before. -/
theorem not_checksComeInOrder : ¬ Obligations.ChecksComeInOrder := by
  unfold Obligations.ChecksComeInOrder
  rintro ⟨-, -, -, full, -⟩
  have h := full { State.reset with
    phase := .run
    link := { mbox := List.replicate 8 { id := 0, tag := 0, opc := 0x00, params := [], recvAt := 0 } } } 0x00 0 [] rfl (by decide)
  rw [hostCommand_full rfl (by decide)] at h
  have hmiso := congrArg (fun t : State => t.link.hmiso) h
  simp [State.refuseCommand_hmiso, State.shiftOut, le] at hmiso

/-- Refutes O29: DEV_RESET_BEGIN in DOZE, due in the present quantum, leaves TB where it is only where the fraction that DOZE keeps
is below a quantum, which the clause does not ask. Here it is a whole one (512/512 µs), and TB goes from 0 to 1. -/
theorem not_resetsAndRestarts : ¬ Obligations.ResetsAndRestarts := by
  unfold Obligations.ResetsAndRestarts
  rintro ⟨-, -, -, -, -, -, -, devReset, -⟩
  obtain ⟨t, ht, -, htb, -⟩ :=
    devReset { State.reset with phase := .doze, tbFrac := 512, pw := { devReset := some 0 } } 0 rfl rfl
  rw [exec_devResetBegin_doze rfl rfl rfl] at ht
  cases ht
  exact absurd htb (by decide)

/-- Refutes O19: IRQ_PULSE_END in DOZE, in the quantum in which the high time ends, changes the pad alone only where the fraction
that DOZE keeps is below a quantum, which the clause does not ask. Here it is a whole one (512/512 µs). -/
theorem not_windowAndFabricWrites : ¬ Obligations.WindowAndFabricWrites := by
  unfold Obligations.WindowAndFabricWrites
  rintro ⟨-, -, -, -, -, -, -, pulseEnd, -⟩
  have h := pulseEnd { State.reset with phase := .doze, tbFrac := 512, ev := { padA := { highUntil := some 0 } } } 0 rfl rfl
    (by decide)
  exact absurd ((exec_irqPulseEnd_doze_iff rfl rfl rfl).1 h).2 (by decide)

end

section
/-! PROOFS. Wake and Pavane; beat boundaries, commits and apply quanta; the empty queue. The first part says once which operations
leave the books of the management plane as they are. -/

open Sys2Proof Sys2Proof.Machine

namespace Sys2Proof.Machine

/-! ### The books, and the valves' part in them -/

/-- What the management plane keeps of the committed configuration and its replies, with TB and the fields of the power record that the
boundaries speak of. Nearly every operation of the model leaves the books as they are. -/
structure Books where
  com : Com
  epoch : Nat
  tb : Nat
  tbc : Nat
  beatAt : Nat
  latched : Latched
  link : Link
  waits : List Waiting
  staged : List Staged
  toApply : List Write
  applyDue : Option Nat
  strap : Nat
  pline : Nat
  pmun : BitVec 14
  held : Bool
  pepoch : Nat
  cur : Option Bool
  switchOnly : Bool

def State.books (s : State) : Books :=
  { com := s.com, epoch := s.epoch, tb := s.tb, tbc := s.tbc, beatAt := s.beatAt, latched := s.latched, link := s.link
    waits := s.waits, staged := s.staged, toApply := s.toApply, applyDue := s.applyDue, strap := s.pw.strap, pline := s.pw.pline
    pmun := s.pw.pmun, held := s.imageHeld, pepoch := s.store.pepoch, cur := s.store.cur, switchOnly := s.store.switchOnly }

/-- A pass over a list keeps whatever each of its steps keeps. -/
theorem foldl_keeps {α β : Type} {π : State → β} {f : State → α → State} (h : ∀ s x, π (f s x) = π s) (l : List α) (s : State) :
    π (l.foldl f s) = π s := by
  induction l generalizing s with
  | nil => rfl
  | cons x l ih => rw [List.foldl_cons, ih, h]

theorem State.foldl_books {α : Type} {f : State → α → State} (h : ∀ s x, (f s x).books = s.books) (l : List α) (s : State) :
    (l.foldl f s).books = s.books :=
  foldl_keeps h l s

variable (s : State)

@[simp] theorem State.raise_books (n : Nat) : (s.raise n).books = s.books := by
  unfold State.raise; split <;> try rfl
  split <;> rfl

@[simp] theorem State.raiseIf_books (c : Bool) (n : Nat) : (s.raiseIf c n).books = s.books := by
  cases c
  · rfl
  · exact s.raise_books n

@[simp] theorem books_ite {c : Prop} [Decidable c] (a b : State) : (if c then a else b).books = if c then a.books else b.books :=
  apply_ite State.books c a b

@[simp] theorem State.onVl_books (n f) : (s.onVl n f).books = s.books := rfl
@[simp] theorem State.onBank_books (n f) : (s.onBank n f).books = s.books := rfl
@[simp] theorem State.dequeue_books (n) : (s.dequeue n).books = s.books := rfl
@[simp] theorem State.freeBoost_books (n) : (s.freeBoost n).books = s.books := rfl
@[simp] theorem State.assignCarriers_books : (s.assignCarriers).books = s.books := rfl

@[simp] theorem State.turnOff_books (n m) : (s.turnOff n m).books = s.books := by
  unfold State.turnOff; simp only [State.onVl_books, State.freeBoost_books, State.dequeue_books]

@[simp] theorem State.offDecay_books (n) : (s.offDecay n).books = s.books := s.turnOff_books n none
@[simp] theorem State.enqueue_books (n) : (s.enqueue n).books = s.books := by
  unfold State.enqueue; simp only [State.onVl_books, State.onBank_books]

@[simp] theorem State.startBoost_books (n) : (s.startBoost n).books = s.books := by
  unfold State.startBoost; simp only [State.onVl_books, State.onBank_books]

@[simp] theorem State.startDiag_books (n) : (s.startDiag n).books = s.books := by
  unfold State.startDiag; simp only [State.onVl_books, State.onBank_books]

@[simp] theorem State.letBoost_books (n) : (s.letBoost n).books = s.books := by
  simp [State.letBoost]

@[simp] theorem State.toWait_books (n) : (s.toWait n).books = s.books := by
  simp [State.toWait]

@[simp] theorem State.reconcile_books (n) : (s.reconcile n).books = s.books := by
  simp [State.reconcile]

@[simp] theorem State.tryAdmit_books (n) : (s.tryAdmit n).books = s.books := by
  unfold State.tryAdmit State.enterShared
  split <;> simp

@[simp] theorem State.settleBank_books (n) : (s.settleBank n).books = s.books := by
  simp [State.settleBank]

@[simp] theorem State.restart_books (n) : (s.restart n).books = s.books := by
  unfold State.restart
  dsimp only
  split <;> simp

/-! ### The books under what moves the outputs and calls the units -/
@[simp] theorem State.onPrm_books (f) : (s.onPrm f).books = s.books := rfl
@[simp] theorem State.onSar_books (f) : (s.onSar f).books = s.books := rfl
@[simp] theorem State.onSeq_books (k f) : (s.onSeq k f).books = s.books := rfl
@[simp] theorem State.onAo_books (n f) : (s.onAo n f).books = s.books := rfl
@[simp] theorem State.onFn_books (n f) : (s.onFn n f).books = s.books := rfl
@[simp] theorem State.onFd_books (n f) : (s.onFd n f).books = s.books := rfl
@[simp] theorem State.onDo_books (n f) : (s.onDo n f).books = s.books := rfl
@[simp] theorem State.onField_books (f) : (s.onField f).books = s.books := rfl
@[simp] theorem State.onIlk_books (f) : (s.onIlk f).books = s.books := rfl
@[simp] theorem State.onSvc_books (f) : (s.onSvc f).books = s.books := rfl
@[simp] theorem State.onBus_books (f) : (s.onBus f).books = s.books := rfl
@[simp] theorem State.onCaller_books (f) : (s.onCaller f).books = s.books := rfl
@[simp] theorem State.onSlot_books (p f) : (s.onSlot p f).books = s.books := rfl
@[simp] theorem State.onDsp_books (f) : (s.onDsp f).books = s.books := rfl
@[simp] theorem State.onKeys_books (f) : (s.onKeys f).books = s.books := rfl
@[simp] theorem State.onHk_books (f) : (s.onHk f).books = s.books := rfl
@[simp] theorem State.keepLatch_books (i b) : (s.keepLatch i b).books = s.books := rfl
@[simp] theorem State.linkQueue_books (t p) : (s.linkQueue t p).books = s.books := rfl
@[simp] theorem State.flag_books (a b) : (s.flag a b).books = s.books := rfl
@[simp] theorem State.draw_books : s.draw.2.books = s.books := rfl
@[simp] theorem State.trackDrives_books : s.trackDrives.books = s.books := rfl
@[simp] theorem State.startSampling_books : s.startSampling.books = s.books := rfl
@[simp] theorem State.wantSampling_books : s.wantSampling.books = s.books := rfl
@[simp] theorem State.stopPresence_books : s.stopPresence.books = s.books := rfl
@[simp] theorem State.prBias_books : s.prBias.books = s.books := rfl
@[simp] theorem State.regate_books : s.regate.books = s.books := rfl
@[simp] theorem State.restartFilters_books : s.restartFilters.books = s.books := rfl
@[simp] theorem State.countFrames_books : s.countFrames.books = s.books := rfl
@[simp] theorem State.requestAllot_books (r) : (s.requestAllot r).books = s.books := rfl

theorem State.onPw_books {f : Power → Power} (hs : (f s.pw).strap = s.pw.strap) (hl : (f s.pw).pline = s.pw.pline)
    (hu : (f s.pw).pmun = s.pw.pmun) : (s.onPw f).books = s.books := by
  unfold State.books State.onPw
  simp only [hs, hl, hu, State.imageHeld]

/-- Starting the PLL sets PMUN's flag of it alone. -/
theorem State.startPll_frame : ∃ b, s.startPll = { s with pw := { s.pw with pllStart := b } } := by
  unfold State.startPll
  split
  · exact ⟨true, rfl⟩
  · exact ⟨s.pw.pllStart, rfl⟩

theorem State.callUnits_frame (m : BitVec 14) : ∃ p : Power, s.callUnits m = { s with pw := p } ∧
    p.strap = s.pw.strap ∧ p.pline = s.pw.pline ∧ p.pmun = s.pw.pmun := by
  unfold State.callUnits
  generalize (if s.applied.dsp.conf.mode = 0 then putBit m 8 false else m) = mask
  dsimp only
  split
  · exact ⟨s.pw, rfl, rfl, rfl, rfl⟩
  · split
    · exact ⟨_, rfl, rfl, rfl, rfl⟩
    · split
      · obtain ⟨b, hb⟩ := State.startPll_frame { s with pw := { s.pw with
          barUnits := s.pw.barUnits ||| withNeeds mask &&& ~~~s.pw.pmun &&& s.barred
          pav := some { todo := withNeeds mask &&& ~~~s.pw.pmun &&& ~~~(withNeeds mask &&& ~~~s.pw.pmun &&& s.barred), due := s.tb } } }
        exact ⟨_, hb, rfl, rfl, rfl⟩
      · exact ⟨_, rfl, rfl, rfl, rfl⟩

@[simp] theorem State.callUnits_books (m) : (s.callUnits m).books = s.books := by
  obtain ⟨p, hp, hs, hl, hu⟩ := s.callUnits_frame m
  rw [hp]
  exact s.onPw_books (f := fun _ => p) hs hl hu

@[simp] theorem State.callOuts_books : s.callOuts.books = s.books := by simp [State.callOuts]
@[simp] theorem State.callNew_books (b : State) : (s.callNew b).books = s.books := by
  unfold State.callNew
  dsimp only
  rw [State.callUnits_books]
  exact s.onPw_books rfl rfl rfl

@[simp] theorem State.noteEntry_books (i) : (s.noteEntry i).books = s.books := rfl
@[simp] theorem State.noteIlk_books : s.noteIlk.books = s.books := by
  unfold State.noteIlk
  dsimp only
  split
  · exact foldl_keeps (fun s i => s.noteEntry_books i) _ _
  · rfl

@[simp] theorem State.sendDo_books (n) : (s.sendDo n).books = s.books := by unfold State.sendDo; split <;> rfl
@[simp] theorem State.switchDo_books (n b) : (s.switchDo n b).books = s.books := rfl
@[simp] theorem State.moveDo_books (n) : (s.moveDo n).books = s.books := by simp [State.moveDo]
@[simp] theorem State.moveDos_books : s.moveDos.books = s.books := by
  simp only [State.moveDos, State.trackDrives_books]
  exact foldl_keeps (fun s n => s.moveDo_books n) _ _

@[simp] theorem State.moveAo_books (n) : (s.moveAo n).books = s.books := rfl
@[simp] theorem State.fanTake_books (n d) : (s.fanTake n d).books = s.books := rfl
@[simp] theorem State.moveFn_books (n) : (s.moveFn n).books = s.books := by simp [State.moveFn]
@[simp] theorem State.moveOuts_books : s.moveOuts.books = s.books := by
  simp only [State.moveOuts, State.trackDrives_books]
  rw [foldl_keeps (fun s n => s.moveFn_books n), foldl_keeps (fun s n => s.moveAo_books n)]

@[simp] theorem State.moveMembers_books (k) : (s.moveMembers k).books = s.books := by simp [State.moveMembers]
@[simp] theorem State.steer_books (k) : (s.steer k).books = s.books := by
  unfold State.steer
  dsimp only
  rw [State.callOuts_books, State.moveMembers_books]
  split
  · rfl
  · split <;> simp

@[simp] theorem State.endRun_books (k) : (s.endRun k).books = s.books := by simp [State.endRun]
@[simp] theorem State.gateDrives_books : s.gateDrives.books = s.books :=
  foldl_keeps (fun s k => by simp) _ _

@[simp] theorem State.steerChanged_books : s.steerChanged.books = s.books :=
  foldl_keeps (fun s k => by simp) _ _

@[simp] theorem State.wakeDrives_books (o) : (s.wakeDrives o).books = s.books :=
  foldl_keeps (fun s k => by simp) _ _

@[simp] theorem State.settleBanks_books : s.settleBanks.books = s.books :=
  foldl_keeps (fun s b => s.settleBank_books b) _ _

@[simp] theorem State.moveAll_books : s.moveAll.books = s.books := by
  simp only [State.moveAll, State.settleBanks_books, State.gateDrives_books, State.moveDos_books, State.moveOuts_books]
  exact foldl_keeps (fun s n => s.reconcile_books n) _ _

@[simp] theorem State.settleAll_books : s.settleAll.books = s.books := by simp [State.settleAll]

/-! ### The books under the operations of the store -/
theorem State.garble_books (g) : (s.garble g).books = s.books := rfl
@[simp] theorem State.rewritten_books (hit) : (s.rewritten hit).books = s.books :=
  foldl_keeps (fun s g => s.garble_books g) _ _

@[simp] theorem State.putCells_books (new ps) : (s.putCells new ps).books = s.books := by
  unfold State.putCells
  dsimp only
  exact State.rewritten_books { s with cells := new } _

@[simp] theorem State.putBytes_books (ps) : (s.putBytes ps).books = s.books := s.putCells_books _ _
@[simp] theorem State.countFail_books (g) : (s.countFail g).books = s.books := by
  unfold State.countFail
  rw [State.raise_books]
  rfl

/-- What a persistence of the state image owes, among the works that a power-fail warning holds. -/
def StoreOwed.isImage (w : StoreOwed) : Bool :=
  match w with
  | .image _ _ => true
  | .record _ _ => false
  | .scrub _ => false
  | .copyHead => false
  | .unit _ _ _ => false

theorem State.owe_books {w : StoreOwed} (h : w.isImage = false) : (s.owe w).books = s.books := by
  have held : (s.owe w).imageHeld = s.imageHeld := by
    cases w <;> simp_all [State.owe, State.imageHeld, StoreOwed.isImage]
  unfold State.books
  rw [held]
  rfl

@[simp] theorem State.putError_books (d) : (s.putError d).books = s.books := by
  unfold State.putError
  dsimp only
  rw [foldl_keeps (fun s g => s.countFail_books g), State.putBytes_books]

@[simp] theorem State.logError_books (t a) : (s.logError t a).books = s.books := by
  unfold State.logError
  dsimp only
  split
  · exact s.owe_books rfl
  · exact s.putError_books _

@[simp] theorem State.noteFails_books (bad) : (s.noteFails bad).books = s.books :=
  foldl_keeps (fun s g => by simp [State.noteFail]) _ _

@[simp] theorem State.writeCells_books (ps) : (s.writeCells ps).books = s.books := by simp [State.writeCells]
@[simp] theorem State.scrub_books (g) : (s.scrub g).books = s.books := by
  unfold State.scrub
  split
  · exact s.owe_books rfl
  · simp

@[simp] theorem State.meetGroup_books (g) : (s.meetGroup g).books = s.books := by
  unfold State.meetGroup
  dsimp only
  split
  · simp only [State.scrub_books, State.raiseIf_books, State.logError_books]; rfl
  · split
    · simp only [State.raise_books, State.logError_books]; rfl
    · rfl

@[simp] theorem State.readCheck_books (ps) : (s.readCheck ps).books = s.books :=
  foldl_keeps (fun s g => s.meetGroup_books g) _ _

theorem State.reread_books (g) : (s.reread g).books = s.books := rfl
@[simp] theorem State.settled_books (ps) : (s.settled ps).books = s.books :=
  foldl_keeps (fun s g => s.reread_books g) _ _

@[simp] theorem State.lookAt_books (ps) : (s.lookAt ps).books = s.books := by simp [State.lookAt]
@[simp] theorem State.logAppend_books (l d) : (s.logAppend l d).books = s.books := by
  unfold State.logAppend
  split
  · exact s.owe_books rfl
  · simp [State.ringAppend, State.ringWrite]

@[simp] theorem State.recordUnit_books (r f) : (s.recordUnit r f).1.books = s.books := by
  unfold State.recordUnit
  split
  · exact s.owe_books rfl
  · dsimp only
    rw [State.noteFails_books]
    exact s.rewritten_books _

@[simp] theorem State.writeUnit_books (r u) : (s.writeUnit r u).books = s.books := State.recordUnit_books { s with unit := u } r false

/-! ### The books under the display -/
@[simp] theorem State.dspMark_books (a b c d e f) : (s.dspMark a b c d e f).books = s.books := s.logAppend_books _ _
@[simp] theorem State.dspBegin_books : s.dspBegin.books = s.books := by
  unfold State.dspBegin
  split
  · rfl
  · split <;> simp

@[simp] theorem State.dspStart_books : s.dspStart.books = s.books := by simp [State.dspStart]
@[simp] theorem State.dspRetry_books : s.dspRetry.books = s.books := by simp [State.dspRetry]
@[simp] theorem State.dspUnitStarted_books : s.dspUnitStarted.books = s.books := by simp [State.dspUnitStarted]
@[simp] theorem State.applyBacklight_books (d) : (s.applyBacklight d).books = s.books := by simp [State.applyBacklight]
@[simp] theorem State.dspBand_books : s.dspBand.books = s.books := by simp [State.dspBand]
@[simp] theorem State.govern_books : s.govern.books = s.books := rfl

/-! ### The books under the units of measurement, of field I/O and of the valves -/
@[simp] theorem State.abortPt_books (w) : (s.abortPt w).books = s.books := by simp [State.abortPt]
@[simp] theorem State.huNext_books : s.huNext.books = s.books := by simp [State.huNext]
@[simp] theorem State.stopHu_books : s.stopHu.books = s.books := by simp [State.stopHu]
@[simp] theorem State.startGroupPt_books (g) : (s.startGroupPt g).books = s.books := rfl
@[simp] theorem State.stopGroupPt_books (g) : (s.stopGroupPt g).books = s.books := by simp [State.stopGroupPt]
@[simp] theorem State.hkStart_books : s.hkStart.books = s.books := rfl
@[simp] theorem State.hkStop_books : s.hkStop.books = s.books := rfl
@[simp] theorem State.busStart_books : s.busStart.books = s.books := by simp [State.busStart]
@[simp] theorem State.busStop_books : s.busStop.books = s.books := by simp [State.busStop]
@[simp] theorem State.presenceStart_books (c) : (s.presenceStart c).books = s.books := by simp [State.presenceStart]
@[simp] theorem State.startField_books : s.startField.books = s.books := rfl
@[simp] theorem State.stopField_books : s.stopField.books = s.books := rfl
@[simp] theorem State.stopBank_books (b) : (s.stopBank b).books = s.books := by
  simp only [State.stopBank, State.onBank_books, State.assignCarriers_books]
  exact foldl_keeps (fun s n => by simp) _ _

@[simp] theorem State.startBank_books (b) : (s.startBank b).books = s.books := by
  simp only [State.startBank, State.settleBank_books]
  rw [State.foldl_books (fun s n => by simp), State.onBank_books, State.assignCarriers_books]

@[simp] theorem State.softStart_books (k) : (s.softStart k).books = s.books := by simp [State.softStart]

/-! ### The books but for PMUN, under what stops units; the books but for the staged writes -/
/-- The books but for PMUN, which a unit that stops changes. -/
def Books.sansUnits (b : Books) : Books := { b with pmun := 0 }

/-- The books but for the staged writes, which a key adds to. -/
def Books.sansStaged (b : Books) : Books := { b with staged := [] }

theorem State.setUnits_books (p : Power) (hs : p.strap = s.pw.strap) (hl : p.pline = s.pw.pline) :
    ({ s with pw := p } : State).books.sansUnits = s.books.sansUnits := by
  unfold State.books Books.sansUnits
  simp only [hs, hl, State.imageHeld]

@[simp] theorem State.takeOut_books (m) : (s.takeOut m).books = s.books := rfl
@[simp] theorem State.dropUnits_books (m) : (s.dropUnits m).books = s.books := rfl
@[simp] theorem State.dspRailsDown_books : s.dspRailsDown.books.sansUnits = s.books.sansUnits := by
  unfold State.dspRailsDown
  dsimp only
  rw [State.onDsp_books]
  split <;> rfl

@[simp] theorem State.cutJob_books : s.cutJob.books.sansUnits = s.books.sansUnits := by
  unfold State.cutJob
  split
  · rfl
  · exact s.dspRailsDown_books

@[simp] theorem State.stopUnit_books (i) : (s.stopUnit i).books.sansUnits = s.books.sansUnits := by
  have h : ∀ f : Power → Power, (f s.pw).strap = s.pw.strap → (f s.pw).pline = s.pw.pline →
      (s.onPw f).books.sansUnits = s.books.sansUnits := fun f hs hl => s.setUnits_books (f s.pw) hs hl
  unfold State.stopUnit
  dsimp only
  repeat' split
  · rfl
  · rw [State.dspRailsDown_books]; rfl
  · simp; rfl
  · simp; rfl
  · rfl
  · rfl
  · simp; rfl
  · rfl

@[simp] theorem State.stopUnits_books (m) : (s.stopUnits m).books.sansUnits = s.books.sansUnits :=
  foldl_keeps (π := fun s => s.books.sansUnits) (fun s i => by split; exact s.stopUnit_books i; rfl) _ _

@[simp] theorem sansUnits_ite {c : Prop} [Decidable c] (a b : Books) :
    (if c then a else b).sansUnits = if c then a.sansUnits else b.sansUnits :=
  apply_ite Books.sansUnits c a b

/-! ### The books under each write as it takes effect -/
@[simp] theorem State.applyPtRunning_books : s.applyPtRunning.books.sansUnits = s.books.sansUnits := by simp [State.applyPtRunning]
@[simp] theorem State.applyPt_books (c) : (s.applyPt c).books = s.books := by
  unfold State.applyPt
  dsimp only
  rw [State.huNext_books]
  exact (State.raiseIf_books _ _ _).trans (State.abortPt_books ..)

@[simp] theorem State.applyPr_books (c) : (s.applyPr c).books = s.books := by
  unfold State.applyPr
  dsimp only
  repeat' split
  all_goals rfl

@[simp] theorem State.applyDi_books (c) : (s.applyDi c).books = s.books := by
  unfold State.applyDi
  rw [State.noteIlk_books]
  rfl

@[simp] theorem State.applyOutputs_books : s.applyOutputs.books = s.books := by
  unfold State.applyOutputs State.applyDoConf
  dsimp only
  rw [State.moveDos_books]
  rfl

@[simp] theorem State.applyFloat_books (c) : (s.applyFloat c).books = s.books := by
  unfold State.applyFloat
  dsimp only
  rw [State.foldl_books (fun s k => by simp)]
  rfl

@[simp] theorem State.applyDsp_books (c) : (s.applyDsp c).books.sansUnits = s.books.sansUnits := by
  have h : ∀ t : State, ({ t with applied := { t.applied with dsp := c } } : State).books = t.books := fun _ => rfl
  simp [State.applyDsp, h]

@[simp] theorem State.takeConfig_books : s.takeConfig.books.sansUnits = s.books.sansUnits := by
  have put : ∀ (t : State) (c : Cfg), ({ t with applied := c } : State).books = t.books := fun _ _ => rfl
  unfold State.takeConfig
  dsimp only
  rw [put, books_ite, State.onSvc_books, ite_self]
  simp

@[simp] theorem State.applyGroups_books (a p) : (s.applyGroups a p).books.sansUnits = s.books.sansUnits := by simp [State.applyGroups]
@[simp] theorem State.onAllot_books (f) : (s.onAllot f).books = s.books := rfl
@[simp] theorem State.relimit_books : s.relimit.books = s.books := by unfold State.relimit; split <;> rfl
@[simp] theorem State.takeClass_books (c) : (s.takeClass c).books = s.books := by simp [State.takeClass]
@[simp] theorem State.askAllot_books (c) : (s.askAllot c).books = s.books := by simp [State.askAllot]
@[simp] theorem State.applyPwr_books (c) : (s.applyPwr c).books = s.books := by
  have h : ∀ t : State, ({ t with applied := { t.applied with pwr := c } } : State).books = t.books := fun _ => rfl
  simp [State.applyPwr, h]

@[simp] theorem State.applyStartGroup_books (p) : (s.applyStartGroup p).books = s.books := s.callUnits_books _
@[simp] theorem State.applyStopGroup_books (p) : (s.applyStopGroup p).books.sansUnits = s.books.sansUnits := by
  have h : ∀ f : State → Nat → State, (∀ s b, (f s b).books = s.books) → ∀ t, ((List.range 4).foldl f t).books = t.books :=
    fun f hf t => foldl_keeps hf _ t
  unfold State.applyStopGroup
  dsimp only
  rw [State.onPw_books _ (by rfl) (by rfl) (by rfl)]
  rw [h _ (fun s b => by simp)]
  simp

@[simp] theorem State.applySar_books (o p) : (s.applySar o p).books = s.books := by
  have put : ∀ (t : State) (c : SarCfg), ({ t with applied := { t.applied with sar := c } } : State).books = t.books := fun _ _ => rfl
  unfold State.applySar
  dsimp only
  split
  · simp [put]
  · simp [put]
  · rw [State.foldl_books (fun s n => by simp), put]
  · rw [State.onSar_books, put, State.foldl_books (fun s n => by simp)]
  · rfl

@[simp] theorem State.callBanks_books : s.callBanks.books = s.books := s.callUnits_books _
@[simp] theorem State.applyVlConfig_books (p) : (s.applyVlConfig p).books = s.books := by
  have put : ∀ (t : State) (c : VlCfg), ({ t with applied := { t.applied with vl := c } } : State).books = t.books := fun _ _ => rfl
  simp [State.applyVlConfig, put]

@[simp] theorem State.applyVlSet_books (n o) : (s.applyVlSet n o).books = s.books := by
  unfold State.applyVlSet
  dsimp only
  generalize ht : (if o = 0 then _ else State.onVl n (fun c => { c with parked := false }) _) = t
  have h : t.books = s.books := by
    subst ht
    split <;> rfl
  split
  · simp [h]
  · split
    · split <;> simp [h]
    · simp [h]

@[simp] theorem State.applyVlDuty_books (p) : (s.applyVlDuty p).books = s.books := by
  unfold State.applyVlDuty
  dsimp only
  rw [State.reconcile_books]
  rfl

@[simp] theorem State.applyVlBank_books (p) : (s.applyVlBank p).books = s.books := by
  unfold State.applyVlBank
  dsimp only
  split <;> rfl

@[simp] theorem State.applyVlClear_books (p) : (s.applyVlClear p).books = s.books := by
  simp only [State.applyVlClear]
  rw [State.foldl_books (fun s n => by simp), State.foldl_books (fun s n => by simp)]

@[simp] theorem State.applyVl_books (o p) : (s.applyVl o p).books = s.books := by
  unfold State.applyVl
  split
  · simp
  · exact foldl_keeps (fun s e => by simp) _ _
  · rfl
  · simp
  · simp
  · simp
  · rfl

@[simp] theorem State.retryAo_books (n) : (s.retryAo n).books = s.books := by simp [State.retryAo]
@[simp] theorem State.applyFioClear_books (p) : (s.applyFioClear p).books = s.books := by
  simp only [State.applyFioClear, State.trackDrives_books]
  exact foldl_keeps (fun s n => by simp) _ _

@[simp] theorem State.applyBus_books (c) : (s.applyBus c).books = s.books := by
  unfold State.applyBus
  split <;> rfl

@[simp] theorem State.applyCaller_books (c) : (s.applyCaller c).books = s.books := by
  unfold State.applyCaller
  dsimp only
  repeat' split
  all_goals rfl

@[simp] theorem State.applyKey_books (o p) : (s.applyKey o p).books = s.books := by
  unfold State.applyKey
  dsimp only
  repeat' split
  all_goals rfl

@[simp] theorem State.applyCmd_books (o p) : (s.applyCmd o p).books.sansUnits = s.books.sansUnits := by
  have h : ∀ c : Calendar, ({ s with cal := c } : State).books = s.books := fun _ => rfl
  simp [State.applyCmd, h]

@[simp] theorem State.applyWrite_books (w) : (s.applyWrite w).books.sansUnits = s.books.sansUnits := by
  cases w <;> simp [State.applyWrite]

@[simp] theorem State.queueDiags_books : s.queueDiags.books = s.books :=
  foldl_keeps (fun s n => by dsimp only; split <;> simp) _ _

/-! ### The books under the keys, which stage writes of their own -/
@[simp] theorem sansStaged_ite {c : Prop} [Decidable c] (a b : Books) :
    (if c then a else b).sansStaged = if c then a.sansStaged else b.sansStaged :=
  apply_ite Books.sansStaged c a b

@[simp] theorem State.stageRank_books (r ws) : (s.stageRank r ws).books.sansStaged = s.books.sansStaged := rfl
@[simp] theorem State.stageAction_books (p v) : (s.stageAction p v).books.sansStaged = s.books.sansStaged := by simp [State.stageAction]
@[simp] theorem State.sumOf_books (p v) : (s.sumOf p v).2.books = s.books := by
  unfold State.sumOf
  dsimp only
  split <;> rfl

@[simp] theorem State.addend_books (p) : (s.addend p).2.books = s.books := by
  unfold State.addend
  split <;> rfl

@[simp] theorem State.encAction_books (n b) : (s.encAction n b).books.sansStaged = s.books.sansStaged := by simp [State.encAction]
@[simp] theorem State.keyAction_books (n b) : (s.keyAction n b).books.sansStaged = s.books.sansStaged := by simp [State.keyAction]
@[simp] theorem State.tryUnlock_books (n) : (s.tryUnlock n).1.books.sansStaged = s.books.sansStaged := by
  have put : ∀ k, ({ s with keys := k } : State).books = s.books := fun _ => rfl
  unfold State.tryUnlock
  dsimp only
  repeat' split
  all_goals simp [State.stageLock, put]

@[simp] theorem State.keyAct_books (a b c) : (s.keyAct a b c).1.books.sansStaged = s.books.sansStaged := by
  unfold State.keyAct
  dsimp only
  repeat' split
  all_goals simp

@[simp] theorem State.enqueueKey_books (e) : (s.enqueueKey e).books = s.books := by simp [State.enqueueKey]
@[simp] theorem State.takeKey_books (a b c d) : (s.takeKey a b c d).books.sansStaged = s.books.sansStaged := by
  unfold State.takeKey
  dsimp only
  repeat' split
  all_goals simp

@[simp] theorem State.dropKeys_books : s.dropKeys.books.sansStaged = s.books.sansStaged := by
  simp only [State.dropKeys]
  rw [foldl_keeps (π := fun s => s.books.sansStaged) (fun s n => by simp), State.onKeys_books]

@[simp] theorem State.dropKeysAfter_books (b) : (State.dropKeysAfter b s).books.sansStaged = s.books.sansStaged := by
  simp [State.dropKeysAfter]

/-! ### The books under an epoch that takes effect -/
@[simp] theorem State.afterGates_books : s.afterGates.books = s.books := by simp [State.afterGates]
@[simp] theorem State.releaseIlk_books (i) : (s.releaseIlk i).books = s.books := by simp [State.releaseIlk]
@[simp] theorem State.applyIlkWrite_books (i) : (s.applyIlkWrite i).books = s.books := by simp [State.applyIlkWrite]
@[simp] theorem State.applyIlkArm_books (i b) : (s.applyIlkArm i b).books = s.books := by
  unfold State.applyIlkArm
  dsimp only
  split
  · rw [State.raiseIf_books]; rfl
  · rfl

@[simp] theorem State.applyIlk_books (i b) : (s.applyIlk i b).books = s.books := by
  have h : ∀ c : Cfg, ({ s with applied := c } : State).books = s.books := fun _ => rfl
  simp [State.applyIlk, h]

@[simp] theorem State.leaveSafe_books (b) : (s.leaveSafe b).books = s.books := by
  unfold State.leaveSafe
  split
  · rw [State.raise_books]; rfl
  · rfl

@[simp] theorem State.moveGates_books : s.moveGates.books = s.books := by
  have h := State.callNew_books ((({ s with tb := tbAdd s.tb 1 } : State).moveAll).callOuts) s
  rw [State.callOuts_books, State.moveAll_books] at h
  exact congrArg (fun b : Books => { b with tb := s.tb }) h

@[simp] theorem State.applyGates_books (c ws) : (s.applyGates c ws).books = s.books := by
  have gated : ∀ (l : List (Nat × Bytes)) (t : State), (l.foldl (fun s c => s.applyIlk c.1 c.2) t).books = t.books :=
    State.foldl_books fun s c => s.applyIlk_books c.1 c.2
  simp [State.applyGates, gated]

theorem sans_comm (b : Books) : b.sansUnits.sansStaged = b.sansStaged.sansUnits := rfl
theorem State.applyEpoch_books : s.applyEpoch.books.sansUnits.sansStaged =
    ({ s with toApply := [], applyDue := none } : State).books.sansUnits.sansStaged := by
  unfold State.applyEpoch
  dsimp only
  rw [State.applyGates_books, State.callNew_books, State.settleAll_books, State.queueDiags_books, sans_comm,
    State.dropKeysAfter_books, ← sans_comm,
    foldl_keeps (π := fun s => s.books.sansUnits) (fun s w => s.applyWrite_books w)]
  rw [State.takeConfig_books]
  rfl

/-! ### The books under a persistence of the state image (R396 to R402) -/
theorem State.putArea_books (b i) : (s.putArea b i).books = s.books := by unfold State.putArea; split <;> rfl
theorem State.onCurArea_books (f) : (s.onCurArea f).books = s.books := by unfold State.onCurArea; split <;> rfl

/-- An area written and taken as the current one. -/
theorem State.takeArea_books (b : Bool) (img : ImageArea) (n : W32) (t : Nat) :
    ({ s.putArea b img with store := { (s.putArea b img).store with cur := some b, switches := n, lastSwitch := t } } : State).books =
      { s.books with cur := some b } := by
  cases b <;> rfl

/-- An image switch leaves the books but for the current area, which changes where the switch verified. -/
theorem State.imageTo_books (b : Bool) (e : Nat) :
    (s.imageTo b e).1.books = if (s.imageTo b e).2 then { s.books with cur := some b } else s.books := by
  have base : ∀ ps qs, ((s.lookAt ps).rewritten qs).books = s.books := fun ps qs => by simp
  unfold State.imageTo
  dsimp only
  split
  · exact (State.takeArea_books _ b _ _ _).trans (by rw [base]; rfl)
  · rw [State.noteFails_books, State.putArea_books, base]
    rfl

/-- A mark or a journal record leaves the books. -/
theorem State.recordTo_books (f) : (s.recordTo f).1.books = s.books := by
  unfold State.recordTo
  dsimp only
  split
  · rw [State.onCurArea_books, State.rewritten_books, State.lookAt_books]
  · rw [State.noteFails_books, State.rewritten_books, State.lookAt_books]

/-- The books but for what a persistence sets: whether replies wait for one, the epoch persisted, the current area, the fallback to
switches alone. -/
def Books.sansStore (b : Books) : Books := { b with held := false, pepoch := 0, cur := none, switchOnly := false }

theorem State.imageTo_sansStore (b : Bool) (e : Nat) : (s.imageTo b e).1.books.sansStore = s.books.sansStore := by
  rw [State.imageTo_books]
  split <;> rfl

theorem State.imageTo_pepoch (b : Bool) (e : Nat) : (s.imageTo b e).1.store.pepoch = s.store.pepoch := by
  have h : (s.imageTo b e).1.books.pepoch = s.books.pepoch := by
    rw [State.imageTo_books]
    split <;> rfl
  exact h

/-- A persistence is tried by a mark, a journal record or an image switch. -/
theorem State.tryPersist_cases {P : State × Bool → Prop} (e : Nat) (record : ∀ f, P (s.recordTo f))
    (image : P (s.imageTo s.nextArea e)) : P (s.tryPersist e) := by
  unfold State.tryPersist
  dsimp only
  split
  · exact image
  · split
    · exact image
    · split
      · exact record _
      · split
        · exact record _
        · exact image

theorem State.tryPersist_sansStore (e : Nat) : (s.tryPersist e).1.books.sansStore = s.books.sansStore :=
  s.tryPersist_cases (P := fun r => r.1.books.sansStore = s.books.sansStore) e
    (fun f => congrArg Books.sansStore (s.recordTo_books f)) (s.imageTo_sansStore _ e)

theorem State.tryPersist_pepoch (e : Nat) : (s.tryPersist e).1.store.pepoch = s.store.pepoch :=
  s.tryPersist_cases (P := fun r => r.1.store.pepoch = s.store.pepoch) e
    (fun f => congrArg Books.pepoch (s.recordTo_books f)) (s.imageTo_pepoch _ e)

/-- With switches alone left, an epoch is tried by an image switch (R402). -/
theorem State.tryPersist_switchOnly (h : s.store.switchOnly = true) (e : Nat) : s.tryPersist e = s.imageTo s.nextArea e := by
  unfold State.tryPersist
  split
  · rfl
  · simp [h]

/-- What a persistence leaves once its attempt, or the switch after one that failed, has ended. -/
def State.persistTried (a : State × Bool) (e : Nat) : State × Bool := if a.2 then a else a.1.imageTo a.1.retryArea e

theorem State.persist_frame (e : Nat) : ∃ op, s.persist e =
    ({ (State.persistTried (s.tryPersist e) e).1 with
        store := { (State.persistTried (s.tryPersist e) e).1.store with
          pepoch := if (State.persistTried (s.tryPersist e) e).2 then e else (State.persistTried (s.tryPersist e) e).1.store.pepoch
          imgOp := op
          switchOnly := (State.persistTried (s.tryPersist e) e).1.store.switchOnly || !(State.persistTried (s.tryPersist e) e).2 } },
      (State.persistTried (s.tryPersist e) e).2) := ⟨_, rfl⟩

theorem State.persistTried_sansStore (e : Nat) : (State.persistTried (s.tryPersist e) e).1.books.sansStore = s.books.sansStore := by
  unfold State.persistTried
  split
  · exact s.tryPersist_sansStore e
  · rw [State.imageTo_sansStore, State.tryPersist_sansStore]

theorem State.persistTried_pepoch (e : Nat) : (State.persistTried (s.tryPersist e) e).1.store.pepoch = s.store.pepoch := by
  unfold State.persistTried
  split
  · exact s.tryPersist_pepoch e
  · rw [State.imageTo_pepoch, State.tryPersist_pepoch]

theorem State.persist_sansStore (e : Nat) : (s.persist e).1.books.sansStore = s.books.sansStore := by
  obtain ⟨op, h⟩ := s.persist_frame e
  rw [h, ← s.persistTried_sansStore e]
  rfl

theorem State.persistSoon_sansStore (e : Nat) (ack : Bool) : (s.persistSoon e false ack).1.books.sansStore = s.books.sansStore := by
  unfold State.persistSoon
  split
  · rfl
  · exact s.persist_sansStore e

theorem State.persist_pepoch (e : Nat) : (s.persist e).1.store.pepoch = if (s.persist e).2 then e else s.store.pepoch := by
  obtain ⟨op, h⟩ := s.persist_frame e
  rw [h, ← s.persistTried_pepoch e]

theorem State.persist_switchOnly (e : Nat) (h : (s.persist e).2 = false) : (s.persist e).1.store.switchOnly = true := by
  obtain ⟨op, hp⟩ := s.persist_frame e
  rw [hp] at h ⊢
  simp only at h
  simp only [h, Bool.not_false, Bool.or_true]

theorem State.persist_cur (e : Nat) (h : s.store.switchOnly = true) (hp : (s.persist e).2 = true) :
    (s.persist e).1.store.cur = some (if s.store.cur = none ∧ (s.tryPersist e).2 = false then true else s.nextArea) := by
  have kept : ∀ b, (s.imageTo b e).2 = false → (s.imageTo b e).1.store.cur = s.store.cur := fun b hb => by
    have h := congrArg Books.cur (s.imageTo_books b e)
    rwa [hb, if_neg (by simp)] at h
  have taken : ∀ (t : State) b, (t.imageTo b e).2 = true → (t.imageTo b e).1.store.cur = some b := fun t b hb => by
    have h := congrArg Books.cur (t.imageTo_books b e)
    rwa [hb, if_pos rfl] at h
  obtain ⟨op, hf⟩ := s.persist_frame e
  rw [hf] at hp ⊢
  show (State.persistTried (s.tryPersist e) e).1.store.cur = _
  replace hp : (State.persistTried (s.tryPersist e) e).2 = true := hp
  unfold State.persistTried at hp ⊢
  rw [State.tryPersist_switchOnly s h] at hp ⊢
  cases hi : (s.imageTo s.nextArea e).2
  · have hk := kept _ hi
    simp only [hi, Bool.false_eq_true, if_false] at hp ⊢
    rw [taken _ _ hp, State.retryArea, hk, State.nextArea]
    rcases s.store.cur with _ | _ | _ <;> simp
  · simp only [hi, if_true] at hp ⊢
    rw [taken _ _ hi]
    simp

theorem leads_next {s : State} {P : State → Prop} (h : P s) : leads (.next s) P := ⟨s, rfl, h⟩

/-- A jump moves TB and its fraction alone. -/
theorem State.jump_frame (d : Nat) : ∃ tb frac, s.jump d = { s with tb := tb, tbFrac := frac } :=
  State.jump_cases (P := fun t : State => ∃ tb frac, t = { s with tb := tb, tbFrac := frac }) ⟨s.tb, s.tbFrac, rfl⟩
    (fun _ => ⟨_, _, rfl⟩) fun _ => ⟨_, _, rfl⟩

theorem latchHold_books (b a : State) : (latchHold b a).books = a.books := by
  unfold latchHold
  split <;> rfl

/-! ### The fall to DOZE, and a commit of one write -/

@[simp] theorem State.enterDoze_books : s.enterDoze.books = s.books := rfl
theorem State.descend_books : s.descend.books.sansUnits = s.books.sansUnits := by
  unfold State.descend
  split
  · split
    · rfl
    · rw [State.callOuts_books]
      exact (rfl : _ = (s.stopUnits _).books.sansUnits).trans (s.stopUnits_books _)
  · split
    · dsimp only
      rw [books_ite, State.enterDoze_books, ite_self]
      split <;> rfl
    · rfl

/-- The books but for the waiting replies. -/
def Books.sansWaits (b : Books) : Books := { b with waits := [] }

theorem unitsOf_singleton (w : Staged) : unitsOf [w] = [(w.uid, [w.w])] := by
  simp [unitsOf, List.eraseDups, List.eraseDupsBy, List.eraseDupsBy.loop]

theorem settleUnits_point (n u pt : Nat) (v : W32) (x : Picture) (hv : v ≠ noVal) (hx : x.wrote = []) :
    settleUnits (n + 1) [] [(u, [.point pt v])] x = ({ x with com := x.com.setPoint pt v }, []) := by
  have put : putUnits [] [(u, [.point pt v])] x = ({ x with com := x.com.setPoint pt v }, []) := by
    simp [putUnits, Picture.putAll, Picture.put, hv]
  simp [settleUnits, put, Picture.badUnits, hx, List.eraseDups]

theorem State.settleWaits_books {s : State} (done : List Nat) (e : Nat) (p : Bool) (h : s.paired = false) :
    (s.settleWaits done [] e p).books.sansWaits = s.books.sansWaits := by
  have paired : ∀ ws, ({ s with waits := ws } : State).paired = false := fun _ => h
  simp [State.settleWaits, paired]
  rfl

/-- The state that a commit of one point's write puts in force, before it is persisted. -/
def State.withPoint (pt : Nat) (v : W32) (s : State) : State :=
  State.onPair (fun p => { p with bump := false, heldTerm := s.unit.term, lastCommit := some (epochSucc s.epoch, s.tb) })
    { s with
      com := (s.com.setPoint pt v).fillPoints
      epoch := epochSucc s.epoch
      tbc := s.tb
      latched := s.latchAll (s.com.setPoint pt v).fillPoints.cfg
      staged := []
      toApply := s.toApply ++ [.point pt v] }

theorem State.commitNow_point_eq {w : Staged} {pt : Nat} {v : W32} (hp : s.paired = false) (hb : s.pair.bump = false)
    (hs : s.staged = [w]) (ht : w.at_ ≠ s.tb) (hw : w.w = .point pt v) (hv : v ≠ noVal) :
    ∃ (t : State) (p : Bool), t.books.sansStore = (s.withPoint pt v).books.sansStore ∧
      s.commitNow = { t.settleWaits [w.uid] [] t.epoch p with
        applyDue := some (tbAdd (t.settleWaits [w.uid] [] t.epoch p).tb 200) } := by
  have persisted : (((s.withPoint pt v).persistSoon (epochSucc s.epoch) false false).1.raise 16).books.sansStore =
      (s.withPoint pt v).books.sansStore := by
    rw [State.raise_books, State.persistSoon_sansStore]
  have single : (((s.withPoint pt v).persistSoon (epochSucc s.epoch) false false).1.raise 16).paired = false :=
    (congrArg (fun b : Books => b.strap == 2 || b.strap == 3) persisted).trans hp
  refine ⟨((s.withPoint pt v).persistSoon (epochSucc s.epoch) false false).1.raise 16,
    ((s.withPoint pt v).persistSoon (epochSucc s.epoch) false false).2, persisted, ?_⟩
  unfold State.withPoint at single
  unfold State.commitNow
  rw [hs]
  simp [unitsOf_singleton, ht, hw, settleUnits_point, hv, State.nextEpoch, hb, Write.anyRole, Write.keySlot, rtcActs, State.raiseIf,
    -State.mk.injEq]
  rw [single]
  simp only [Bool.false_eq_true, if_false, State.raise_epoch]
  rfl

/-- The books after the commit of one point's write, but for what its persistence sets and the replies that wait. -/
theorem State.commitNow_point {w : Staged} {pt : Nat} {v : W32} (hp : s.paired = false) (hb : s.pair.bump = false)
    (hs : s.staged = [w]) (ht : w.at_ ≠ s.tb) (hw : w.w = .point pt v) (hv : v ≠ noVal) :
    s.commitNow.books.sansStore.sansWaits =
      { (s.withPoint pt v).books with applyDue := some (tbAdd s.tb 200) }.sansStore.sansWaits := by
  obtain ⟨t, p, hbooks, ht⟩ := s.commitNow_point_eq hp hb hs ht hw hv
  have single : t.paired = false := (congrArg (fun b : Books => b.strap == 2 || b.strap == 3) hbooks).trans hp
  have settled := t.settleWaits_books [w.uid] t.epoch p single
  have htb : (t.settleWaits [w.uid] [] t.epoch p).tb = s.tb :=
    (congrArg Books.tb settled).trans (congrArg Books.tb hbooks)
  rw [ht, htb]
  have h : (t.settleWaits [w.uid] [] t.epoch p).books.sansWaits.sansStore = (s.withPoint pt v).books.sansStore.sansWaits :=
    (congrArg Books.sansStore settled).trans (congrArg Books.sansWaits hbooks)
  exact congrArg (fun b : Books => { b with applyDue := some (tbAdd s.tb 200) }) h

/-- A boundary with no unit of writes settles no reply. -/
theorem State.settleWaits_nothing (e : Nat) (p : Bool) : s.settleWaits [] [] e p = s := by
  simp [State.settleWaits, -State.mk.injEq]

/-- With nothing staged and nothing newly latched a boundary commits nothing. -/
theorem State.commitNow_nothing (hs : s.staged = []) (hl : s.latchAll s.com.cfg = s.latched) : s.commitNow = s := by
  have lat : s.latchAll s.com.fillPoints.cfg = s.latched := hl
  unfold State.commitNow
  rw [hs]
  simp [unitsOf, settleUnits, putUnits, Picture.badUnits, List.eraseDups, List.eraseDupsBy, List.eraseDupsBy.loop, lat,
    State.settleWaits_nothing, -State.mk.injEq]
  rw [← hs]

/-! ### Beat boundaries -/

theorem State.boundaryDue_now (h : s.tb % 10000 = 0) (hb : s.beatAt ≠ s.tb) : s.boundaryDue = s.tb := by
  simp [State.boundaryDue, h, hb]

/-- While awake a jump to the present quantum changes nothing. -/
theorem State.jump_present {s : State} (ha : s.awake = true) (h : s.tb < tbMod) : s.jump s.tb = s := by
  rw [State.jump_eq (State.awake_phase ha) (by simp [tbSub_present (Nat.mod_eq_of_lt h).symm]), Nat.mod_eq_of_lt h]

/-- A beat boundary once TB has reached it. -/
def State.beatReached (obs : BeatObs) (due : Nat) : Out :=
  let s := { s with beatAt := due }
  if s.phase == .doze then .next s
  else
    let s := { s with worn := obs.worn ++ s.worn }
    let s := if s.store.recalled && !s.mgmt.restarting then s.beatWork else s
    .next (s.beatData obs).descend

theorem exec_beatBoundary_eq (obs : BeatObs) : exec (.beatBoundary obs) s =
    if !(s.awake || s.phase == .doze) then .next s else (s.jump s.boundaryDue).beatReached obs s.boundaryDue := rfl

theorem State.beatReached_doze (obs : BeatObs) (d : Nat) (hp : s.phase = .doze) : s.beatReached obs d = .next { s with beatAt := d } := by
  simp [State.beatReached, hp]

theorem State.beatReached_awake (obs : BeatObs) (d : Nat) (hp : s.phase ≠ .doze) (hr : s.store.recalled = true)
    (hm : s.mgmt.restarting = false) : s.beatReached obs d =
     .next (({ s with beatAt := d, worn := obs.worn ++ s.worn } : State).beatWork.beatData obs).descend := by
  simp [State.beatReached, hp, hr, hm]

theorem State.beatData_books (obs : BeatObs) : (s.beatData obs).books = { s.books with pline := obs.intakeMw % 65536 } := by
  unfold State.beatData
  dsimp only
  rw [books_ite, State.linkQueue_books, ite_self, State.dspBand_books]
  rfl

/-- On a single device that acts, the work of a boundary after its commit sets at most the date of the apply quantum. -/
theorem State.beatWork_books (ha : s.acting = true) (hp : s.commitNow.paired = false) :
    s.beatWork.books = s.commitNow.books ∨
      s.beatWork.books = { s.commitNow.books with applyDue := some (tbAdd s.commitNow.tb 200) } := by
  unfold State.beatWork
  rw [if_pos ha]
  generalize s.commitNow = t at hp ⊢
  have single : ∀ d, ({ t.armDiags with applyDue := d } : State).paired = false := fun _ => hp
  have single' : t.armDiags.paired = false := hp
  by_cases hd : t.armDiags.otherDue = true
  · right
    simp only [hd, if_true, single, Bool.false_and, Bool.false_eq_true, if_false]
    rfl
  · left
    simp only [hd, single', Bool.false_and, Bool.false_eq_true, if_false]
    rfl

/-- The state in which the management plane's work of a beat boundary begins. -/
def State.atBeat (obs : BeatObs) (s : State) : State := { s with beatAt := s.tb, worn := obs.worn ++ s.worn }

/-- A beat boundary that comes in its own quantum, on a device that commits. -/
theorem exec_beatBoundary_now {s : State} (obs : BeatObs) (ha : s.awake = true) (hr : s.store.recalled = true)
    (hm : s.mgmt.restarting = false) (ht : s.tb % 10000 = 0) (hlt : s.tb < tbMod) (hb : s.beatAt ≠ s.tb) :
    exec (.beatBoundary obs) s = .next (((s.atBeat obs).beatWork.beatData obs).descend) := by
  rw [exec_beatBoundary_eq, State.boundaryDue_now s ht hb, State.jump_present ha hlt,
    State.beatReached_awake s obs s.tb (State.awake_phase ha) hr hm, ha]
  rfl

/-- What the books hold after such a boundary on a single device that acts: what its commit leaves, and the line's power. -/
theorem State.beat_books {s : State} (obs : BeatObs) (hact : s.acting = true) (hp : s.commitNow.paired = false) :
    ∃ due, (due = s.commitNow.applyDue ∨ due = some (tbAdd s.commitNow.tb 200)) ∧
      ((s.beatWork.beatData obs).descend).books.sansUnits =
        { s.commitNow.books with applyDue := due, pline := obs.intakeMw % 65536 }.sansUnits := by
  rw [State.descend_books, State.beatData_books]
  rcases s.beatWork_books hact hp with h | h
  · exact ⟨_, .inl rfl, by rw [h]; rfl⟩
  · exact ⟨_, .inr rfl, by rw [h]⟩

theorem beatBoundary_commits {s : State} (obs : BeatObs) {w : Staged} {pt : Nat} {v : W32} (ha : s.awake = true) (hact : s.acting = true)
    (hp : s.paired = false) (hr : s.store.recalled = true)
    (hm : s.mgmt.restarting = false) (ht : s.tb % 10000 = 0) (hlt : s.tb < tbMod) (hb : s.beatAt ≠ s.tb) (hbump : s.pair.bump = false)
    (hs : s.staged = [w]) (hw : w.at_ ≠ s.tb) (hpt : w.w = .point pt v) (hv : v ≠ noVal) :
    leads (exec (.beatBoundary obs) s) fun t => t.com = (s.com.setPoint pt v).fillPoints ∧ t.epoch = epochSucc s.epoch ∧ t.tbc = s.tb ∧
        t.staged = [] ∧ t.toApply = s.toApply ++ [.point pt v] ∧ t.applyDue = some (tbAdd s.tb 200) ∧ t.beatAt = s.tb ∧
        t.latched = s.latchAll (s.com.setPoint pt v).fillPoints.cfg := by
  rw [exec_beatBoundary_now obs ha hr hm ht hlt hb]
  refine leads_next ?_
  have commit := (s.atBeat obs).commitNow_point hp hbump hs hw hpt hv
  have single : (s.atBeat obs).commitNow.paired = false :=
    (congrArg (fun b : Books => b.strap == 2 || b.strap == 3) commit).trans hp
  have now : (s.atBeat obs).commitNow.tb = s.tb := congrArg Books.tb commit
  have date : (s.atBeat obs).commitNow.applyDue = some (tbAdd s.tb 200) := congrArg Books.applyDue commit
  obtain ⟨due, hdue, books⟩ := (s.atBeat obs).beat_books obs hact single
  have hd : due = some (tbAdd s.tb 200) := by
    rcases hdue with h | h
    · rw [h, date]
    · rw [h, now]
  generalize ((s.atBeat obs).beatWork.beatData obs).descend = t at books ⊢
  generalize (s.atBeat obs).commitNow = c at commit books
  have point : ((s.atBeat obs).withPoint pt v).books = { (s.withPoint pt v).books with beatAt := s.tb } := rfl
  rw [point] at commit
  exact ⟨(congrArg Books.com books).trans (congrArg Books.com commit), (congrArg Books.epoch books).trans (congrArg Books.epoch commit),
    (congrArg Books.tbc books).trans (congrArg Books.tbc commit), (congrArg Books.staged books).trans (congrArg Books.staged commit),
    (congrArg Books.toApply books).trans (congrArg Books.toApply commit), (congrArg Books.applyDue books).trans hd,
    (congrArg Books.beatAt books).trans (congrArg Books.beatAt commit), (congrArg Books.latched books).trans (congrArg Books.latched commit)⟩

theorem beatBoundary_idle {s : State} (obs : BeatObs) (ha : s.awake = true) (hact : s.acting = true)
    (hp : s.paired = false) (hr : s.store.recalled = true)
    (hm : s.mgmt.restarting = false) (ht : s.tb % 10000 = 0) (hlt : s.tb < tbMod) (hb : s.beatAt ≠ s.tb)
    (hs : s.staged = []) (hl : s.latchAll s.com.cfg = s.latched) :
    leads (exec (.beatBoundary obs) s) fun t => t.com = s.com ∧ t.epoch = s.epoch ∧ t.tbc = s.tbc ∧ t.latched = s.latched ∧
      t.beatAt = s.tb ∧ t.pw.pline = obs.intakeMw % 65536 := by
  rw [exec_beatBoundary_now obs ha hr hm ht hlt hb]
  refine leads_next ?_
  have commit : (s.atBeat obs).commitNow = s.atBeat obs := (s.atBeat obs).commitNow_nothing hs hl
  have single : (s.atBeat obs).commitNow.paired = false := by rw [commit]; exact hp
  obtain ⟨due, -, books⟩ := (s.atBeat obs).beat_books obs hact single
  rw [commit] at books
  generalize ((s.atBeat obs).beatWork.beatData obs).descend = t at books ⊢
  exact ⟨congrArg Books.com books, congrArg Books.epoch books, congrArg Books.tbc books, congrArg Books.latched books,
    congrArg Books.beatAt books, congrArg Books.pline books⟩

theorem beatBoundary_doze {s : State} (obs : BeatObs) (hp : s.phase = .doze) : leads (exec (.beatBoundary obs) s) fun t => t.phase = .doze ∧
      { t with tb := s.tb, tbFrac := s.tbFrac, beatAt := s.beatAt } = s := by
  obtain ⟨tb, frac, hj⟩ := s.jump_frame s.boundaryDue
  have live : (!(s.awake || s.phase == .doze)) = false := by simp [hp]
  rw [exec_beatBoundary_eq, hj, State.beatReached_doze { s with tb := tb, tbFrac := frac } obs _ hp, live]
  exact leads_next ⟨hp, rfl⟩

/-! ### Apply quanta -/

/-- The reply of a host command, posted with an epoch in this quantum (R75, R96). -/
def Waiting.reply (w : Waiting) (id status epoch : Nat) (results : Bytes) (t : Nat) : Reply :=
  { slot := some id, tag := w.tag, status := status, epoch := epoch, results := results, final := true, readAt := t }

/-- A final reply posted for a host command stands after those that wait to be read; of the books the link alone changes. -/
theorem State.postAt_host (id : Nat) (w : Waiting) (st e : Nat) (rs : Bytes) (h : st ≠ stDeferred) :
    ∃ l : Link, (s.postAt (.host id) w.tag st e rs).books = { s.books with link := l } ∧
      l.replies = s.link.replies ++ [w.reply id st e rs s.tb] := by
  have fin : (st != stDeferred) = true := by simpa using h
  unfold State.postAt
  dsimp only
  rw [State.raise_books]
  refine ⟨_, rfl, ?_⟩
  simp [Link.onCmd, Waiting.reply, fin]

/-- Of one reply that waits for an epoch now applied on a single device, or is to tell a FAULT, the books keep the posting (R75, R402). -/
theorem State.postApplied_one {w : Waiting} {e id : Nat} (hw : s.waits = [w]) (he : w.epoch = some e) (hi : w.org = .host id)
    (ho : w.fault = true ∨ s.paired = false) :
    ∃ l : Link, s.postApplied.books = { s.books with link := l, waits := [] } ∧ l.replies = s.link.replies ++
      [if w.fault then w.reply id stFault s.epoch [] s.tb else w.reply id stOk e w.results s.tb] := by
  have post : s.postApplied = if w.fault then ({ s with waits := [] } : State).postAt (.host id) w.tag stFault s.epoch []
      else ({ s with waits := [] } : State).postAt (.host id) w.tag stOk e w.results := by
    unfold State.postApplied
    rw [hw]
    have emptied : ({ s with waits := [] } : State).paired = s.paired := rfl
    rcases ho with h | h <;> simp [he, hi, h, emptied, State.post, -State.mk.injEq]
  rw [post]
  split
  · exact State.postAt_host { s with waits := [] } id w stFault s.epoch [] (by decide)
  · exact State.postAt_host { s with waits := [] } id w stOk e w.results (by decide)

/-- An apply quantum once TB has reached it: the epoch takes effect, and its replies are posted where no persistence holds them. -/
def State.applyReached (s : State) : State := if s.applyEpoch.imageHeld then s.applyEpoch else s.applyEpoch.postApplied

theorem exec_applyQuantum_at {t : Nat} (hd : s.applyDue = some t) (ha : s.awake = true) :
    exec .applyQuantum s = .next (s.jump t).applyReached := by
  have arm : exec .applyQuantum s = execApplyQuantum s := rfl
  rw [arm]
  unfold execApplyQuantum
  rw [hd, ha]
  rfl

theorem applyQuantum_posts {s : State} {w : Waiting} {e id : Nat} (ha : s.awake = true) (hh : s.imageHeld = false)
    (hd : s.applyDue = some s.tb) (hlt : s.tb < tbMod) (hw : s.waits = [w]) (he : w.epoch = some e) (hi : w.org = .host id)
    (ho : w.fault = true ∨ s.paired = false) :
    leads (exec .applyQuantum s) fun t => t.link.replies = s.link.replies ++
        [if w.fault then w.reply id stFault s.epoch [] s.tb else w.reply id stOk e w.results s.tb] ∧
      t.waits = [] ∧ t.toApply = [] ∧ t.applyDue = none ∧ t.com = s.com ∧ t.epoch = s.epoch := by
  rw [exec_applyQuantum_at s hd ha, State.jump_present ha hlt, State.applyReached]
  have books := s.applyEpoch_books
  generalize s.applyEpoch = t at books ⊢
  have held : t.imageHeld = false := (congrArg Books.held books).trans hh
  have single : w.fault = true ∨ t.paired = false :=
    ho.imp_right (congrArg (fun b : Books => b.strap == 2 || b.strap == 3) books).trans
  obtain ⟨l, hl, hr⟩ := t.postApplied_one ((congrArg Books.waits books).trans hw) he hi single
  rw [held, if_neg (by simp)]
  refine leads_next ?_
  generalize t.postApplied = u at hl ⊢
  have replies : t.link.replies = s.link.replies := congrArg (fun b : Books => b.link.replies) books
  have epoch : t.epoch = s.epoch := congrArg Books.epoch books
  have now : t.tb = s.tb := congrArg Books.tb books
  rw [replies, epoch, now] at hr
  exact ⟨(congrArg (fun b : Books => b.link.replies) hl).trans hr, congrArg Books.waits hl,
    (congrArg Books.toApply hl).trans (congrArg Books.toApply books), (congrArg Books.applyDue hl).trans (congrArg Books.applyDue books),
    (congrArg Books.com hl).trans (congrArg Books.com books), (congrArg Books.epoch hl).trans (congrArg Books.epoch books)⟩

/-! ### What a wake keeps -/

/-- The state but for the parts that a wake works on; of the events, what TBWAKE records of it (R128). -/
def State.sansWake (s : State) : State :=
  { s with
    ev := { wakeValid := s.ev.wakeValid, wakeSrc := s.ev.wakeSrc, wakeTs := s.ev.wakeTs }
    pw := {}, mgmt := {}, pres := {}, out := {}, fio := {}, ilk := {}, keys := {}, heldAt := 0, heldRes := [] }

/-- Raising a source in the fabric leaves TBWAKE. -/
theorem Events.raise_wake (e : Events) (n t : Nat) : (e.raise n t).wakeValid = e.wakeValid ∧ (e.raise n t).wakeSrc = e.wakeSrc ∧
    (e.raise n t).wakeTs = e.wakeTs := by
  unfold Events.raise Events.noteLow
  dsimp only
  repeat' split
  all_goals exact ⟨rfl, rfl, rfl⟩

@[simp] theorem State.raise_sansWake (n : Nat) : (s.raise n).sansWake = s.sansWake := by
  obtain ⟨hv, hs, ht⟩ := s.ev.raise_wake n s.tb
  unfold State.raise
  split
  · simp only [State.sansWake, hv, hs, ht]
  · simp only [State.sansWake, hv, hs, ht]
  · split <;> rfl
  · rfl
  · rfl
  · rfl

@[simp] theorem State.raiseIf_sansWake (c : Bool) (n : Nat) : (s.raiseIf c n).sansWake = s.sansWake := by
  cases c
  · rfl
  · exact s.raise_sansWake n

@[simp] theorem sansWake_ite {c : Prop} [Decidable c] (a b : State) : (if c then a else b).sansWake = if c then a.sansWake else b.sansWake :=
  apply_ite State.sansWake c a b

theorem State.foldl_sansWake {α : Type} {f : State → α → State} (h : ∀ s x, (f s x).sansWake = s.sansWake) (l : List α) (s : State) :
    (l.foldl f s).sansWake = s.sansWake :=
  foldl_keeps h l s

theorem State.noteEntry_sansWake (i : Nat) : (s.noteEntry i).sansWake = s.sansWake := rfl
@[simp] theorem State.noteIlk_sansWake : s.noteIlk.sansWake = s.sansWake := by
  unfold State.noteIlk
  dsimp only
  split
  · exact State.foldl_sansWake (fun s i => s.noteEntry_sansWake i) _ _
  · rfl

@[simp] theorem State.trackDrives_sansWake : s.trackDrives.sansWake = s.sansWake := rfl
theorem State.moveAo_sansWake (n : Nat) : (s.moveAo n).sansWake = s.sansWake := rfl
@[simp] theorem State.fanTake_sansWake (n d : Nat) : (s.fanTake n d).sansWake = s.sansWake := rfl
theorem State.moveFn_sansWake (n : Nat) : (s.moveFn n).sansWake = s.sansWake := by simp [State.moveFn]
@[simp] theorem State.moveOuts_sansWake : s.moveOuts.sansWake = s.sansWake := by
  simp only [State.moveOuts, State.trackDrives_sansWake]
  rw [State.foldl_sansWake (fun s n => s.moveFn_sansWake n), State.foldl_sansWake (fun s n => s.moveAo_sansWake n)]

@[simp] theorem State.sendDo_sansWake (n : Nat) : (s.sendDo n).sansWake = s.sansWake := by
  unfold State.sendDo
  split <;> rfl

@[simp] theorem State.switchDo_sansWake (n : Nat) (b : Bool) : (s.switchDo n b).sansWake = s.sansWake := rfl
theorem State.moveDo_sansWake (n : Nat) : (s.moveDo n).sansWake = s.sansWake := by simp [State.moveDo]
@[simp] theorem State.moveDos_sansWake : s.moveDos.sansWake = s.sansWake := by
  simp only [State.moveDos, State.trackDrives_sansWake]
  rw [State.foldl_sansWake (fun s n => s.moveDo_sansWake n)]

@[simp] theorem State.restartFilters_sansWake : s.restartFilters.sansWake = s.sansWake := rfl
@[simp] theorem State.countFrames_sansWake : s.countFrames.sansWake = s.sansWake := rfl
@[simp] theorem State.wantSampling_sansWake : s.wantSampling.sansWake = s.sansWake := by
  unfold State.wantSampling State.startSampling
  rfl

@[simp] theorem State.callUnits_sansWake (m) : (s.callUnits m).sansWake = s.sansWake := by
  obtain ⟨p, hp, -⟩ := s.callUnits_frame m
  rw [hp]
  rfl

@[simp] theorem latchHold_sansWake (b a : State) : (latchHold b a).sansWake = a.sansWake := by
  unfold latchHold
  split <;> rfl

/-- The device just out of DOZE: in NAP, with what TBWAKE records of the wake (R22, R128). -/
def State.woken (src stamp : Nat) (s : State) : State :=
  { s with phase := .nap, ev := { s.ev with wakeValid := true, wakeSrc := src, wakeTs := wN stamp } }

theorem State.setIlk_sansWake (i : Ilk) : ({ s with ilk := i } : State).sansWake = s.sansWake := rfl
theorem State.setPres_sansWake (p : Presence) : ({ s with pres := p } : State).sansWake = s.sansWake := rfl
theorem State.onKeys_sansWake (f : Keys → Keys) : (s.onKeys f).sansWake = s.sansWake := rfl

theorem State.wake_sansWake (src stamp : Nat) : (s.wake src stamp).sansWake = s.sansWake.woken src stamp := by
  unfold State.wake
  dsimp only
  rw [State.callUnits_sansWake, State.moveDos_sansWake, State.moveOuts_sansWake, State.countFrames_sansWake, State.restartFilters_sansWake,
    sansWake_ite]
  simp only [State.wantSampling_sansWake, ite_self, State.setPres_sansWake, State.raiseIf_sansWake, State.noteIlk_sansWake,
    State.setIlk_sansWake, State.onKeys_sansWake]
  rw [State.foldl_sansWake (fun s n => s.raiseIf_sansWake _ n)]
  rfl

/-- `t` is `s` just out of DOZE: in NAP with the wake recorded, and what a wake does not touch as it was. -/
def State.WokeAs (s : State) (src stamp : Nat) (t : State) : Prop :=
  t.phase = .nap ∧ t.ev.wakeValid = true ∧ t.ev.wakeSrc = src ∧ t.ev.wakeTs = wN stamp ∧
    { t with phase := s.phase, ev := s.ev, pw := s.pw, mgmt := s.mgmt, pres := s.pres, out := s.out, fio := s.fio, ilk := s.ilk
             keys := s.keys, heldAt := s.heldAt, heldRes := s.heldRes } = s

theorem wokeAs_of_sansWake {s t : State} {src stamp : Nat} (h : t.sansWake = s.sansWake.woken src stamp) : s.WokeAs src stamp t :=
  ⟨congrArg State.phase h, congrArg (fun x : State => x.ev.wakeValid) h, congrArg (fun x : State => x.ev.wakeSrc) h,
    congrArg (fun x : State => x.ev.wakeTs) h,
    congrArg (fun x : State => { x with
      phase := s.phase, ev := s.ev, pw := s.pw, mgmt := s.mgmt, pres := s.pres, out := s.out, fio := s.fio, ilk := s.ilk
      keys := s.keys, heldAt := s.heldAt, heldRes := s.heldRes }) h⟩

theorem latchHold_wake_wokeAs (b : State) (src stamp : Nat) : s.WokeAs src stamp (latchHold b (s.wake src stamp)) :=
  wokeAs_of_sansWake (by rw [latchHold_sansWake, State.wake_sansWake])

/-- The source that ends DOZE is itself raised first (R22). -/
theorem latchHold_raise_wake_wokeAs (b : State) (n src stamp : Nat) : s.WokeAs src stamp (latchHold b ((s.raise n).wake src stamp)) :=
  wokeAs_of_sansWake (by rw [latchHold_sansWake, State.wake_sansWake, State.raise_sansWake])

/-! ### Wakes from DOZE and the PLL -/

variable {s}

theorem wakeFromDoze_new {src : Nat} (hp : s.phase = .doze) (hf : s.ev.firstWake = none) (hs : src ≠ 63) (hw : s.wakes src = true) :
    leads (exec (.wakeFromDoze src) s) (s.WokeAs src s.tb) := by
  have run : exec (.wakeFromDoze src) s = .next (latchHold s ((s.raise src).wake src s.tb)) := by
    simp only [exec, execWakeFromDoze, hp, hf, hw]
    simp [hs]
  rw [run]
  exact leads_next (latchHold_raise_wake_wokeAs s s src src s.tb)

theorem wakeFromDoze_first {src n w : Nat} (hp : s.phase = .doze) (hf : s.ev.firstWake = some (n, w)) :
    leads (exec (.wakeFromDoze src) s) (s.WokeAs n w) := by
  have run : exec (.wakeFromDoze src) s = .next (latchHold s (s.wake n w)) := by
    simp only [exec, execWakeFromDoze, hp, hf]
    rfl
  rw [run]
  exact leads_next (latchHold_wake_wokeAs s s n w)

theorem wakeFromDoze_awake {src : Nat} (hp : s.phase ≠ .doze) : exec (.wakeFromDoze src) s = .next s := by
  simp [exec, execWakeFromDoze, hp]

/-- The end of a DOZE for scheduled work, once the crystal has counted up to it (R23): what woke the device first, else the scheduled work. -/
def State.wakeScheduled (s : State) : State :=
  match s.ev.firstWake with
  | some (n, w) => latchHold s (s.wake n w)
  | none => latchHold s (s.wake 0xFE s.tb)

theorem State.wakeScheduled_first {n w : Nat} (hf : s.ev.firstWake = some (n, w)) : s.WokeAs n w s.wakeScheduled := by
  rw [State.wakeScheduled, hf]
  exact latchHold_wake_wokeAs s s n w

theorem State.wakeScheduled_schedule (hf : s.ev.firstWake = none) : s.WokeAs 0xFE s.tb s.wakeScheduled := by
  rw [State.wakeScheduled, hf]
  exact latchHold_wake_wokeAs s s 0xFE s.tb

theorem scheduledWake_doze {d : Nat} (hp : s.phase = .doze) (hd : s.scheduledAt = some d) :
    ∃ tb frac, exec .scheduledWake s = .next ({ s with tb := tb, tbFrac := frac } : State).wakeScheduled := by
  simp only [exec, execScheduledWake, hp, hd, State.crystal]
  generalize tbAdd s.tb _ = tb
  generalize _ % 512 = frac
  refine ⟨tb, frac, ?_⟩
  unfold State.wakeScheduled
  dsimp only
  cases s.ev.firstWake <;> rfl

theorem scheduledWake_first {d n w : Nat} (hp : s.phase = .doze) (hd : s.scheduledAt = some d) (hf : s.ev.firstWake = some (n, w)) :
    leads (exec .scheduledWake s) fun t =>
      t.phase = .nap ∧ t.ev.wakeValid = true ∧ t.ev.wakeSrc = n ∧ t.ev.wakeTs = wN w := by
  obtain ⟨tb, frac, run⟩ := scheduledWake_doze hp hd
  rw [run]
  obtain ⟨phase, valid, source, stamp, -⟩ := State.wakeScheduled_first (s := { s with tb := tb, tbFrac := frac }) hf
  exact leads_next ⟨phase, valid, source, stamp⟩

theorem scheduledWake_schedule {d : Nat} (hp : s.phase = .doze) (hd : s.scheduledAt = some d) (hf : s.ev.firstWake = none) :
    leads (exec .scheduledWake s) fun t => t.phase = .nap ∧ t.ev.wakeValid = true ∧ t.ev.wakeSrc = 0xFE ∧ t.ev.wakeTs = wN t.tb ∧
      { t with phase := s.phase, tb := s.tb, tbFrac := s.tbFrac, ev := s.ev, pw := s.pw, mgmt := s.mgmt, pres := s.pres, out := s.out
               fio := s.fio, ilk := s.ilk, keys := s.keys, heldAt := s.heldAt, heldRes := s.heldRes } = s := by
  obtain ⟨tb, frac, run⟩ := scheduledWake_doze hp hd
  rw [run]
  obtain ⟨phase, valid, source, stamp, frame⟩ := State.wakeScheduled_schedule (s := { s with tb := tb, tbFrac := frac }) hf
  generalize State.wakeScheduled _ = t at *
  have reached : t.tb = tb := congrArg State.tb frame
  refine leads_next ⟨phase, valid, source, reached ▸ stamp, ?_⟩
  exact congrArg (fun x : State => { x with tb := s.tb, tbFrac := s.tbFrac }) frame

theorem State.pass_frame (s : State) (d : Nat) : ∃ tb, s.pass d = { s with tb := tb } := ⟨_, rfl⟩

/-- In NAP scheduled work counts TB up to its lead of 4 crystal periods and calls unit 1 (R23). -/
theorem scheduledWake_nap {d : Nat} (hp : s.phase = .nap) (hd : s.scheduledAt = some d) :
    leads (exec .scheduledWake s) fun t => t.phase = .nap ∧ { t with tb := s.tb, tbFrac := s.tbFrac, pw := s.pw } = s := by
  have run : exec .scheduledWake s = .next (if timeLeft d s.tb ≥ 4 * 15625 / 512 then
      (s.pass (timeLeft d s.tb - 4 * 15625 / 512)).callUnits (unitMask [1]) else s.callUnits (unitMask [1])) := by
    simp only [exec, execScheduledWake, if_pos (beq_iff_eq.2 hp), hd]
  rw [run]
  apply leads_next
  split
  · obtain ⟨tb, pass⟩ := s.pass_frame (timeLeft d s.tb - 4 * 15625 / 512)
    obtain ⟨p, call, -⟩ := State.callUnits_frame (s.pass (timeLeft d s.tb - 4 * 15625 / 512)) (unitMask [1])
    rw [call, pass]
    exact ⟨hp, rfl⟩
  · obtain ⟨p, call, -⟩ := s.callUnits_frame (unitMask [1])
    rw [call]
    exact ⟨hp, rfl⟩

/-- A humidity unit that falls due is part of the schedule. -/
theorem State.scheduledAt_of_huDueAt {d : Nat} (h : s.huDueAt = some d) : ∃ e, s.scheduledAt = some e := by
  unfold State.scheduledAt
  rw [h]
  dsimp only
  generalize (if s.roundWork then some (nextMultiple 1000000 s.tb) else none) = work
  cases s.cal.alarm with
  | none => cases work <;> exact ⟨_, rfl⟩
  | some a =>
    dsimp only
    generalize (if !s.xtalOk || s.cal.ended || a ≤ s.cal.secs then none else some (tbAdd _ _)) = alarm
    cases work <;> cases alarm <;> exact ⟨_, rfl⟩

theorem pllLock_runs (ha : s.awake = true) (hl : s.pw.pllStart = true) (hn : s.pw.pav = none) :
    exec .pllLock s = .next { s with
      phase := .run, pw := { s.pw with pllStart := false, pmun := putBit s.pw.pmun 0 true } } := by
  simp [exec, execPllLock, ha, hl, hn, -State.mk.injEq]

/-! ### The steps of the Pavane -/

theorem getLsbD_putBit_self {n : Nat} (x : BitVec n) {i : Nat} (h : i < n) : (putBit x i true).getLsbD i = true := by
  simp [putBit, h]

theorem State.startUnit_books (s : State) (i : Nat) (cold : Bool) :
    (s.startUnit i cold).books = { s.books with pmun := putBit s.pw.pmun i true } := by
  unfold State.startUnit
  dsimp only
  generalize ht : s.onPw _ = t
  have started : t.books = { s.books with pmun := putBit s.pw.pmun i true } := by
    subst ht
    rfl
  rw [← started]
  have forced : ∀ u : State, (u.onPw fun p => { p with driveOff := false }).books = u.books := fun u => u.onPw_books rfl rfl rfl
  repeat' split
  · simp
  · simp
  · simp [forced]
  · simp
  · simp
  · simp
  · rfl
  · simp
  · rfl

@[simp] theorem State.dspRest_books (s : State) (c : Bool) : (if c then s.dspStart else s).books = s.books := by
  cases c <;> simp

theorem State.pavEnd_books (s : State) (p : Pavane) : (s.pavEnd p).books = s.books := by
  unfold State.pavEnd
  dsimp only
  rw [State.dspRest_books, State.raise_books]
  exact s.onPw_books rfl rfl rfl

theorem State.pavAfter_books (s : State) (p : Pavane) : (s.pavAfter p).books = s.books := by
  unfold State.pavAfter
  split
  · exact s.pavEnd_books p
  · exact s.onPw_books rfl rfl rfl

/-- The Pavane's step from the place it is due at on: unit `i` starts, and the next place is set. -/
def State.pavStarts (i : Nat) (cold : Bool) (s : State) : State :=
  match (s.startUnit i cold).pw.pav with
  | none => s.startUnit i cold
  | some p => (s.startUnit i cold).pavAfter { p with last := i + 1, due := tbAdd (s.startUnit i cold).tb p.spacing }

theorem State.pavStarts_books (s : State) (i : Nat) (cold : Bool) :
    (s.pavStarts i cold).books = { s.books with pmun := putBit s.pw.pmun i true } := by
  unfold State.pavStarts
  split
  · exact s.startUnit_books i cold
  · rw [State.pavAfter_books, State.startUnit_books]

theorem pavNext_lt {s : State} {p : Pavane} {i : Nat} (h : s.pavNext p = some i) : i < 14 :=
  List.mem_range.1 (List.mem_of_find?_eq_some h)

theorem State.pavTake_starts {p : Pavane} {i : Nat} (hr : s.phase = .run) (hl : s.pw.pllStart = false) (hp : s.pw.pav = some p)
    (hi : s.pavNext p = some i) (hw : s.pavWaits p i = false) : s.pavTake = (s.jump p.due).pavStarts i p.cold := by
  unfold State.pavTake
  rw [hp]
  dsimp only
  rw [if_neg (by simp [hl, hr]), hi]
  dsimp only
  rw [hw]
  rfl

theorem pavaneStep_starts {p : Pavane} {i : Nat} (hr : s.phase = .run) (hl : s.pw.pllStart = false) (hp : s.pw.pav = some p)
    (hi : s.pavNext p = some i) (hw : s.pavWaits p i = false) :
    leads (exec .pavaneStep s) fun t => t.runs i = true ∧ t.com = s.com := by
  have run : exec .pavaneStep s = .next (latchHold s s.pavTake) := rfl
  rw [run, State.pavTake_starts hr hl hp hi hw]
  obtain ⟨tb, frac, at_due⟩ := s.jump_frame p.due
  rw [at_due]
  generalize hs : ({ s with tb := tb, tbFrac := frac } : State) = u
  have books := (latchHold_books s (u.pavStarts i p.cold)).trans (u.pavStarts_books i p.cold)
  generalize latchHold s (u.pavStarts i p.cold) = t at *
  have com : t.com = u.com := congrArg Books.com books
  have units : t.pw.pmun = putBit u.pw.pmun i true := congrArg Books.pmun books
  refine leads_next ⟨?_, com.trans (hs ▸ rfl)⟩
  rw [State.runs, units]
  exact getLsbD_putBit_self _ (pavNext_lt hi)

theorem latchHold_pw (b a : State) : (latchHold b a).pw = a.pw := by
  unfold latchHold
  split <;> rfl

theorem latchHold_out (b a : State) : (latchHold b a).out = a.out := by
  unfold latchHold
  split <;> rfl

/-- A Pavane that is not the cold one and has none after it ends with no output moved. -/
theorem State.pavEnd_last (s : State) {p : Pavane} (hc : p.cold = false) (h0 : p.next = 0) :
    (s.pavEnd p).pw.pav = none ∧ (s.pavEnd p).out = s.out := by
  unfold State.pavEnd
  dsimp only
  rw [hc, if_pos h0, if_neg (by simp), State.raise_pw, State.raise_out]
  exact ⟨rfl, rfl⟩

theorem pavaneStep_ends {p : Pavane} (hr : s.phase = .run) (hl : s.pw.pllStart = false) (hp : s.pw.pav = some p)
    (hn : s.pavNext p = none) (hc : p.cold = false) (h0 : p.next = 0) :
    leads (exec .pavaneStep s) fun t => t.pw.pav = none ∧ t.pw.pmun = s.pw.pmun ∧ t.com = s.com ∧ t.out = s.out := by
  have ends : s.pavTake = s.pavEnd p := by
    unfold State.pavTake
    rw [hp]
    dsimp only
    rw [if_neg (by simp [hl, hr]), hn]
  have run : exec .pavaneStep s = .next (latchHold s (s.pavEnd p)) := congrArg (fun t => Host.Outcome.next (latchHold s t)) ends
  rw [run]
  have books := (latchHold_books s (s.pavEnd p)).trans (s.pavEnd_books p)
  obtain ⟨pav, out⟩ := State.pavEnd_last s hc h0
  rw [← latchHold_pw s] at pav
  rw [← latchHold_out s] at out
  generalize latchHold s (s.pavEnd p) = t at *
  exact leads_next ⟨pav, congrArg Books.pmun books, congrArg Books.com books, out⟩

end Sys2Proof.Machine

/-! ### The obligations -/

/-- Settles O33: a commit of one write sets the books that `State.commitNow_point` gives; the rest of the beat boundary and the apply
quantum keep them, and a persistence that fails leaves the epoch persisted before it (R402). -/
theorem beatsCommitAndApply : Obligations.BeatsCommitAndApply := by
  unfold Obligations.BeatsCommitAndApply
  refine ⟨?_, ?_, ?_, ?_, ?_, ?_, ?_, ?_⟩
  · intro s obs w pt v ha hact hp hr hm ht hlt hb hbump hs hw hpt hv
    exact beatBoundary_commits obs ha hact hp hr hm ht hlt hb hbump hs hw hpt hv
  · intro s obs ha hact hp hr hm ht hlt hb hs hl
    exact beatBoundary_idle obs ha hact hp hr hm ht hlt hb hs hl
  · exact fun s obs hp => beatBoundary_doze obs hp
  · intro s w e id ha hp hh hd hlt hw he hf hi
    have h := applyQuantum_posts ha hh hd hlt hw he hi (.inr hp)
    rwa [hf] at h
  · intro s w e id ha hh hd hlt hw he hf hi
    have h := applyQuantum_posts ha hh hd hlt hw he hi (.inl hf)
    rwa [hf] at h
  · intro s e h
    have books := s.persist_sansStore e
    exact ⟨by rw [s.persist_pepoch e, h, if_pos rfl], congrArg Books.com books, congrArg Books.epoch books⟩
  · intro s e h
    have books := s.persist_sansStore e
    exact ⟨by rw [s.persist_pepoch e, h, if_neg (by simp)], s.persist_switchOnly e h, congrArg Books.com books, congrArg Books.epoch books⟩
  · exact fun s e h hp => s.persist_cur e h hp

/-- Settles O32: a wake keeps all that `State.sansWake` keeps beside what TBWAKE records, and the Pavane's step keeps the books beside
PMUN's bit of the unit it starts. -/
theorem wakeAndPavane : Obligations.WakeAndPavane := by
  unfold Obligations.WakeAndPavane
  refine ⟨?_, ?_, ?_, ?_, ?_, ?_, ?_, ?_, ?_⟩
  · intro s src hp hf hs hw
    exact wakeFromDoze_new hp hf hs hw
  · intro s src hp
    exact wakeFromDoze_awake hp
  · intro s d hp hd hf
    exact scheduledWake_schedule hp hd hf
  · intro s ha hl hn
    exact pllLock_runs ha hl hn
  · intro s p i hr hl hp hi hw
    exact pavaneStep_starts hr hl hp hi hw
  · intro s p hr hl hp hn hc h0
    exact pavaneStep_ends hr hl hp hn hc h0
  · intro s src n w hp hf
    exact wakeFromDoze_first hp hf
  · intro s d n w hp hd hf
    exact scheduledWake_first hp hd hf
  · intro s d hp hd
    obtain ⟨e, he⟩ := s.scheduledAt_of_huDueAt hd
    exact scheduledWake_nap hp he

/-- Settles O51: an empty queue idles, by the phase. -/
theorem emptyQueueCountsTime : Obligations.EmptyQueueCountsTime := by
  unfold Obligations.EmptyQueueCountsTime
  have idles : ∀ s : State, s.pending = [] → step s = .next (idle s) := by
    intro s h
    simp only [step, h]
  refine ⟨?_, ?_, ?_⟩
  · intro s hq hp
    rw [idles s hq]
    obtain hp | hp | hp | hp := hp <;> simp only [idle, hp, State.pass, tbAdd, tbMod]
  · intro s hq hp
    rw [idles s hq]
    simp only [idle, hp, State.crystal, tbAdd, tbMod]
  · intro s hq hp
    rw [idles s hq]
    simp only [idle, hp]
end

section
/-! PROOFS. The pads: which state's outputs they show, and what a pad carries outside the Run column of Table 02-3. -/

open Sys2Proof Sys2Proof.Machine

namespace Sys2Proof.Machine

/-! ### The state whose outputs stand at the pads -/

/-- The state that the pads show: in the quantum of a trip, of a release or of a change of the safe state, the present one with the
outputs as they stood before (R300, R302, R304). -/
def State.shown (s : State) : State :=
  match s.ilk.still with
  | none => s
  | some (t, v, o, f) => if t = s.tb then { s with vl := v, out := o, fio := f } else s

theorem State.pad_eq_shown (s : State) (x : Signal) : s.pad x = s.shown.padNow x := by
  unfold State.pad State.shown
  cases s.ilk.still with
  | none => rfl
  | some k => exact (apply_ite (State.padNow · x) (k.1 = s.tb) _ s).symm

@[simp] theorem State.shown_phase (s : State) : s.shown.phase = s.phase := by
  unfold State.shown
  repeat' split
  all_goals rfl

@[simp] theorem State.shown_pw (s : State) : s.shown.pw = s.pw := by
  unfold State.shown
  repeat' split
  all_goals rfl

/-- The outputs as they are stand at the pads where none is held in this quantum. -/
theorem State.shown_eq_self {s : State} (h : ∀ k, s.ilk.still = some k → k.1 ≠ s.tb) : s.shown = s := by
  unfold State.shown
  split
  · rfl
  · next t v o f held => exact if_neg (h (t, v, o, f) held)

theorem State.pad_eq_padNow {s : State} (h : ∀ k, s.ilk.still = some k → k.1 ≠ s.tb) (x : Signal) : s.pad x = s.padNow x := by
  rw [s.pad_eq_shown, State.shown_eq_self h]

/-! ### The columns (R29, R30) -/

theorem State.padColumn_eq_run_iff (s : State) (u : Bool) : s.padColumn u = .run ↔ s.phase = .run ∧ u = true := by
  unfold State.padColumn
  cases s.phase <;> cases u <;> simp

theorem State.padColumn_in_reset {s : State} (h : s.phase = .reset ∨ s.phase = .held) (u : Bool) : s.padColumn u = .reset := by
  obtain h | h := h <;> simp [State.padColumn, h]

theorem State.awake_in_reset {s : State} (h : s.phase = .reset ∨ s.phase = .held) : s.awake = false := by
  obtain h | h := h <;> simp [State.awake, h]

/-- A device held in reset has no unit in the Run column. -/
theorem State.padColumn_in_reset_ne_run {s : State} (h : s.phase = .reset ∨ s.phase = .held) (u : Bool) : s.padColumn u ≠ .run := by
  simp [State.padColumn_in_reset h]

/-- Neither is a unit before its Pavane step, nor one that has stopped (R30, R52). -/
theorem State.padColumn_stopped_ne_run {s : State} {u : Bool} (h : u = false) : s.padColumn u ≠ .run := by
  simp [State.padColumn_eq_run_iff, h]

/-! ### Pads outside the Run column of their unit -/

theorem State.framePos_eq_none {s : State} (h : s.padColumn (s.runs 8) ≠ .run) : s.framePos = none := by
  refine if_neg fun slots => h ((s.padColumn_eq_run_iff _).2 ?_)
  simp only [State.lcdSlots, Bool.and_eq_true, beq_iff_eq] at slots
  obtain ⟨⟨⟨⟨-, phase⟩, -⟩, -⟩, runs⟩ := slots
  exact ⟨phase, runs⟩

theorem State.padNow_com_low {s : State} (h : s.padColumn (s.runs 8) ≠ .run) (c : Nat) : s.padNow (.com c) = .low := by
  simp [State.padNow, State.comPad, State.framePos_eq_none h]

theorem State.blDuty_eq_zero {s : State} (h : s.padColumn (s.runs 9) ≠ .run) (i : Nat) : s.blDuty i = 0 := by
  refine if_neg fun lit => h ((s.padColumn_eq_run_iff _).2 ?_)
  simp only [Bool.and_eq_true, beq_iff_eq] at lit
  obtain ⟨⟨⟨runs, phase⟩, -⟩, -⟩ := lit
  exact ⟨phase, runs⟩

theorem State.padNow_bl_off {s : State} (h : s.padColumn (s.runs 9) ≠ .run) (i : Nat) : s.padNow (.bl i) = .off := by
  simp [State.padNow, State.blDuty_eq_zero h]

theorem State.padNow_exc_off {s : State} {g : Nat} (h : s.padColumn (s.runs (2 + g)) ≠ .run) :
    s.padNow (.excP g) = .off ∧ s.padNow (.excN g) = .off := by
  simp [State.padNow, State.padNow.excPad, h]

theorem State.padNow_refP_highZ {s : State} {g : Nat} (h : s.padColumn (s.runs (2 + g)) ≠ .run) : s.padNow (.refP g) = .highZ := by
  simp [State.padNow, h]

theorem State.padNow_hux_off {s : State} (h : s.padColumn (s.runs 1) ≠ .run) (g : Nat) : s.padNow (.hux g) = .off := by
  simp [State.padNow, h]

theorem State.padNow_plkTx_highZ {s : State} (h : s.padColumn (s.runs 1) ≠ .run) :
    s.padNow .plkTxP = .highZ ∧ s.padNow .plkTxN = .highZ := by
  simp [State.padNow, h]

/-- A fan rests low, but on a unit of a pair that is awake and not active. -/
theorem State.padNow_fn_low {s : State} (h : s.padColumn (s.runs 6) ≠ .run) (ha : s.acting = true ∨ s.awake = false) (n : Nat) :
    s.padNow (.fn n) = .low := by
  obtain ha | ha := ha <;> simp [State.padNow, h, ha]

/-- A tachometer in RUN before its unit's step, or once it has stopped. -/
theorem State.padNow_ft_ignored {s : State} (hp : s.phase = .run) (h : s.runs 6 = false) (n : Nat) : s.padNow (.ft n) = .ignored := by
  simp [State.padNow, State.padColumn, hp, h]

/-- A bank whose switches do not act has its high-side pads off, the clamp aside. -/
theorem State.padNow_vhs_steady {s : State} {b : Nat} (h : s.bankActs b = false) :
    ∃ c, s.padNow (.vhs b) = .valve (.steady {}) false c :=
  ⟨_, by simp only [State.padNow, State.vhsPad, h]; rfl⟩

/-- And its channels' pads, where the clamp is active with VACT in its window (R31). -/
theorem State.padNow_vl_steady {s : State} {n : Nat} (h : s.bankActs (n / 4) = false) :
    ∃ clamp c, s.padNow (.vl n) = .valve (.steady {}) clamp c ∧ (s.pw.vact = true → clamp = true) :=
  ⟨_, _, by simp only [State.padNow, State.vlPad, h]; rfl, fun present => by simp [present]⟩

/-- The switches of a bank act in RUN alone. -/
theorem State.bankActs_in_reset {s : State} (h : s.phase = .reset ∨ s.phase = .held) (b : Nat) : s.bankActs b = false := by
  obtain h | h := h <;> simp [State.bankActs, h]

/-- Those of a bank that has stopped act only while a coil of it decays. -/
theorem State.bankActs_stopped {s : State} {b : Nat} (h : s.bankRuns b = false)
    (hd : ∀ i, i < 4 → (s.vlCh (4 * b + i)).decaying = false) : s.bankActs b = false := by
  simpa [State.bankActs, h, bankChans] using fun _ => hd

/-! ### Pads in reset -/

theorem State.padNow_panel_in_reset {s : State} (h : s.phase = .reset ∨ s.phase = .held) (k : Nat) :
    s.padNow (.seg k) = .low ∧ s.padNow (.com k) = .low ∧ s.padNow (.krow k) = .input ∧ s.padNow (.bl k) = .off := by
  have resting := State.padColumn_in_reset_ne_run h
  refine ⟨?_, State.padNow_com_low (resting _) k, ?_, State.padNow_bl_off (resting _) k⟩
  · simp [State.padNow, State.segPad, State.awake_in_reset h]
  · simp [State.padNow, State.padColumn_in_reset h]

theorem State.irqNow_in_reset {s : State} (h : s.phase = .reset ∨ s.phase = .held) (padB : Bool) : s.irqNow padB = false := by
  obtain h | h := h <;> simp [State.irqNow, h]

theorem State.padNow_host_in_reset {s : State} (h : s.phase = .reset ∨ s.phase = .held) :
    s.padNow .hcsN = .ignored ∧ s.padNow .hmiso = .highZ ∧ ∀ padB, s.padNow (.irqN padB) = .off := by
  simp [State.padNow, State.awake_in_reset h, State.irqNow_in_reset h]

theorem State.padNow_converter_in_reset {s : State} (h : s.phase = .reset ∨ s.phase = .held) (g : Nat) :
    s.padNow (.excP g) = .off ∧ s.padNow (.excN g) = .off ∧ s.padNow (.hux g) = .off ∧ s.padNow (.prb g) = .off := by
  obtain ⟨excP, excN⟩ := State.padNow_exc_off (g := g) (State.padColumn_in_reset_ne_run h _)
  refine ⟨excP, excN, State.padNow_hux_off (State.padColumn_in_reset_ne_run h _) g, ?_⟩
  simp [State.padNow, State.biasOn, State.padColumn_in_reset h]

theorem State.padNow_output_in_reset {s : State} (h : s.phase = .reset ∨ s.phase = .held) (n : Nat) :
    s.padNow (.ao n) = .pulledDown ∧ s.padNow (.fn n) = .low ∧ s.padNow (.di n) = .notSensed ∧ s.padNow (.dout n) = .off := by
  have asleep := State.awake_in_reset h
  refine ⟨?_, State.padNow_fn_low (State.padColumn_in_reset_ne_run h _) (.inr asleep) n, ?_, ?_⟩
  · simp [State.padNow, State.aoAmplifies, asleep]
  · simp [State.padNow, State.padColumn_in_reset h]
  · simp [State.padNow, asleep]

end Sys2Proof.Machine

/-! ### The obligation -/

/-- Settles O60: held in reset, the state that the pads show is in reset too, so they stand in the Reset column; in RUN, with no output
held over in this quantum, the pads of a unit that does not run stand outside the Run column, and a stopped bank's switches do not act. -/
theorem padsRestInReset : Obligations.PadsRestInReset := by
  unfold Obligations.PadsRestInReset
  refine ⟨?_, ?_⟩
  · intro s hp
    have h : s.shown.phase = .reset ∨ s.shown.phase = .held := by rwa [s.shown_phase]
    obtain ⟨hcsN, hmiso, irqN⟩ := State.padNow_host_in_reset h
    obtain ⟨txP, txN⟩ := State.padNow_plkTx_highZ (State.padColumn_in_reset_ne_run h (s.shown.runs 1))
    simp only [s.pad_eq_shown, ← s.shown_pw]
    exact ⟨State.padNow_panel_in_reset h, hcsN, hmiso, irqN false, irqN true, txP, txN, State.padNow_converter_in_reset h,
      State.padNow_output_in_reset h, fun b => State.padNow_vhs_steady (State.bankActs_in_reset h b),
      fun n => State.padNow_vl_steady (State.bankActs_in_reset h (n / 4))⟩
  · intro s hp ha hk
    simp only [State.pad_eq_padNow hk]
    refine ⟨fun hr n => ?_, fun hr => ?_, fun hr => ?_, fun g hr => ?_, fun b _ hr hd => ?_⟩
    · exact ⟨State.padNow_fn_low (State.padColumn_stopped_ne_run hr) (.inl ha) n, State.padNow_ft_ignored hp hr n, rfl⟩
    · exact State.padNow_bl_off (State.padColumn_stopped_ne_run hr)
    · exact State.padNow_com_low (State.padColumn_stopped_ne_run hr)
    · obtain ⟨excP, -⟩ := State.padNow_exc_off (State.padColumn_stopped_ne_run hr)
      exact ⟨excP, State.padNow_refP_highZ (State.padColumn_stopped_ne_run hr)⟩
    · have rests := State.bankActs_stopped hr hd
      refine ⟨State.padNow_vhs_steady rests, fun i hi => State.padNow_vl_steady ?_⟩
      have bank : (4 * b + i) / 4 = b := by omega
      rwa [bank]
end

section
/-! PROOFS. Power, clocks and reset: the device commands, the exchange with the line supply and the limiter, the supplies, the recall and
what is answered until it has ended. -/

open Sys2Proof Sys2Proof.Machine

namespace Sys2Proof.Machine

/-! ### The device commands (Tables 03-9, 05-8) -/

section
variable {s : State} {tag : Byte} {p : Bytes}

/-- A stretch that lies within the parameters and holds zeros alone is that many zeros. -/
theorem slice_all_zero {off n : Nat} (h : off + n ≤ p.length) (h0 : (slice p off n).all (· == 0) = true) :
    slice p off n = List.replicate n 0 := by
  refine List.eq_replicate_iff.2 ⟨by simp [slice]; omega, ?_⟩
  simpa using h0

theorem pwrConfig_stages (h : s.readyToStage 0x03 1) (hl : p.length = 3) (hc : u8 p 0 ≤ 3) (hb : u16 p 1 ≤ 2000) :
    exec (.pwrConfig tag p) s = .next (s.stagingCmd 0x03 tag p) := by
  refine congrArg Host.Outcome.next (hostCommand_stages h rfl rfl (by simpa [lenIs] using hl) rfl ?_ ?_ ?_)
  all_goals simp [hc, hb]

theorem startGroup_stages (h : s.readyToStage 0x05 1) (hl : p.length = 2) (hm : u16 p 0 < 2 ^ 14)
    (ht : s.aon.thermLatched = false ∨ BitVec.ofNat 14 (u16 p 0) &&& driveUnits = 0) :
    exec (.startGroup tag p) s = .next (s.stagingCmd 0x05 tag p) := by
  refine congrArg Host.Outcome.next (hostCommand_stages h rfl rfl (by simpa [lenIs] using hl) rfl ?_ ?_ ?_)
  · have unlocked : ((s.took 0x05 tag p).aon.thermLatched && BitVec.ofNat 14 (u16 p 0) &&& driveUnits != 0) = false := by
      obtain ht | ht := ht <;> simp [ht, State.took]
    simp only [List.mem_cons, List.not_mem_nil, or_false]
    rintro e (rfl | rfl)
    exacts [by simpa using hm, unlocked]
  all_goals simp

theorem stopGroup_stages (h : s.readyToStage 0x06 1) (hl : p.length = 2) (hm : u16 p 0 < 2 ^ 14) (he : u16 p 0 % 2 = 0)
    (hn : s.stopNeeded (BitVec.ofNat 14 (u16 p 0)) = false) :
    exec (.stopGroup tag p) s = .next (s.stagingCmd 0x06 tag p) := by
  have pll : (BitVec.ofNat 14 (u16 p 0)).getLsbD 0 = false := by
    rw [BitVec.getLsbD_ofNat]
    simp [he]
  have free : (s.took 0x06 tag p).stopNeeded (BitVec.ofNat 14 (u16 p 0)) = false := hn
  refine congrArg Host.Outcome.next (hostCommand_stages h rfl rfl (by simpa [lenIs] using hl) rfl ?_ ?_ ?_)
  · simpa using hm
  · simp only [List.mem_singleton]
    rintro e rfl
    simp only [pll, free, Bool.or_false]
  · simp

theorem authKeyLoad_stages (h : s.readyToStage 0x08 1) (hl : p.length = 39) (hi : u8 p 0 ≤ 7) (hm : u16 p 1 ≠ 0)
    (hk : slice p 7 32 ≠ List.replicate 32 0) : exec (.authKeyLoad tag p) s = .next (s.stagingCmd 0x08 tag p) := by
  have key : (slice p 7 32).all (· == 0) = false :=
    Bool.eq_false_iff.2 fun zero => hk (slice_all_zero (by omega) zero)
  refine congrArg Host.Outcome.next (hostCommand_stages h rfl rfl (by simpa [lenIs] using hl) rfl ?_ ?_ ?_)
  · simp only [List.mem_cons, List.not_mem_nil, or_false]
    rintro e (rfl | rfl | rfl)
    exacts [by simpa using hi, by simpa using hm, key]
  all_goals simp

theorem authKeyClear_stages (h : s.readyToStage 0x09 1) (hl : p.length = 1) (hi : u8 p 0 ≤ 7) :
    exec (.authKeyClear tag p) s = .next (s.stagingCmd 0x09 tag p) := by
  refine congrArg Host.Outcome.next (hostCommand_stages h rfl rfl (by simpa [lenIs] using hl) rfl ?_ ?_ ?_)
  all_goals simp [hi]

/-- A date and time of the calendar passes its checks (R135). -/
theorem civilChecks_pass {o : Nat} (hy : within 2000 (u16 p o) 2099) (hm : within 1 (u8 p (o + 2)) 12)
    (hd : within 1 (u8 p (o + 3)) (daysIn (u16 p o) (u8 p (o + 2)))) (hh : u8 p (o + 4) ≤ 23) (hn : u8 p (o + 5) ≤ 59)
    (hs : u8 p (o + 6) ≤ 59) : ∀ e ∈ civilChecks p o, e.1 = false := by
  unfold within at hy hm hd
  have apart : ∀ {lo x hi : Nat}, lo ≤ x → x ≤ hi → (decide (x < lo) || decide (x > hi)) = false := fun h1 h2 =>
    Bool.or_eq_false_iff.2 ⟨decide_eq_false (by omega), decide_eq_false (by omega)⟩
  simp only [civilChecks, civilAt, List.mem_cons, List.not_mem_nil, or_false]
  rintro e (rfl | rfl | rfl | rfl | rfl | rfl)
  exacts [apart (by omega) (by omega), apart (by omega) (by omega), apart (by omega) (by omega),
    decide_eq_false (by omega), decide_eq_false (by omega), decide_eq_false (by omega)]

theorem rtcSet_stages (h : s.readyToStage 0x0C 1) (hl : p.length = 8)
    (hw : u8 p 0 = 2 ∨ u8 p 0 ≤ 1 ∧ ∀ e ∈ civilChecks p 1, e.1 = false) :
    exec (.rtcSet tag p) s = .next (s.stagingCmd 0x0C tag p) := by
  refine congrArg Host.Outcome.next (hostCommand_stages h rfl rfl (by simpa [lenIs] using hl) rfl ?_ ?_ ?_)
  · obtain hw | ⟨hw, civil⟩ := hw
    · simp [hw]
    · simp only [List.mem_cons]
      rintro e (rfl | he)
      · simp; omega
      · rw [if_neg (by omega)] at he
        exact civil e he
  all_goals simp

/-- A change of the power manager's state does not show in what is raised. -/
theorem State.raise_onPw (f : Power → Power) (n : Nat) : (s.onPw f).raise n = (s.raise n).onPw f := by
  cases hp : s.phase <;> simp only [State.raise, State.onPw_phase, hp]
  case nap => rfl
  case run => rfl
  case doze => cases wakeSources.idxOf? n <;> rfl

/-- Neither does it in what a reply tells. -/
theorem finish_now_onPw (f : Power → Power) (st : Nat) (rs : Bytes) (id : Nat) :
    finish { org := .host id, tag := tag, p := p } (s.onPw f, .now st rs) =
      (finish { org := .host id, tag := tag, p := p } (s, .now st rs)).onPw f := by
  simp only [finish, State.post, State.postAt]
  rw [← State.raise_onPw]
  rfl

/-- DEV_RESET with its KEY (R62). -/
theorem devReset_runs (h : s.ready 0x02) (hl : p.length = 2) (hk : u16 p 0 = 0xC35A) :
    exec (.devReset tag p) s = .next ((s.answered 0x02 tag p stOk []).onPw fun w =>
      { w with devReset := some (tbAdd s.tb 10000), devResetCmd := some s.link.nextId }) := by
  have run := hostCommand_runs (tag := tag) (p := p) h rfl rfl (by simpa [lenIs] using hl)
  refine congrArg Host.Outcome.next (run.trans ?_)
  simp only [cmdDevReset, guarded, firstFail, hk]
  exact (finish_now_onPw _ _ _ _).trans (congrArg _ (finish_now (by decide)))

theorem devReset_wrongKey (h : s.ready 0x02) (hl : p.length = 2) (hk : u16 p 0 ≠ 0xC35A) :
    exec (.devReset tag p) s = .next (s.answered 0x02 tag p stBadParam [0]) := by
  refine congrArg Host.Outcome.next (hostCommand_answers h rfl rfl (by simpa [lenIs] using hl) (by decide) ?_)
  simp [cmdDevReset, guarded, firstFail, hk, badParam, le]

theorem linkClear_clears (h : s.ready 0xF3) : leads (exec (.linkClear tag []) s) fun t =>
    t.hlcnt = 0 ∧ t.hldcnt = 0 ∧ t.rmcnt = 0 ∧ t.link.replies = (s.answered 0xF3 tag [] stOk []).link.replies ∧
      t.com = s.com ∧ t.staged = s.staged ∧ t.cells = s.cells := by
  have run : exec (.linkClear tag []) s = .next (finish { org := .host s.link.nextId, tag := tag, p := [] }
      (cmdLinkClear { org := .host s.link.nextId, tag := tag, p := [] } (s.took 0xF3 tag []))) :=
    congrArg Host.Outcome.next (hostCommand_runs h rfl rfl rfl)
  rw [run]
  refine leads_next ?_
  simp [finish, cmdLinkClear, State.post, State.postAt, State.hlcnt, State.hldcnt, State.rmcnt, State.answered, State.took, Link.onCmd,
    stOk, stDeferred]

end

/-! ### The exchange with the line supply (R44, R45, R330, R331) -/

section
variable {s : State}

@[simp] theorem State.onAllot_allot (f : Allot → Allot) : (s.onAllot f).pw.allot = f s.pw.allot := rfl
@[simp] theorem State.onAllot_pav (f : Allot → Allot) : (s.onAllot f).pw.pav = s.pw.pav := rfl
@[simp] theorem State.govern_pw : s.govern.pw = s.pw := rfl

/-- A class taken changes the class held, the limit that follows from it and the backlight cap (R46, R47). -/
theorem State.takeClass_frame (s : State) (c : Nat) : ∃ limit dsp, s.takeClass c =
    { s with pw := { s.pw with allot := { s.pw.allot with held := c }, limitUa := limit }, dsp := dsp } := by
  unfold State.takeClass State.relimit
  split
  · exact ⟨s.pw.limitUa, _, rfl⟩
  · exact ⟨_, _, rfl⟩

@[simp] theorem State.takeClass_allot (c : Nat) : (s.takeClass c).pw.allot = { s.pw.allot with held := c } := by
  obtain ⟨limit, dsp, taken⟩ := s.takeClass_frame c
  rw [taken]

@[simp] theorem State.takeClass_pav (c : Nat) : (s.takeClass c).pw.pav = s.pw.pav := by
  obtain ⟨limit, dsp, taken⟩ := s.takeClass_frame c
  rw [taken]

theorem State.pavResume_of_none (h : s.pw.pav = none) : s.pavResume = s := by
  simp [State.pavResume, h]

theorem State.awake_of_frameArrives (h : s.frameArrives = true) : s.awake = true := by
  simp [State.frameArrives, State.busReceives] at h
  exact h.1.1

/-- The exchange once a grant of a class has answered its request for another (R44, R45). -/
def Allot.answered (c req : Nat) (a : Allot) : Allot :=
  { a with granted := true, outstanding := false, interval := 1, stopAsking := decide (c < req), lowers := [] }

/-- What a grant that answers a request does before a Pavane that waited for it goes on. -/
def State.grantTaken (c : Nat) (s : State) : State :=
  (((s.onAllot (Allot.answered c s.applied.pwr.cls)).takeClass (min c s.applied.pwr.cls)).raise 2).raiseIf (decide (c < s.applied.pwr.cls)) 4

theorem exec_allotGrantFrame_answers {f : Frame} {c : Nat} (hf : s.frameArrives = true) (ho : s.pw.allot.outstanding = true)
    (hg : s.grantOf f = some (c, 0)) : exec (.allotGrantFrame f) s = .next (latchHold (s.grantTaken c) (s.grantTaken c).pavResume) := by
  have run : exec (.allotGrantFrame f) s = execAllotGrantFrame f s := rfl
  have ordinary : bit 0 0 = false := rfl
  simp only [run, execAllotGrantFrame, hf, hg, ho, ordinary, Bool.not_true, Bool.false_eq_true, if_false]
  rfl

theorem State.grantTaken_books (c : Nat) : (s.grantTaken c).books = s.books := by
  simp [State.grantTaken]

theorem allotGrantFrame_answers {f : Frame} {c : Nat} (hf : s.frameArrives = true) (ho : s.pw.allot.outstanding = true)
    (hg : s.grantOf f = some (c, 0)) (hp : s.pw.pav = none) :
    leads (exec (.allotGrantFrame f) s) fun t => t.pw.allot.granted = true ∧ t.pw.allot.outstanding = false ∧
      t.pw.allot.held = min c s.applied.pwr.cls ∧ t.com = s.com := by
  have books := (latchHold_books (s.grantTaken c) (s.grantTaken c)).trans (s.grantTaken_books c)
  have allot : (latchHold (s.grantTaken c) (s.grantTaken c)).pw.allot =
      { Allot.answered c s.applied.pwr.cls s.pw.allot with held := min c s.applied.pwr.cls } := by
    simp [latchHold_pw, State.grantTaken]
  rw [exec_allotGrantFrame_answers hf ho hg, State.pavResume_of_none (by simpa [State.grantTaken] using hp)]
  refine leads_next ?_
  rw [allot]
  exact ⟨rfl, rfl, rfl, congrArg Books.com books⟩

theorem allotGrantFrame_lowers {f : Frame} {c : Nat} (hf : s.frameArrives = true) (hg : s.grantOf f = some (c, 1))
    (hc : c < s.pw.allot.held) : leads (exec (.allotGrantFrame f) s) fun t =>
      t.pw.allot = { s.pw.allot with lowers := s.pw.allot.lowers ++ [(c, tbAdd s.tb 10000)] } ∧
      t.ev = s.ev.raise 4 s.tb ∧ t.com = s.com := by
  have run : exec (.allotGrantFrame f) s = .next ((((s.onAllot fun a =>
      { a with lowers := a.lowers ++ [(c, tbAdd s.tb 10000)] }).govern).raise 4)) := by
    have arm : exec (.allotGrantFrame f) s = execAllotGrantFrame f s := rfl
    simp only [arm, execAllotGrantFrame, hf, hg, if_pos hc]
    rfl
  rw [run]
  generalize hl : (s.onAllot fun a => { a with lowers := a.lowers ++ [(c, tbAdd s.tb 10000)] }).govern = l
  have awake : l.awake = true := hl ▸ State.awake_of_frameArrives hf
  rw [State.raise_awake awake, ← hl]
  exact leads_next ⟨rfl, rfl, rfl⟩

theorem allotLowerApply_lowers {c d : Nat} {rest : List (Nat × Nat)} (h : s.pw.allot.lowers = (c, d) :: rest) :
    leads (exec .allotLowerApply s) fun t => t.pw.allot.held = min c s.pw.allot.held ∧ t.pw.allot.lowers = rest ∧
      { t with tb := s.tb, tbFrac := s.tbFrac, pw := s.pw, dsp := s.dsp } = s := by
  obtain ⟨tb, frac, hj⟩ := s.jump_frame d
  have run : exec .allotLowerApply s = .next ((({ s with tb := tb, tbFrac := frac } : State).onAllot fun a =>
      { a with lowers := rest }).takeClass (min c s.pw.allot.held)) := by
    have arm : exec .allotLowerApply s = execAllotLowerApply s := rfl
    simp only [arm, execAllotLowerApply, h, hj]
  rw [run]
  generalize ht : (({ s with tb := tb, tbFrac := frac } : State).onAllot fun a => { a with lowers := rest }) = u
  obtain ⟨limit, dsp, taken⟩ := u.takeClass_frame (min c s.pw.allot.held)
  rw [taken]
  subst ht
  exact leads_next ⟨rfl, rfl, rfl⟩

/-- What the lack of an answer does before a Pavane that waited for one goes on (R45). -/
def State.grantMissed (s : State) : State := (s.onAllot fun a => { a with noneRaised := true }).raise 3

theorem exec_allotGrantTimeout_first (ha : s.awake = true) (ho : s.pw.allot.outstanding = true) (hn : s.pw.allot.noneRaised = false) :
    exec .allotGrantTimeout s = .next (latchHold (s.jump (tbAdd s.pw.allot.reqAt 200000)).grantMissed
      (s.jump (tbAdd s.pw.allot.reqAt 200000)).grantMissed.pavResume) := by
  have arm : exec .allotGrantTimeout s = execAllotGrantTimeout s := rfl
  simp [arm, execAllotGrantTimeout, State.grantMissed, ho, hn, ha]

theorem latchHold_bus (b a : State) : (latchHold b a).bus = a.bus := by
  unfold latchHold
  split <;> rfl

theorem allotGrantTimeout_notes (ha : s.awake = true) (ho : s.pw.allot.outstanding = true) (hn : s.pw.allot.noneRaised = false)
    (hp : s.pw.pav = none) : leads (exec .allotGrantTimeout s) fun t =>
      t.pw.allot = { s.pw.allot with noneRaised := true } ∧ t.com = s.com ∧ t.bus = s.bus := by
  rw [exec_allotGrantTimeout_first ha ho hn]
  obtain ⟨tb, frac, hj⟩ := s.jump_frame (tbAdd s.pw.allot.reqAt 200000)
  rw [hj, State.pavResume_of_none (by simpa [State.grantMissed] using hp)]
  generalize hm : State.grantMissed _ = m
  have com : (latchHold m m).com = m.com := congrArg Books.com (latchHold_books m m)
  refine leads_next ⟨?_, ?_, ?_⟩
  · rw [latchHold_pw, ← hm]
    simp [State.grantMissed]
  · rw [com, ← hm]
    exact State.raise_com _ 3
  · rw [latchHold_bus, ← hm]
    exact State.raise_bus _ 3

theorem allotRequestRepeat_asks (ha : s.awake = true) (ho : s.pw.allot.outstanding = true) (hn : s.pw.allot.noneRaised = true)
    (hs : s.pw.allot.stopAsking = false) (hl : s.applied.bus.listen = false) :
    leads (exec .allotRequestRepeat s) fun t => t.pw.allot.interval = min 64 (2 * s.pw.allot.interval) ∧ t.bus.allot ≠ none ∧
      t.pw.allot.outstanding = true ∧ { t with tb := s.tb, tbFrac := s.tbFrac, pw := s.pw, bus := s.bus } = s := by
  obtain ⟨tb, frac, hj⟩ := s.jump_frame (tbAdd s.pw.allot.reqAt (1000000 * s.pw.allot.interval))
  have run : exec .allotRequestRepeat s = .next ((({ s with tb := tb, tbFrac := frac } : State).requestAllot 1).onAllot fun a =>
      { a with interval := min 64 (2 * a.interval) }) := by
    have arm : exec .allotRequestRepeat s = execAllotRequestRepeat s := rfl
    simp [arm, execAllotRequestRepeat, State.askAllot, ho, hn, hs, ha, hj, hl]
  rw [run]
  exact leads_next ⟨rfl, Option.some_ne_none _, rfl, rfl⟩

/-! ### Line and limiter (R46, R48) -/

/-- With a voltage measured the limit is the power of the class held over it (R46). -/
theorem State.relimit_of_pos (h : 0 < s.pw.vline) :
    s.relimit = s.onPw fun p => { p with limitUa := classMw p.allot.held * 100000 / p.vline } :=
  if_neg (Nat.pos_iff_ne_zero.1 h)

theorem lineMeasure_limits {v : Nat} (ha : s.awake = true) (h0 : 0 < v) (hv : v < 65536) : exec (.lineMeasure v) s = .next { s with
    pw := { s.pw with vline := v, limitUa := classMw s.pw.allot.held * 100000 / v } } := by
  have line : v % 65536 = v := Nat.mod_eq_of_lt hv
  have arm : exec (.lineMeasure v) s = execLineMeasure v s := rfl
  simp only [arm, execLineMeasure, ha, line, if_true]
  rw [State.relimit_of_pos h0]
  rfl

theorem limiterHold_holds (ha : s.awake = true) : exec .limiterHold s = .next { s with
    pw := { s.pw with limit := true, limAt := some s.tb, ovAt := none }, ev := s.ev.raise 5 s.tb, dsp := { s.dsp with cap := 0 } } := by
  have arm : exec .limiterHold s = execLimiterHold s := rfl
  have held : (s.onPw fun p => { p with limit := true, limAt := some s.tb, ovAt := none }).awake = true := ha
  simp only [arm, execLimiterHold, ha, State.raise_awake held]
  rfl

/-- The overload of a hold comes in the quantum that ends its 20 ms, where TB already stands. -/
theorem limiterOverload_now {d : Nat} (ha : s.awake = true) (hl : s.pw.limit = true) (ho : s.pw.ovAt = none) (hd : s.pw.limAt = some d)
    (ht : s.tb = tbAdd d 20000) :
    exec .limiterOverload s = .next { s with pw := { s.pw with overload := true, ovAt := some s.tb }, ev := s.ev.raise 6 s.tb } := by
  have inRange : s.tb < tbMod := by
    rw [ht]
    exact Nat.mod_lt _ (by decide)
  have now : s.jump (tbAdd d 20000) = s := by
    rw [← ht]
    exact State.jump_present ha inRange
  have run : exec .limiterOverload s = .next ((s.onPw fun p => { p with overload := true, ovAt := some s.tb }).raise 6) := by
    have arm : exec .limiterOverload s = execLimiterOverload s := rfl
    simp [arm, execLimiterOverload, hd, hl, ho, ha, now]
  have loaded : (s.onPw fun p => { p with overload := true, ovAt := some s.tb }).awake = true := ha
  rw [run, State.raise_awake loaded]
  rfl

/-- The limiter at its release, before the PLL of a Pavane in progress starts. -/
def State.unlimited (s : State) : State :=
  s.onPw fun p => { p with limit := false, limAt := none, ovAt := none, overload := false, relAt := some s.tb }

theorem exec_limiterRelease (s : State) : exec .limiterRelease s = .next s.unlimited.startPll := rfl

theorem State.startPll_of_none (h : s.pw.pav = none) : s.startPll = s := by
  simp [State.startPll, h]

end

/-! ### What the model computes of one next state -/

/-- The next state of an outcome that has one. -/
def nextState (o : Out) : Option State :=
  match o with
  | .next t => some t
  | .fault _ => none
  | .refused _ => none

/-- Where an outcome leads, its next state holds what the model computes of it. -/
theorem leads_computed {β : Type} {o : Out} {P : State → Prop} {f : State → β} {b : β} (h : leads o P)
    (hf : (nextState o).map f = some b) : ∃ t, P t ∧ f t = b := by
  obtain ⟨t, rfl, ht⟩ := h
  exact ⟨t, ht, Option.some.inj hf⟩

/-! ### A command taken before the recall has ended -/

section
variable {s : State} {opc : Nat} {tag : Byte} {p : Bytes}

/-- The management processor can take a command at once, whether the recall has ended or not: the device awake (R26), the management
complex running (R60), the mailbox empty, no handover in progress (R374). -/
abbrev State.takesNow (s : State) : Prop :=
  s.awake = true ∧ s.mgmt.restarting = false ∧ s.link.mbox = [] ∧ s.pair.handoverAt = none

/-- Such a device runs a command in the state that only its receipt has changed; after one that may write the store it looks for a
reply to post. -/
theorem hostCommand_of_takesNow (h : s.takesNow) :
    s.hostCommand opc tag p = if storeWrites opc
      then ((s.took opc tag p).runCommand opc { org := .host s.link.nextId, tag := tag, p := p }).takeHost
      else (s.took opc tag p).runCommand opc { org := .host s.link.nextId, tag := tag, p := p } := by
  obtain ⟨ha, hm, hb, hh⟩ := h
  have ht : s.phase = .nap ∨ s.phase = .run := by simpa [State.awake] using ha
  cases hw : storeWrites opc <;> rcases ht with ht | ht <;>
  simp [State.hostCommand, hb, State.shiftOut, State.receiveCommand, State.raiseIf, takeMany, State.takeHost, State.takes,
    State.awake, hm, ht, State.waitsHandover, hh, Link.onCmd, State.took, State.entry, State.shifted, State.open_, State.nextWrites, hw]

/-- With its only command answered the management processor has nothing to take. -/
theorem State.takeHost_answered (st : Nat) (rs : Bytes) :
    (s.answered opc tag p st rs).takeHost = s.answered opc tag p st rs := by
  have done : (s.answered opc tag p st rs).link.mbox = [{ s.entry opc tag p with done := true }] := by simp [State.answered]
  have idle : (s.answered opc tag p st rs).link.mbox.find? (s.answered opc tag p st rs).open_ = none := by
    simp [done, State.open_]
  simp [State.takeHost, idle]

/-- Until the recall completes, a command outside the classes answered meanwhile is refused by the check that comes after those of its
class and length (R54, R99). -/
theorem answerOf_before_recall {c : Ctx} {r : OpRow} (hr : opRow opc = some r) (ha : s.opcAllowed opc = true) (hl : r.len c.p = true)
    (hh : c.org.isRemote = false) (hs : s.store.recalled = false) (hc : recallClass opc = false) :
    s.answerOf opc c = (s, refused (if opc / 16 = 0xB then stNvmBusy else stBusy)) := by
  simp [State.answerOf, hr, guarded, firstFail, ha, hl, hh, hs, hc]

/-- A status that refuses is posted at once, also for a command that would write the store. -/
theorem runCommand_refuses {t : State} {c : Ctx} {st : Nat} (ha : t.answerOf opc c = (t, refused st)) (ho : st ≠ stOk) (hf : st ≠ stFault) :
    t.runCommand opc c = finish c (t, refused st) := by
  have refuses : (refused st).refuses = true := by simp [refused, Ans.refuses, ho, hf]
  have posted : State.finishWrite c (t, refused st) = finish c (t, refused st) := if_pos refuses
  simp [State.runCommand, ha, refuses, posted]

/-- Such a command is answered with that refusal alone. -/
theorem hostCommand_before_recall {r : OpRow} (h : s.takesNow) (hs : s.store.recalled = false) (hr : opRow opc = some r)
    (ha : s.opcAllowed opc = true) (hl : r.len p = true) (hc : recallClass opc = false) :
    s.hostCommand opc tag p = s.answered opc tag p (if opc / 16 = 0xB then stNvmBusy else stBusy) [] := by
  have answer := answerOf_before_recall (s := s.took opc tag p) (c := { org := .host s.link.nextId, tag := tag, p := p }) hr ha hl rfl hs hc
  have run : (s.took opc tag p).runCommand opc { org := .host s.link.nextId, tag := tag, p := p } =
      s.answered opc tag p (if opc / 16 = 0xB then stNvmBusy else stBusy) [] := by
    rw [runCommand_refuses answer (by split <;> decide) (by split <;> decide)]
    exact finish_now (by split <;> decide)
  rw [hostCommand_of_takesNow h, run, State.takeHost_answered, ite_self]

/-- A command of the classes answered meanwhile is answered by its own row (R54). -/
theorem hostCommand_runs_of_recallClass {r : OpRow} (h : s.takesNow) (hr : opRow opc = some r)
    (ha : s.opcAllowed opc = true) (hl : r.len p = true) (hc : recallClass opc = true) (hw : storeWrites opc = false) :
    s.hostCommand opc tag p = finish { org := .host s.link.nextId, tag := tag, p := p }
      (r.run { org := .host s.link.nextId, tag := tag, p := p } (s.took opc tag p)) := by
  have allowed : (s.took opc tag p).opcAllowed opc = true := ha
  rw [hostCommand_of_takesNow h, hw, if_neg (by simp)]
  simp [State.runCommand, State.answerOf, State.waitsStore, hr, guarded, firstFail, allowed, hl, hc, hw, Origin.isRemote]

/-- The opcodes that write the store are all of class 0xB. -/
theorem storeWrites_class (hw : storeWrites opc = true) : opc / 16 = 0xB := by
  simp [storeWrites] at hw
  omega

/-- NVM_STATUS is answered OK, its results led by RECALL (Table 18-8). -/
theorem finish_nvmStatus (c : Ctx) (s : State) (id : Nat) (ho : c.org = .host id) :
    ∃ r : Reply, (finish c (cmdNvmStatus c s)).link.replies = s.link.replies ++ [r] ∧ r.status = stOk ∧
      r.results[0]? = some (BitVec.ofNat 8 (b2n s.store.recalled)) := by
  unfold finish cmdNvmStatus State.post State.postAt
  simp only [ho, State.raise_link]
  refine ⟨_, rfl, rfl, ?_⟩
  cases s.store.recalled <;> rfl

end

end Sys2Proof.Machine

/-! ### The obligations -/

/-- Settles O2: each command's own checks pass on the values its table gives, and a ready device then stages it; DEV_RESET and LINK_CLEAR
are run out. -/
theorem deviceCommandsComplete : Obligations.DeviceCommandsComplete := by
  unfold Obligations.DeviceCommandsComplete
  refine ⟨?_, ?_, ?_, ?_, ?_, ?_, ?_, ?_, ?_⟩
  · exact fun s tag p h hl hc hb => pwrConfig_stages h hl hc hb
  · exact fun s tag p h hl hm ht => startGroup_stages h hl hm ht
  · exact fun s tag p h hl hm he hn => stopGroup_stages h hl hm he hn
  · exact fun s tag p h hl hi hm hk => authKeyLoad_stages h hl hi hm hk
  · exact fun s tag p h hl hi => authKeyClear_stages h hl hi
  · intro s tag p h hl hw
    exact rtcSet_stages h hl (hw.imp_right fun ⟨ha, hy, hm, hd, hh, hn, hs⟩ => ⟨ha, civilChecks_pass hy hm hd hh hn hs⟩)
  · intro s tag p h hl hk
    rw [devReset_runs h hl hk]
    refine leads_next ⟨?_, rfl, ?_, ?_, ?_⟩
    all_goals simp [State.onPw, State.answered]
  · exact fun s tag p h hl hk => devReset_wrongKey h hl hk
  · exact fun s tag h => linkClear_clears h

/-- Settles O30: each row of the exchange and of the limiter is run out; what a Pavane that waits would do is excluded by there being none. -/
theorem allotmentAndLimiter : Obligations.AllotmentAndLimiter := by
  unfold Obligations.AllotmentAndLimiter
  refine ⟨?_, ?_, ?_, ?_, ?_, ?_, ?_, ?_, ?_, ?_⟩
  · exact fun s f c hf ho hg hp => allotGrantFrame_answers hf ho hg hp
  · exact fun s f c hf hg hc => allotGrantFrame_lowers hf hg hc
  · exact fun s c d rest h => allotLowerApply_lowers h
  · exact fun s ha ho hn hp => allotGrantTimeout_notes ha ho hn hp
  · exact fun s ha ho hn hs hl => allotRequestRepeat_asks ha ho hn hs hl
  · exact fun s v ha h0 hv => lineMeasure_limits ha h0 hv
  · exact fun s ha => limiterHold_holds ha
  · exact fun s d ha hl ho hd ht => limiterOverload_now ha hl ho hd ht
  · intro s
    obtain ⟨b, start⟩ := s.unlimited.startPll_frame
    rw [exec_limiterRelease, start]
    exact leads_next ⟨rfl, rfl, rfl, rfl, rfl, rfl⟩
  · intro s hp
    rw [exec_limiterRelease, State.startPll_of_none (s := s.unlimited) hp]
    rfl

/-- Refutes O31: a power-fail warning raises its source, which sets its bit of EVST except where the fabric has it noted as raised in this
quantum already; the first clause asks for the bit in every state. Here, in a state that no run leads to, the fabric notes source 7 as
raised in quantum 0 while its bit of EVST is 0. -/
theorem not_supplyEvents : ¬ Obligations.SupplyEvents := by
  unfold Obligations.SupplyEvents
  rintro ⟨warning, -⟩
  have clear : (nextState (exec (.powerFailWarning 0) { State.reset with phase := .run, ev := { raisedNow := 0x80 } })).map
      (fun t => t.ev.st.getLsbD 7) = some false := by decide +kernel
  obtain ⟨t, ⟨-, -, -, -, -, -, -, -, raised, -⟩, h⟩ := leads_computed (warning _ 0 rfl rfl) clear
  exact absurd (raised.symm.trans h) (by decide)

/-- Refutes O35: an area whose header the recall itself finds failing its CRC is no candidate (R400), which the first clause leaves out: it
chooses among the headers as they stood before. Here area A alone is valid and persists epoch 5, the recall finds its header bad, and the
epoch stays 0. -/
theorem not_recallTakesTheImage : ¬ Obligations.RecallTakesTheImage := by
  unfold Obligations.RecallTakesTheImage
  rintro ⟨takes, -⟩
  have lost : (nextState (exec (.nvmRecallDone { badHdrs := [false] })
      { State.reset with phase := .run, areaA := { hdr := .valid, base := 5 } })).map State.epoch = some 0 := by decide +kernel
  obtain ⟨t, ⟨-, epoch, -⟩, zero⟩ := leads_computed (takes _ _ false _ rfl rfl rfl rfl rfl rfl rfl) lost
  rw [zero] at epoch
  exact absurd epoch (by decide)

/-- Settles O54: the check of the recall refuses each command outside the classes that R54 names, and passes those of the classes. -/
theorem answersUntilTheRecall : Obligations.AnswersUntilTheRecall := by
  unfold Obligations.AnswersUntilTheRecall
  refine ⟨?_, ?_, ?_, ?_⟩
  · intro s opc tag p r ha hm hb hh hs hr hal hl hc hn
    have late : recallClass opc = false := by simp [recallClass]; omega
    rw [hostCommand_before_recall ⟨ha, hm, hb, hh⟩ hs hr hal hl late, if_pos hc]
  · intro s opc tag p r ha hm hb hh hs hr hal hl hB h0 hE hF
    have late : recallClass opc = false := by simp [recallClass]; omega
    rw [hostCommand_before_recall ⟨ha, hm, hb, hh⟩ hs hr hal hl late, if_neg hB]
  · intro s tag ha hm hb hh hs hal
    have run : exec (.nvmStatus tag []) s = .next (s.hostCommand 0xB9 tag []) := rfl
    rw [run, hostCommand_runs_of_recallClass ⟨ha, hm, hb, hh⟩ rfl hal rfl rfl rfl]
    obtain ⟨r, replies, status, results⟩ := finish_nvmStatus { org := .host s.link.nextId, tag := tag, p := [] } (s.took 0xB9 tag []) _ rfl
    have unrecalled : (s.took 0xB9 tag []).store.recalled = false := hs
    rw [unrecalled] at results
    exact leads_next ⟨r, replies, status, results⟩
  · intro s opc tag p r ha hm hb hh hs hr hal hl hc
    have early : recallClass opc = true := by simp [recallClass]; omega
    have reads : storeWrites opc = false := by
      cases hw : storeWrites opc
      · rfl
      · have := storeWrites_class hw
        omega
    exact hostCommand_runs_of_recallClass ⟨ha, hm, hb, hh⟩ hr hal hl early reads
end

section
/-! PROOFS. The state model: point and object writes with their groups, snapshots, what runs out, the limit on staged writes. -/

open Sys2Proof Sys2Proof.Machine

namespace Sys2Proof.Machine

/-! ### Checks -/

/-- Checks that all pass leave those that follow them to decide. -/
theorem guarded_append_pass {cs ds : Checks} {s : State} {e : State × Ans} (h : ∀ e ∈ cs, e.1 = false) :
    guarded (cs ++ ds) s e = guarded ds s e := by
  induction cs with
  | nil => rfl
  | cons c cs ih =>
    obtain ⟨failed, a⟩ := c
    obtain rfl : failed = false := h _ List.mem_cons_self
    exact ih fun e he => h e (List.mem_cons_of_mem _ he)

/-- A reference to an item passes its check where KIND and INDEX name one that the personality has (R64, R65). -/
theorem checkRef_obj_pass {kind idx a b : Nat} {ps : Pers} (h1 : 1 ≤ kind) (h7 : kind ≤ 7) (ha : kindAllowed kind ps = true)
    (hi : idx < kindCount kind) : ∀ e ∈ checkRef kind idx ps a b, e.1 = false := by
  have named : (kind == 0) = false := beq_eq_false_iff_ne.2 (by omega)
  simp only [checkRef, List.mem_cons, List.not_mem_nil, or_false]
  rintro e (rfl | rfl | rfl | rfl | rfl)
  exacts [decide_eq_false (by omega), by simp [ha], by simp [named], by simp [named], by simp [hi]]

/-! ### Writes, staged or held in a group (R73 to R80) -/

section
variable {s : State} {tag : Byte} {p : Bytes} {g n : Nat} {gr : Group} {ws : List Write}

/-- A GROUP byte that names no group, or an open one with room for n writes more (R78, R79). -/
def State.groupTakes (s : State) (g n : Nat) : Prop :=
  g = 0 ∨ g ≤ 8 ∧ ∃ gr, s.groupOpen g = some gr ∧ gr.held.length + n ≤ 64

theorem groupByte_pass (h : s.groupTakes g n) :
    (∀ e ∈ chk (g > 8) (badParam 0), e.1 = false) ∧ ∀ e ∈ groupChecks g n s, e.1 = false := by
  obtain rfl | ⟨h8, gr, open_, room⟩ := h
  · simp [chk, groupChecks]
  · have named : g ≠ 0 := by
      rintro rfl
      cases open_
    simp [chk, groupChecks, named, open_, h8, room]

theorem stageOrHold_noGroup : s.stageOrHold 0 ws = (s, .commit ws []) := rfl

theorem stageOrHold_open (h : s.groupOpen g = some gr) :
    s.stageOrHold g ws =
      ({ s with groups := upd s.groups (g - 1) fun _ => some { gr with held := gr.held ++ ws } }, .now stOk []) := by
  simp only [State.stageOrHold, h]

/-- An entry of POINT_WRITE that the host may write passes its checks (R12, R65, R66). -/
theorem pointChecks_pass {o : Nat} (h : s.takesPoint (u16 p o) (w32 p (o + 2))) : ∀ e ∈ pointChecks p o s, e.1 = false := by
  obtain ⟨writable, valid, allowed, enabled, range, -, -⟩ := h
  simp only [pointChecks, List.mem_cons, List.not_mem_nil, or_false]
  rintro e (rfl | rfl | rfl | rfl)
  exacts [by simp [valid], by simp [allowed], by rw [writable, enabled]; rfl, by simp [range]]

/-- The entries of POINT_WRITE, one by one, pass their checks. -/
theorem pointList_pass (h : ∀ e ∈ pointList p, s.takesPoint e.1 e.2) :
    ∀ e ∈ (List.range (u8 p 1)).flatMap fun i => pointChecks p (2 + 6 * i) s, e.1 = false := by
  intro e he
  obtain ⟨i, hi, he⟩ := List.mem_flatMap.1 he
  have entry := h _ (List.mem_map_of_mem hi)
  rw [show 4 + 6 * i = 2 + 6 * i + 2 by omega] at entry
  exact pointChecks_pass entry e he

/-- No entry that the host may write is owned by a service or belongs to a floating drive (R67, R242). -/
theorem pointList_noConflict (h : ∀ e ∈ pointList p, s.takesPoint e.1 e.2) :
    ((pointList p).any fun e => s.serviceOwned e.1 || (s.com.cfg.driveOf e.1).isSome) = false := by
  rw [List.any_eq_false]
  intro e he
  obtain ⟨-, -, -, -, -, unowned, undriven⟩ := h e he
  rw [unowned, Option.isNone_iff_eq_none.1 undriven]
  exact Bool.false_ne_true

/-- POINT_WRITE of entries that the host may write: all that is left to refuse it is the room in the beat (R76). -/
theorem cmdPointWrite_eq {c : Ctx} (ha : s.acting = true) (hg : s.groupTakes (u8 c.p 0) (u8 c.p 1)) (h1 : 1 ≤ u8 c.p 1)
    (h40 : u8 c.p 1 ≤ 40) (hp : ∀ e ∈ pointList c.p, s.takesPoint e.1 e.2) :
    cmdPointWrite c s = guarded [(u8 c.p 0 == 0 && s.stageFull (u8 c.p 1), refused stBusy)] s
      (s.stageOrHold (u8 c.p 0) ((pointList c.p).map fun e => .point e.1 e.2)) := by
  have count : ∀ e ∈ chk (u8 c.p 1 < 1 || u8 c.p 1 > 40) (badParam 1), e.1 = false := by
    simp [chk]; omega
  unfold cmdPointWrite
  dsimp only
  rw [guarded_append_pass]
  · simp only [guarded, firstFail, State.notActive, ha, pointList_noConflict hp, Bool.not_true, Bool.false_eq_true, if_false]
  · simp only [List.forall_mem_append]
    exact ⟨⟨groupByte_pass hg, count⟩, pointList_pass hp⟩

/-- OBJ_WRITE of what the host may write: all that is left to refuse it is the room in the beat (R76). -/
theorem cmdObjWrite_eq {c : Ctx} (ha : s.acting = true) (hg : s.groupTakes (u8 c.p 0) 1)
    (ho : s.takesObj (u8 c.p 1) (u16 c.p 2) (u16 c.p 8) (c.p.drop 10)) :
    cmdObjWrite c s = guarded [(u8 c.p 0 == 0 && s.stageFull 1, refused stBusy)] s
      (s.stageOrHold (u8 c.p 0) [.obj (u8 c.p 1) (u16 c.p 2) (u32 c.p 4) (u16 c.p 8) (c.p.drop 10)]) := by
  obtain ⟨h1, h7, allowed, index, size, checks⟩ := ho
  have kind : ∀ e ∈ chk (u8 c.p 1 == 0) (badParam 1), e.1 = false := by
    simp [chk]; omega
  have fits : ∀ a, ∀ e ∈ chk (u16 c.p 8 + (c.p.drop 10).length > kindSize (u8 c.p 1)) a, e.1 = false := by
    simp only [chk, List.mem_singleton]
    rintro a e rfl
    exact decide_eq_false (by omega)
  unfold cmdObjWrite
  dsimp only
  rw [guarded_append_pass]
  · simp only [guarded, firstFail, State.notActive, ha, Bool.not_true, Bool.false_eq_true, if_false]
  · simp only [List.forall_mem_append]
    exact ⟨⟨⟨⟨groupByte_pass hg, kind⟩, checkRef_obj_pass h1 h7 allowed index⟩, fits _⟩, checks⟩

theorem roomToStage (h : s.staged.length + n ≤ 512) : s.stageFull n = false := decide_eq_false (by omega)

theorem noRoomToStage (h : 512 < s.staged.length + n) : s.stageFull n = true := decide_eq_true h

/-- Writes that no group holds, and for which the beat has room, are staged. -/
theorem finish_staged {opc : Nat} (h : s.stageFull n = false) :
    finish { org := .host s.link.nextId, tag := tag, p := p }
      (guarded [((0 : Nat) == 0 && s.stageFull n, refused stBusy)] (s.took opc tag p) ((s.took opc tag p).stageOrHold 0 ws)) =
      s.staging opc tag p ws [] := by
  rw [guarded_pass (by simp [firstFail, h]), stageOrHold_noGroup, finish_commit]

/-- Without that room they are refused (R76). -/
theorem finish_busy {opc : Nat} {e : State × Ans} (h : s.stageFull n = true) :
    finish { org := .host s.link.nextId, tag := tag, p := p }
      (guarded [((0 : Nat) == 0 && s.stageFull n, refused stBusy)] (s.took opc tag p) e) = s.answered opc tag p stBusy [] := by
  rw [guarded_fail (a := refused stBusy) (by simp [firstFail, h])]
  exact finish_now (by decide)
end

/-! ### The states that the commands of groups and snapshots change -/

/-- A group opened, changed or closed. -/
abbrev State.putGroup (s : State) (i : Nat) (o : Option Group) : State := { s with groups := upd s.groups i fun _ => o }

/-- A snapshot buffer filled, changed or freed. -/
abbrev State.putSnap (s : State) (h : Nat) (o : Option Snap) : State := { s with snaps := upd s.snaps h fun _ => o }

section
variable {s : State} {tag : Byte} {p : Bytes} {opc st : Nat} {rs : Bytes}

/-- A command that has changed one group is answered as if it had not, and that change stays. -/
theorem answered_putGroup (i : Nat) (o : Option Group) :
    leads (.next ((s.putGroup i o).answered opc tag p st rs)) fun t =>
      t.groups = upd s.groups i (fun _ => o) ∧ t.link = (s.answered opc tag p st rs).link ∧ t.staged = s.staged ∧ t.com = s.com := by
  refine leads_next ?_
  simp only [State.answered, State.raise_groups, State.raise_link, State.raise_staged, State.raise_com]
  exact ⟨trivial, rfl, trivial, trivial⟩

/-- The same for a snapshot buffer. -/
theorem answered_putSnap (h : Nat) (o : Option Snap) :
    leads (.next ((s.putSnap h o).answered opc tag p st rs)) fun t =>
      t.snaps = upd s.snaps h (fun _ => o) ∧ t.link = (s.answered opc tag p st rs).link ∧ t.com = s.com ∧ t.staged = s.staged := by
  refine leads_next ?_
  simp only [State.answered, State.raise_snaps, State.raise_link, State.raise_staged, State.raise_com]
  exact ⟨trivial, rfl, trivial, trivial⟩

/-- A reply with an epoch of its own joins the replies, and nothing is staged or committed by it (R81). -/
theorem finish_nowAt (id e : Nat) :
    leads (.next (finish { org := .host id, tag := tag, p := p } (s, .nowAt e rs))) fun t =>
      t.snaps = s.snaps ∧
      t.link.replies = s.link.replies ++ [{ slot := some id, tag := tag, status := stOk, epoch := e, results := rs, final := true
                                            readAt := s.tb }] ∧
      t.com = s.com ∧ t.staged = s.staged := by
  refine leads_next ?_
  simp only [finish, State.postAt, State.raise_snaps, State.raise_link, State.raise_staged, State.raise_com]
  exact ⟨trivial, rfl, trivial, trivial⟩
end

/-! ### POINT_WRITE and OBJ_WRITE on a ready device -/

section
variable {s : State} {tag : Byte} {p : Bytes}

/-- An acting device runs a POINT_WRITE of 1 to 40 entries that the host may write. -/
theorem pointWrite_runs (h : s.ready 0x11) (ha : s.acting = true) (hl : p.length = 2 + 6 * u8 p 1)
    (hg : s.groupTakes (u8 p 0) (u8 p 1)) (h1 : 1 ≤ u8 p 1) (h40 : u8 p 1 ≤ 40) (hp : ∀ e ∈ pointList p, s.takesPoint e.1 e.2) :
    exec (.pointWrite tag p) s = .next (finish { org := .host s.link.nextId, tag := tag, p := p }
      (guarded [(u8 p 0 == 0 && s.stageFull (u8 p 1), refused stBusy)] (s.took 0x11 tag p)
        ((s.took 0x11 tag p).stageOrHold (u8 p 0) ((pointList p).map fun e => .point e.1 e.2)))) := by
  have run := hostCommand_runs (tag := tag) h rfl rfl (by simpa [counted] using hl)
  refine congrArg Host.Outcome.next (run.trans (congrArg (finish _) ?_))
  exact cmdPointWrite_eq (s := s.took 0x11 tag p) ha hg h1 h40 hp

/-- An acting device runs an OBJ_WRITE of what the host may write. -/
theorem objWrite_runs (h : s.ready 0x12) (ha : s.acting = true) (h11 : 11 ≤ p.length) (h246 : p.length ≤ 246)
    (hg : s.groupTakes (u8 p 0) 1) (ho : s.takesObj (u8 p 1) (u16 p 2) (u16 p 8) (p.drop 10)) :
    exec (.objWrite tag p) s = .next (finish { org := .host s.link.nextId, tag := tag, p := p }
      (guarded [(u8 p 0 == 0 && s.stageFull 1, refused stBusy)] (s.took 0x12 tag p)
        ((s.took 0x12 tag p).stageOrHold (u8 p 0) [.obj (u8 p 1) (u16 p 2) (u32 p 4) (u16 p 8) (p.drop 10)]))) := by
  have run := hostCommand_runs (tag := tag) (p := p) h rfl rfl (by simp [lenIn, h11, h246])
  refine congrArg Host.Outcome.next (run.trans (congrArg (finish _) ?_))
  exact cmdObjWrite_eq (s := s.took 0x12 tag p) ha hg ho

/-- A POINT_WRITE that names an open group with room is held in it and answered at once (R78). -/
theorem pointWrite_holds {gr : Group} (h : s.ready 0x11) (ha : s.acting = true) (hl : p.length = 2 + 6 * u8 p 1) (hg : 1 ≤ u8 p 0)
    (h8 : u8 p 0 ≤ 8) (h1 : 1 ≤ u8 p 1) (h40 : u8 p 1 ≤ 40) (ho : s.groupOpen (u8 p 0) = some gr)
    (hr : gr.held.length + u8 p 1 ≤ 64) (hp : ∀ e ∈ pointList p, s.takesPoint e.1 e.2) :
    exec (.pointWrite tag p) s = .next ((s.putGroup (u8 p 0 - 1) (some { gr with
      held := gr.held ++ (pointList p).map fun e => .point e.1 e.2 })).answered 0x11 tag p stOk []) := by
  have named : (u8 p 0 == 0) = false := beq_eq_false_iff_ne.2 (by omega)
  rw [pointWrite_runs h ha hl (.inr ⟨h8, gr, ho, hr⟩) h1 h40 hp, guarded_pass (by simp [firstFail, named]),
    stageOrHold_open (s := s.took 0x11 tag p) ho]
  exact congrArg Host.Outcome.next (finish_now (s := s.putGroup _ _) (by decide))
end

/-! ### GROUP_OPEN and GROUP_CLOSE -/

section
variable {s : State} {tag : Byte} {p : Bytes} {gr : Group}

theorem groupOpen_opens {i : Nat} (h : s.ready 0x13) (ha : s.acting = true) (hi : s.freeGroup = some i) :
    exec (.groupOpen tag []) s =
      .next ((s.putGroup i (some { openAt := s.tb, held := [] })).answered 0x13 tag [] stOk (le 1 (i + 1))) := by
  have acting : (s.took 0x13 tag []).acting = true := ha
  have free : (s.took 0x13 tag []).freeGroup = some i := hi
  refine congrArg Host.Outcome.next ((hostCommand_runs h rfl rfl rfl).trans ?_)
  simp only [cmdGroupOpen, free, guarded, firstFail, State.notActive, acting, Bool.not_true, Bool.false_eq_true, if_false]
  exact finish_now (s := s.putGroup _ _) (by decide)

/-- GROUP_CLOSE with ACTION 0 stages what the group holds, in the order held (R78). -/
theorem groupClose_stages (h : s.ready 0x14) (ha : s.acting = true) (hl : p.length = 2) (hc : u8 p 1 = 0)
    (ho : s.groupOpen (u8 p 0) = some gr) (holds : gr.held ≠ []) (room : s.staged.length + gr.held.length ≤ 512) :
    exec (.groupClose tag p) s = .next ((s.putGroup (u8 p 0 - 1) none).staging 0x14 tag p gr.held []) := by
  have acting : (s.took 0x14 tag p).acting = true := ha
  have open_ : (s.took 0x14 tag p).groupOpen (u8 p 0) = some gr := ho
  have full : (s.took 0x14 tag p).stageFull gr.held.length = false := roomToStage room
  refine congrArg Host.Outcome.next ((hostCommand_runs h rfl rfl (by simpa [lenIs] using hl)).trans ?_)
  simp only [cmdGroupClose, open_, hc]
  rw [guarded_pass (by simp [firstFail, State.notActive, acting, full]), if_neg (by simp [holds]), if_pos trivial]
  exact finish_commit (s := s.putGroup _ _)

/-- GROUP_CLOSE with ACTION 1 drops it (R78). -/
theorem groupClose_drops (h : s.ready 0x14) (ha : s.acting = true) (hl : p.length = 2) (hc : u8 p 1 = 1)
    (ho : s.groupOpen (u8 p 0) = some gr) :
    exec (.groupClose tag p) s = .next ((s.putGroup (u8 p 0 - 1) none).answered 0x14 tag p stOk []) := by
  have acting : (s.took 0x14 tag p).acting = true := ha
  have open_ : (s.took 0x14 tag p).groupOpen (u8 p 0) = some gr := ho
  refine congrArg Host.Outcome.next ((hostCommand_runs h rfl rfl (by simpa [lenIs] using hl)).trans ?_)
  simp only [cmdGroupClose, open_, hc]
  rw [guarded_pass (by simp [firstFail, State.notActive, acting]), if_neg (by simp), if_neg (by simp)]
  exact finish_now (s := s.putGroup _ _) (by decide)
end

/-! ### Snapshots (R81) -/

section
variable {s : State} {tag : Byte} {p : Bytes} {sn : Snap} {h : Nat}

theorem snapTake_copies (hs : s.ready 0x15) (hl : p.length = 1 + 3 * u8 p 0) (h1 : 1 ≤ u8 p 0) (h64 : u8 p 0 ≤ 64)
    (hf : s.freeSnap = some h)
    (hr : ∀ i < u8 p 0, ∀ e ∈ checkRef (u8 p (1 + 3 * i)) (u16 p (2 + 3 * i)) s.pers (1 + 3 * i) (2 + 3 * i), e.1 = false)
    (hd : ((refList p).flatMap fun r => s.snapRecord r.1 r.2).length ≤ 4096) :
    exec (.snapTake tag p) s = .next ((s.putSnap h (some { epoch := s.epoch, usedAt := s.tb
                                                           data := (refList p).flatMap fun r => s.snapRecord r.1 r.2 })).answered
      0x15 tag p stOk (le 1 h ++ le 2 ((refList p).flatMap fun r => s.snapRecord r.1 r.2).length)) := by
  have free : (s.took 0x15 tag p).freeSnap = some h := hf
  have count : ∀ e ∈ chk (u8 p 0 < 1 || u8 p 0 > 64) (badParam 0), e.1 = false := by
    simp [chk]; omega
  have refs : ∀ e ∈ (List.range (u8 p 0)).flatMap fun i =>
      checkRef (u8 p (1 + 3 * i)) (u16 p (2 + 3 * i)) s.pers (1 + 3 * i) (2 + 3 * i), e.1 = false := by
    intro e he
    obtain ⟨i, hi, he⟩ := List.mem_flatMap.1 he
    exact hr i (List.mem_range.1 hi) e he
  have size : ∀ e ∈ chk (((refList p).flatMap fun r => s.snapRecord r.1 r.2).length > 4096) (badParam 0xFF), e.1 = false := by
    simp only [chk, List.mem_singleton]
    rintro e rfl
    exact decide_eq_false (by omega)
  refine congrArg Host.Outcome.next ((hostCommand_runs hs rfl rfl (by simpa [counted] using hl)).trans ?_)
  simp only [cmdSnapTake, free]
  rw [guarded_pass]
  · exact finish_now (s := s.putSnap _ _) (by decide)
  · rw [firstFail_eq_none, List.forall_mem_append, List.forall_mem_append]
    exact ⟨⟨count, refs⟩, size⟩

theorem snapRead_reads (hs : s.ready 0x16) (hl : p.length = 4) (hb : nth s.snaps (u8 p 0) none = some sn)
    (ho : u16 p 1 < sn.data.length) (h1 : 1 ≤ u8 p 3) (h240 : u8 p 3 ≤ 240) :
    exec (.snapRead tag p) s = .next (finish { org := .host s.link.nextId, tag := tag, p := p }
      ((s.putSnap (u8 p 0) (some { sn with usedAt := s.tb })).took 0x16 tag p, .nowAt sn.epoch (slice sn.data (u16 p 1) (u8 p 3)))) := by
  have buffer : nth (s.took 0x16 tag p).snaps (u8 p 0) none = some sn := hb
  refine congrArg Host.Outcome.next ((hostCommand_runs hs rfl rfl (by simpa [lenIs] using hl)).trans ?_)
  simp only [cmdSnapRead, buffer]
  rw [guarded_pass]
  · rfl
  · simp only [firstFail_eq_none, List.mem_cons, List.not_mem_nil, or_false]
    rintro e (rfl | rfl)
    exacts [decide_eq_false (by omega), by simp; omega]

theorem snapFree_frees (hs : s.ready 0x17) (hl : p.length = 1) (hb : nth s.snaps (u8 p 0) none = some sn) :
    exec (.snapFree tag p) s = .next ((s.putSnap (u8 p 0) none).answered 0x17 tag p stOk []) := by
  have buffer : nth (s.took 0x17 tag p).snaps (u8 p 0) none = some sn := hb
  refine congrArg Host.Outcome.next ((hostCommand_runs hs rfl rfl (by simpa [lenIs] using hl)).trans ?_)
  simp only [cmdSnapFree, buffer]
  exact finish_now (s := s.putSnap _ _) (by decide)
end

/-! ### What runs out (R79, R81) -/

/-- A multiple of a time that falls due in the present quantum is reached without a move of TB. -/
theorem State.jump_nextMultiple_present {s : State} {n t : Nat} (ha : s.awake = true) (h : s.tb = nextMultiple n t) :
    s.jump (nextMultiple n t) = s := by
  rw [← h]
  exact State.jump_present ha (h ▸ Nat.mod_lt _ (by decide))

theorem groupExpiry_drops {s : State} {g : Nat} {gr : Group} (ha : s.awake = true) (h1 : 1 ≤ g) (h8 : g ≤ 8)
    (hg : nth s.groups (g - 1) none = some gr) (ht : s.tb = nextMultiple 10000 (tbAdd gr.openAt 2000000)) :
    exec (.groupExpiry g) s = .next { s.putGroup (g - 1) none with ev := s.ev.raise 17 s.tb } := by
  have due : s.jump (nextMultiple 10000 (tbAdd gr.openAt 2000000)) = s :=
    State.jump_nextMultiple_present ha ht
  have raises := State.raise_awake (s := s.putGroup (g - 1) none) ha 17
  simp only [exec, execGroupExpiry, hg, due]
  rw [if_neg (by simp; omega), raises]

theorem groupExpiry_noSuchGroup {s : State} {g : Nat} (h : g = 0 ∨ 8 < g) : exec (.groupExpiry g) s = .fault .noSuchUnit := by
  simp only [exec, execGroupExpiry]
  rw [if_pos (by simp; omega)]

theorem snapExpiry_frees {s : State} {h : Nat} {sn : Snap} (ha : s.awake = true) (h4 : h < 4) (hb : nth s.snaps h none = some sn)
    (ht : s.tb = nextMultiple 1000000 (tbAdd sn.usedAt 2000000)) :
    exec (.snapExpiry h) s = .next { s.putSnap h none with ev := s.ev.raise 18 s.tb } := by
  have due : s.jump (nextMultiple 1000000 (tbAdd sn.usedAt 2000000)) = s :=
    State.jump_nextMultiple_present ha ht
  have raises := State.raise_awake (s := s.putSnap h none) ha 18
  simp only [exec, execSnapExpiry, hb, due]
  rw [if_neg (by omega), raises]

theorem snapExpiry_noSuchBuffer {s : State} {h : Nat} (h4 : 4 ≤ h) : exec (.snapExpiry h) s = .fault .noSuchUnit := by
  simp only [exec, execSnapExpiry, if_pos h4]

end Sys2Proof.Machine

/-! ### The obligations -/

/-- Settles O3: each command's own checks pass, and its handler's work is staged, held, or answered with the changed group or buffer. -/
theorem writesGroupsAndSnapshots : Obligations.WritesGroupsAndSnapshots := by
  unfold Obligations.WritesGroupsAndSnapshots
  refine ⟨?_, ?_, ?_, ?_, ?_, ?_, ?_, ?_, ?_⟩
  · rintro s tag p ⟨h, ha, room⟩ hl hg h1 h40 hp
    rw [pointWrite_runs h ha hl (.inl hg) h1 h40 hp, hg, finish_staged (roomToStage room)]
  · rintro s tag p ⟨h, ha, room⟩ h11 h246 hg ho
    rw [objWrite_runs h ha h11 h246 (.inl hg) ho, hg, finish_staged (roomToStage room)]
  · intro s tag i h ha hi
    rw [groupOpen_opens h ha hi]
    exact answered_putGroup _ _
  · rintro s tag p gr ⟨h, ha, -⟩ hl hg h8 h1 h40 ho hr hp
    rw [pointWrite_holds h ha hl hg h8 h1 h40 ho hr hp]
    exact answered_putGroup _ _
  · exact fun s tag p gr h ha hl hc ho holds room => groupClose_stages h ha hl hc ho holds room
  · exact fun s tag p gr h ha hl hc ho => groupClose_drops h ha hl hc ho
  · intro s tag p h hs hl h1 h64 hf hr hd
    rw [snapTake_copies hs hl h1 h64 hf hr hd]
    exact answered_putSnap _ _
  · intro s tag p sn hs hl hb ho h1 h240
    rw [snapRead_reads hs hl hb ho h1 h240]
    exact finish_nowAt _ _
  · exact fun s tag p sn hs hl hb => snapFree_frees hs hl hb

/-- Settles O22: in the quantum that ends its time a group or a buffer is let go without a move of TB. -/
theorem groupsAndSnapshotsExpire : Obligations.GroupsAndSnapshotsExpire := by
  unfold Obligations.GroupsAndSnapshotsExpire
  refine ⟨?_, ?_, ?_, ?_⟩
  · exact fun s g gr ha h1 h8 hg ht => groupExpiry_drops ha h1 h8 hg ht
  · exact fun s g h => groupExpiry_noSuchGroup h
  · exact fun s h sn ha h4 hb ht => snapExpiry_frees ha h4 hb ht
  · exact fun s h h4 => snapExpiry_noSuchBuffer h4

/-- Settles O55: with every other check passed, the check of the room in the beat is the one that refuses. -/
theorem stagingHasALimit : Obligations.StagingHasALimit := by
  unfold Obligations.StagingHasALimit
  refine ⟨?_, ?_⟩
  · intro s tag p h ha full hl hg h1 h40 hp
    rw [pointWrite_runs h ha hl (.inl hg) h1 h40 hp, hg, finish_busy (noRoomToStage full)]
  · intro s tag p h ha full h11 h246 hg ho
    rw [objWrite_runs h ha h11 h246 (.inl hg) ho, hg, finish_busy (noRoomToStage full)]
end

section
/-! PROOFS. The command interface: packets and transactions of the host link, the replies and the taking of commands, deferral and expiry,
the commands that only report, records for the remote mailbox. -/

open Sys2Proof Sys2Proof.Machine

namespace Sys2Proof.Machine

/-! ### Bytes of packets (R6, R95) -/

section
variable {tag : Byte} {p : Bytes} {opc : Nat}

@[simp] theorem le_length (n x : Nat) : (le n x).length = n := by
  induction n generalizing x with
  | zero => rfl
  | succ n ih => simp [le, ih]

/-- n little-endian bytes keep a number modulo 256ⁿ (R6). -/
theorem leVal_le (n x : Nat) : leVal (le n x) = x % 256 ^ n := by
  induction n generalizing x with
  | zero => simp [le, leVal, Nat.mod_one]
  | succ n ih => rw [le, leVal, ih, Nat.pow_succ', Nat.mod_mul]; simp

theorem crc16_lt (bs : Bytes) : crc16 bs < 65536 := BitVec.isLt _

/-- The stretch of a packet that its CRC covers (Table 05-2). -/
def packetBody (opc : Nat) (tag : Byte) (p : Bytes) : Bytes := le 1 p.length ++ [tag] ++ le 1 opc ++ p

theorem packet_eq : packet opc tag p = 0xC7 :: (packetBody opc tag p ++ le 2 (crc16 (packetBody opc tag p))) := rfl

@[simp] theorem packetBody_length : (packetBody opc tag p).length = p.length + 3 := by
  simp [packetBody]; omega

theorem packet_length : (packet opc tag p).length = p.length + 6 := by
  simp [packet_eq]

theorem packet_len (h : p.length < 256) : u8 (packet opc tag p) 1 = p.length := by
  simp [packet_eq, packetBody, u8, le]
  omega

theorem packet_opcode (h : opc < 256) : u8 (packet opc tag p) 3 = opc := by
  simp [packet_eq, packetBody, u8, le]
  omega

theorem packet_params : slice (packet opc tag p) 4 p.length = p := by
  simp [packet_eq, packetBody, slice, le]

theorem packet_covered : slice (packet opc tag p) 1 (p.length + 3) = packetBody opc tag p := by
  simp [packet_eq, slice]

theorem packet_crc : u16 (packet opc tag p) (p.length + 4) = crc16 (packetBody opc tag p) := by
  have rest : (packet opc tag p).drop (p.length + 4) = le 2 (crc16 (packetBody opc tag p)) := by
    simp [packet_eq]
  rw [u16, un, slice, rest, List.take_of_length_le (by simp), leVal_le]
  exact Nat.mod_eq_of_lt (crc16_lt _)

end
/-! ### Transactions of the host link (R91 to R98, R102) -/

section
variable {s : State} {tag : Byte} {p : Bytes} {opc : Nat}

/-- A well-formed packet is received, or refused with the mailbox full; its transaction shifts out zeros (R92, R98, R102). -/
theorem commandWrite_packet (ha : s.awake = true) (ho : opc < 256) (hl : p.length < 256) :
    exec (.commandWrite (packet opc tag p)) s = .next (if 8 ≤ s.link.mbox.length
      then (s.shiftOut (List.replicate (p.length + 6) 0)).refuseCommand
      else (s.shiftOut (List.replicate (p.length + 6) 0)).receiveCommand opc tag p) := by
  have sync : (packet opc tag p)[0]? = some 0xC7 := rfl
  have tagged : (packet opc tag p)[2]?.getD 0 = tag := rfl
  have mbox : (s.shiftOut (List.replicate (p.length + 6) 0)).link.mbox = s.link.mbox := rfl
  have longEnough : decide (p.length + 6 < 6) = false := decide_eq_false (by omega)
  rw [apply_ite Host.Outcome.next]
  simp only [exec, execCommandWrite, ha, sync, tagged, longEnough, packet_length, packet_len hl, packet_opcode ho, packet_covered,
    packet_crc, packet_params, mbox, bne_self_eq_false, Bool.or_self, Bool.not_true, Bool.false_eq_true, if_false]

/-- A packet without its sync byte, or too short to be one, counts and is a link error (R98). -/
theorem commandWrite_noSync {bs : List Byte} (ha : s.awake = true) (h : bs[0]? ≠ some 0xC7 ∨ bs.length < 6) :
    exec (.commandWrite bs) s = .next (({ s.shiftOut (List.replicate bs.length 0) with
      link := { (s.shiftOut (List.replicate bs.length 0)).link with syncErr := satInc s.link.syncErr 255 } } : State).linkError) := by
  have malformed : (bs[0]? != some 0xC7 || decide (bs.length < 6)) = true := by simpa using h
  simp only [exec, execCommandWrite, ha, malformed]
  rfl

/-- An unlisted transaction type is a link error (R92). -/
theorem unknownTransaction_unlisted {x : Transaction} (ha : s.awake = true) (h : x.type = 0 ∨ 5 < x.type.toNat) :
    exec (.unknownTransaction x) s = .next (s.shiftOut []).linkError := by
  have unlisted : x.type ≠ 3 ∧ x.type ≠ 5 ∧ ¬ (1 ≤ x.type.toNat ∧ x.type.toNat ≤ 4) := by
    obtain h | h := h
    · simp [h]
    · refine ⟨?_, ?_, by omega⟩ <;> (rintro e; simp [e] at h)
  obtain ⟨h3, h5, listed⟩ := unlisted
  simp only [exec, execUnknownTransaction, ha, Bool.not_true, Bool.false_eq_true, if_false, if_neg h3, if_neg h5]
  rw [if_neg (by simpa using listed)]

/-- A link error sets LERR, notes it as raised by hardware, and raises LINK_ERROR (R92, R98). -/
theorem State.linkError_awake (ha : s.awake = true) : s.linkError = { s with
    link := { s.link with lerr := true }, ev := s.ev.raise 25 s.tb, w1cAt := s.tb
    w1cNow := (0x20, 8) :: if s.w1cAt = s.tb then s.w1cNow else [] } :=
  State.raise_awake (s := ({ s with link := { s.link with lerr := true } } : State).flag 0x20 8) ha 25

/-- A command received joins the mailbox; the one that fills it raises MBOX_FULL (R101). -/
theorem State.receiveCommand_awake (ha : s.awake = true) : s.receiveCommand opc tag p = { s with
    link := { s.link with nextId := s.link.nextId + 1
                          mbox := s.link.mbox ++ [{ id := s.link.nextId, tag := tag, opc := opc, params := p, recvAt := s.tb }] }
    ev := if s.link.mbox.length + 1 == 8 then s.ev.raise 22 s.tb else s.ev } := by
  unfold State.receiveCommand
  rw [State.raiseIf_awake (by exact ha)]
  simp

/-- A slot freed in a mailbox that was not full raises nothing (R101). -/
theorem State.freeSlot_notFull (id : Nat) (h : s.link.mbox.length < 8) :
    s.freeSlot id = { s with link := { s.link with mbox := s.link.mbox.filter fun c => c.id != id } } := by
  have notFull : decide (s.link.mbox.length ≥ 8) = false := decide_eq_false (by omega)
  simp only [State.freeSlot, notFull, Bool.false_and]
  rfl

/-- What leaves with a final reply is its command's slot (R101, R104). -/
theorem State.dropReply_final {r : Reply} {id : Nat} (hf : r.final = true) (hs : r.slot = some id) : s.dropReply r = s.freeSlot id := by
  unfold State.dropReply
  rw [hf, hs]

theorem replyRead_none {n : Nat} (ha : s.awake = true) (h : s.link.replies = []) :
    exec (.replyRead n) s = .next (s.shiftOut (List.replicate n 0)) := by
  simp [exec, execReplyRead, ha, h]

theorem replyRead_part {r : Reply} {rest : List Reply} {n : Nat} (ha : s.awake = true) (h : s.link.replies = r :: rest)
    (hn : n < r.bytes.length) : exec (.replyRead n) s = .next (s.shiftOut (fit n r.bytes)) := by
  simp [exec, execReplyRead, ha, h, hn]

/-- A reply read to its end leaves the queue (R93, R101). -/
theorem replyRead_whole {r : Reply} {rest : List Reply} {n : Nat} (ha : s.awake = true) (h : s.link.replies = r :: rest)
    (hn : r.bytes.length ≤ n) : exec (.replyRead n) s = .next ((({ s with
      link := { s.link with hmiso := le 1 s.hlstLow ++ fit n r.bytes, replies := rest } } : State).noteResetRead r).dropReply r) := by
  simp [exec, execReplyRead, ha, h, hn, State.shiftOut]

/-- A read that is not of DEV_RESET's reply lets no reset fall due (R62). -/
theorem State.noteResetRead_other {r : Reply} {id : Nat} (hs : r.slot = some id) (h : s.pw.devResetCmd ≠ some id) :
    s.noteResetRead r = s := by
  have other : (r.slot == s.pw.devResetCmd) = false := by rw [hs]; simpa using h.symm
  simp [State.noteResetRead, other]

/-- With the reply of DEV_RESET read, its device reset is due (R62). -/
theorem State.noteResetRead_reset {r : Reply} {id : Nat} (hf : r.final = true) (hs : r.slot = some id) (h : s.pw.devResetCmd = some id) :
    s.noteResetRead r = { s with pw := { s.pw with devReset := some s.tb, devResetCmd := none } } := by
  simp [State.noteResetRead, hf, hs, h]

end

/-! ### Replies posted (R96, R103, R107) -/

section
variable {s : State} {tag : Byte} {st id : Nat} {rs : Bytes}

/-- Two sources raised one after the other while awake (R123). -/
theorem State.raise_raise_awake (ha : s.awake = true) (m n : Nat) :
    (s.raise m).raise n = { s with ev := (s.ev.raise m s.tb).raise n s.tb } := by
  rw [State.raise_awake ha, State.raise_awake (by exact ha)]

/-- A final reply of a host command ends it and is readable at once (R96, R101, R103). -/
theorem State.post_final (h : st ≠ stDeferred) :
    s.post (.host id) tag st rs = ({ s with link := { s.link.onCmd id (fun c => { c with done := true }) with
      replies := s.link.replies ++ [{ slot := some id, tag := tag, status := st, epoch := s.epoch, results := rs, final := true
                                      readAt := s.tb }] } } : State).raise 19 := by
  have fin : (st != stDeferred) = true := by simpa using h
  simp only [State.post, State.postAt, fin, if_true]
  rfl

/-- A DEFERRED reply notes on its command when it was given (R107). -/
theorem State.post_deferred :
    s.post (.host id) tag stDeferred rs = ({ s with link := { s.link.onCmd id (fun c => { c with deferAt := some s.tb }) with
      replies := s.link.replies ++ [{ slot := some id, tag := tag, status := stDeferred, epoch := s.epoch, results := rs, final := false
                                      readAt := s.tb }] } } : State).raise 19 := by
  simp only [State.post, State.postAt, bne_self_eq_false, Bool.false_eq_true, if_false]
  rfl

end

/-! ### The host mailbox (R105, R106, R374) -/

section
variable {s : State} {c : MboxCmd} {rest : List MboxCmd}

theorem exec_commandTake (s : State) : exec .commandTake s = .next s.takeHost := rfl

theorem State.takeHost_idle (h : s.link.mbox.find? s.open_ = none) : s.takeHost = s := by
  simp [State.takeHost, h]

theorem State.takeHost_waits (h : s.link.mbox.find? s.open_ = some c) (ht : c.taken = false) (hw : s.waitsHandover c.opc = true) :
    s.takeHost = s := by
  simp [State.takeHost, h, ht, hw]

theorem State.takeHost_takes (ha : s.awake = true) (hm : s.mgmt.restarting = false) (h : s.link.mbox.find? s.open_ = some c)
    (ht : c.taken = false) (hw : s.waitsHandover c.opc = false) :
    s.takeHost = State.runCommand c.opc { org := .host c.id, tag := c.tag, p := c.params }
      { s with link := s.link.onCmd c.id fun x => { x with taken := true } } := by
  simp [State.takeHost, State.takes, ha, hm, h, ht, hw]

theorem State.takeHost_carriesOn (ha : s.awake = true) (hm : s.mgmt.restarting = false) (h : s.link.mbox.find? s.open_ = some c)
    (ht : c.taken = true) :
    s.takeHost = State.carryOn c.opc { org := .host c.id, tag := c.tag, p := c.params }
      { s with link := s.link.onCmd c.id fun x => { x with taken := true } } := by
  simp [State.takeHost, State.takes, ha, hm, h, ht]

/-- The oldest command is open while it has not been taken. -/
theorem State.find_open_first (hb : s.link.mbox = c :: rest) (ht : c.taken = false) (hd : c.done = false) :
    s.link.mbox.find? s.open_ = some c := by
  simp [hb, State.open_, ht, hd]

/-- Outside a handover no command waits for its end (R374). -/
theorem State.waitsHandover_none (h : s.pair.handoverAt = none) (opc : Nat) : s.waitsHandover opc = false := by
  simp [State.waitsHandover, h]

/-- A change of the command with an id leaves the commands with other ids as they are. -/
theorem Link.onCmd_mbox {l : Link} {f : MboxCmd → MboxCmd} (hb : l.mbox = c :: rest) (others : ∀ d ∈ rest, d.id ≠ c.id) :
    (l.onCmd c.id f).mbox = f c :: rest := by
  have same : rest.map (fun d => if d.id = c.id then f d else d) = rest :=
    (List.map_congr_left fun d hd => if_neg (others d hd)).trans (List.map_id _)
  simp [Link.onCmd, hb, same]

/-- A command taken and answered at once with a final status has done nothing else. -/
theorem answered_first {st : Nat} {rs : Bytes} (hst : st ≠ stDeferred) (hb : s.link.mbox = c :: rest)
    (others : ∀ d ∈ rest, d.id ≠ c.id) :
    leads (.next (({ s with link := s.link.onCmd c.id fun x => { x with taken := true } } : State).post (.host c.id) c.tag st rs)) fun t =>
      t.link.mbox = { c with taken := true, done := true } :: rest ∧
      t.link.replies = s.link.replies ++ [{ slot := some c.id, tag := c.tag, status := st, epoch := s.epoch, results := rs, final := true
                                            readAt := s.tb }] ∧
      t.com = s.com ∧ t.staged = s.staged := by
  rw [State.post_final hst]
  refine leads_next ⟨?_, ?_, ?_, ?_⟩
  · rw [State.raise_link]
    exact Link.onCmd_mbox (c := { c with taken := true }) (Link.onCmd_mbox hb others) others
  all_goals simp [Link.onCmd]

/-- An opcode that Table 05-7 does not list is answered BAD_OPCODE (R99). -/
theorem runCommand_unlisted {opc : Nat} {x : Ctx} (h : opRow opc = none) :
    s.runCommand opc x = s.post x.org x.tag stBadOpcode [] := by
  have answer : s.answerOf opc x = (s, refused stBadOpcode) := by simp [State.answerOf, h]
  exact runCommand_refuses answer (by decide) (by decide)

/-- NOP is answered OK, also before the recall has ended (R54). -/
theorem runCommand_nop {opc : Nat} {x : Ctx} (ho : opc = 0x00) (ha : s.opcAllowed 0x00 = true) (hp : x.p = []) :
    s.runCommand opc x = s.post x.org x.tag stOk [] := by
  subst ho
  have answer : s.answerOf 0x00 x = (s, .now stOk []) := by
    simp [State.answerOf, opRow, opTable, class0Rows, guarded, firstFail, ha, hp, lenIs, recallClass, resultsTooLong,
      cmdNop]
  simp [State.runCommand, answer, State.waitsStore, storeWrites, finish]

end

/-! ### Deferral and expiry (R104, R107, R109) -/

section
variable {s : State} {c : MboxCmd} {i : Nat}

theorem replyExpiry_drops {r : Reply} {rest : List Reply} {id : Nat} (ha : s.awake = true) (hr : s.link.replies = r :: rest)
    (hf : r.final = true) (hs : r.slot = some id) (hm : s.link.mbox.length < 8)
    (ht : s.tb = nextMultiple 1000000 (tbAdd r.readAt 10000000)) :
    exec .replyExpiry s = .next { s with
      link := { s.link with replies := rest, expired := satInc s.link.expired 255, mbox := s.link.mbox.filter fun c => c.id != id }
      ev := s.ev.raise 24 s.tb } := by
  simp only [exec, execReplyExpiry, hr]
  rw [State.jump_nextMultiple_present ha ht, State.dropReply_final hf hs, State.freeSlot_notFull id (by exact hm),
    State.raise_awake (by exact ha)]

theorem deferredTimeout_defers (hi : i < 8) (hb : s.link.mbox[i]? = some c) (hd : c.done = false) (hn : c.deferAt = none) :
    exec (.deferredTimeout false i) s = .next ((s.jump (tbAdd c.recvAt 20000)).deferReply (.host c.id) c.tag c.opc
      (s.reasonOf (.host c.id) c.wait)) := by
  simp [exec, execDeferredTimeout, Nat.not_le.2 hi, hb, hd, hn]

theorem deferredExpiry_ends {u : Nat} (hi : i < 8) (hb : s.link.mbox[i]? = some c) (hd : c.done = false) (ht : c.taken = false)
    (hw : c.wait ≠ 3) (hu : c.deferAt = some u) :
    exec (.deferredExpiry false i) s = .next ((s.jump (nextMultiple 1000000 (tbAdd u 2000000))).endBusy (.host c.id) c.tag) := by
  simp [exec, execDeferredExpiry, Nat.not_le.2 hi, hb, hd, ht, hw, hu]

end

/-! ### The commands that only report (R111, R86, R89, R135) -/

section
variable {s : State} {tag : Byte} {n : Nat}

/-- An index or an offset read back from the bytes that carry it (R6). -/
theorem u8_le (h : n < 256) : u8 (le 1 n) 0 = n := by
  simp [u8, le]
  omega

theorem u16_le (h : n < 65536) : u16 (le 2 n) 0 = n := by
  rw [u16, un, slice, List.drop_zero, List.take_of_length_le (by simp), leVal_le]
  exact Nat.mod_eq_of_lt h

/-- A ready device answers OK what a handler reports that changes nothing. -/
theorem hostCommand_reports {opc : Nat} {p : Bytes} {r : OpRow} {rs : Bytes} (h : s.ready opc) (hw : storeWrites opc = false)
    (hr : opRow opc = some r) (hl : r.len p = true)
    (hrun : r.run { org := .host s.link.nextId, tag := tag, p := p } (s.took opc tag p) = (s.took opc tag p, .now stOk rs)) :
    Host.Outcome.next (s.hostCommand opc tag p) = (.next (s.answered opc tag p stOk rs) : Out) :=
  congrArg Host.Outcome.next (hostCommand_answers h hw hr hl (by decide) hrun)

theorem cmdAuthStatus_empty {x : Ctx} (hi : u8 x.p 0 < 8) (hk : nth s.unit.keys (u8 x.p 0) none = none) :
    cmdAuthStatus x s = (s, .now stOk (le 13 0)) := by
  simp only [cmdAuthStatus, hk]
  exact guarded_pass (by simp [firstFail]; omega)

theorem cmdAuthStatus_loaded {x : Ctx} {k : KeySlot} (hi : u8 x.p 0 < 8) (hk : nth s.unit.keys (u8 x.p 0) none = some k) :
    cmdAuthStatus x s = (s, .now stOk (le 1 (if k.exhausted then 2 else 1) ++ le 2 k.mask.toNat ++ le 4 (nth s.com.keyCnt (u8 x.p 0) 0) ++
      le 2 k.fails ++ (hmac k.key (List.replicate 16 0)).take 4)) := by
  simp only [cmdAuthStatus, hk]
  exact guarded_pass (by simp [firstFail]; omega)

theorem cmdCapNext_present {x : Ctx} {r : Bytes} (h : s.capAt (u16 x.p 0) = some r) : cmdCapNext x s = (s, .now stOk r) := by
  simp [cmdCapNext, h]

end

/-! ### Records that arrive for the remote mailbox (R120, R337) -/

section
variable {s : State} {f : Frame} {key : Nat}

theorem frameFunc_frameId {func sub : Nat} (hs : sub < 16) (h : f.id = frameId func sub key) : frameFunc f = func := by
  rw [frameFunc, h, frameId, low]
  omega

theorem frameSub_frameId {func sub : Nat} (hs : sub < 16) (h : f.id = frameId func sub key) : frameSub f = sub := by
  rw [frameSub, h, frameId, low]
  omega

/-- A frame's identifier carries the low 20 bits of a node key (R336). -/
theorem frameKey_frameId {func sub : Nat} (h : f.id = frameId func sub key) : frameKey f = low key 20 := by
  rw [frameKey, h, frameId, low, low]
  omega

/-- A frame addressed by another key than the node's is none of its records (R337). -/
theorem remoteRecordArrival_otherNode (h : frameKey f ≠ s.nodeKey) : exec (.remoteRecordArrival f) s = .next s := by
  have other : (frameKey f != s.nodeKey) = true := by simpa using h
  simp only [exec, execRemoteRecordArrival, other, Bool.or_true, if_true]

/-- The record of a frame that arrives, in the last place of the remote mailbox (R120). -/
def State.recordEntered (s : State) (f : Frame) : State :=
  { s with rem := { s.rem with
      box := s.rem.box ++ [{ id := s.rem.nextId, data := f.data, classic := !f.fdf, recvAt := s.tb }], nextId := s.rem.nextId + 1 } }

theorem State.recordEntered_ne (s : State) (f : Frame) : s.recordEntered f ≠ s := by
  intro h
  have next : s.rem.nextId + 1 = s.rem.nextId := congrArg (fun t : State => t.rem.nextId) h
  omega

/-- A record composed with the node's key enters a mailbox that has room exactly where an identifier holds that key whole. -/
theorem remoteRecordArrival_enters_iff (hf : s.frameArrives = true) (ha : s.acting = true) (hr : f.remote = false) (hx : f.ide = true)
    (hid : f.id = frameId 4 0 s.nodeKey) (room : s.rem.box.length < 8) :
    exec (.remoteRecordArrival f) s = .next (s.recordEntered f) ↔ s.nodeKey < 2 ^ 20 := by
  have key : frameKey f = s.nodeKey % 2 ^ 20 := frameKey_frameId hid
  constructor
  · intro h
    by_contra wide
    rw [remoteRecordArrival_otherNode (by omega)] at h
    exact s.recordEntered_ne f (Host.Outcome.next.inj h).symm
  · intro narrow
    rw [Nat.mod_eq_of_lt narrow] at key
    simp [exec, execRemoteRecordArrival, hf, ha, hr, hx, key, frameFunc_frameId (by decide) hid, frameSub_frameId (by decide) hid,
      Nat.not_le.2 room, State.recordEntered]

end

end Sys2Proof.Machine

/-! ### The obligations -/

/-- Settles O17: a well-formed packet passes every check of its bytes; the room in the mailbox then decides. The other two transactions
are link errors. -/
theorem commandPacketsReceived : Obligations.CommandPacketsReceived := by
  unfold Obligations.CommandPacketsReceived
  refine ⟨?_, ?_, ?_, ?_⟩
  · intro s opc tag p ha hm ho hl
    rw [commandWrite_packet ha ho hl, if_neg (by omega), State.receiveCommand_awake (by exact ha)]
    exact leads_next ⟨rfl, rfl, rfl⟩
  · intro s opc tag p ha hm ho hl
    rw [commandWrite_packet ha ho hl, if_pos hm]
    exact leads_next ⟨rfl, rfl, rfl, rfl, rfl⟩
  · intro s bs ha h
    rw [commandWrite_noSync ha h, State.linkError_awake (by exact ha)]
    exact leads_next ⟨rfl, rfl, rfl, rfl, rfl, rfl⟩
  · intro s x ha h
    rw [unknownTransaction_unlisted ha h, State.linkError_awake (by exact ha)]
    exact leads_next ⟨rfl, rfl, rfl, rfl, rfl⟩

/-- Settles O18: a reply read whole frees its slot, one read in part or unread stays; the oldest open command is taken, carried on, or
waits; what runs out does so in the quantum in which it is due, or TB jumps there. -/
theorem repliesAndTaking : Obligations.RepliesAndTaking := by
  unfold Obligations.RepliesAndTaking
  refine ⟨?_, ?_, ?_, ?_, ?_, ?_, ?_, ?_, ?_, ?_, ?_, ?_, ?_⟩
  · intro s r rest id n ha hr hf hs hc hm hn
    rw [replyRead_whole ha hr hn, State.noteResetRead_other hs (by exact hc), State.dropReply_final hf hs,
      State.freeSlot_notFull id (by exact hm)]
  · exact fun s r rest n ha hr hn => replyRead_part ha hr hn
  · exact fun s n ha hr => replyRead_none ha hr
  · intro s r rest id ha hr hf hs hc
    rw [replyRead_whole ha hr le_rfl, State.noteResetRead_reset hf hs (by exact hc), State.dropReply_final hf hs]
    refine leads_next ⟨?_, ?_⟩ <;> simp [State.freeSlot]
  · intro s c rest ha hm hh _ hb ht hd others ho
    rw [exec_commandTake, State.takeHost_takes ha hm (State.find_open_first hb ht hd) ht (State.waitsHandover_none hh _),
      runCommand_unlisted ho]
    exact answered_first (by decide) hb others
  · intro s c rest ha hm hh _ hal hb ht hd others ho hp
    rw [exec_commandTake, State.takeHost_takes ha hm (State.find_open_first hb ht hd) ht (State.waitsHandover_none hh _),
      runCommand_nop ho (by exact hal) hp]
    exact answered_first (by decide) hb others
  · intro s r rest id ha hr hf hs hm ht
    rw [replyExpiry_drops ha hr hf hs hm ht]
    exact leads_next ⟨rfl, rfl, rfl, rfl, rfl⟩
  · intro s c i ha hmod hi hb hd hn ht
    rw [deferredTimeout_defers hi hb hd hn, ← ht, State.jump_present ha hmod, State.deferReply, State.post_deferred,
      State.raise_raise_awake (by exact ha)]
    exact leads_next ⟨rfl, rfl, rfl, rfl⟩
  · intro s c i u ha _ hi hb hd ht hw hu
    rw [deferredExpiry_ends hi hb hd ht hw hu]
    obtain ⟨tb, frac, jump⟩ := s.jump_frame (nextMultiple 1000000 (tbAdd u 2000000))
    rw [jump, State.endBusy, State.post_final (by decide), State.raise_raise_awake (by exact ha)]
    exact leads_next ⟨rfl, rfl, rfl, rfl, rfl⟩
  · exact fun s c ha hm hf ht hw => congrArg Host.Outcome.next (State.takeHost_takes ha hm hf ht hw)
  · exact fun s c ha hm hf ht => congrArg Host.Outcome.next (State.takeHost_carriesOn ha hm hf ht)
  · exact fun s hf => congrArg Host.Outcome.next (State.takeHost_idle hf)
  · exact fun s c hf ht hw => congrArg Host.Outcome.next (State.takeHost_waits hf ht hw)

/-- Refutes O21: a record is compared with the node key whole, and an identifier carries 20 bits of it (R336), so the first clause needs a
NODEID below 2^20. BUS_CONFIG takes no other, but the clause ranges over every state: here NODEID is 2^20, and the record is not taken
for this node's. -/
theorem not_remoteRecordsAuthenticated : ¬ Obligations.RemoteRecordsAuthenticated := by
  unfold Obligations.RemoteRecordsAuthenticated
  rintro ⟨enters, -⟩
  have h := enters { State.reset with phase := .run, bus := { phase := .active }, applied := { bus := { nidsrc := 1, nodeid := 2 ^ 20 } } }
    { ide := true, id := frameId 4 0 (2 ^ 20), data := [] } rfl rfl rfl rfl rfl (by decide)
  exact absurd ((remoteRecordArrival_enters_iff rfl rfl rfl rfl rfl (by decide)).1 h) (by decide)

/-- Settles O1: a ready device runs each handler, which answers at once and leaves the state as it took the command. -/
theorem reportingCommandsAnswer : Obligations.ReportingCommandsAnswer := by
  unfold Obligations.ReportingCommandsAnswer
  refine ⟨?_, ?_, ?_, ?_, ?_, ?_, ?_, ?_, ?_⟩
  · exact fun s tag h => hostCommand_reports h rfl rfl rfl rfl
  · exact fun s tag h => hostCommand_reports h rfl rfl rfl rfl
  · intro s tag i h hi hk
    have index : u8 (le 1 i) 0 = i := u8_le (by omega)
    refine hostCommand_reports h rfl rfl rfl (cmdAuthStatus_empty ?_ ?_)
    all_goals rwa [index]
  · intro s tag i k h hi hk
    have index : u8 (le 1 i) 0 = i := u8_le (by omega)
    rw [← index] at hi hk
    have run := cmdAuthStatus_loaded (x := { org := .host s.link.nextId, tag := tag, p := le 1 i }) (s := s.took 0x0A tag (le 1 i)) hi hk
    rw [index] at run
    exact hostCommand_reports h rfl rfl rfl run
  · exact fun s tag h => hostCommand_reports h rfl rfl rfl rfl
  · exact fun s tag h => hostCommand_reports h rfl rfl rfl rfl
  · exact fun s tag h => hostCommand_reports h rfl rfl rfl rfl
  · exact fun s tag h => hostCommand_reports h rfl rfl rfl rfl
  · intro s tag o r h ho hr
    have offset : u16 (le 2 o) 0 = o := u16_le ho
    refine hostCommand_reports h rfl rfl rfl (cmdCapNext_present ?_)
    rw [offset]
    exact hr

/-- Settles O50: a step on a queue with a front is, by definition, its execution with the rest. -/
theorem stepRunsTheFront : Obligations.StepRunsTheFront := by
  unfold Obligations.StepRunsTheFront
  exact fun c s rest => rfl
end

section
/-! PROOFS. Events and time: a source raised; the round boundary with the round work, the loops a round skips, the publication. -/

open Sys2Proof Sys2Proof.Machine

namespace Sys2Proof.Machine

/-! ### A source raised (R123) -/

theorem getLsbD_putBit_ne {n : Nat} (x : BitVec n) {i j : Nat} (h : j ≠ i) : (putBit x i true).getLsbD j = x.getLsbD j := by
  simp [putBit, ← BitVec.twoPow_eq, BitVec.getLsbD_twoPow, h.symm]

theorem Events.noteLow_frame (e : Events) (t : Nat) :
    ∃ lowAt lowA lowB, e.noteLow t = { e with lowAt := lowAt, lowA := lowA, lowB := lowB } := by
  unfold Events.noteLow
  split
  · exact ⟨e.lowAt, e.lowA, e.lowB, rfl⟩
  · exact ⟨_, _, _, rfl⟩

/-- The first source raised in a quantum: EVOV takes EVST's bit as it stood before. -/
theorem Events.raise_first {e : Events} {n t : Nat} (h : e.raisedAt ≠ t) : (e.raise n t).st = putBit e.st n true ∧
    (e.raise n t).ov = if e.st.getLsbD n then putBit e.ov n true else e.ov := by
  obtain ⟨lowAt, lowA, lowB, noted⟩ := e.noteLow_frame t
  simp [Events.raise, noted, h]

/-! ### Tables -/

section
variable {α : Type} {n i : Nat} {d : α}

theorem nth_updAll (v : Vector α n) (f : Nat → α → α) (h : i < n) : nth (updAll v f) i d = f i (nth v i d) := by
  simp [nth, updAll, h]

theorem nth_upd_self (v : Vector α n) (f : α → α) (h : i < n) : nth (upd v i f) i d = f (nth v i d) := by
  simp [nth, upd, h]

theorem nth_upd_ne (v : Vector α n) (f : α → α) {j : Nat} (h : i ≠ j) : nth (upd v j f) i d = nth v i d := by
  unfold nth upd
  split
  · rw [Vector.getElem?_set_ne _ h.symm]
  · rfl

/-- Entries changed one after another: an entry that is not named stays. -/
theorem nth_foldl_upd_of_notMem (f : α → α) {l : List Nat} (h : i ∉ l) (v : Vector α n) :
    nth (l.foldl (fun v j => upd v j f) v) i d = nth v i d := by
  induction l generalizing v with
  | nil => rfl
  | cons j l ih =>
    obtain ⟨hj, hl⟩ := not_or.1 (List.mem_cons.not.1 h)
    rw [List.foldl_cons, ih hl, nth_upd_ne v f hj]

/-- An entry that is named once changes once. -/
theorem nth_foldl_upd_of_mem (f : α → α) {l : List Nat} (hi : i < n) (once : l.Nodup) (h : i ∈ l) (v : Vector α n) :
    nth (l.foldl (fun v j => upd v j f) v) i d = f (nth v i d) := by
  induction l generalizing v with
  | nil => cases h
  | cons j l ih =>
    obtain ⟨hj, hl⟩ := List.nodup_cons.1 once
    rw [List.foldl_cons]
    rcases List.mem_cons.1 h with rfl | hm
    · rw [nth_foldl_upd_of_notMem f hj, nth_upd_self v f hi]
    · rw [ih hl hm, nth_upd_ne v f (ne_of_mem_of_not_mem hm hj)]

end

/-- A pass that carries a second value beside the state keeps what each of its steps keeps of the state. -/
theorem foldl_snd_keeps {α β γ : Type} {π : State → β} {f : γ × State → α → γ × State} (h : ∀ a x, π (f a x).2 = π a.2)
    (l : List α) (a : γ × State) : π (l.foldl f a).2 = π a.2 := by
  induction l generalizing a with
  | nil => rfl
  | cons x l ih => rw [List.foldl_cons, ih, h]

/-! ### What the round work leaves -/

/-- What the round work leaves: the committed configuration and objects, the epoch, the round that has begun. -/
structure RoundBase where
  cfg : Cfg
  objs : List (Nat × Obj)
  epoch : Nat
  roundAt : Nat

def State.roundBase (s : State) : RoundBase :=
  { cfg := s.com.cfg, objs := s.com.objs, epoch := s.epoch, roundAt := s.svc.roundAt }

section
variable (s : State)

@[simp] theorem State.onZone_roundBase (z f) : (s.onZone z f).roundBase = s.roundBase := rfl
@[simp] theorem State.onLoop_roundBase (i f) : (s.onLoop i f).roundBase = s.roundBase := rfl
@[simp] theorem State.dropSkips_roundBase : s.dropSkips.roundBase = s.roundBase := rfl
@[simp] theorem State.modelSample_roundBase (zi b z d r) : (s.modelSample zi b z d r).roundBase = s.roundBase := rfl

@[simp] theorem State.stageRound_roundBase (ws) : (s.stageRound ws).roundBase = s.roundBase := by
  unfold State.stageRound
  split <;> rfl

@[simp] theorem modeSets_roundBase (b m) : (modeSets b m s).2.2.roundBase = s.roundBase := by
  unfold modeSets
  dsimp only
  repeat' split
  all_goals rfl

@[simp] theorem State.resolveZone_roundBase (zi b) : (s.resolveZone zi b).2.roundBase = s.roundBase := by
  unfold State.resolveZone
  simp

@[simp] theorem State.runLoop_roundBase (zs r i b) : (s.runLoop zs r i b).2.roundBase = s.roundBase := by
  unfold State.runLoop
  dsimp only
  split
  · rfl
  · split <;> rfl

@[simp] theorem State.handleLoop_roundBase (zs r i b) : (s.handleLoop zs r i b).2.roundBase = s.roundBase := by
  unfold State.handleLoop
  split
  · rfl
  · split
    · simp
    · rfl

@[simp] theorem State.evalRule_roundBase (r i b) : (s.evalRule r i b).roundBase = s.roundBase := rfl

@[simp] theorem State.setRules_roundBase (m) : ({ s with com := { s.com with rules := m } } : State).roundBase = s.roundBase := rfl

@[simp] theorem State.stepRule_roundBase (r i b) : (s.stepRule r i b).roundBase = s.roundBase := by
  unfold State.stepRule
  split
  · rfl
  · dsimp only
    rw [State.setRules_roundBase]
    split
    · exact s.evalRule_roundBase r i b
    · rfl

@[simp] theorem State.evalRules_roundBase (r) : (s.evalRules r).roundBase = s.roundBase := by
  have step : ∀ (s : State) (e : Nat × Bytes), (s.stepRule r e.1 e.2).roundBase = s.roundBase :=
    fun s e => s.stepRule_roundBase r e.1 e.2
  exact foldl_keeps step _ s

@[simp] theorem State.loopWrites_roundBase (r i b new) : (s.loopWrites r i b new).2.roundBase = s.roundBase := by
  unfold State.loopWrites
  dsimp only
  repeat' split
  all_goals rfl

@[simp] theorem State.loopsWrites_roundBase (r done ls) : (s.loopsWrites r done ls).2.roundBase = s.roundBase :=
  foldl_snd_keeps (π := State.roundBase) (fun a e => by simp) _ _

@[simp] theorem State.ruleGroup_roundBase : s.ruleGroup.2.roundBase = s.roundBase := by
  unfold State.ruleGroup
  refine foldl_snd_keeps (π := State.roundBase) (fun a e => ?_) _ _
  repeat' split
  all_goals rfl

@[simp] theorem State.modelStep_roundBase (zi b) : (s.modelStep zi b).2.roundBase = s.roundBase := by
  unfold State.modelStep
  dsimp only
  repeat' split
  all_goals rfl

@[simp] theorem State.countRun_roundBase (i p l) : (s.countRun i p l).roundBase = s.roundBase := by
  unfold State.countRun
  split <;> rfl

end

/-- The passes of the round work one after another: zones resolved, loops handled, rules evaluated, the groups of the zones, of the loops
outside them and of the rules staged, model updates, runs counted. -/
theorem State.roundWork_roundBase (s : State) (n : Nat) : (s.roundWork_ n).roundBase = s.roundBase := by
  unfold State.roundWork_
  extract_lets r zones loops zr zs begun due m all left0 dr done ruled late mine free zoned freed x grouped modelled unstaged counted
  have resolves : zr.2.roundBase = s.roundBase := by
    refine foldl_snd_keeps (π := State.roundBase) (fun a e => ?_) _ _
    exact a.2.resolveZone_roundBase e.1 e.2
  split
  · exact resolves
  · have handles : dr.2.roundBase = zr.2.roundBase := by
      refine foldl_snd_keeps (π := State.roundBase) (fun a e => ?_) _ _
      exact a.2.handleLoop_roundBase zs r e.1 e.2
    have evaluates : ruled.roundBase = dr.2.roundBase := by
      unfold ruled
      split <;> simp
    have stagesZones : zoned.roundBase = ruled.roundBase := by
      refine foldl_keeps (π := State.roundBase) (fun s e => ?_) _ _
      dsimp only
      split
      · split <;> simp
      · split <;> simp
    have stagesLoops : freed.roundBase = zoned.roundBase := by
      refine foldl_keeps (π := State.roundBase) (fun s e => ?_) _ _
      split <;> simp
    have stagesRules : modelled.roundBase = freed.roundBase := by
      unfold modelled
      split
      · rfl
      · rw [foldl_keeps (π := State.roundBase) (fun s e => by simp)]
        simp [grouped, x]
    have counts : counted.roundBase = modelled.roundBase :=
      foldl_keeps (π := State.roundBase) (fun s e => by simp) _ _
    change counted.roundBase = s.roundBase
    rw [counts, stagesRules, stagesLoops, stagesZones, evaluates, handles, resolves]

/-! ### Loops skipped (R268) -/

/-- The statistics of a loop that round r has skipped. -/
def LoopStat.skip (r : Nat) (l : LoopStat) : LoopStat :=
  { l with skips := (l.skips + 1) % 2 ^ 32, consec := satInc l.consec 65535, maxconsec := max l.maxconsec (satInc l.consec 65535)
           lastskip := r, skipped := true }

/-- One loop skipped in round r, counted for it and for its priority. -/
def State.skipLoop (r : Nat) (s : State) (i : Nat) : State :=
  (s.onLoop i (LoopStat.skip r)).onSvc fun v =>
    { v with prSkips := upd v.prSkips (((s.com.body 2 i).map fun b => u8 b 3 % 4).getD 0) fun n => (n + 1) % 2 ^ 32 }

theorem State.skipLoops_eq {s : State} {left : List Nat} (h : left ≠ []) :
    s.skipLoops left = (left.foldl (State.skipLoop (s.tb / 1000000)) s).onSvc fun v =>
      { v with left := [], overruns := (v.overruns + 1) % 2 ^ 32 } :=
  if_neg (by simpa using h)

/-- Loops skipped one after another change the statistics of the services alone. -/
theorem State.foldl_skipLoop (s : State) (r : Nat) (l : List Nat) : ∃ prSkips, l.foldl (State.skipLoop r) s = { s with
    svc := { s.svc with loop := l.foldl (fun v i => upd v i (LoopStat.skip r)) s.svc.loop, prSkips := prSkips } } := by
  induction l generalizing s with
  | nil => exact ⟨s.svc.prSkips, rfl⟩
  | cons i l ih =>
    obtain ⟨prSkips, rest⟩ := ih (s.skipLoop r i)
    exact ⟨prSkips, rest⟩

theorem State.skipLoops_roundBase (s : State) (left : List Nat) : (s.skipLoops left).roundBase = s.roundBase := by
  by_cases h : left = []
  · rw [h]
    rfl
  · obtain ⟨prSkips, skipped⟩ := s.foldl_skipLoop (s.tb / 1000000) left
    rw [State.skipLoops_eq h, skipped]
    rfl

theorem exec_roundWorkOverrun {s : State} (ha : s.awake = true) (hl : s.svc.left ≠ []) :
    exec .roundWorkOverrun s = .next ((s.jump (tbAdd s.svc.roundAt 500000)).skipLoops s.svc.left) := by
  simp [exec, execRoundWorkOverrun, ha, hl]

/-! ### Publication (R293, R294) -/

/-- The state once a publication has entered the FIFO and its zones' temperatures are kept as published. -/
def State.published (fs : List Frame) (zs : List (Nat × W32)) (s : State) : State :=
  fs.foldl (fun s f => s.txEnter f 0 false none none) (zs.foldl (fun s e => s.onZone e.1 fun z => { z with pubTemp := e.2 }) s)

/-- Frames that enter the FIFO stand behind those in it, in their order. -/
theorem State.foldl_txEnter_fifo (fs : List Frame) (s : State) :
    (fs.foldl (fun s f => s.txEnter f 0 false none none) s).bus.fifo.map TxEntry.f = s.bus.fifo.map TxEntry.f ++ fs := by
  induction fs generalizing s with
  | nil => exact (List.append_nil _).symm
  | cons f fs ih =>
    rw [List.foldl_cons, ih]
    simp [State.txEnter]

theorem State.foldl_txEnter_frame (fs : List Frame) (s : State) :
    ∃ bus, fs.foldl (fun s f => s.txEnter f 0 false none none) s = { s with bus := bus } := by
  refine List.foldlRecOn (motive := fun t : State => ∃ bus, t = { s with bus := bus }) fs _ ⟨s.bus, rfl⟩ ?_
  rintro _ ⟨bus, rfl⟩ f -
  exact ⟨_, rfl⟩

theorem State.foldl_pubTemp_frame (zs : List (Nat × W32)) (s : State) :
    ∃ zone, zs.foldl (fun s e => s.onZone e.1 fun z => { z with pubTemp := e.2 }) s = { s with svc := { s.svc with zone := zone } } := by
  refine List.foldlRecOn (motive := fun t : State => ∃ zone, t = { s with svc := { s.svc with zone := zone } }) zs _
    ⟨s.svc.zone, rfl⟩ ?_
  rintro _ ⟨zone, rfl⟩ e -
  exact ⟨_, rfl⟩

/-- A publication changes the bus, with its frames at the back of the FIFO, and the zones' runs. -/
theorem State.published_frame (fs : List Frame) (zs : List (Nat × W32)) (s : State) : ∃ zone bus,
    s.published fs zs = { s with svc := { s.svc with zone := zone }, bus := bus } ∧
      bus.fifo.map TxEntry.f = s.bus.fifo.map TxEntry.f ++ fs := by
  obtain ⟨zone, zoned⟩ := s.foldl_pubTemp_frame zs
  obtain ⟨bus, entered⟩ := State.foldl_txEnter_frame fs { s with svc := { s.svc with zone := zone } }
  have fifo := State.foldl_txEnter_fifo fs { s with svc := { s.svc with zone := zone } }
  rw [entered] at fifo
  refine ⟨zone, bus, ?_, fifo⟩
  rw [State.published, zoned, entered]

/-- A publication whose round's work has committed is due no more; with frames to send it enters a FIFO that takes them all, and is
counted otherwise. -/
theorem exec_zonePublication {s : State} {fs : List Frame} {zs : List (Nat × W32)} (ha : s.awake = true) (hd : s.svc.pubDue = true)
    (hl : s.svc.left = []) (hs : s.staged = [])
    (hp : State.pubFrames { s with svc := { s.svc with pubDue := false } } (s.svc.roundAt / 1000000) = (fs, zs)) (hf : fs ≠ []) :
    exec .zonePublication s =
      if decide (s.bus.fifo.length + fs.length > 32) || !s.bus.onLine || !s.fifoOpen then
        .next { s with svc := { s.svc with pubDue := false, pubskip := (s.svc.pubskip + 1) % 2 ^ 32 } }
      else .next (State.published fs zs { s with svc := { s.svc with pubDue := false } }) := by
  have closed : (!s.svc.left.isEmpty || s.staged.any fun w => s.svc.workUids.contains w.uid) = false := by simp [hl, hs]
  have hasFrames : fs.isEmpty = false := by simpa using hf
  have arm : exec .zonePublication s = execZonePublication s := rfl
  simp only [arm, execZonePublication, hd, ha, closed, State.onSvc, Bool.not_true, Bool.or_self, Bool.false_eq_true, if_false, hp, hasFrames]
  rfl

/-! ### Round boundaries (R135, R193, R266, R277) -/

/-- The round that begins: its quantum, the time zone put in force, one round more. -/
def State.atRound (s : State) : State :=
  { s with svc := { s.svc with roundAt := s.tb, tz := s.svc.tzNext.getD s.svc.tz, tzNext := none }
           unit := { s.unit with rounds := s.unit.rounds + 1 } }

/-- What the calendar and the units do once a round, before the round work. -/
def State.roundOpened (s : State) : State :=
  let t := s.atRound.calendarBoundary.roundPrm.roundVl
  latchHold t t.roundPresence

/-- A round boundary that comes in its own quantum: the round is opened, and its work is done, skipped, or none. -/
theorem exec_roundBoundary_now {s : State} (n : Nat) (ha : s.awake = true) (ht : s.tb % 1000000 = 0) (hlt : s.tb < tbMod)
    (hr : s.svc.roundAt ≠ s.tb) :
    exec (.roundBoundary n) s = if s.roundOpened.serves then .next (s.roundOpened.roundWork_ n)
      else if s.roundOpened.hasService then .next s.roundOpened.skipRound else .next s.roundOpened := by
  have powered : (s.phase == .unpowered) = false := beq_eq_false_iff_ne.2 fun h => by simp [State.awake, h] at ha
  have due : s.roundDue = s.tb := by simp [State.roundDue, State.awake_phase ha, ht, hr]
  have arm : exec (.roundBoundary n) s = execRoundBoundary n s := rfl
  have awake : (s.onSvc fun v => { v with roundAt := s.tb, tz := v.tzNext.getD v.tz, tzNext := none }).awake = true := ha
  simp only [arm, execRoundBoundary, powered, ha, due, State.jump_present ha hlt, awake, Bool.true_or, Bool.not_true,
    Bool.false_eq_true, if_false, if_true]
  rfl

theorem State.calendarBoundary_frame {s : State} (ha : s.awake = true) :
    ∃ ev, s.calendarBoundary = { s with cal := s.calendarBoundary.cal, ev := ev } := by
  unfold State.calendarBoundary
  extract_lets was t c c₁ c₂ fires c₃
  rw [State.raiseIf_awake (by exact ha)]
  exact ⟨_, rfl⟩

theorem State.calendarBoundary_cal {s t : State} (ha : s.awake = true) (hp : t.phase = s.phase) (ht : t.tb = s.tb) (hc : t.cal = s.cal)
    (hx : t.xtalOk = s.xtalOk) : t.calendarBoundary.cal = s.calendarBoundary.cal := by
  have run := State.awake_phase ha
  simp [State.calendarBoundary, hp, ht, hc, hx, run]

theorem latchHold_frame (b a : State) : ∃ res at_, latchHold b a = { a with heldRes := res, heldAt := at_ } := by
  unfold latchHold
  split
  · exact ⟨_, _, rfl⟩
  · exact ⟨a.heldRes, a.heldAt, rfl⟩

/-- A round opened has moved the calendar, counted presence, and left the management plane as it was. -/
theorem State.roundOpened_frame {s : State} (ha : s.awake = true) : ∃ ev prm vl res at_, s.roundOpened =
    { s.atRound with cal := s.calendarBoundary.cal, ev := ev, prm := prm, vl := vl, pres := s.roundPresence.pres
                     heldRes := res, heldAt := at_ } := by
  have awake : s.atRound.awake = true := ha
  obtain ⟨ev, begun⟩ := State.calendarBoundary_frame awake
  have cal : s.atRound.calendarBoundary.cal = s.calendarBoundary.cal := State.calendarBoundary_cal ha rfl rfl rfl rfl
  rw [cal] at begun
  unfold State.roundOpened
  rw [begun]
  extract_lets t
  obtain ⟨res, at_, held⟩ := latchHold_frame t t.roundPresence
  exact ⟨ev, _, _, res, at_, held⟩

/-- A presence count becomes that of the last round, but for one of a motion pulse in the boundary's quantum (R193). -/
theorem State.roundPresence_counts {s : State} {i : Nat} (hi : i < 16)
    (h : (nth s.pres.ch i {}).rcnt = 0 ∨ (nth s.pres.ch i {}).lastAt ≠ s.tb) :
    (nth s.roundPresence.pres.ch i {}).lcnt = (nth s.pres.ch i {}).rcnt ∧ (nth s.roundPresence.pres.ch i {}).rcnt = 0 := by
  have earlier : ((nth s.pres.ch i {}).rcnt != 0 && (nth s.pres.ch i {}).lastAt == s.tb) = false := by
    simpa [or_iff_not_imp_left] using h
  simp only [State.roundPresence, nth_updAll _ _ hi, earlier, Bool.false_eq_true, if_false, and_self]

theorem State.skipRound_roundBase (s : State) : s.skipRound.roundBase = s.roundBase := by
  unfold State.skipRound
  dsimp only
  split
  · rfl
  · exact s.skipLoops_roundBase _

theorem State.roundOpened_roundBase {s : State} (ha : s.awake = true) : s.roundOpened.roundBase = { s.roundBase with roundAt := s.tb } := by
  obtain ⟨ev, prm, vl, res, at_, opened⟩ := State.roundOpened_frame ha
  rw [opened]
  rfl

/-- Only SERVICE has round work (R266). -/
theorem State.hasService_of_transport {s : State} (h : s.pers = .transport) : s.hasService = false := by
  simp [State.hasService, h]

/-- Whatever becomes of its work, a round boundary leaves the base with the round that has begun. -/
theorem roundBoundary_roundBase {s : State} (n : Nat) (ha : s.awake = true) (ht : s.tb % 1000000 = 0) (hlt : s.tb < tbMod)
    (hr : s.svc.roundAt ≠ s.tb) :
    leads (exec (.roundBoundary n) s) fun t => t.roundBase = { s.roundBase with roundAt := s.tb } := by
  rw [exec_roundBoundary_now n ha ht hlt hr, ← State.roundOpened_roundBase ha]
  split
  · exact leads_next (s.roundOpened.roundWork_roundBase n)
  · split
    · exact leads_next s.roundOpened.skipRound_roundBase
    · exact leads_next rfl

/-- Where no round work runs, a round boundary opens the round and does nothing else. -/
theorem exec_roundBoundary_transport {s : State} (n : Nat) (ha : s.awake = true) (hp : s.pers = .transport) (ht : s.tb % 1000000 = 0)
    (hlt : s.tb < tbMod) (hr : s.svc.roundAt ≠ s.tb) : exec (.roundBoundary n) s = .next s.roundOpened := by
  obtain ⟨ev, prm, vl, res, at_, opened⟩ := State.roundOpened_frame ha
  have noService : s.roundOpened.hasService = false := State.hasService_of_transport (by rw [opened]; exact hp)
  simp [exec_roundBoundary_now n ha ht hlt hr, State.serves, noService]

end Sys2Proof.Machine

/-! ### The obligations -/

/-- Settles O20: with nothing raised yet in the quantum the bit is set in EVST, and in EVOV where EVST had it. -/
theorem raiseSetsOneSource : Obligations.RaiseSetsOneSource := by
  unfold Obligations.RaiseSetsOneSource
  intro e n t hn ht
  obtain ⟨st, ov⟩ := Events.raise_first (n := n) ht
  rw [st, ov]
  refine ⟨getLsbD_putBit_self e.st hn, ?_, fun i hi => getLsbD_putBit_ne e.st hi, fun i hi => ?_⟩
  · cases was : e.st.getLsbD n
    · simp
    · simp [getLsbD_putBit_self e.ov hn]
  · split
    · exact getLsbD_putBit_ne e.ov hi
    · rfl

/-- Settles O34: the boundary opens the round, and its work leaves configuration, objects and epoch; each loop left over is skipped once;
a publication enters the FIFO frame by frame, or is counted. -/
theorem roundsAdvance : Obligations.RoundsAdvance := by
  unfold Obligations.RoundsAdvance
  refine ⟨?_, ?_, ?_, ?_, ?_⟩
  · intro s n ha _ hp ht hlt hr
    rw [exec_roundBoundary_transport n ha hp ht hlt hr]
    obtain ⟨ev, prm, vl, res, at_, opened⟩ := State.roundOpened_frame ha
    rw [opened]
    exact leads_next ⟨rfl, rfl, rfl, fun i hi h => State.roundPresence_counts hi h, rfl, rfl⟩
  · intro s n ha ht hlt hr
    obtain ⟨t, run, base⟩ := roundBoundary_roundBase n ha ht hlt hr
    exact ⟨t, run, congrArg RoundBase.roundAt base, congrArg RoundBase.epoch base, congrArg RoundBase.cfg base,
      congrArg RoundBase.objs base⟩
  · intro s ha hl
    rw [exec_roundWorkOverrun ha hl, State.skipLoops_eq hl]
    obtain ⟨tb, frac, jump⟩ := s.jump_frame (tbAdd s.svc.roundAt 500000)
    rw [jump]
    obtain ⟨prSkips, skipped⟩ := State.foldl_skipLoop { s with tb := tb, tbFrac := frac } (tb / 1000000) s.svc.left
    rw [skipped]
    exact leads_next ⟨rfl, rfl, rfl, fun once i hi hm => nth_foldl_upd_of_mem _ hi once hm _,
      fun i _ hm => nth_foldl_upd_of_notMem _ hm _, rfl⟩
  · intro s fs zs ha hd hl hs hp hf room line open_
    rw [exec_zonePublication ha hd hl hs hp hf, if_neg (by simp [Nat.not_lt.2 room, line, open_])]
    obtain ⟨zone, bus, published, fifo⟩ := State.published_frame fs zs { s with svc := { s.svc with pubDue := false } }
    rw [published]
    exact leads_next ⟨fifo, rfl, rfl, rfl⟩
  · intro s fs zs ha hd hl hs hp hf full
    rw [exec_zonePublication ha hd hl hs hp hf, if_pos (by simp [full])]
end

section
/-! PROOFS. Measurement: the commands of the precision unit, of the SAR sequences and of the presence inputs, their calibration, and the
results that the precision unit posts. -/

open Sys2Proof Sys2Proof.Machine

namespace Sys2Proof.Machine

/-! ### Measurement commands that stage (Tables 07-8, 08-3, 09-2) -/

section
variable {s : State} {tag : Byte} {p : Bytes}

/-- A layout whose first byte chooses its form, in its first form. -/
theorem formed_first {l0 l1 : Nat} (h0 : u8 p 0 = 0) (hl : p.length = l0) (hp : 0 < l0) : formed l0 l1 p = true := by
  cases p with
  | nil => exact absurd hl (by simp; omega)
  | cons b bs =>
    have first : b.toNat = 0 := h0
    simpa [formed, first] using hl

/-- And in its second. -/
theorem formed_second {l0 l1 : Nat} (h1 : u8 p 0 = 1) (hl : p.length = l1) (hp : 0 < l1) : formed l0 l1 p = true := by
  cases p with
  | nil => exact absurd hl (by simp; omega)
  | cons b bs =>
    have first : b.toNat = 1 := h1
    simpa [formed, first] using hl

theorem ptConfig_group_stages (h : s.readyToStage 0x20 1) (hl : p.length = 6) (h0 : u8 p 0 = 0) (hg : u8 p 1 ≤ 3) (hr : u8 p 2 ≤ 8)
    (hx : u8 p 3 = 0 ∧ u8 p 4 ≤ 3 ∨ u8 p 3 = 1 ∧ u8 p 4 ≤ 5) (h1 : 1 ≤ u8 p 5) (h100 : u8 p 5 ≤ 100)
    (tp : (setPtConfig p s.futurePt).tpOk = true) : exec (.ptConfig tag p) s = .next (s.stagingCmd 0x20 tag p) := by
  have long : (!(setPtConfig p (s.took 0x20 tag p).futurePt).tpOk) = false := congrArg not tp
  refine congrArg Host.Outcome.next (hostCommand_stages h rfl rfl (formed_first h0 hl (by decide)) rfl ?_ ?_ ?_)
  · simp only [h0, if_true, List.mem_cons, List.not_mem_nil, or_false]
    rintro e (rfl | rfl | rfl | rfl | rfl | rfl)
    · exact decide_eq_false (by omega)
    · exact decide_eq_false (by omega)
    · exact decide_eq_false (by omega)
    · exact decide_eq_false (by split <;> omega)
    · simp; omega
    · exact long
  · simp [h0]
  · simp

theorem ptConfig_channel_stages (h : s.readyToStage 0x20 1) (hl : p.length = 19) (h0 : u8 p 0 = 1) (hn : u8 p 1 ≤ 15)
    (he : u8 p 2 ≤ 1) (ht : u8 p 3 ≤ 2) (hg : u8 p 4 ≤ 7)
    (lin : u8 p 3 = 0 → ((nth s.futurePt.lins (u8 p 1) none).map PtLin.lin).getD 0 = 0) (ref : u8 p 3 ≠ 0 → u32 p 5 ≠ 0)
    (range : u32 p 11 < u32 p 15) (tp : (setPtConfig p s.futurePt).tpOk = true)
    (free : u8 p 2 = 0 → s.names (u8 p 1) = false) : exec (.ptConfig tag p) s = .next (s.stagingCmd 0x20 tag p) := by
  have long : (!(setPtConfig p (s.took 0x20 tag p).futurePt).tpOk) = false := congrArg not tp
  have future : (s.took 0x20 tag p).futurePt = s.futurePt := rfl
  have named : (s.took 0x20 tag p).names (u8 p 1) = s.names (u8 p 1) := rfl
  refine congrArg Host.Outcome.next (hostCommand_stages h rfl rfl (formed_second h0 hl (by decide)) rfl ?_ ?_ ?_)
  · rw [if_neg (show ¬u8 p 0 = 0 by omega)]
    simp only [List.mem_cons, List.not_mem_nil, or_false]
    rintro e (rfl | rfl | rfl | rfl | rfl | rfl | rfl | rfl | rfl)
    · exact decide_eq_false (by omega)
    · exact decide_eq_false (by omega)
    · exact decide_eq_false (by omega)
    · exact decide_eq_false (by omega)
    · simpa [future] using lin
    · exact decide_eq_false (by omega)
    · simpa using ref
    · exact decide_eq_false (by omega)
    · exact long
  · simp only [List.mem_singleton]
    rintro e rfl
    by_cases off : u8 p 2 = 0
    · simp [named, free off]
    · simp [off]
  · simp

theorem ptStart_stages (h : s.readyToStage 0x21 1) (hl : p.length = 1) (hm : u8 p 0 ≤ 15)
    (hg : ∀ g ∈ groupsIn (u8 p 0), s.futurePt.enabledIn g ≠ []) : exec (.ptStart tag p) s = .next (s.stagingCmd 0x21 tag p) := by
  have enabled : ((groupsIn (u8 p 0)).any fun g => ((s.took 0x21 tag p).futurePt.enabledIn g).isEmpty) = false := by
    rw [List.any_eq_false]
    exact fun g hm empty => hg g hm (List.isEmpty_iff.1 empty)
  refine congrArg Host.Outcome.next (hostCommand_stages h rfl rfl (by simpa [lenIs] using hl) rfl ?_ ?_ ?_)
  · simp only [List.mem_cons, List.not_mem_nil, or_false]
    rintro e (rfl | rfl)
    exacts [decide_eq_false (by omega), enabled]
  all_goals simp

theorem ptStop_stages (h : s.readyToStage 0x22 1) (hl : p.length = 1) (hm : u8 p 0 ≤ 15)
    (hg : ∀ g ∈ groupsIn (u8 p 0), ∀ i < 4, s.names (4 * g + i) = false) :
    exec (.ptStop tag p) s = .next (s.stagingCmd 0x22 tag p) := by
  have unnamed : ((groupsIn (u8 p 0)).any fun g => (List.range 4).any fun i => (s.took 0x22 tag p).names (4 * g + i)) = false := by
    simp only [List.any_eq_false, Bool.not_eq_true, List.mem_range]
    exact hg
  refine congrArg Host.Outcome.next (hostCommand_stages h rfl rfl (by simpa [lenIs] using hl) rfl ?_ ?_ ?_)
  · simpa using hm
  · simp only [List.mem_singleton]
    rintro e rfl
    exact unnamed
  · simp

/-- The coefficients that a linearisation uses (Table 07-5). -/
theorem ptLinear_used {lin : Nat} (h : lin ≤ 3) :
    [2, 4, 3, 2][lin]?.getD 4 = if lin = 1 then 4 else if lin = 2 then 3 else 2 := by
  interval_cases lin <;> rfl

theorem ptLinear_stages {n : Nat} (h : s.readyToStage 0x24 1) (hl : p.length = 20) (hc : u8 p 0 ≤ 15) (h3 : u8 p 1 ≤ 3)
    (hz : u16 p 2 = 0) (hn : n = if u8 p 1 = 1 then 4 else if u8 p 1 = 2 then 3 else 2)
    (ht : u8 p 1 ≠ 0 → (nth s.futurePt.chans (u8 p 0) {}).topo ≠ 0) (number : ∀ i < n, (f32 (w32 p (4 + 4 * i))).isSome)
    (positive : ∀ i < n, (u8 p 1 = 1 ∧ i < 2 ∨ u8 p 1 = 3) → ∀ v ∈ f32 (w32 p (4 + 4 * i)), 0 < v)
    (unused : ∀ i < 4, n ≤ i → u32 p (4 + 4 * i) = 0) : exec (.ptLinear tag p) s = .next (s.stagingCmd 0x24 tag p) := by
  have future : (s.took 0x24 tag p).futurePt = s.futurePt := rfl
  refine congrArg Host.Outcome.next (hostCommand_stages h rfl rfl (by simpa [lenIs] using hl) rfl ?_ ?_ ?_)
  · simp only [chk, List.forall_mem_append, List.mem_singleton, forall_eq, List.mem_flatMap, List.mem_range]
    refine ⟨⟨⟨⟨decide_eq_false (by omega), decide_eq_false (by omega)⟩, ?_⟩, by simpa using hz⟩, ?_⟩
    · simpa [future] using ht
    · rintro e ⟨i, hi, rfl⟩
      rw [ptLinear_used h3, ← hn]
      by_cases used : i < n
      · obtain ⟨v, hv⟩ := Option.isSome_iff_exists.1 (number i used)
        have exempt : v ≤ 0 → (u8 p 1 = 1 → 1 < i) ∧ ¬u8 p 1 = 3 := fun low => by
          have free : ¬(u8 p 1 = 1 ∧ i < 2 ∨ u8 p 1 = 3) := fun hp => absurd (positive i used hp v hv) (not_lt.2 low)
          omega
        simpa [used, hv] using exempt
      · simp [used, unused i hi (by omega)]
  all_goals simp

theorem huConfig_common_stages (h : s.readyToStage 0x28 1) (hl : p.length = 3) (h0 : u8 p 0 = 0) (ht : u8 p 1 ≤ 4) (hp : u8 p 2 ≤ 3)
    (sweep : (setHuConfig p s.futurePt).sweepOk = true) : exec (.huConfig tag p) s = .next (s.stagingCmd 0x28 tag p) := by
  have long : (!(setHuConfig p (s.took 0x28 tag p).futurePt).sweepOk) = false := congrArg not sweep
  refine congrArg Host.Outcome.next (hostCommand_stages h rfl rfl (formed_first h0 hl (by decide)) rfl ?_ ?_ ?_)
  · simp only [h0, if_true, List.mem_cons, List.not_mem_nil, or_false]
    rintro e (rfl | rfl | rfl)
    exacts [decide_eq_false (by omega), decide_eq_false (by omega), long]
  · simp [h0]
  · simp

theorem huConfig_channel_stages (h : s.readyToStage 0x28 1) (hl : p.length = 16) (h0 : u8 p 0 = 1) (hn : u8 p 1 ≤ 15)
    (he : u8 p 2 ≤ 1) (ht : u8 p 3 ≤ 15 ∨ u8 p 3 = 0xFF) (sens : u32 p 8 ≠ 0) (sweep : (setHuConfig p s.futurePt).sweepOk = true)
    (free : u8 p 2 = 0 → s.names (0x10 + u8 p 1) = false) : exec (.huConfig tag p) s = .next (s.stagingCmd 0x28 tag p) := by
  have long : (!(setHuConfig p (s.took 0x28 tag p).futurePt).sweepOk) = false := congrArg not sweep
  have named : (s.took 0x28 tag p).names (0x10 + u8 p 1) = s.names (0x10 + u8 p 1) := rfl
  refine congrArg Host.Outcome.next (hostCommand_stages h rfl rfl (formed_second h0 hl (by decide)) rfl ?_ ?_ ?_)
  · rw [if_neg (show ¬u8 p 0 = 0 by omega)]
    simp only [List.mem_cons, List.not_mem_nil, or_false]
    rintro e (rfl | rfl | rfl | rfl | rfl | rfl)
    · exact decide_eq_false (by omega)
    · exact decide_eq_false (by omega)
    · exact decide_eq_false (by omega)
    · simp; omega
    · simpa using sens
    · exact long
  · simp only [List.mem_singleton]
    rintro e rfl
    by_cases off : u8 p 2 = 0
    · simp [named, free off]
    · simp [off]
  · simp

/-- A started sequence whose demand stays within its share passes that check (R177). -/
theorem demand_pass {c : SarCfg} {k : Nat} (h : c.started.getLsbD k = true → c.demandOk = true) :
    (c.started.getLsbD k && !c.demandOk) = false := by
  cases started : c.started.getLsbD k
  · rfl
  · simp [h started]

theorem sarSeq_stages (h : s.readyToStage 0x30 1) (hl : p.length = 2 + 2 * u8 p 1) (hk : u8 p 0 ≤ 7) (h1 : 1 ≤ u8 p 1)
    (h8 : u8 p 1 ≤ 8) (entries : ∀ i < u8 p 1, u8 p (2 + 2 * i) ≤ 0x43 ∧ bit (u8 p (3 + 2 * i)) 4 = false)
    (demand : (setSarSeq p s.futureSar).started.getLsbD (u8 p 0) = true → (setSarSeq p s.futureSar).demandOk = true) :
    exec (.sarSeq tag p) s = .next (s.stagingCmd 0x30 tag p) := by
  refine congrArg Host.Outcome.next (hostCommand_stages h rfl rfl (by simpa [counted] using hl) rfl ?_ ?_ ?_)
  · simp only [chk, List.forall_mem_append, List.mem_singleton, forall_eq, List.mem_flatMap, List.mem_range]
    refine ⟨⟨⟨decide_eq_false (by omega), by simp; omega⟩, ?_⟩, demand_pass demand⟩
    rintro e ⟨i, hi, he⟩
    obtain ⟨channel, option⟩ := entries i hi
    obtain rfl | rfl := List.mem_pair.1 he
    exacts [decide_eq_false (not_lt.2 channel), option]
  all_goals simp

theorem sarTrig_stages (h : s.readyToStage 0x31 1) (hl : p.length = 13) (hk : u8 p 0 ≤ 7) (hs : u8 p 1 ≤ 5)
    (unit : u8 p 1 < 2 ∧ u8 p 2 = 0 ∨ (u8 p 1 = 2 ∨ u8 p 1 = 3) ∧ u8 p 2 ≤ 15 ∨ 4 ≤ u8 p 1 ∧ u8 p 2 ≤ 7)
    (period : u8 p 1 = 1 → 5 ≤ u32 p 5 ∧ 1000000 % u32 p 5 = 0 ∧ u32 p 9 < u32 p 5)
    (demand : (setSarTrig p s.futureSar).started.getLsbD (u8 p 0) = true → (setSarTrig p s.futureSar).demandOk = true) :
    exec (.sarTrig tag p) s = .next (s.stagingCmd 0x31 tag p) := by
  refine congrArg Host.Outcome.next (hostCommand_stages h rfl rfl (by simpa [lenIs] using hl) rfl ?_ ?_ ?_)
  · simp only [List.mem_cons, List.not_mem_nil, or_false]
    rintro e (rfl | rfl | rfl | rfl | rfl | rfl)
    · exact decide_eq_false (by omega)
    · exact decide_eq_false (by omega)
    · refine decide_eq_false ?_
      simp only [Bool.or_eq_true, decide_eq_true_eq]
      split_ifs <;> omega
    · simp; omega
    · simp; omega
    · exact demand_pass demand
  all_goals simp

theorem sarStart_stages (h : s.readyToStage 0x33 1) (hl : p.length = 1)
    (defined : ∀ k < 8, bit (u8 p 0) k = true → nth s.com.cfg.sar.seqs k [] ≠ [])
    (demand : (setSarStarted 0x33 p s.futureSar).demandOk = true) : exec (.sarStart tag p) s = .next (s.stagingCmd 0x33 tag p) := by
  have none_ : ((List.range 8).any fun k => bit (u8 p 0) k && (nth s.com.cfg.sar.seqs k []).isEmpty) = false := by
    simpa using defined
  refine congrArg Host.Outcome.next (hostCommand_stages h rfl rfl (by simpa [lenIs] using hl) rfl ?_ ?_ ?_)
  · simp only [List.mem_cons, List.not_mem_nil, or_false]
    rintro e (rfl | rfl)
    exacts [none_, congrArg not demand]
  all_goals simp

theorem sarStop_stages (h : s.readyToStage 0x34 1) (hl : p.length = 1) :
    exec (.sarStop tag p) s = .next (s.stagingCmd 0x34 tag p) := by
  refine congrArg Host.Outcome.next (hostCommand_stages h rfl rfl (by simpa [lenIs] using hl) rfl ?_ ?_ ?_)
  all_goals simp

theorem prConfig_mode_stages (h : s.readyToStage 0x38 1) (hl : p.length = 5) (h0 : u8 p 0 = 0) (hm : u8 p 1 ≤ 1) (h5 : 5 ≤ u16 p 2)
    (h3600 : u16 p 2 ≤ 3600) (h60 : u8 p 4 ≤ 60) : exec (.prConfig tag p) s = .next (s.stagingCmd 0x38 tag p) := by
  refine congrArg Host.Outcome.next (hostCommand_stages h rfl rfl (formed_first h0 hl (by decide))
    (by simp only [cmdPrConfig, h0, if_true]; rfl) ?_ ?_ ?_)
  · simp; omega
  all_goals simp

/-- A presence input keeps its claims where no item of SERVICE names what a PR_CONFIG takes from it (Table 09-2). -/
theorem prConfig_unclaimed {touches named zoned : Bool} {z : Nat} {ps : Pers}
    (h : ps = .service → touches = true → named = false ∧ (z < 16 → zoned = false)) :
    (ps == .service && touches && (named || decide (z < 16) && zoned)) = false := by
  cases touches with
  | false => simp
  | true =>
    by_cases service : ps = .service
    · obtain ⟨unnamed, noZone⟩ := h service rfl
      by_cases hz : z < 16
      · simp [unnamed, noZone hz]
      · simp [unnamed, hz]
    · simp [service]

theorem prConfig_channel_stages (h : s.readyToStage 0x38 1) (hl : p.length = 14) (h0 : u8 p 0 = 1) (hn : u8 p 1 ≤ 15)
    (he : u8 p 2 ≤ 1) (hz : u8 p 3 = 0xFF ∨ u8 p 3 ≤ 15 ∧ s.pers ≠ .transport) (hload : u8 p 4 ≤ 3) (hgain : u8 p 5 ≤ 3)
    (ht1 : 1 ≤ u16 p 6) (ht : u16 p 6 ≤ 32767) (hc1 : 1 ≤ u8 p 8) (hc : u8 p 8 ≤ 100) (hw1 : 1 ≤ u8 p 9) (hw : u8 p 9 ≤ 8)
    (hh1 : 100 ≤ u16 p 10) (hh : u16 p 10 ≤ 10000) (hb : u16 p 12 ≤ 600)
    (free : s.pers = .service → (nth s.com.cfg.pr.chans (u8 p 1) {}).en = true ∧ u8 p 2 = 0 ∨
        u8 p 3 ≠ (nth s.com.cfg.pr.chans (u8 p 1) {}).zone →
      s.names (0x20 + u8 p 1) = false ∧
      ((nth s.com.cfg.pr.chans (u8 p 1) {}).zone < 16 → s.com.body 1 (nth s.com.cfg.pr.chans (u8 p 1) {}).zone = none)) :
    exec (.prConfig tag p) s = .next (s.stagingCmd 0x38 tag p) := by
  have zone : ((decide (u8 p 3 > 15) && u8 p 3 != 0xFF) || (s.pers == .transport && u8 p 3 != 0xFF)) = false := by
    obtain hz | ⟨hz, pers⟩ := hz
    · simp [hz]
    · simp [pers]; omega
  have com : (s.took 0x38 tag p).com = s.com := rfl
  refine congrArg Host.Outcome.next (hostCommand_stages h rfl rfl (formed_second h0 hl (by decide))
    (by unfold cmdPrConfig; dsimp only; rw [if_neg (show ¬u8 p 0 = 0 by omega)]) ?_ ?_ ?_)
  · simp only [List.mem_cons, List.not_mem_nil, or_false]
    rintro e (rfl | rfl | rfl | rfl | rfl | rfl | rfl | rfl | rfl | rfl | rfl)
    · exact decide_eq_false (by omega)
    · exact decide_eq_false (by omega)
    · exact decide_eq_false (by omega)
    · exact zone
    · exact decide_eq_false (by omega)
    · exact decide_eq_false (by omega)
    · simp; omega
    · simp; omega
    · simp; omega
    · simp; omega
    · exact decide_eq_false (by omega)
  · simp only [List.mem_singleton]
    rintro e rfl
    refine prConfig_unclaimed fun service touches => ?_
    obtain ⟨unnamed, noZone⟩ := free service (by simpa [com] using touches)
    exact ⟨unnamed, fun hz => congrArg Option.isSome (noZone hz)⟩
  · simp

theorem prWake_stages (h : s.readyToStage 0x39 1) (hl : p.length = 4) (hn : u8 p 0 ≤ 15)
    (he : u8 p 1 = 0 ∨ u8 p 1 = 1 ∧ (nth s.futurePr.chans (u8 p 0) {}).en = true) (h1 : 1 ≤ u8 p 2) (h50 : u8 p 2 ≤ 50)
    (hc : u8 p 3 ≤ 1) : exec (.prWake tag p) s = .next (s.stagingCmd 0x39 tag p) := by
  have enabled : (decide (u8 p 1 > 1) || (u8 p 1 == 1 && !(nth s.futurePr.chans (u8 p 0) {}).en)) = false := by
    obtain he | ⟨he, en⟩ := he
    · simp [he]
    · simp [he, en]
  refine congrArg Host.Outcome.next (hostCommand_stages h rfl rfl (by simpa [lenIs] using hl) rfl ?_ ?_ ?_)
  · simp only [List.mem_cons, List.not_mem_nil, or_false]
    rintro e (rfl | rfl | rfl | rfl)
    · exact decide_eq_false (by omega)
    · exact enabled
    · simp; omega
    · exact decide_eq_false (by omega)
  all_goals simp
end

/-! ### Raises and replies -/

/-- A command of the host as the management processor takes it. -/
abbrev State.hostCtx (s : State) (tag : Byte) (p : Bytes) : Ctx := { org := .host s.link.nextId, tag := tag, p := p }

section
variable {s t : State} {opc : Nat} {tag : Byte} {p rs : Bytes}

/-- A source raised, in any phase, shows in the event fabric alone (R123, R129). -/
theorem State.raise_frame (s : State) (n : Nat) : ∃ ev, s.raise n = { s with ev := ev } := by
  unfold State.raise
  split
  case h_3 => split <;> exact ⟨_, rfl⟩
  all_goals exact ⟨_, rfl⟩

/-- A handler that answers OK at once, with the link, the epoch and TB as it found them: its reply is the one of a command that does
nothing else, and what else it changed stays. -/
theorem leads_answered {P : State → Prop} (hl : t.link = (s.took opc tag p).link) (he : t.epoch = s.epoch) (ht : t.tb = s.tb)
    (h : ∀ ev link, link.replies = (s.answered opc tag p stOk rs).link.replies → P { t with ev := ev, link := link }) :
    leads (.next (finish (s.hostCtx tag p) (t, .now stOk rs))) P := by
  simp only [finish, State.post_final (s := t) (id := s.link.nextId) (tag := tag) (st := stOk) (rs := rs) (by decide)]
  obtain ⟨ev, raised⟩ := State.raise_frame (_ : State) 19
  rw [raised]
  refine leads_next (h ev _ ?_)
  simp [State.answered, State.took, hl, he, ht]
end

/-! ### CAL_SELF (Table 08-3) -/

section
variable {s : State} {tag : Byte}

/-- The converter's choice of its next conversion leaves a CAL_SELF as it is (R170). -/
theorem Sar.begin_frame (a : Sar) : ∃ cur regq, a.begin = { a with cur := cur, regq := regq } := by
  unfold Sar.begin
  split
  · exact ⟨a.cur, a.regq, rfl⟩
  · dsimp only
    split <;> exact ⟨_, _, rfl⟩

theorem calSelf_begins (h : s.ready 0x32) (idle : s.sar.calRun = false) (runs : s.runs 1 = true) :
    leads (exec (.calSelf tag []) s) fun t => t.sar.calRun = true ∧ t.sar.calDue = tbAdd s.tb 42000 ∧
      t.link.replies = (s.answered 0x32 tag [] stOk []).link.replies ∧ t.com = s.com := by
  have run : exec (.calSelf tag []) s = .next (finish (s.hostCtx tag []) (cmdCalSelf (s.hostCtx tag []) (s.took 0x32 tag []))) :=
    congrArg Host.Outcome.next (hostCommand_runs h rfl rfl rfl)
  have sar : (s.took 0x32 tag []).sar.calRun = false := idle
  have step : (s.took 0x32 tag []).runs 1 = true := runs
  rw [run, cmdCalSelf, guarded_pass (by simp [firstFail, sar, step])]
  refine leads_answered rfl rfl rfl fun ev link replies => ?_
  dsimp only [State.onSar]
  obtain ⟨cur, regq, begun⟩ := Sar.begin_frame (_ : Sar)
  rw [begun]
  exact ⟨rfl, rfl, replies, rfl⟩
end

/-! ### Unit records written for a command (R146, R393, R396) -/

section
variable {s : State} {c : Ctx} {r : Nat} {u : UnitArea} {rs : Bytes}

/-- Groups that all verify are written, and no cell of the store is left open (R393). -/
theorem State.rewritten_frame (hit : Nat → Bool) (h : s.worn.filter hit = []) :
    ∃ bad unsteady, s.rewritten hit = { s with badGroups := bad, unsteady := unsteady } := by
  unfold State.rewritten
  rw [h]
  exact ⟨_, _, rfl⟩

/-- A record whose groups verify is written into the unit area alone (R393, R404). -/
theorem State.recordUnit_verifies {flip : Bool} (hp : s.pw.pfw = false) (hb : s.unitFailing r = []) :
    ∃ us store bad unsteady, s.recordUnit r flip =
      ({ s with unitStore := us, store := store, badGroups := bad, unsteady := unsteady }, true) := by
  obtain ⟨bad, unsteady, written⟩ := s.rewritten_frame (copyGroups r (!(s.unitRec r).newB)).contains hb
  unfold State.recordUnit
  rw [if_neg (by simp [hp]), hb, written]
  exact ⟨_, _, bad, unsteady, rfl⟩

/-- Written for a command it is in force, and the command is answered OK with its results (R146). -/
theorem State.unitFor_verifies (hp : s.pw.pfw = false) (hb : s.unitFailing r = []) :
    ∃ us store bad unsteady, s.unitFor c r u rs =
      ({ s with unit := u, unitStore := us, store := store, badGroups := bad, unsteady := unsteady }, .now stOk rs) := by
  obtain ⟨us, store, bad, unsteady, recorded⟩ := State.recordUnit_verifies (s := { s with unit := u }) (flip := false) hp hb
  unfold State.unitFor State.tryUnit
  rw [if_neg (by simp [hp]), recorded]
  exact ⟨us, _, bad, unsteady, rfl⟩

/-- With a power-fail warning standing the record is owed, and the command waits for it (R396). -/
theorem State.unitFor_owes (hp : s.pw.pfw = true) : s.unitFor c r u rs =
    (({ s with unit := u } : State).owe (.unit r false (some (c.org, c.tag, rs))), .later 3) := by
  simp only [State.unitFor, hp, if_true]
end

/-! ### PT_CAL and HU_CAL (R145, R146, R162) -/

section
variable {s : State} {tag : Byte} {p : Bytes}

/-- The calibration state of a bridge channel changed. -/
abbrev State.putPtCal (s : State) (n : Nat) (k : CalState) : State := s.onPrm fun m => m.onCh n fun c => { c with cal := k }

/-- The calibration state of a capacitance channel changed. -/
abbrev State.putHuCal (s : State) (n : Nat) (k : CalState) : State := s.onPrm fun m => m.onHu n fun c => { c with cal := k }

theorem putPtCal_cal {n : Nat} {k : CalState} (h : n ≤ 15) : (nth (s.putPtCal n k).prm.ch n {}).cal = k :=
  congrArg PtChan.cal (nth_upd_self s.prm.ch _ (by omega))

theorem putHuCal_cal {n : Nat} {k : CalState} (h : n ≤ 15) : (nth (s.putHuCal n k).prm.hu n {}).cal = k :=
  congrArg HuChan.cal (nth_upd_self s.prm.hu _ (by omega))

/-- A ready device runs PT_CAL. -/
theorem ptCal_runs (h : s.ready 0x23) (hl : p.length = 7) : exec (.ptCal tag p) s =
    .next (finish (s.hostCtx tag p) (cmdPtCal (s.hostCtx tag p) (s.took 0x23 tag p))) :=
  congrArg Host.Outcome.next (hostCommand_runs h rfl rfl (by simpa [lenIs] using hl))

/-- A ready device runs HU_CAL. -/
theorem huCal_runs (h : s.ready 0x29) (hl : p.length = 7) : exec (.huCal tag p) s =
    .next (finish (s.hostCtx tag p) (cmdHuCal (s.hostCtx tag p) (s.took 0x29 tag p))) :=
  congrArg Host.Outcome.next (hostCommand_runs h rfl rfl (by simpa [lenIs] using hl))

theorem cmdPtCal_begins {c : Ctx} (hn : u8 c.p 0 ≤ 15) (hs : u8 c.p 1 ≤ 1) (hc : 4 ≤ u8 c.p 2)
    (hg : (nth s.prm.groups (u8 c.p 0 / 4) {}).state = 2) (he : (nth s.applied.pt.chans (u8 c.p 0) {}).en = true)
    (idle : (nth s.prm.ch (u8 c.p 0) {}).cal.run = none) : cmdPtCal c s =
      (s.putPtCal (u8 c.p 0) { (nth s.prm.ch (u8 c.p 0) {}).cal with
        run := some { full := u8 c.p 1 == 1, ncal := u8 c.p 2, ref := s32 c.p 3, conf := s.applied.pt.coeffConf (u8 c.p 0) } },
        .now stOk []) := by
  unfold cmdPtCal
  dsimp only
  rw [guarded_pass ((firstFail_eq_none _).2 ?_), if_pos (by omega)]
  simp only [hg, he, idle]
  simp
  omega

theorem cmdPtCal_drops {c : Ctx} (hn : u8 c.p 0 ≤ 15) (hs : u8 c.p 1 = 3) : cmdPtCal c s =
    (s.putPtCal (u8 c.p 0) { (nth s.prm.ch (u8 c.p 0) {}).cal with zero := none, full := none }, .now stOk []) := by
  unfold cmdPtCal
  dsimp only
  rw [guarded_pass (by simp [firstFail, hs]; omega), if_neg (by omega), if_neg (by omega), if_pos hs]

theorem cmdPtCal_nominal {c : Ctx} {t : State} (hn : u8 c.p 0 ≤ 15) (hs : u8 c.p 1 = 4)
    (hu : s.unitFor c 1 { s.unit with pt := upd s.unit.pt (u8 c.p 0) fun _ => none } [] = (t, .now stOk [])) :
    cmdPtCal c s = (t.putPtCal (u8 c.p 0) { (nth s.prm.ch (u8 c.p 0) {}).cal with applyDue := true }, .now stOk []) := by
  unfold cmdPtCal
  dsimp only
  rw [guarded_pass (by simp [firstFail, hs]; omega), if_neg (by omega), if_neg (by omega), if_neg (by omega), hu]
  rfl

theorem cmdPtCal_solves {c : Ctx} {t : State} {a : Ans} {z f : Capture} {g : Nat} {o : Int} (hn : u8 c.p 0 ≤ 15) (hs : u8 c.p 1 = 2)
    (hz : (nth s.prm.ch (u8 c.p 0) {}).cal.zero = some z) (hf : (nth s.prm.ch (u8 c.p 0) {}).cal.full = some f)
    (solved : solveCal z f (32 / (2 ^ f.conf.gain : Nat)) 65536 = .ok (g, o))
    (hu : s.unitFor c 1 { s.unit with pt := upd s.unit.pt (u8 c.p 0) fun _ => some { f.conf with cgain := g, cofs := o } }
      (le 4 g ++ leI 4 o) = (t, a)) (ha : a ≠ .now stFault []) :
    cmdPtCal c s =
      (t.putPtCal (u8 c.p 0) { (nth s.prm.ch (u8 c.p 0) {}).cal with applyDue := true, failed := false, why := 0 }, a) := by
  unfold cmdPtCal
  dsimp only
  rw [guarded_pass (by simp only [hz, hf]; simp [firstFail, hs]; omega), if_neg (by omega), if_pos hs]
  simp only [hz, hf, solved, hu, if_neg ha]

theorem cmdHuCal_begins {c : Ctx} (hn : u8 c.p 0 ≤ 15) (hs : u8 c.p 1 ≤ 1) (h4 : 4 ≤ u8 c.p 2) (h64 : u8 c.p 2 ≤ 64)
    (hr : u32 c.p 3 ≤ 400000) (he : (nth s.applied.pt.hu (u8 c.p 0) {}).en = true)
    (idle : (nth s.prm.hu (u8 c.p 0) {}).cal.run = none) : cmdHuCal c s =
      (s.putHuCal (u8 c.p 0) { (nth s.prm.hu (u8 c.p 0) {}).cal with
        run := some { full := u8 c.p 1 == 1, ncal := u8 c.p 2, ref := (u32 c.p 3 : Int) } }, .now stOk []) := by
  unfold cmdHuCal
  dsimp only
  rw [guarded_pass ((firstFail_eq_none _).2 ?_), if_pos (by omega)]
  simp only [he, idle]
  simp
  omega

theorem cmdHuCal_drops {c : Ctx} (hn : u8 c.p 0 ≤ 15) (hs : u8 c.p 1 = 3) : cmdHuCal c s =
    (s.putHuCal (u8 c.p 0) { (nth s.prm.hu (u8 c.p 0) {}).cal with zero := none, full := none }, .now stOk []) := by
  unfold cmdHuCal
  dsimp only
  rw [guarded_pass (by simp [firstFail, hs]; omega), if_neg (by omega), if_neg (by omega), if_pos hs]

theorem cmdHuCal_nominal {c : Ctx} {t : State} (hn : u8 c.p 0 ≤ 15) (hs : u8 c.p 1 = 4)
    (hu : s.unitFor c 2 { s.unit with hu := upd s.unit.hu (u8 c.p 0) fun _ => none } [] = (t, .now stOk [])) :
    cmdHuCal c s = (t.putHuCal (u8 c.p 0) { (nth s.prm.hu (u8 c.p 0) {}).cal with applyDue := true }, .now stOk []) := by
  unfold cmdHuCal
  dsimp only
  rw [guarded_pass (by simp [firstFail, hs]; omega), if_neg (by omega), if_neg (by omega), if_neg (by omega), hu]
  rfl

theorem cmdHuCal_solves {c : Ctx} {t : State} {a : Ans} {z f : Capture} {g : Nat} {o : Int} (hn : u8 c.p 0 ≤ 15) (hs : u8 c.p 1 = 2)
    (hz : (nth s.prm.hu (u8 c.p 0) {}).cal.zero = some z) (hf : (nth s.prm.hu (u8 c.p 0) {}).cal.full = some f)
    (solved : solveCal z f (25 / 512) 524288 = .ok (g, o))
    (hu : s.unitFor c 2 { s.unit with hu := upd s.unit.hu (u8 c.p 0) fun _ => some { cgain := g, cofs := o } }
      (le 4 g ++ leI 4 o) = (t, a)) (ha : a ≠ .now stFault []) :
    cmdHuCal c s =
      (t.putHuCal (u8 c.p 0) { (nth s.prm.hu (u8 c.p 0) {}).cal with applyDue := true, failed := false, why := 0 }, a) := by
  unfold cmdHuCal
  dsimp only
  rw [guarded_pass (by simp only [hz, hf]; simp [firstFail, hs]; omega), if_neg (by omega), if_pos hs]
  simp only [hz, hf, solved, hu, if_neg ha]
end

/-! ### What the precision unit's events leave beside it -/

/-- A state but for the precision unit, the event fabric, the flags raised in this quantum, and what a beat boundary in it is still to
latch. -/
def State.besidePrm (s : State) : State := { s with prm := {}, ev := {}, w1cAt := 0, w1cNow := [], heldAt := 0, heldRes := [] }

section
variable (s : State)

@[simp] theorem State.raise_besidePrm (n : Nat) : (s.raise n).besidePrm = s.besidePrm := by
  obtain ⟨ev, raised⟩ := s.raise_frame n
  rw [raised]
  rfl

@[simp] theorem State.raiseIf_besidePrm (c : Bool) (n : Nat) : (s.raiseIf c n).besidePrm = s.besidePrm := by
  cases c
  · rfl
  · exact s.raise_besidePrm n

@[simp] theorem State.flag_besidePrm (a : Nat) (v : W32) : (s.flag a v).besidePrm = s.besidePrm := rfl
@[simp] theorem State.onPrm_besidePrm (f : Prm → Prm) : (s.onPrm f).besidePrm = s.besidePrm := rfl

@[simp] theorem State.excFault_besidePrm (g : Nat) : (s.excFault g).besidePrm = s.besidePrm := by
  simp [State.excFault]

@[simp] theorem State.endCycle_besidePrm (g : Nat) : (s.endCycle g).besidePrm = s.besidePrm := by
  simp [State.endCycle]

@[simp] theorem State.slotOut_besidePrm (g : Nat) : (s.slotOut g).besidePrm = s.besidePrm := by
  simp [State.slotOut, apply_ite State.besidePrm]

@[simp] theorem State.huNext_besidePrm : s.huNext.besidePrm = s.besidePrm := by
  simp [State.huNext, apply_ite State.besidePrm]

theorem latchHold_besidePrm (b a : State) : (latchHold b a).besidePrm = a.besidePrm := by
  obtain ⟨res, at_, held⟩ := latchHold_frame b a
  rw [held]
  rfl

theorem latchHold_prm (b a : State) : (latchHold b a).prm = a.prm := by
  obtain ⟨res, at_, held⟩ := latchHold_frame b a
  rw [held]

/-- A bridge result draws one free value. -/
theorem State.postPt_besidePrm (ch : Nat) (o : PtObs) :
    (s.postPt ch o).besidePrm = ({ s with free := s.free + 1 } : State).besidePrm := by
  unfold State.postPt
  extract_lets g begun mask
  have start : begun.besidePrm = s.besidePrm := by simp [begun, apply_ite State.besidePrm]
  have drawn : ({ begun with free := begun.free + 1 } : State).besidePrm = ({ s with free := s.free + 1 } : State).besidePrm :=
    congrArg (fun u : State => { u with free := u.free + 1 }) start
  rw [← drawn]
  clear_value begun
  dsimp -zeta only [State.draw]
  extract_lets gr c cfg recov x q rs sf t bad val susp why valid c' lost s0 s1 s2 s3 s4 s5 s6 s7
  simp only [s7, s6, s5, s4, s3, s2, s1, s0, State.raiseIf_besidePrm, apply_ite State.besidePrm, State.flag_besidePrm,
    State.onPrm_besidePrm, ite_self]

theorem State.postHu_besidePrm (ch : Nat) (o : HuObs) : (s.postHu ch o).besidePrm = s.besidePrm := by
  unfold State.postHu
  simp only [State.raiseIf_besidePrm, apply_ite State.besidePrm, State.flag_besidePrm, State.onPrm_besidePrm, ite_self]
end

/-- A channel's NEW bit, once set among the others (R165). -/
theorem getLsbD_or_bit (x : W32) {n : Nat} (h : n < 32) : (x ||| ((1 <<< n : Nat) : W32)).getLsbD n = true := by
  have bit : ((1 <<< n : Nat) : W32) = BitVec.ofNat 32 (2 ^ n) := congrArg (BitVec.ofNat 32) (Nat.one_shiftLeft n)
  rw [BitVec.getLsbD_or, bit, BitVec.getLsbD_ofNat, Nat.testBit_two_pow_self]
  simp [h]

/-! ### A bridge result (R140, R143, R144, R165) -/

section
variable {s : State} {ch g : Nat}

/-- What a result writes into the precision unit: its channel's record, its NEW bit, what is left of its group's recovery, and latches. -/
theorem State.postPt_prm {o : PtObs} (h : o.excCond = false) : ∃ c' ovrl sfl, (s.postPt ch o).prm =
      { (s.prm.onCh ch fun _ => c').onGroup (ch / 4) fun gr => { gr with recov := if (ptCode o).2 then 3 else gr.recov - 1 } with
        new := s.prm.new ||| ((1 <<< ch : Nat) : W32), ovrl := ovrl, sfl := sfl } ∧
    c'.seq = (nth s.prm.ch ch {}).seq + 1 ∧ c'.raw = wI (ptCode o).1 ∧
    c'.ratio = wI (applyCoeff (ptCode o).1 (s.ptCoeff ch).1 (s.ptCoeff ch).2.1) ∧ c'.stamp = wN s.tb ∧ c'.valid = true ∧
    ((nth s.prm.groups (ch / 4) {}).recov = 0 → (ptCode o).2 = false → c'.newest = c'.val) := by
  unfold State.postPt
  extract_lets g begun mask
  have start : begun = s := if_neg (by simp [h])
  clear_value begun
  subst start
  dsimp -zeta only [State.draw]
  extract_lets gr c cfg recov x q rs sf t bad val susp why valid c' lost s0 s1 s2 s3 s4 s5 s6 s7
  have told : (s7.raiseIf lost 46).prm = s0.prm := by
    simp only [State.raiseIf_prm, s7, s6, s5, s4, s3, s2, s1, apply_ite State.prm, State.flag_prm, ite_self]
  refine ⟨c', s0.prm.ovrl, s0.prm.sfl, told, rfl, rfl, rfl, rfl, rfl, fun settled inRange => ?_⟩
  simp [c', susp, c, gr, g, recov, settled, inRange]

/-- The end of a slot shows in its group alone, which counts it (R140). -/
theorem State.slotOut_prm (hg : g < 4) : ∃ groups, (s.slotOut g).prm = { s.prm with groups := groups } ∧
    (nth groups g {}).slots = (nth s.prm.groups g {}).slots + 1 := by
  unfold State.slotOut
  extract_lets t
  split
  · refine ⟨_, State.raise_prm .., ?_⟩
    exact (congrArg PtGroup.slots (nth_upd_self _ _ hg)).trans (congrArg PtGroup.slots (nth_upd_self s.prm.groups _ hg))
  · exact ⟨_, rfl, congrArg PtGroup.slots (nth_upd_self s.prm.groups _ hg)⟩

/-- A code within the converter's range is reported as it is (R143). -/
theorem ptCode_inRange {d : Int} (lo : -8388608 < d) (hi : d < 8388607) : ptCode { code := d } = (d, false) := by
  have raw : ptRaw { code := d } = d := rfl
  simp only [ptCode, raw]
  rw [if_neg (by omega), if_neg (by omega)]

/-- A channel that is not suspended posts at the end of its own slot (R140). -/
theorem ptResultPost_posts {o : PtObs} (hp : s.phase = .run) (hn : ch < 16) (hg : (nth s.prm.groups (ch / 4) {}).state = 2)
    (hc : s.slotChan (ch / 4) = some ch) (hs : (nth s.prm.ch ch {}).susp = false) : ∃ t tb frac groups,
      exec (.ptResultPost ch o) s = .next t ∧
      t.besidePrm = ({ s with tb := tb, tbFrac := frac, free := s.free + 1 } : State).besidePrm ∧
      t.prm = { (({ s with tb := tb, tbFrac := frac } : State).postPt ch o).prm with groups := groups } ∧
      (nth groups (ch / 4) {}).slots =
        (nth (({ s with tb := tb, tbFrac := frac } : State).postPt ch o).prm.groups (ch / 4) {}).slots + 1 := by
  obtain ⟨tb, frac, jump⟩ := s.jump_frame (s.slotEnd (ch / 4))
  have converts : State.converts { s with tb := tb, tbFrac := frac } ch = true := by
    simp only [State.converts, hs, Bool.not_false, Bool.true_or]
  have slot : s.slotFor ch 4 = some s := by
    simp only [State.slotFor, hc, if_true]
  obtain ⟨groups, ended, slots⟩ :=
    State.slotOut_prm (s := State.postPt ch o { s with tb := tb, tbFrac := frac }) (show ch / 4 < 4 by omega)
  refine ⟨_, tb, frac, groups, ?_, ?_, (latchHold_prm { s with tb := tb, tbFrac := frac } _).trans ended, slots⟩
  · simp only [exec, execPtResultPost]
    rw [if_neg (by omega), if_neg (by simp only [hp, hg]; decide), slot]
    simp only [jump, converts, if_true]
  · rw [latchHold_besidePrm, State.slotOut_besidePrm]
    exact State.postPt_besidePrm _ ch o

/-! ### A humidity result (R160, R161) -/

/-- An enabled channel of the same group owes SFAULT after another met the drive at its limit (R161). -/
def oweSfault (cfg : PtCfg) (ch n : Nat) (c : HuChan) : HuChan :=
  if n / 4 = ch / 4 && n != ch && (nth cfg.hu n {}).en then { c with owesSf := true } else c

/-- The humidity channels after a result of one, with what the others owe where the drive was at its limit. -/
def oweOthers (cfg : PtCfg) (ch : Nat) (limit : Bool) (hu : Vector HuChan 16) : Vector HuChan 16 :=
  if limit then updAll hu (oweSfault cfg ch) else hu

theorem nth_oweOthers (cfg : PtCfg) (limit : Bool) (hu : Vector HuChan 16) {i : Nat} (hi : i < 16) :
    nth (oweOthers cfg ch limit hu) i {} = if limit then oweSfault cfg ch i (nth hu i {}) else nth hu i {} := by
  cases limit
  · rfl
  · exact nth_updAll hu _ hi

theorem nth_oweOthers_self (cfg : PtCfg) (limit : Bool) (hu : Vector HuChan 16) (h : ch < 16) :
    nth (oweOthers cfg ch limit hu) ch {} = nth hu ch {} := by
  rw [nth_oweOthers cfg limit hu h]
  simp [oweSfault]

theorem nth_oweOthers_result (cfg : PtCfg) (limit : Bool) (hu : Vector HuChan 16) {i : Nat} (hi : i < 16) :
    (nth (oweOthers cfg ch limit hu) i {}).val = (nth hu i {}).val ∧ (nth (oweOthers cfg ch limit hu) i {}).seq = (nth hu i {}).seq := by
  rw [nth_oweOthers cfg limit hu hi]
  unfold oweSfault
  split
  · split <;> exact ⟨rfl, rfl⟩
  · exact ⟨rfl, rfl⟩

/-- What a result within the converter's range writes into the precision unit: its channel's record, its NEW bit, a SFAULT owed by the rest
of its group, and latches (R161). -/
theorem State.postHu_prm {o : HuObs} (lo : -524288 ≤ o.code) (hi : o.code ≤ 8192000) : ∃ c' ovrl sfl limit,
    (s.postHu ch o).prm = { s.prm with
      hu := oweOthers s.applied.pt ch o.driveLimit (upd s.prm.hu ch fun _ => c')
      new := s.prm.new ||| ((1 <<< (16 + ch) : Nat) : W32), ovrl := ovrl, sfl := sfl, huLimit := limit } ∧
    c'.seq = (nth s.prm.hu ch {}).seq + 1 ∧ c'.raw = wI o.code ∧
    c'.cap = wI (applyCoeff o.code (s.huCoeff ch).1 (s.huCoeff ch).2.1) ∧ (o.driveLimit = true → c'.val = noVal) := by
  obtain ⟨code, atLimit⟩ := o
  dsimp only at lo hi
  unfold State.postHu
  dsimp -zeta only
  extract_lets c was cfg ovr d cap t v linerr sf val why mask lost s0 s1 s2 s3 s4 s5 s6 s7
  have told : (s7.raiseIf lost 46).prm = s0.prm := by
    simp only [State.raiseIf_prm, s7, s6, s5, s4, s3, s2, s1, apply_ite State.prm, State.flag_prm, ite_self]
  have inRange : d = code := by
    simp only [d]
    rw [if_neg (by omega), if_neg (by omega)]
  refine ⟨{ c with seq := c.seq + 1, ovr := ovr, sfault := sf, tcomp := t.isNone, uncal := (s.huCoeff ch).2.2, linerr := linerr
                   valid := true, raw := wI d, cap := wI cap, val := val, newest := val, lastOvr := ovr, owesSf := false
                   cal := (c.cal.take why d).1 },
    s0.prm.ovrl, s0.prm.sfl, s0.prm.huLimit, told.trans ?_, rfl, congrArg wI inRange, ?_, fun limit => ?_⟩
  · cases atLimit <;> rfl
  · rw [← inRange]
  · simp only [val, sf, limit, Bool.true_or, Bool.or_true, if_true]

/-- The end of a slot of the sweep moves the sweep on, and no channel (R160). -/
theorem State.huNext_prm : ∃ sweep huCur, s.huNext.prm = { s.prm with sweep := sweep, huCur := huCur } := by
  unfold State.huNext
  split
  · exact ⟨s.prm.sweep, s.prm.huCur, rfl⟩
  · exact ⟨_, _, State.raise_prm ..⟩

/-- The channel that converts posts at the end of its slot (R160). -/
theorem huResultPost_posts {o : HuObs} (hp : s.phase = .run) (hn : ch < 16) (hc : s.huNow = some ch) :
    ∃ t tb frac sweep huCur huAt, exec (.huResultPost ch o) s = .next t ∧
      t.besidePrm = ({ s with tb := tb, tbFrac := frac } : State).besidePrm ∧
      t.prm = { (({ s with tb := tb, tbFrac := frac } : State).postHu ch o).prm with
        sweep := sweep, huCur := huCur, huAt := huAt } := by
  obtain ⟨tb, frac, jump⟩ := s.jump_frame (tbAdd s.prm.huAt (huSlot s.applied.pt.tconv))
  have posted := latchHold_prm { s with tb := tb, tbFrac := frac } (State.postHu ch o { s with tb := tb, tbFrac := frac })
  obtain ⟨sweep, huCur, ended⟩ := State.huNext_prm (s := State.onPrm
    (fun m => { m with huCur := ch + 1, huAt := tbAdd s.prm.huAt (huSlot s.applied.pt.tconv) })
    (latchHold { s with tb := tb, tbFrac := frac } (State.postHu ch o { s with tb := tb, tbFrac := frac })))
  refine ⟨_, tb, frac, sweep, huCur, tbAdd s.prm.huAt (huSlot s.applied.pt.tconv), ?_, ?_, ended.trans
    (congrArg (fun m : Prm => { m with sweep := sweep, huCur := huCur, huAt := tbAdd s.prm.huAt (huSlot s.applied.pt.tconv) }) posted)⟩
  · simp only [exec, execHuResultPost]
    rw [if_neg (by omega), if_neg (by simp [hp, hc])]
    simp only [jump]
  · rw [State.huNext_besidePrm]
    exact (latchHold_besidePrm _ _).trans (State.postHu_besidePrm _ ch o)

/-! ### A sweep, a first cycle, an excitation fault (R154, R157, R160) -/

theorem huSweepStart_begins (hp : s.phase = .run) (hr : s.runs 1 = true) (hs : s.prm.sweep = false) (he : s.applied.pt.huEnabled ≠ []) :
    leads (exec .huSweepStart s) fun t => t.prm = { s.prm with sweep := true, huCur := 0, huAt := t.tb } ∧
      { t with tb := s.tb, tbFrac := s.tbFrac, prm := s.prm } = s := by
  simp only [exec, execHuSweepStart]
  rw [if_neg (by simp [hp, hr, hs, he])]
  refine leads_next ?_
  split
  · exact ⟨rfl, rfl⟩
  · obtain ⟨tb, frac, jump⟩ := s.jump_frame (nextMultiple (huPeriod s.applied.pt.period) s.tb)
    rw [jump]
    exact ⟨rfl, rfl⟩

theorem ptGroupFirstCycle_begins (hg : g < 4) (hs : (nth s.prm.groups g {}).state = 1) :
    leads (exec (.ptGroupFirstCycle g) s) fun t => (nth t.prm.groups g {}).state = 2 ∧
      (nth t.prm.groups g {}).startAt = (nth s.prm.groups g {}).startDue ∧ (nth t.prm.groups g {}).slots = 0 ∧ t.prm.ch = s.prm.ch ∧
      { t with tb := s.tb, tbFrac := s.tbFrac, prm := s.prm } = s := by
  obtain ⟨tb, frac, jump⟩ := s.jump_frame (nth s.prm.groups g {}).startDue
  simp only [exec, execPtGroupFirstCycle]
  rw [if_neg (by omega), if_neg (by rw [hs]; decide), jump]
  refine leads_next ?_
  simp only [State.onPrm, Prm.onGroup, nth_upd_self s.prm.groups _ hg]
  exact ⟨trivial, trivial, trivial, trivial, trivial⟩

theorem excitationFault_begins (ha : s.awake = true) (hg : g < 4) (hs : (nth s.prm.groups g {}).state ≠ 0)
    (hf : (nth s.prm.groups g {}).efault = false) :
    leads (exec (.excitationFault g) s) fun t => (nth t.prm.groups g {}).efault = true ∧ t.ev = s.ev.raise 38 s.tb ∧
      { t with ev := s.ev, prm := s.prm } = s := by
  simp only [exec, execExcitationFault, State.excFault]
  rw [if_neg (by omega), if_neg hs, hf, State.raiseIf_awake (by exact ha)]
  exact leads_next ⟨congrArg PtGroup.efault (nth_upd_self s.prm.groups _ hg), rfl, rfl⟩
end

end Sys2Proof.Machine

/-! ### The obligations -/

/-- Settles O4: the checks of each command pass, and its opcode with its parameters is staged. -/
theorem measurementConfigurationStages : Obligations.MeasurementConfigurationStages := by
  unfold Obligations.MeasurementConfigurationStages
  exact ⟨fun _ _ _ => ptConfig_group_stages, fun _ _ _ => ptConfig_channel_stages, fun _ _ _ => ptStart_stages,
    fun _ _ _ => ptStop_stages, fun _ _ _ _ => ptLinear_stages, fun _ _ _ => huConfig_common_stages,
    fun _ _ _ => huConfig_channel_stages, fun _ _ _ => sarSeq_stages, fun _ _ _ => sarTrig_stages, fun _ _ _ => sarStart_stages,
    fun _ _ _ => sarStop_stages, fun _ _ _ => prConfig_mode_stages, fun _ _ _ => prConfig_channel_stages,
    fun _ _ _ => prWake_stages⟩

/-- Settles O5: a capture is begun or dropped at once; coefficients go into the unit record that verifies, or is owed. -/
theorem calibrationCommandsComplete : Obligations.CalibrationCommandsComplete := by
  unfold Obligations.CalibrationCommandsComplete
  refine ⟨?_, ?_, ?_, ?_, ?_, ?_, ?_, ?_, ?_⟩
  · intro s tag p h hl hn hs hc hg he idle
    rw [ptCal_runs h hl, cmdPtCal_begins (c := s.hostCtx tag p) (s := s.took 0x23 tag p) hn hs hc hg he idle]
    exact leads_answered rfl rfl rfl fun _ _ replies =>
      ⟨congrArg CalState.run (putPtCal_cal hn), replies, rfl, rfl⟩
  · intro s tag p z f g o h hl hn hs hz hf solved hb hp
    obtain ⟨us, store, bad, unsteady, written⟩ := State.unitFor_verifies (s := s.took 0x23 tag p) (r := 1)
      (c := s.hostCtx tag p)
      (u := { s.unit with pt := upd s.unit.pt (u8 p 0) fun _ => some { f.conf with cgain := g, cofs := o } })
      (rs := le 4 g ++ leI 4 o) hp hb
    rw [ptCal_runs h hl, cmdPtCal_solves (c := s.hostCtx tag p) (s := s.took 0x23 tag p) hn hs hz hf solved written
      (by simp [stOk, stFault])]
    exact leads_answered rfl rfl rfl fun _ _ replies =>
      ⟨nth_upd_self _ _ (by omega), congrArg CalState.applyDue (putPtCal_cal hn), replies, rfl⟩
  · intro s tag p h hl hn hs hb hp
    obtain ⟨us, store, bad, unsteady, written⟩ := State.unitFor_verifies (s := s.took 0x23 tag p) (r := 1)
      (c := s.hostCtx tag p) (u := { s.unit with pt := upd s.unit.pt (u8 p 0) fun _ => none }) (rs := []) hp hb
    rw [ptCal_runs h hl, cmdPtCal_nominal (c := s.hostCtx tag p) (s := s.took 0x23 tag p) hn hs written]
    exact leads_answered rfl rfl rfl fun _ _ replies => ⟨nth_upd_self _ _ (by omega), replies, rfl⟩
  · intro s tag p h hl hn hs h4 h64 hr he idle
    rw [huCal_runs h hl, cmdHuCal_begins (c := s.hostCtx tag p) (s := s.took 0x29 tag p) hn hs h4 h64 hr he idle]
    exact leads_answered rfl rfl rfl fun _ _ replies =>
      ⟨congrArg CalState.run (putHuCal_cal hn), replies, rfl, rfl⟩
  · intro s tag p h hl hn hs hb hp
    obtain ⟨us, store, bad, unsteady, written⟩ := State.unitFor_verifies (s := s.took 0x29 tag p) (r := 2)
      (c := s.hostCtx tag p) (u := { s.unit with hu := upd s.unit.hu (u8 p 0) fun _ => none }) (rs := []) hp hb
    rw [huCal_runs h hl, cmdHuCal_nominal (c := s.hostCtx tag p) (s := s.took 0x29 tag p) hn hs written]
    exact leads_answered rfl rfl rfl fun _ _ replies => ⟨nth_upd_self _ _ (by omega), replies, rfl⟩
  · intro s tag p z f g o h hl hn hs hz hf solved hb hp
    obtain ⟨us, store, bad, unsteady, written⟩ := State.unitFor_verifies (s := s.took 0x29 tag p) (r := 2)
      (c := s.hostCtx tag p)
      (u := { s.unit with hu := upd s.unit.hu (u8 p 0) fun _ => some { cgain := g, cofs := o } })
      (rs := le 4 g ++ leI 4 o) hp hb
    rw [huCal_runs h hl, cmdHuCal_solves (c := s.hostCtx tag p) (s := s.took 0x29 tag p) hn hs hz hf solved written
      (by simp [stOk, stFault])]
    exact leads_answered rfl rfl rfl fun _ _ replies =>
      ⟨nth_upd_self _ _ (by omega), congrArg CalState.applyDue (putHuCal_cal hn), replies, rfl⟩
  · intro s tag p h hl hn hs
    rw [ptCal_runs h hl, cmdPtCal_drops (c := s.hostCtx tag p) (s := s.took 0x23 tag p) hn hs]
    exact leads_answered rfl rfl rfl fun _ _ replies => ⟨congrArg CalState.zero (putPtCal_cal hn),
      congrArg CalState.full (putPtCal_cal hn), replies, rfl, rfl⟩
  · intro s tag p h hl hn hs
    rw [huCal_runs h hl, cmdHuCal_drops (c := s.hostCtx tag p) (s := s.took 0x29 tag p) hn hs]
    exact leads_answered rfl rfl rfl fun _ _ replies => ⟨congrArg CalState.zero (putHuCal_cal hn),
      congrArg CalState.full (putHuCal_cal hn), replies, rfl, rfl⟩
  · intro s tag p z f g o h hl hn hs hz hf solved hp
    rw [ptCal_runs h hl, cmdPtCal_solves (c := s.hostCtx tag p) (s := s.took 0x23 tag p) hn hs hz hf solved
      (State.unitFor_owes hp) (by decide)]
    exact leads_next ⟨nth_upd_self _ _ (by omega), rfl, rfl, rfl⟩

/-- Settles O6: the status commands report, PR_STATUS out of the latches that it clears, and CAL_SELF begins. -/
theorem measurementStatusAnswers : Obligations.MeasurementStatusAnswers := by
  unfold Obligations.MeasurementStatusAnswers
  refine ⟨?_, ?_, ?_, ?_, ?_⟩
  · intro s tag n h hn
    refine hostCommand_reports h rfl rfl rfl ?_
    simp only [cmdPtStatus, u8_le (show n < 256 by omega)]
    exact guarded_pass (by simp [firstFail]; omega)
  · intro s tag n h hn
    refine hostCommand_reports h rfl rfl rfl ?_
    simp only [cmdHuStatus, u8_le (show n < 256 by omega)]
    exact guarded_pass (by simp [firstFail]; omega)
  · intro s tag n h hn
    refine congrArg Host.Outcome.next ((hostCommand_runs h rfl rfl rfl).trans ?_)
    simp only [cmdPrStatus, u8_le (show n < 256 by omega)]
    rw [if_neg (by omega), if_neg (by omega)]
    exact finish_now (s := s.onPr n fun c => { c with peak := 0 }) (by decide)
  · intro s tag h
    refine congrArg Host.Outcome.next ((hostCommand_runs h rfl rfl rfl).trans ?_)
    simp only [cmdPrStatus, u8_le (show 0xFF < 256 by decide), if_true]
    exact finish_now (s := { s with pres := { s.pres with mot := 0, ovl := 0, wkf := 0 } }) (by decide)
  · exact fun s tag => calSelf_begins

/-- Settles O36: an event runs in the channel's own slot or in its group, and writes the records of the precision unit. -/
theorem precisionResultsPost : Obligations.PrecisionResultsPost := by
  unfold Obligations.PrecisionResultsPost
  refine ⟨?_, ?_, ?_, ?_, ?_, ?_⟩
  · intro s n d hp hn hg hr hc hs lo hi
    obtain ⟨t, tb, frac, groups, run, beside, prm, slots⟩ := ptResultPost_posts (o := { code := d }) hp hn hg hc hs
    obtain ⟨c, ovrl, sfl, posted, seq, raw, ratio, stamp, valid, newest⟩ :=
      State.postPt_prm (s := { s with tb := tb, tbFrac := frac }) (ch := n) (o := { code := d }) rfl
    rw [ptCode_inRange lo hi] at raw ratio newest
    rw [posted] at prm slots
    dsimp only [Prm.onCh, Prm.onGroup] at prm slots
    rw [nth_upd_self s.prm.groups _ (by omega)] at slots
    have channel : nth (upd s.prm.ch n fun _ => c) n {} = c := nth_upd_self s.prm.ch _ hn
    have now : t.tb = tb := congrArg State.tb beside
    have rest := congrArg (fun u : State => { u with
      tb := s.tb, tbFrac := s.tbFrac, free := s.free, ev := s.ev, prm := s.prm, heldAt := s.heldAt, heldRes := s.heldRes
      w1cAt := s.w1cAt, w1cNow := s.w1cNow }) beside
    rw [run]
    refine leads_next ?_
    rw [prm, now]
    dsimp only
    rw [channel]
    exact ⟨seq, raw, ratio, stamp, valid, newest hr rfl, getLsbD_or_bit _ (by omega), fun i _ hi => nth_upd_ne _ _ hi, rfl, slots, rest⟩
  · intro s n o hn
    simp only [exec, execPtResultPost, ge_iff_le, if_pos hn]
  · intro s n o hp hn hc lo hi
    obtain ⟨t, tb, frac, sweep, huCur, huAt, run, beside, prm⟩ := huResultPost_posts (o := o) hp hn hc
    obtain ⟨c, ovrl, sfl, limit, posted, seq, raw, cap, atLimit⟩ :=
      State.postHu_prm (s := { s with tb := tb, tbFrac := frac }) (ch := n) lo hi
    rw [posted] at prm
    have channel : nth (oweOthers s.applied.pt n o.driveLimit (upd s.prm.hu n fun _ => c)) n {} = c :=
      (nth_oweOthers_self _ _ _ hn).trans (nth_upd_self s.prm.hu _ hn)
    have rest := congrArg (fun u : State => { u with
      tb := s.tb, tbFrac := s.tbFrac, ev := s.ev, prm := s.prm, heldAt := s.heldAt, heldRes := s.heldRes
      w1cAt := s.w1cAt, w1cNow := s.w1cNow }) beside
    rw [run]
    refine leads_next ?_
    rw [prm]
    dsimp only
    rw [channel]
    refine ⟨seq, raw, cap, atLimit, getLsbD_or_bit _ (by omega), rfl, fun i hi ne => ?_, rest⟩
    rw [← nth_upd_ne (d := {}) s.prm.hu (fun _ => c) ne]
    exact nth_oweOthers_result _ _ _ hi
  · exact fun s => huSweepStart_begins
  · exact fun s g => ptGroupFirstCycle_begins
  · exact fun s g => excitationFault_begins
end

section
/-! PROOFS. The SAR converter: a dropped regulation request of a bank. -/

open Sys2Proof Sys2Proof.Machine

namespace Sys2Proof.Machine

/-- The note of a missed trigger once something else of its quantum has raised SAR_TRIG_MISS too: the event outlasts the miss (R171, R175). -/
def SarSeq.missStays (q : SarSeq) : SarSeq := { q with missAt := q.missAt.map fun m => { m with stays := true } }

section
variable {s : State} {u d st : Nat} {rest : List (Nat × Nat × Nat)}

/-- REGULATION_REQUEST_DROP of a bank's request, in the quantum in which it falls due (R171). -/
theorem exec_regulationRequestDrop_bank (ha : s.awake = true) (lo : 16 ≤ u) (hi : u < 20) (hq : s.sar.regq = (u, d, st) :: rest)
    (ht : s.tb = tbAdd d 2) :
    exec (.regulationRequestDrop u) s = .next { s with
      sar := { s.sar with
        regq := rest, regmiss := s.sar.regmiss + 1, bk := upd s.sar.bk (u - 16) fun x => { x with miss := true }
        seqs := updAll s.sar.seqs fun _ q => q.missStays }
      ev := s.ev.raise 50 s.tb } := by
  have found : s.sar.regq.find? (fun r => r.1 == u) = some (u, d, st) := by simp [hq]
  have now : s.jump (tbAdd d 2) = s := ht ▸ State.jump_present ha (ht ▸ Nat.mod_lt _ (by decide))
  simp only [exec, execRegulationRequestDrop, if_neg (show ¬ u ≥ 20 by omega), if_neg (show ¬ u < 16 by omega), found, now]
  rw [State.raise_awake (by exact ha)]
  simp only [State.onSar, hq, List.erase_cons_head, SarSeq.missStays]

/-- It leaves the sequences as they are exactly where each missed trigger's note says so already. -/
theorem regulationRequestDrop_bank_leaves_seqs_iff (ha : s.awake = true) (lo : 16 ≤ u) (hi : u < 20)
    (hq : s.sar.regq = (u, d, st) :: rest) (ht : s.tb = tbAdd d 2) :
    exec (.regulationRequestDrop u) s = .next { s with
      sar := { s.sar with
        regq := rest, regmiss := s.sar.regmiss + 1, bk := upd s.sar.bk (u - 16) fun x => { x with miss := true } }
      ev := s.ev.raise 50 s.tb } ↔ (updAll s.sar.seqs fun _ q => q.missStays) = s.sar.seqs := by
  rw [exec_regulationRequestDrop_bank ha lo hi hq ht]
  refine ⟨fun h => ?_, fun h => by rw [h]⟩
  injection h with same
  exact congrArg (fun t : State => t.sar.seqs) same

end

end Sys2Proof.Machine

/-- Refutes O37: a dropped regulation request raises SAR_TRIG_MISS (R171), and the model notes with each sequence that has missed a trigger
that the event now stays whatever becomes of that miss (R175); the clause on a bank's request leaves that note out. Here sequence 0, with
its instance running, misses a trigger in quantum 2, in which the request of bank 0 due in quantum 0 is dropped. -/
theorem not_sarEventsRun : ¬ Obligations.SarEventsRun := by
  unfold Obligations.SarEventsRun
  rintro ⟨-, -, -, -, -, drop, -⟩
  have h := drop (State.trigger 0 { State.reset with
    phase := .run, tb := 2, sar := { regq := [(16, 0, 0)], seqs := Vector.replicate 8 { pend := true } } }) 16 0 0 []
    rfl (by decide) (by decide) rfl rfl
  have seqs := (regulationRequestDrop_bank_leaves_seqs_iff rfl (by decide) (by decide) rfl rfl).1 h
  have stays := congrArg (fun v => (nth v 0 {}).missAt.map SarMiss.stays) seqs
  exact absurd stays (by decide)
end

section
/-! PROOFS. The presence front end: the end of a hold-off in DOZE. -/

open Sys2Proof Sys2Proof.Machine

namespace Sys2Proof.Machine

/-- PR_HOLDOFF_END in DOZE, in the quantum in which the hold-off ends, changes the input alone exactly where the fraction that DOZE keeps is
below a quantum (R24, R192). -/
theorem exec_prHoldoffEnd_doze_iff {s : State} {n d : Nat} (hn : n < 16) (held : (s.prCh n).holdAt = some d) (hp : s.phase = .doze)
    (ht : s.tb = tbAdd d (s.prCh n).holdLen) :
    exec (.prHoldoffEnd n) s = .next (s.onPr n fun c => { c with holdAt := none }) ↔ s.tbFrac < 512 := by
  have inRange : s.tb < tbMod := ht ▸ Nat.mod_lt _ (by decide)
  have run : exec (.prHoldoffEnd n) s = .next ((s.crystal 0).onPr n fun c => { c with holdAt := none }) := by
    rw [← State.jump_present_doze hp (Nat.mod_eq_of_lt inRange).symm]
    simp only [exec, execPrHoldoffEnd, if_neg (show ¬ n ≥ 16 by omega), held, ← ht]
  have still : s.crystal 0 = s ↔ s.tbFrac < 512 := (State.crystal_zero_eq_self_iff s).trans (and_iff_right inRange)
  rw [run, ← still]
  constructor
  · intro h
    injection h with same
    exact congrArg (fun t : State => { t with pres := s.pres }) same
  · intro h
    rw [h]

end Sys2Proof.Machine

/-- Refutes O38: PR_HOLDOFF_END in DOZE, in the quantum in which the hold-off ends, leaves TB where it is only where the fraction that DOZE
keeps is below a quantum, which the clause does not ask. Here it is a whole one (512/512 µs), at the end of a hold-off of 100 ms; the ends
of the counting window and of the blanking and the clearing of a fault name no phase either. -/
theorem not_presenceEventsRun : ¬ Obligations.PresenceEventsRun := by
  unfold Obligations.PresenceEventsRun
  rintro ⟨-, -, -, holdoffEnd, -⟩
  have h := holdoffEnd { State.reset with
    phase := .doze, tb := 100000, tbFrac := 512
    pres := { ch := Vector.replicate 16 { holdAt := some 0, holdLen := 100000 } } } 0 0 (by decide) rfl rfl
  exact absurd ((exec_prHoldoffEnd_doze_iff (by decide) rfl rfl rfl).1 h) (by decide)
end

section
/-! PROOFS. Valve drive: its commands. -/

open Sys2Proof Sys2Proof.Machine

namespace Sys2Proof.Machine

/-! ### Valve commands (Table 10-7) -/

section
variable {s : State} {tag : Byte} {p : Bytes}

theorem vlConfig_stages (h : s.readyToStage 0x40 1) (hl : p.length = 12) (hn : u8 p 0 ≤ 15) (he : u8 p 1 ≤ 1)
    (hp1 : 10 ≤ u8 p 2) (hp : u8 p 2 ≤ 250) (hh1 : 10 ≤ u8 p 3) (hh : u8 p 3 ≤ 240) (hph : u8 p 3 < 2 * u8 p 2)
    (ht1 : 5 ≤ u16 p 4) (ht : u16 p 4 ≤ 2000) (hf : u8 p 6 ≤ 6) (hm : u8 p 7 ≤ 1) (hb1 : 5 ≤ u8 p 9) (hb : u8 p 9 ≤ 200)
    (ha : u8 p 11 ≤ 1) (budget : (setVlConfig p s.futureVl).budgetOk = true)
    (free : u8 p 1 = 0 → s.com.cfg.vl.setp.getLsbD (u8 p 0) = false ∧ (s.vlCh (u8 p 0)).phase ≠ .diag ∧
      s.names (0x40 + u8 p 0) = false) :
    exec (.vlConfig tag p) s = .next (s.stagingCmd 0x40 tag p) := by
  have affordable : (!(setVlConfig p (s.took 0x40 tag p).futureVl).budgetOk) = false := congrArg not budget
  have setp : (s.took 0x40 tag p).com = s.com := rfl
  have chan : (s.took 0x40 tag p).vlCh (u8 p 0) = s.vlCh (u8 p 0) := rfl
  have named : (s.took 0x40 tag p).names (0x40 + u8 p 0) = s.names (0x40 + u8 p 0) := rfl
  refine congrArg Host.Outcome.next (hostCommand_stages h rfl rfl (by simpa [lenIs] using hl) rfl ?_ ?_ ?_)
  · simp only [List.mem_cons, List.not_mem_nil, or_false]
    rintro e (rfl | rfl | rfl | rfl | rfl | rfl | rfl | rfl | rfl | rfl | rfl)
    · exact decide_eq_false (by omega)
    · exact decide_eq_false (by omega)
    · simp; omega
    · simp; omega
    · exact decide_eq_false (by omega)
    · simp; omega
    · exact decide_eq_false (by omega)
    · exact decide_eq_false (by omega)
    · simp; omega
    · exact decide_eq_false (by omega)
    · exact affordable
  · by_cases off : u8 p 1 = 0
    · obtain ⟨unset, idle, unnamed⟩ := free off
      simp [setp, chan, named, unset, idle, unnamed]
    · simp [off]
  · simp

/-- A configured channel with ON 0, 1 or 2 is an entry that VL_SET takes (Table 10-7). -/
theorem vlSet_entry_checks {f : VlCfg} {n : Nat} (h : ∀ i < n, (nth f.chans (u8 p (1 + 2 * i)) {}).en = true ∧ u8 p (2 + 2 * i) ≤ 2) :
    ∀ e ∈ (List.range n).flatMap fun i => chk (!(nth f.chans (u8 p (1 + 2 * i)) {}).en) (badParam (1 + 2 * i)) ++
      chk (u8 p (2 + 2 * i) > 2) (badParam (2 + 2 * i)), e.1 = false := by
  simp only [chk, List.mem_flatMap, List.mem_range, List.cons_append, List.nil_append, List.mem_cons, List.not_mem_nil, or_false]
  rintro e ⟨i, hi, rfl | rfl⟩
  · exact congrArg not (h i hi).1
  · exact decide_eq_false (by have := (h i hi).2; omega)

theorem vlSet_stages (h : s.readyToStage 0x41 (u8 p 0)) (hl : p.length = 1 + 2 * u8 p 0) (h1 : 1 ≤ u8 p 0) (h16 : u8 p 0 ≤ 16)
    (entry : ∀ i < u8 p 0, (nth s.futureVl.chans (u8 p (1 + 2 * i)) {}).en = true ∧ u8 p (2 + 2 * i) ≤ 2 ∧
      s.serviceOwned (0x40 + u8 p (1 + 2 * i)) = false) :
    exec (.vlSet tag p) s = .next (s.staging 0x41 tag p
      ((List.range (u8 p 0)).map fun i => .cmd 0x41 (le 1 1 ++ le 1 (u8 p (1 + 2 * i)) ++ le 1 (u8 p (2 + 2 * i)))) []) := by
  obtain ⟨ready, acting, room⟩ := h
  have acts : (s.took 0x41 tag p).notActive = false := congrArg not acting
  have fits : (s.took 0x41 tag p).stageFull (u8 p 0) = false := decide_eq_false (by simp [State.took]; omega)
  have unowned : ((vlEntries p).any fun e => (s.took 0x41 tag p).serviceOwned (0x40 + e.1)) = false := by
    simp only [vlEntries, List.any_map, List.any_eq_false, Bool.not_eq_true, List.mem_range]
    exact fun i hi => (entry i hi).2.2
  have len : counted 1 0 2 p = true := by simpa [counted] using hl
  refine congrArg Host.Outcome.next ((hostCommand_runs ready rfl rfl len).trans ?_)
  have pass : cmdVlSet (s.hostCtx tag p) (s.took 0x41 tag p) = (s.took 0x41 tag p, .commit ((List.range (u8 p 0)).map fun i =>
      .cmd 0x41 (le 1 1 ++ le 1 (u8 p (1 + 2 * i)) ++ le 1 (u8 p (2 + 2 * i)))) []) := by
    unfold cmdVlSet
    rw [guarded_pass ((firstFail_eq_none _).2 ?_)]
    · simp [vlEntries, Function.comp_def]
    · simp only [List.forall_mem_append]
      refine ⟨⟨?_, vlSet_entry_checks fun i hi => ⟨(entry i hi).1, (entry i hi).2.1⟩⟩, ?_⟩
      · simp [chk]; omega
      · simp [acts, unowned, fits]
  exact (congrArg (finish (s.hostCtx tag p)) pass).trans finish_commit

theorem vlDecay_stages (h : s.readyToStage 0x42 1) (hl : p.length = 6) (hn : u8 p 0 ≤ 15 ∨ u8 p 0 = 0xFF)
    (modes : ∀ i < 4, u8 p (i + 1) ≤ 2) (h10 : 10 ≤ u8 p 5) (h90 : u8 p 5 ≤ 90) :
    exec (.vlDecay tag p) s = .next (s.stagingCmd 0x42 tag p) := by
  refine congrArg Host.Outcome.next (hostCommand_stages h rfl rfl (by simpa [lenIs] using hl) rfl ?_ ?_ ?_)
  · simp only [List.mem_cons, List.not_mem_nil, or_false]
    rintro e (rfl | rfl | rfl | rfl | rfl | rfl)
    · simp; omega
    · exact decide_eq_false (by simpa using modes 0 (by decide))
    · exact decide_eq_false (by simpa using modes 1 (by decide))
    · exact decide_eq_false (by simpa using modes 2 (by decide))
    · exact decide_eq_false (by simpa using modes 3 (by decide))
    · simp; omega
  all_goals simp

theorem vlDuty_stages (h : s.readyToStage 0x43 1) (hl : p.length = 4) (hn : u8 p 0 ≤ 15) (h5 : 5 ≤ u8 p 2) (h100 : u8 p 2 ≤ 100)
    (ha : u8 p 3 ≤ 1) : exec (.vlDuty tag p) s = .next (s.stagingCmd 0x43 tag p) := by
  refine congrArg Host.Outcome.next (hostCommand_stages h rfl rfl (by simpa [lenIs] using hl) rfl ?_ ?_ ?_)
  · simp; omega
  all_goals simp

theorem vlBank_stages (h : s.readyToStage 0x44 1) (hl : p.length = 5) (hb : u8 p 0 ≤ 3) (hm : u8 p 1 ≤ 1) (hp1 : 20 ≤ u8 p 2)
    (hp : u8 p 2 ≤ 100) (hc1 : 20 ≤ u8 p 3) (hc : u8 p 3 ≤ 60) (hs : u8 p 4 ≤ 100)
    (budget : (setVlBank p s.futureVl).budgetOk = true) : exec (.vlBank tag p) s = .next (s.stagingCmd 0x44 tag p) := by
  have affordable : (!(setVlBank p (s.took 0x44 tag p).futureVl).budgetOk) = false := congrArg not budget
  refine congrArg Host.Outcome.next (hostCommand_stages h rfl rfl (by simpa [lenIs] using hl) rfl ?_ ?_ ?_)
  · simp only [List.mem_cons, List.not_mem_nil, or_false]
    rintro e (rfl | rfl | rfl | rfl | rfl | rfl)
    · exact decide_eq_false (by omega)
    · exact decide_eq_false (by omega)
    · simp; omega
    · simp; omega
    · exact decide_eq_false (by omega)
    · exact affordable
  all_goals simp

theorem vlClear_stages (h : s.readyToStage 0x47 1) (hl : p.length = 3) (hb : u8 p 2 ≤ 15) :
    exec (.vlClear tag p) s = .next (s.stagingCmd 0x47 tag p) := by
  refine congrArg Host.Outcome.next (hostCommand_stages h rfl rfl (by simpa [lenIs] using hl) rfl ?_ ?_ ?_)
  · simpa using hb
  all_goals simp

/-- VL_DIAG: the test is noted, to queue after the beat (R226). -/
theorem vlDiag_accepted (h : s.ready 0x45) (acting : s.acting = true) (hl : p.length = 2) (hn : u8 p 0 ≤ 15) (h4 : 4 ≤ u8 p 1)
    (h40 : u8 p 1 ≤ 40) (cool : s.aon.thermLatched = false) (up : s.hk.shut = false)
    (unowned : s.serviceOwned (0x40 + u8 p 0) = false) (en : (s.vlConf (u8 p 0)).en = true) (off : (s.vlCh (u8 p 0)).phase = .off)
    (unset : s.com.cfg.vl.setp.getLsbD (u8 p 0) = false) (first : (s.vlCh (u8 p 0)).diagReq = none)
    (bank : s.bankRuns (u8 p 0 / 4) = true) (sound : (s.vlCh (u8 p 0)).fault = 0) :
    exec (.vlDiag tag p) s = .next ((s.onVl (u8 p 0) fun c => { c with diagReq := some (u8 p 1), diagArmed := false }).answered
      0x45 tag p stOk []) := by
  have acts : (s.took 0x45 tag p).notActive = false := congrArg not acting
  have state : (s.took 0x45 tag p).aon = s.aon ∧ (s.took 0x45 tag p).hk = s.hk ∧ (s.took 0x45 tag p).com = s.com ∧
    (s.took 0x45 tag p).serviceOwned (0x40 + u8 p 0) = s.serviceOwned (0x40 + u8 p 0) ∧
    (s.took 0x45 tag p).vlConf (u8 p 0) = s.vlConf (u8 p 0) ∧ (s.took 0x45 tag p).vlCh (u8 p 0) = s.vlCh (u8 p 0) ∧
    (s.took 0x45 tag p).bankRuns (u8 p 0 / 4) = s.bankRuns (u8 p 0 / 4) := ⟨rfl, rfl, rfl, rfl, rfl, rfl, rfl⟩
  have len : lenIs 2 p = true := by simpa [lenIs] using hl
  refine congrArg Host.Outcome.next ((hostCommand_runs h rfl rfl len).trans ?_)
  have pass : cmdVlDiag (s.hostCtx tag p) (s.took 0x45 tag p) =
      ((s.took 0x45 tag p).onVl (u8 p 0) fun c => { c with diagReq := some (u8 p 1), diagArmed := false }, .now stOk []) := by
    unfold cmdVlDiag
    rw [guarded_pass ((firstFail_eq_none _).2 ?_)]
    simp [state, acts, cool, up, unowned, en, off, unset, first, bank, sound]
    omega
  exact (congrArg (finish (s.hostCtx tag p)) pass).trans (finish_now (s := s.onVl (u8 p 0) _) (by decide))

theorem vlStatus_channel {n : Nat} (h : s.ready 0x46) (hn : n ≤ 15) : exec (.vlStatus tag (le 1 n)) s =
    .next (s.answered 0x46 tag (le 1 n) stOk
      (le 1 (s.vlCh n).phase.code ++ le 1 (s.vlst n / 2 ^ 12 % 256) ++ le 1 (s.vlCh n).fault ++ leI 2 (s.vlCh n).imean ++
        le 2 (s.vlCh n).duty100 ++ le 2 (s.vlCh n).pitime ++ le 2 (s.vlCh n).boostt ++ le 2 (s.vlCh n).rcoil ++
        le 2 (s.vlCh n).lcoil ++ le 4 ((s.vlCh n).usedNow s.tb / 1000) ++ wBytes (s.vlCh n).boosts ++ le 2 (s.vlCh n).nopicnt)) := by
  refine hostCommand_reports h rfl rfl rfl ?_
  simp only [cmdVlStatus, u8_le (show n < 256 by omega), if_pos (show n < 16 by omega)]
  rfl

theorem vlStatus_bank {k : Nat} (h : s.ready 0x46) (hk : k ≤ 3) : exec (.vlStatus tag (le 1 (16 + k))) s =
    .next (s.answered 0x46 tag (le 1 (16 + k)) stOk (le 4 (s.vlbkst k) ++ le 4 (s.vlbkcur k) ++ wBytes (s.vlBk k).waitlast)) := by
  refine hostCommand_reports h rfl rfl rfl ?_
  simp only [cmdVlStatus, u8_le (show 16 + k < 256 by omega), if_neg (show ¬16 + k < 16 by omega),
    if_pos (show 16 + k < 0x14 by omega), Nat.add_sub_cancel_left]
  rfl

end
end Sys2Proof.Machine

/-- Settles O7: the checks of each command pass; its writes are staged, or it is answered at once. -/
theorem valveCommandsComplete : Obligations.ValveCommandsComplete := by
  unfold Obligations.ValveCommandsComplete
  exact ⟨fun _ _ _ => vlConfig_stages, fun _ _ _ => vlSet_stages, fun _ _ _ => vlDecay_stages, fun _ _ _ => vlDuty_stages,
    fun _ _ _ => vlBank_stages, fun _ _ _ => vlClear_stages, fun _ _ _ => vlDiag_accepted, fun _ _ _ => vlStatus_channel,
    fun _ _ _ => vlStatus_bank⟩
end

section
/-! PROOFS. Valve drive: what its events leave beside it, channels and banks, the carrier and the timers, samples and the pull-in point, the
windows, the comparator of a channel. -/

open Sys2Proof Sys2Proof.Machine

namespace Sys2Proof.Machine

/-! ### Channels and banks -/

section
variable {s : State} {n b i : Nat} {f : VlChan → VlChan} {g : VlBank → VlBank}

theorem State.vlCh_onVl (hn : n < 16) : (s.onVl n f).vlCh n = f (s.vlCh n) := nth_upd_self _ _ hn

theorem State.vlCh_onVl_ne (h : i ≠ n) : (s.onVl n f).vlCh i = s.vlCh i := nth_upd_ne _ _ h

theorem State.vlBk_onBank (hb : b < 4) : (s.onBank b g).vlBk b = g (s.vlBk b) := nth_upd_self _ _ hb

theorem State.vlCh_onBank : (s.onBank b g).vlCh n = s.vlCh n := rfl
theorem State.vlBk_onVl : (s.onVl n f).vlBk b = s.vlBk b := rfl

/-- Under a change of one bank each bank stays or takes it. -/
theorem State.vlBk_onBank_cases (i : Nat) : (s.onBank b g).vlBk i = s.vlBk i ∨ (s.onBank b g).vlBk i = g (s.vlBk i) := by
  by_cases hi : i = b
  · subst hi
    by_cases hb : i < 4
    · exact .inr (State.vlBk_onBank hb)
    · exact .inl (by simp [State.onBank, State.vlBk, upd, hb])
  · exact .inl (nth_upd_ne _ _ hi)

/-- What a change of a bank keeps of every bank, each bank keeps. -/
theorem State.onBank_keeps {β : Type} {π : VlBank → β} (h : ∀ k, π (g k) = π k) : π ((s.onBank b g).vlBk i) = π (s.vlBk i) := by
  obtain same | changed := State.vlBk_onBank_cases (s := s) (b := b) (g := g) i
  · rw [same]
  · rw [changed, h]

/-- An empty queue stays empty as a channel is taken out of one. -/
theorem State.dequeue_queue (idle : (s.vlBk i).queue = []) : ((s.dequeue n).vlBk i).queue = [] := by
  obtain same | changed := State.vlBk_onBank_cases (s := s) (b := n / 4)
    (g := fun k => { k with queue := k.queue.filter fun m => m != n }) i
  · exact (congrArg VlBank.queue same).trans idle
  · exact (congrArg VlBank.queue changed).trans (by simp [idle])

theorem State.freeBoost_queue : ((s.freeBoost n).vlBk i).queue = (s.vlBk i).queue :=
  State.onBank_keeps fun k => by split <;> rfl

end

/-! ### What the operations of the valve drive leave beside it -/

/-- A state without its valve drive and its event fabric. -/
def State.besideVl (s : State) : State := { s with ev := {}, vl := {} }

/-- Without the note of the W1C flags that hardware has raised in this quantum. -/
def State.sansFlags (s : State) : State := { s with w1cAt := 0, w1cNow := [] }

section
variable (s : State) (n b : Nat)

@[simp] theorem State.raise_besideVl : (s.raise n).besideVl = s.besideVl := by
  obtain ⟨ev, raised⟩ := s.raise_frame n
  rw [raised]
  rfl

@[simp] theorem State.raiseIf_besideVl (c : Bool) : (s.raiseIf c n).besideVl = s.besideVl := by
  cases c
  · rfl
  · exact s.raise_besideVl n

@[simp] theorem besideVl_ite {c : Prop} [Decidable c] (a d : State) :
    (if c then a else d).besideVl = if c then a.besideVl else d.besideVl := apply_ite State.besideVl c a d

@[simp] theorem State.onVl_besideVl (f) : (s.onVl n f).besideVl = s.besideVl := rfl
@[simp] theorem State.onBank_besideVl (f) : (s.onBank b f).besideVl = s.besideVl := rfl
@[simp] theorem State.dequeue_besideVl : (s.dequeue n).besideVl = s.besideVl := rfl
@[simp] theorem State.freeBoost_besideVl : (s.freeBoost n).besideVl = s.besideVl := rfl
@[simp] theorem State.toFall_besideVl : (s.toFall n).besideVl = s.besideVl := rfl
@[simp] theorem State.toHold_besideVl : (s.toHold n).besideVl = s.besideVl := rfl
@[simp] theorem State.endDecay_besideVl : (s.endDecay n).besideVl = s.besideVl := rfl

@[simp] theorem State.turnOff_besideVl (m) : (s.turnOff n m).besideVl = s.besideVl := by
  simp only [State.turnOff, State.onVl_besideVl, State.freeBoost_besideVl, State.dequeue_besideVl]

@[simp] theorem State.offDecay_besideVl : (s.offDecay n).besideVl = s.besideVl := s.turnOff_besideVl n none

@[simp] theorem State.startBoost_besideVl : (s.startBoost n).besideVl = s.besideVl := by
  simp only [State.startBoost, State.onBank_besideVl, State.onVl_besideVl]

@[simp] theorem State.startDiag_besideVl : (s.startDiag n).besideVl = s.besideVl := by
  simp only [State.startDiag, State.onBank_besideVl, State.onVl_besideVl]

@[simp] theorem State.latchVl_besideVl (fault ev) (m) : (s.latchVl n fault ev m).besideVl = s.besideVl := by
  simp [State.latchVl]

@[simp] theorem State.letBoost_besideVl : (s.letBoost n).besideVl = s.besideVl := by
  simp [State.letBoost]

@[simp] theorem State.tryAdmit_besideVl : (s.tryAdmit b).besideVl = s.besideVl := by
  unfold State.tryAdmit State.enterShared
  split <;> simp

@[simp] theorem State.endBoost_besideVl : (s.endBoost n).besideVl = s.besideVl := by
  simp [State.endBoost]

@[simp] theorem State.setVl_besideVl (vl : Valves) : ({ s with vl := vl } : State).besideVl = s.besideVl := rfl

@[simp] theorem State.flag_sansFlags (a : Nat) (w : W32) : (s.flag a w).besideVl.sansFlags = s.besideVl.sansFlags := rfl

/-- A sample that is judged may raise its flag beside the channel and its event (R208). -/
@[simp] theorem State.judge_sansFlags (i v : Rat) : (s.judge n i v).besideVl.sansFlags = s.besideVl.sansFlags := by
  unfold State.judge
  dsimp only
  split
  · simp [apply_ite State.sansFlags]
  · rfl

theorem State.phaseSample_sansFlags (code : Int) (v : Rat) :
    (s.phaseSample n code v).besideVl.sansFlags = s.besideVl.sansFlags := by
  unfold State.phaseSample
  dsimp only
  split
  case h_6 => cases (s.vlCh n).cut <;> simp [apply_ite State.sansFlags]
  all_goals simp

end

/-! ### Parts of a channel that an operation leaves -/

section
variable (c : VlChan)

/-- A regulated period sets the duty of the next (R212). -/
theorem VlChan.regulate_frame (iset i v t : Rat) :
    ∃ u dnext carry, c.regulate iset i v t = { c with u := u, dnext := dnext, carry := carry } := by
  unfold VlChan.regulate
  extract_lets
  split <;> exact ⟨_, _, _, rfl⟩

/-- A sample counts in the mean of its millisecond (R214). -/
theorem VlChan.count_frame (i : Int) (t m : Nat) : ∃ msSum msCnt late lateAt,
    c.count i t m = { c with msSum := msSum, msCnt := msCnt, late := late, lateAt := lateAt } := by
  unfold VlChan.count
  split <;> exact ⟨_, _, _, _, rfl⟩

/-- A rise cut short may leave its fit (R207). -/
theorem VlChan.endRise_frame (t : Rat) : ∃ rest lest rnow, c.endRise t = { c with rest := rest, lest := lest, rnow := rnow } := by
  unfold VlChan.endRise
  split
  · exact ⟨_, _, _, rfl⟩
  · split
    · exact ⟨_, _, _, rfl⟩
    · split <;> exact ⟨_, _, _, rfl⟩

/-- The fit sets its values and what seeks a pull-in point, and finds none (R207). -/
theorem VlChan.fit_frame (t : Rat) : ∃ fitDone noSeek pullAt piok rest lest rnow, c.fit t =
    { c with fitDone := fitDone, noSeek := noSeek, pullAt := pullAt, piok := piok, rest := rest, lest := lest, rnow := rnow } ∧
      (pullAt = c.pullAt ∨ pullAt = none) := by
  unfold VlChan.fit VlChan.unsought
  repeat' split
  all_goals exact ⟨_, _, _, _, _, _, _, rfl, by simp⟩

theorem VlChan.fit_of_done {t : Rat} (h : c.fitDone = true) : c.fit t = c := by
  simp [VlChan.fit, h]

/-- The run of R229's third condition grows by one at most. -/
theorem VlChan.track_frame (shared : Bool) (set i : Rat) : ∃ hiRun ≤ c.hiRun + 1, c.track shared set i = { c with hiRun := hiRun } := by
  refine ⟨_, ?_, rfl⟩
  split <;> omega

end

/-! ### Banks with an empty queue (R216, R218) -/

section
variable {s : State} {n b i : Nat}

theorem State.tryAdmit_idle (h : (s.vlBk b).queue = []) : s.tryAdmit b = s := by
  simp only [State.tryAdmit, h]

/-- A bank changed where a condition holds. -/
theorem State.onBank_ite (c : Prop) [Decidable c] (g : VlBank → VlBank) :
    (if c then s.onBank b g else s) = s.onBank b fun k => if c then g k else k := by
  split
  · rfl
  · simp [State.onBank, upd]

/-- The mode of a bank with no channel energised (R216), which a bank takes first as it settles. -/
def State.restMode (b : Nat) (s : State) : State :=
  if (s.energisedIn b 99).isEmpty then s.onBank b fun k => { k with shared := (nth s.applied.vl.banks b {}).bmode == 1 } else s

theorem State.restMode_frame (s : State) (b : Nat) :
    ∃ g : VlBank → VlBank, s.restMode b = s.onBank b g ∧ ∀ k, g k = { k with shared := (g k).shared } :=
  ⟨_, State.onBank_ite _ _, fun k => by split <;> rfl⟩

/-- A bank whose admission leaves none waiting then counts the time of a lone channel alone (R216). -/
theorem State.settleBank_of_tryAdmit {t : State} (admits : (s.restMode b).tryAdmit b = t) (idle : (t.vlBk b).queue = []) :
    ∃ g : VlBank → VlBank, s.settleBank b = t.onBank b g ∧ ∀ k, g k = { k with singleAt := (g k).singleAt } := by
  unfold State.settleBank
  dsimp only
  rw [← State.restMode, admits, idle, List.any_nil, Bool.and_false]
  exact ⟨_, rfl, fun k => rfl⟩

/-- With none waiting a bank settles its mode alone. -/
theorem State.settleBank_idle (h : (s.vlBk b).queue = []) : ∃ bank, s.settleBank b = { s with vl := { s.vl with bank := bank } } ∧
    ∀ i, (nth bank i {}).slot = (s.vlBk i).slot := by
  obtain ⟨g, rests, hg⟩ := s.restMode_frame b
  have idle : ((s.onBank b g).vlBk b).queue = [] := (State.onBank_keeps (π := VlBank.queue) fun k => by rw [hg]).trans h
  obtain ⟨g', settled, hg'⟩ := State.settleBank_of_tryAdmit (s := s) (by rw [rests, State.tryAdmit_idle idle]) idle
  exact ⟨_, settled, fun i =>
    (State.onBank_keeps (s := s.onBank b g) fun k => by rw [hg']).trans (State.onBank_keeps (π := VlBank.slot) fun k => by rw [hg])⟩

end

/-! ### How an event of the valve drive ends -/

section
variable {s u : State} {n b : Nat} {P : State → Prop}

/-- A state without its interlocks. -/
def State.sansIlk (s : State) : State := { s with ilk := {} }

theorem State.noteEntry_sansIlk (s : State) (i : Nat) : (s.noteEntry i).sansIlk = s.sansIlk := rfl

theorem State.noteIlk_sansIlk (s : State) : s.noteIlk.sansIlk = s.sansIlk := by
  unfold State.noteIlk
  dsimp only
  split
  · exact foldl_keeps (fun t i => t.noteEntry_sansIlk i) _ _
  · rfl

/-- Noting the interlocks' terms changes the interlocks alone (R298). -/
theorem State.noteIlk_frame (s : State) : ∃ ilk, s.noteIlk = { s with ilk := ilk } :=
  ⟨s.noteIlk.ilk, congrArg (fun t : State => { t with ilk := s.noteIlk.ilk }) s.noteIlk_sansIlk⟩

theorem leads_settled (idle : (u.vlBk b).queue = [])
    (h : ∀ bank, (∀ i, (nth bank i {}).slot = (u.vlBk i).slot) → P { u with vl := { u.vl with bank := bank } }) :
    leads (.next (u.settleBank b)) P := by
  obtain ⟨bank, settled, kept⟩ := State.settleBank_idle idle
  exact settled ▸ leads_next (h bank kept)

theorem leads_settled_noted (idle : (u.vlBk b).queue = [])
    (h : ∀ bank ilk, P { u with vl := { u.vl with bank := bank }, ilk := ilk }) :
    leads (.next (u.settleBank b).noteIlk) P := by
  obtain ⟨bank, settled, -⟩ := State.settleBank_idle idle
  obtain ⟨ilk, noted⟩ := (u.settleBank b).noteIlk_frame
  rw [noted, settled]
  exact leads_next (h bank ilk)

end

/-! ### Turning off, the end of a boost, FALL and HOLD -/

section
variable {s : State} {n b : Nat}

theorem State.turnOff_queue {m : Option Nat} (idle : (s.vlBk b).queue = []) : ((s.turnOff n m).vlBk b).queue = [] :=
  State.freeBoost_queue.trans (State.dequeue_queue idle)

/-- A channel turned off is in OFF and keeps its fault and what its duty limit has set (R204). -/
theorem State.turnOff_vlCh {m : Option Nat} (hn : n < 16) : ((s.turnOff n m).vlCh n).phase = .off ∧
    ((s.turnOff n m).vlCh n).fault = (s.vlCh n).fault ∧ ((s.turnOff n m).vlCh n).dutylim = (s.vlCh n).dutylim := by
  obtain ⟨rest, lest, rnow, left⟩ := (s.vlCh n).endRise_frame (s.vlT n)
  have vlT : ((s.dequeue n).freeBoost n).vlT n = s.vlT n := rfl
  have ch : ((s.dequeue n).freeBoost n).vlCh n = s.vlCh n := rfl
  unfold State.turnOff
  dsimp only
  rw [State.vlCh_onVl hn, vlT, ch, left]
  refine ⟨rfl, ?_, ?_⟩
  all_goals
    dsimp only [VlChan.enter]
    split <;> rfl

/-- A channel turned off with none waiting in its bank: what holds of it then, and of the rest. -/
theorem leads_turnedOff {P : State → Prop} {m : Option Nat} (hn : n < 16) (idle : (s.vlBk (n / 4)).queue = [])
    (h : ∀ t : State, (t.vlCh n).phase = .off → (t.vlCh n).dutylim = (s.vlCh n).dutylim → t.besideVl = s.besideVl → P t) :
    leads (.next ((s.turnOff n m).settleBank (n / 4))) P := by
  obtain ⟨phase, -, dutylim⟩ := State.turnOff_vlCh (s := s) (m := m) hn
  exact leads_settled (State.turnOff_queue idle) fun _ _ => h _ phase dutylim (s.turnOff_besideVl n m)

theorem State.endBoost_unfound (hn : n < 16) (hp : (s.vlCh n).pullAt = none) (hm : (s.vlConf n).pimode ≠ 0) :
    ((s.endBoost n).vlCh n).phase = .fall ∧ ((s.endBoost n).vlCh n).nopicnt = satInc (s.vlCh n).nopicnt 65535 ∧
      (s.endBoost n).vl.bank = s.vl.bank := by
  obtain ⟨done, off, pull, ok, rest, lest, rnow, fitted, same⟩ := (s.vlCh n).fit_frame (s.vlT n)
  have unfound : pull = none := same.elim (·.trans hp) id
  have chan : (s.onVl n fun c => c.fit (s.vlT n)).vlCh n = _ := (State.vlCh_onVl hn).trans fitted
  have conf : (s.onVl n fun c => c.fit (s.vlT n)).vlConf n = s.vlConf n := rfl
  unfold State.endBoost
  simp only [chan, conf, unfound, hm, Option.isSome_none, Bool.false_and, decide_false, Bool.false_eq_true, if_false, State.toFall]
  rw [State.vlCh_onVl hn, State.vlCh_onVl hn, chan]
  exact ⟨rfl, rfl, rfl⟩

theorem State.endBoost_found (hn : n < 16) (hp : (s.vlCh n).pullAt.isSome = true) (hf : (s.vlCh n).fitDone = true)
    (hs : (s.vlCh n).noSeek = false) : ((s.endBoost n).vlCh n).phase = .fall ∧
      ((s.endBoost n).vlCh n).nopicnt = (s.vlCh n).nopicnt ∧ (s.endBoost n).vl.bank = s.vl.bank := by
  have chan : (s.onVl n fun c => c.fit (s.vlT n)).vlCh n = s.vlCh n := (State.vlCh_onVl hn).trans (VlChan.fit_of_done _ hf)
  unfold State.endBoost
  simp only [chan, hp, hs, Bool.not_false, Bool.and_self, if_true, State.toFall]
  rw [State.vlCh_onVl hn, chan]
  exact ⟨rfl, rfl, rfl⟩

/-- The end of FALL frees the slot (R206, R218). -/
theorem State.freeBoost_slot (hn : n < 16) : ((s.freeBoost n).vlBk (n / 4)).slot ≠ some n := by
  unfold State.freeBoost
  rw [State.vlBk_onBank (by omega)]
  split
  · simp
  · assumption

end

/-! ### Timers of a boost -/

section
variable {s : State} {n d : Nat}

theorem VPhase.ne_off_of_boost {p : VPhase} (h : p = .rise ∨ p = .peak) : p ≠ .off := by
  rintro rfl
  simp at h

/-- With the channel not in OFF a happening finds the present phase. -/
theorem State.phaseMet_of_ne_off (h : (s.vlCh n).phase ≠ .off) : (s.phaseMet n).1 = (s.vlCh n).phase := by
  unfold State.phaseMet
  dsimp only
  split
  · rfl
  · simp [h]

theorem vlTboostExpiry_ends (hn : n < 16) (boost : (s.vlCh n).phase = .rise ∨ (s.vlCh n).phase = .peak)
    (hm : (s.vlConf n).pimode ≠ 0) (hp : (s.vlCh n).pullAt = none) (idle : (s.vlBk (n / 4)).queue = []) :
    leads (exec (.vlTboostExpiry n) s) fun t => (t.vlCh n).phase = .fall ∧
      (t.vlCh n).nopicnt = satInc (s.vlCh n).nopicnt 65535 ∧
      { t with tb := s.tb, tbFrac := s.tbFrac, ev := s.ev, vl := s.vl, ilk := s.ilk } = s := by
  have on := VPhase.ne_off_of_boost boost
  obtain ⟨tb, frac, jump⟩ := s.jump_frame (tbAdd (s.vlCh n).boostAt (100 * (s.vlConf n).tboost))
  have run : exec (.vlTboostExpiry n) s =
      .next (((({ s with tb := tb, tbFrac := frac } : State).endBoost n).settleBank (n / 4)).noteIlk) := by
    rw [← jump]
    simp only [exec, execVlTboostExpiry, if_neg (show ¬n ≥ 16 by omega), State.phaseMet_of_ne_off on]
    rw [if_neg (by obtain h | h := boost <;> simp [h, hm]), if_neg (by simpa using on)]
  obtain ⟨phase, count, bank⟩ := State.endBoost_unfound (s := { s with tb := tb, tbFrac := frac }) hn hp hm
  have beside := State.endBoost_besideVl { s with tb := tb, tbFrac := frac } n
  rw [run]
  refine leads_settled_noted (by rw [State.vlBk, bank]; exact idle) fun _ _ => ⟨phase, count, ?_⟩
  exact congrArg (fun u : State => { u with tb := s.tb, tbFrac := s.tbFrac, ev := s.ev, vl := s.vl, ilk := s.ilk }) beside

theorem vlPiextEnd_ends (hn : n < 16) (boost : (s.vlCh n).phase = .rise ∨ (s.vlCh n).phase = .peak)
    (hm : (s.vlConf n).pimode = 0) (hp : (s.vlCh n).pullAt = some d) (hf : (s.vlCh n).fitDone = true)
    (hs : (s.vlCh n).noSeek = false) (idle : (s.vlBk (n / 4)).queue = []) :
    leads (exec (.vlPiextEnd n) s) fun t => (t.vlCh n).phase = .fall ∧ (t.vlCh n).nopicnt = (s.vlCh n).nopicnt ∧
      { t with tb := s.tb, tbFrac := s.tbFrac, ev := s.ev, vl := s.vl } = s := by
  obtain ⟨tb, frac, jump⟩ := s.jump_frame (tbAdd d (100 * (s.vlConf n).piext))
  have run : exec (.vlPiextEnd n) s =
      .next ((({ s with tb := tb, tbFrac := frac } : State).endBoost n).settleBank (n / 4)) := by
    rw [← jump]
    simp only [exec, execVlPiextEnd, if_neg (show ¬n ≥ 16 by omega), hp]
    rw [if_neg (by obtain h | h := boost <;> simp [h, hm, hs])]
  obtain ⟨phase, count, bank⟩ := State.endBoost_found (s := { s with tb := tb, tbFrac := frac }) hn
    (by exact congrArg Option.isSome hp) hf hs
  have beside := State.endBoost_besideVl { s with tb := tb, tbFrac := frac } n
  rw [run]
  refine leads_settled (by rw [State.vlBk, bank]; exact idle) fun _ _ => ⟨phase, count, ?_⟩
  exact congrArg (fun u : State => { u with tb := s.tb, tbFrac := s.tbFrac, ev := s.ev, vl := s.vl }) beside

theorem vlFallTimeout_ends (hn : n < 16) (fall : (s.vlCh n).phase = .fall) (idle : (s.vlBk (n / 4)).queue = []) :
    leads (exec (.vlFallTimeout n) s) fun t => (t.vlCh n).phase = .hold ∧ (t.vlBk (n / 4)).slot ≠ some n ∧
      { t with tb := s.tb, tbFrac := s.tbFrac, ev := s.ev, vl := s.vl } = s := by
  obtain ⟨tb, frac, jump⟩ := s.jump_frame (tbAdd (s.vlCh n).phaseAt 10000)
  have run : exec (.vlFallTimeout n) s = .next ((({ s with tb := tb, tbFrac := frac } : State).toHold n).settleBank (n / 4)) := by
    rw [← jump]
    simp only [exec, execVlFallTimeout, if_neg (show ¬n ≥ 16 by omega), fall, bne_self_eq_false, Bool.false_eq_true, if_false]
  rw [run]
  refine leads_settled (State.freeBoost_queue.trans idle) fun bank kept => ⟨congrArg VlChan.phase (State.vlCh_onVl hn), ?_, rfl⟩
  exact fun held => State.freeBoost_slot hn ((kept (n / 4)).symm.trans held)

end

/-! ### The carrier -/

section
variable {s : State} {n b d : Nat}

/-- A carrier takes the duty, IHOLD and decay modes that its period goes by (R210, R213, R222). -/
theorem vlCarrierStart_begins (hn : n < 16) (on : (s.vlCh n).energised = true) (idle : (s.vlBk (n / 4)).queue = []) :
    leads (exec (.vlCarrierStart n) s) fun t => (t.vlCh n).duty = (s.vlCh n).dnext ∧
      (t.vlCh n).carrierAt = s.carrierDue n ∧ (t.vlCh n).period = chopPeriod (s.vlConf n).fchop ∧ (t.vlCh n).inPeriod = true ∧
      (t.vlCh n).ihold = (s.vlConf n).ihold ∧ (t.vlCh n).decay = nth s.applied.vl.decay n {} ∧ (t.vlCh n).phase = (s.vlCh n).phase ∧
      (∀ i < 16, i ≠ n → t.vlCh i = s.vlCh i) ∧
      { t with tb := s.tb, tbFrac := s.tbFrac, vl := s.vl } = s := by
  obtain ⟨tb, frac, jump⟩ := s.jump_frame (s.carrierDue n)
  simp only [exec, execVlCarrierStart, if_neg (show ¬n ≥ 16 by omega), on, Bool.not_true, Bool.false_eq_true, if_false, jump,
    State.onBank_ite]
  split
  case h_2 head rest queue =>
    refine absurd (queue.symm.trans ((State.onBank_keeps (π := VlBank.queue) fun k => ?_).trans idle)) (by simp)
    split <;> rfl
  refine leads_next ?_
  have chan : ∀ {f : VlChan → VlChan} {g : VlBank → VlBank}, ((({ s with tb := tb, tbFrac := frac } : State).onVl n f).onBank (n / 4) g).vlCh n =
    f (s.vlCh n) := State.vlCh_onVl hn
  rw [chan]
  exact ⟨rfl, rfl, rfl, rfl, rfl, rfl, rfl, fun i _ ne => State.vlCh_onVl_ne ne, rfl⟩

/-! ### A boost admitted (R218) -/

/-- A boost counts and takes the slot of its bank (R206, R218). -/
theorem State.startBoost_begins (hn : n < 16) : ((s.startBoost n).vlCh n).phase = .rise ∧
    ((s.startBoost n).vlCh n).boosts = (s.vlCh n).boosts + 1 ∧ ((s.startBoost n).vlBk (n / 4)).slot = some n ∧
    ((s.startBoost n).vlBk (n / 4)).queue = (s.vlBk (n / 4)).queue := by
  obtain ⟨rest, lest, rnow, left⟩ := (s.vlCh n).endRise_frame (s.vlT n)
  unfold State.startBoost
  dsimp only
  rw [State.vlCh_onBank, State.vlCh_onVl hn, State.vlBk_onBank (by omega), left]
  exact ⟨rfl, rfl, rfl, rfl⟩

/-- The head of the queue begins its boost and leaves the queue (R218). -/
theorem State.letBoost_boosts (hn : n < 16) (hd : (s.vlCh n).diag = none) (head : (s.vlBk (n / 4)).queue = [n]) :
    ((s.letBoost n).vlCh n).phase = .rise ∧ ((s.letBoost n).vlCh n).boosts = (s.vlCh n).boosts + 1 ∧
      ((s.letBoost n).vlBk (n / 4)).slot = some n ∧ ((s.letBoost n).vlBk (n / 4)).queue = [] := by
  have boost : s.letBoost n = ((s.dequeue n).onBank (n / 4) fun k =>
      { k with waitlast := wN (tbSub (s.dequeue n).tb ((s.dequeue n).vlCh n).quAt) }).startBoost n := by
    refine if_neg ?_
    rw [State.vlCh_onBank, State.dequeue, State.vlCh_onBank, hd]
    simp
  rw [boost]
  obtain ⟨phase, boosts, slot, queue⟩ := State.startBoost_begins (s := (s.dequeue n).onBank (n / 4) fun k =>
    { k with waitlast := wN (tbSub (s.dequeue n).tb ((s.dequeue n).vlCh n).quAt) }) hn
  refine ⟨phase, boosts, slot, queue.trans ?_⟩
  rw [State.vlBk_onBank (by omega), State.dequeue, State.vlBk_onBank (by omega)]
  simp [head]

theorem State.tryAdmit_alone {rest : List Nat} (head : (s.vlBk b).queue = n :: rest) (due : s.headDue b = true)
    (alone : s.energisedIn b n = []) : s.tryAdmit b = s.letBoost n := by
  simp [State.tryAdmit, head, due, alone]

/-- The one channel waiting is let in where nothing holds its bank off (R218). -/
theorem vlBoostAdmit_boosts (hn : n < 16) (hb : n / 4 = b) (head : (s.vlBk b).queue = [n]) (slot : (s.vlBk b).slot = none)
    (free : (s.vlBk b).slotFreeAt = none) (sound : (s.vlBk b).bfault = false) (unlimited : (s.vlBk b).limit = false)
    (runs : s.bankRuns b = true) (alone : s.energisedIn b n = []) (hd : (s.vlCh n).diag = none) :
    leads (exec (.vlBoostAdmit b) s) fun t => (t.vlCh n).phase = .rise ∧ (t.vlCh n).boosts = (s.vlCh n).boosts + 1 ∧
      (t.vlBk b).slot = some n ∧ (t.vlBk b).queue = [] ∧
      { t with tb := s.tb, tbFrac := s.tbFrac, ev := s.ev, vl := s.vl } = s := by
  have hb4 : b < 4 := by omega
  have run : exec (.vlBoostAdmit b) s = .next (s.settleBank b) := by
    simp only [exec, execVlBoostAdmit, if_neg (show ¬b ≥ 4 by omega), head, slot, free]
    rfl
  obtain ⟨g, rests, hg⟩ := s.restMode_frame b
  obtain ⟨shared, bank⟩ : ∃ shared, (s.onBank b g).vlBk b = { s.vlBk b with shared := shared } :=
    ⟨_, (State.vlBk_onBank hb4).trans (hg _)⟩
  have head' : ((s.onBank b g).vlBk b).queue = [n] := by rw [bank]; exact head
  have due : (s.onBank b g).headDue b = true := by
    have runs' : (s.onBank b g).bankRuns b = true := runs
    simp only [State.headDue, State.staggerOver, bank, runs', sound, unlimited, slot, free]
    rfl
  subst hb
  obtain ⟨phase, boosts, holds, left⟩ := State.letBoost_boosts (s := s.onBank (n / 4) g) hn hd head'
  obtain ⟨g', settled, hg'⟩ := State.settleBank_of_tryAdmit (s := s) (by rw [rests, State.tryAdmit_alone head' due alone]) left
  have beside := (s.onBank (n / 4) g).letBoost_besideVl n
  rw [run, settled]
  refine leads_next ⟨phase, boosts, ?_, ?_, ?_⟩
  · exact (State.onBank_keeps (π := VlBank.slot) fun k => by rw [hg']).trans holds
  · exact (State.onBank_keeps (π := VlBank.queue) fun k => by rw [hg']).trans left
  · exact congrArg (fun u : State => { u with tb := s.tb, tbFrac := s.tbFrac, ev := s.ev, vl := s.vl }) beside

/-! ### The mode of a bank -/

/-- A jump to the present quantum stays, but in DOZE (R24). -/
theorem State.jump_present_of_ne_doze (hp : s.phase ≠ .doze) (h : s.tb < tbMod) : s.jump s.tb = s := by
  have now := Nat.mod_eq_of_lt h
  have jump : s.jump s.tb = { s with tb := s.tb % tbMod } := by
    simp [State.jump, tbSub_present now.symm, hp]
  rw [jump, now]

theorem vlBankSingleReturn_returns (hb : b < 4) (hp : s.phase ≠ .doze) (hd : (s.vlBk b).singleAt = some d)
    (alone : s.energisedIn b 99 = [n]) (now : s.tb = carrierFrom (s.vlCh n).carrier (s.vlCh n).period (tbAdd d 10000)) :
    exec (.vlBankSingleReturn b) s = .next (s.onBank b fun k => { k with shared := false, singleAt := none }) := by
  have inRange : s.tb < tbMod := now ▸ Nat.mod_lt _ (by decide)
  simp only [exec, execVlBankSingleReturn, if_neg (show ¬b ≥ 4 by omega), hd, alone, ← now, State.jump_present_of_ne_doze hp inRange]

/-! ### Means and windows (R214, R219, R224) -/

theorem State.postJump_due {k last : Nat} (h : s.tb % k = 0) (hl : last ≠ s.tb) : s.postJump k last = s := by
  simp [State.postJump, h, hl]

theorem vlMeanPost_posts (awake : s.awake = true) (due : s.tb % 1000 = 0) (first : s.vl.meanAt ≠ s.tb) :
    leads (exec .vlMeanPost s) fun t => t.vl.meanAt = s.tb ∧ t.vl.bank = s.vl.bank ∧
      { t with tb := s.tb, tbFrac := s.tbFrac, vl := s.vl, heldAt := s.heldAt, heldRes := s.heldRes } = s ∧
      ∀ i < 16, (t.vlCh i).newest = (if (s.vlConf i).en = true ∧ (s.vlCh i).fault ≠ 4 then wI (t.vlCh i).imean else noVal) := by
  simp only [exec, execVlMeanPost, State.postJump_due due first, awake, Bool.not_true, Bool.false_eq_true, if_false]
  obtain ⟨res, at_, held⟩ := latchHold_frame s { s with vl := { s.vl with ch := _, meanAt := s.tb } }
  rw [held]
  refine leads_next ⟨rfl, rfl, rfl, fun i hi => ?_⟩
  have chan : ∀ f, nth (updAll s.vl.ch f) i {} = f i (s.vlCh i) := fun f => nth_updAll _ f hi
  simp only [State.vlCh] at chan ⊢
  rw [chan]
  have enabled : ((s.vlConf i).en && (nth s.vl.ch i {}).fault != 4) = true ↔ (s.vlConf i).en = true ∧ (nth s.vl.ch i {}).fault ≠ 4 := by
    simp
  by_cases posts : (s.vlConf i).en = true ∧ (nth s.vl.ch i {}).fault ≠ 4
  · simp only [if_pos posts, if_pos (enabled.2 posts)]
  · simp only [if_neg posts, if_neg (mt enabled.1 posts)]

/-- A bank whose window has ended with a mean, in mA, and no sample of its last quantum (R219). -/
def State.windowEnded (b : Nat) (mean : Rat) (s : State) : State :=
  s.onBank b fun k => { k with imean := roundHalfAway mean, imax := roundHalfAway ((k.max : Rat) / 4), sum := 0, n := 0, max := 0
                               late := [], winAt := s.tb }

/-- The mean of the samples of a bank's window in mA. -/
def VlBank.mean (k : VlBank) : Rat := (k.sum : Rat) / (k.n : Rat) / 4

/-- A window that ends sets LIMIT where its mean is above BCONT by more than 100 mA, and keeps a LIMIT of 0 else (R219). -/
theorem exec_vlBankWindow (hb : b < 4) (due : s.tb % 100000 = 0) (first : (s.vlBk b).winAt ≠ s.tb) (early : (s.vlBk b).late = [])
    (counted : 0 < (s.vlBk b).n) (limit : 50 * ((nth s.applied.vl.banks b {}).bcont : Rat) + 100 < (s.vlBk b).mean ∨
      (s.vlBk b).limit = false) : exec (.vlBankWindow b) s = .next
        (if 50 * ((nth s.applied.vl.banks b {}).bcont : Rat) + 100 < (s.vlBk b).mean
          then (s.windowEnded b (s.vlBk b).mean).bankLimit b else s.windowEnded b (s.vlBk b).mean) := by
  have nonempty : (s.vlBk b).n ≠ 0 := by omega
  have ended : s.windowEnded b (s.vlBk b).mean = s.onBank b fun k => { k with
      imean := roundHalfAway (s.vlBk b).mean, imax := roundHalfAway (((s.vlBk b).max : Rat) / 4), sum := 0, n := 0, max := 0
      late := [], winAt := s.tb } := by
    simp [State.windowEnded, State.onBank, upd, hb, State.vlBk, nth]
  rw [ended]
  simp only [exec, execVlBankWindow, if_neg (show ¬b ≥ 4 by omega), State.postJump_due due first, early]
  simp only [ite_self, List.foldl_nil, List.length_nil, Nat.add_zero, if_neg nonempty, decide_eq_true_eq]
  rw [← VlBank.mean]
  by_cases high : 50 * ((nth s.applied.vl.banks b {}).bcont : Rat) + 100 < (s.vlBk b).mean
  · rw [if_pos (by exact high), if_pos high]
  · rw [if_neg (by exact high), if_neg high, limit.resolve_left high]
    rfl

theorem vlBankWindow_within (hb : b < 4) (due : s.tb % 100000 = 0) (first : (s.vlBk b).winAt ≠ s.tb) (early : (s.vlBk b).late = [])
    (counted : 0 < (s.vlBk b).n) (unlimited : (s.vlBk b).limit = false)
    (low : (s.vlBk b).mean ≤ 50 * ((nth s.applied.vl.banks b {}).bcont : Rat) + 100) :
    leads (exec (.vlBankWindow b) s) fun t => (t.vlBk b).imean = roundHalfAway (s.vlBk b).mean ∧
      (t.vlBk b).imax = roundHalfAway (((s.vlBk b).max : Rat) / 4) ∧ (t.vlBk b).limit = false ∧ (t.vlBk b).n = 0 ∧
      { t with tb := s.tb, tbFrac := s.tbFrac, ev := s.ev, vl := s.vl } = s := by
  rw [exec_vlBankWindow hb due first early counted (.inr unlimited), if_neg (not_lt.2 low)]
  refine leads_next ?_
  rw [State.windowEnded, State.vlBk_onBank hb]
  exact ⟨rfl, rfl, unlimited, rfl, rfl⟩

theorem vlBankWindow_above (hb : b < 4) (due : s.tb % 100000 = 0) (first : (s.vlBk b).winAt ≠ s.tb) (early : (s.vlBk b).late = [])
    (counted : 0 < (s.vlBk b).n) (high : 50 * ((nth s.applied.vl.banks b {}).bcont : Rat) + 100 < (s.vlBk b).mean) :
    leads (exec (.vlBankWindow b) s) fun t => (t.vlBk b).limit = true ∧
      { t with tb := s.tb, tbFrac := s.tbFrac, ev := s.ev, vl := s.vl } = s := by
  obtain ⟨ev, raised⟩ := State.raise_frame ((s.windowEnded b (s.vlBk b).mean).onBank b fun k => { k with limit := true }) 74
  rw [exec_vlBankWindow hb due first early counted (.inl high), if_pos high, State.bankLimit, raised]
  exact leads_next ⟨congrArg VlBank.limit (State.vlBk_onBank hb), rfl⟩

/-! ### Duty windows (R224) -/

theorem State.callNew_frame (s before : State) : ∃ pw, s.callNew before = { s with pw := pw } := by
  unfold State.callNew
  obtain ⟨pw, called, -⟩ := State.callUnits_frame (s.onPw _) _
  exact ⟨pw, called⟩

theorem vlDutyWindowStart_begins (hn : n < 16) (hd : (s.vlCh n).winDue = some d) (free : (s.vlCh n).dutylim = false) :
    leads (exec (.vlDutyWindowStart n) s) fun t => (t.vlCh n).inWin = true ∧ (t.vlCh n).used = 0 ∧ (t.vlCh n).limitHit = false ∧
      (t.vlCh n).winDue = some (tbAdd d (1000000 * (nth s.applied.vl.duty n {}).win)) ∧
      { t with tb := s.tb, tbFrac := s.tbFrac, pw := s.pw, vl := s.vl } = s := by
  obtain ⟨tb, frac, jump⟩ := s.jump_frame d
  have started : s.dutyWindow n d = ({ s with tb := tb, tbFrac := frac } : State).onVl n fun c => { c with
      winDue := some (tbAdd d (1000000 * (nth s.applied.vl.duty n {}).win)), inWin := true, used := 0
      usedFrom := c.usedFrom.map fun _ => tb, limitHit := false, dutylim := false } := by
    unfold State.dutyWindow
    rw [jump]
    exact if_neg (by exact (Bool.eq_false_iff.1 free))
  obtain ⟨pw, called⟩ := State.callNew_frame (s.dutyWindow n d) s
  simp only [exec, execVlDutyWindowStart, if_neg (show ¬n ≥ 16 by omega), hd]
  rw [called, started]
  refine leads_next ?_
  have chan : ∀ f : VlChan → VlChan, ({ ({ s with tb := tb, tbFrac := frac } : State).onVl n f with pw := pw } : State).vlCh n =
    f (s.vlCh n) := fun f => State.vlCh_onVl hn
  rw [chan]
  exact ⟨rfl, rfl, rfl, rfl, rfl⟩

/-- A limit reached under ACTION 0 holds the channel off until its next window (R224). -/
theorem vlDutyLimitReached_holds {t : Nat} (hn : n < 16) (counts : (s.vlCh n).usedFrom = some t) (inWin : (s.vlCh n).inWin = true)
    (first : (s.vlCh n).limitHit = false) (below : (nth s.applied.vl.duty n {}).limit < 100)
    (act : (nth s.applied.vl.duty n {}).action = 0) (idle : (s.vlBk (n / 4)).queue = []) :
    leads (exec (.vlDutyLimitReached n) s) fun t => (t.vlCh n).dutylim = true ∧ (t.vlCh n).phase = .off ∧
      { t with tb := s.tb, tbFrac := s.tbFrac, ev := s.ev, vl := s.vl } = s := by
  obtain ⟨d, due⟩ : ∃ d, s.dutyDue n = some d := ⟨_, by simp only [State.dutyDue, counts]; rfl⟩
  obtain ⟨tb, frac, jump⟩ := s.jump_frame d
  obtain ⟨ev, raised⟩ := State.raise_frame (({ s with tb := tb, tbFrac := frac } : State).onVl n fun c =>
    { c with limitHit := true, dutylim := true }) 70
  have run : exec (.vlDutyLimitReached n) s = .next (((({ s with tb := tb, tbFrac := frac } : State).onVl n (fun c =>
      { c with limitHit := true, dutylim := true })).raise 70 |>.offDecay n).settleBank (n / 4)) := by
    rw [← jump]
    simp only [exec, execVlDutyLimitReached, if_neg (show ¬n ≥ 16 by omega), due, inWin, first, act]
    rw [if_neg (by simp; omega)]
    rfl
  rw [run, raised]
  refine leads_turnedOff hn idle fun t phase dutylim beside => ⟨dutylim.trans (congrArg VlChan.dutylim (State.vlCh_onVl hn)), phase, ?_⟩
  exact congrArg (fun u : State => { u with tb := s.tb, tbFrac := s.tbFrac, ev := s.ev, vl := s.vl }) beside

end

/-! ### What a sample does in any phase (R213, R214) -/

section
variable {s u : State} {n : Nat} {obs : VlObs} {P : State → Prop}

/-- The state as a fresh sample is taken up, before the phase's own work: it counts in its mean, and no request is missing (R211, R214). -/
def State.sampleTaken (n : Nat) (s : State) : State :=
  ({ s with sar := { s.sar with vl := upd s.sar.vl n fun x => { x with fresh := false } } } : State).onVl n fun c =>
    { c.count (nth s.sar.vl n {}).code s.tb s.vl.meanAt with missRun := 0 }

theorem State.sampleTaken_vlCh (hn : n < 16) : ∃ msSum msCnt late lateAt, (s.sampleTaken n).vlCh n =
    { s.vlCh n with msSum := msSum, msCnt := msCnt, late := late, lateAt := lateAt, missRun := 0 } := by
  obtain ⟨msSum, msCnt, late, lateAt, counted⟩ := (s.vlCh n).count_frame (nth s.sar.vl n {}).code s.tb s.vl.meanAt
  exact ⟨msSum, msCnt, late, lateAt, (State.vlCh_onVl hn).trans (congrArg (fun c : VlChan => { c with missRun := 0 }) counted)⟩

/-- A sample of an energised channel, its bank with none waiting and far from R229's third condition: what the phase's own work has left,
with the sample as the last. -/
theorem regulationSample_leads (hn : n < 16) (fresh : (nth s.sar.vl n {}).fresh = true) (on : (s.vlCh n).energised = true)
    (work : (s.sampleTaken n).phaseSample n (nth s.sar.vl n {}).code ((obs.vactMv : Rat) / 1000) = u) (low : (u.vlCh n).hiRun < 20)
    (idle : (u.vlBk (n / 4)).queue = [])
    (h : ∀ t : State, t.vlCh n = { u.vlCh n with prevI := (nth s.sar.vl n {}).code } → (nth t.sar.vl n {}).fresh = false →
      t.ev = u.ev → t.vl.pinew = u.vl.pinew →
      { t with ev := s.ev, sar := s.sar, vl := s.vl, ilk := s.ilk, w1cAt := s.w1cAt, w1cNow := s.w1cNow } = s → P t) :
    leads (exec (.vlRegulationSample n obs) s) P := by
  have chan : (u.onVl n fun c => { c with prevI := (nth s.sar.vl n {}).code }).vlCh n =
    { u.vlCh n with prevI := (nth s.sar.vl n {}).code } := State.vlCh_onVl hn
  have run : exec (.vlRegulationSample n obs) s =
      .next (((u.onVl n fun c => { c with prevI := (nth s.sar.vl n {}).code }).settleBank (n / 4)).noteIlk) := by
    have few : ((u.onVl n fun c => { c with prevI := (nth s.sar.vl n {}).code }).vlCh n).hiRun < 20 := chan ▸ low
    rw [← work] at few ⊢
    simp only [exec, execVlRegulationSample, if_neg (show ¬n ≥ 16 by omega), fresh, on, Bool.not_true, Bool.or_self,
      Bool.false_eq_true, if_false]
    exact congrArg (fun t : State => Host.Outcome.next (t.settleBank (n / 4)).noteIlk)
      (if_neg fun high => absurd few (not_lt.2 (of_decide_eq_true (Bool.and_eq_true_iff.1 high).1)))
  have beside : u.besideVl.sansFlags = (s.sampleTaken n).besideVl.sansFlags := work ▸ State.phaseSample_sansFlags _ _ _ _
  rw [run]
  refine leads_settled_noted idle fun bank ilk => h _ chan ?_ rfl rfl ?_
  · have sar := congrArg State.sar beside
    exact (congrArg (fun a => (nth a.vl n {}).fresh) sar).trans (congrArg SarSample.fresh (nth_upd_self _ _ hn))
  · exact congrArg (fun v : State => { v with
      ev := s.ev, sar := s.sar, vl := s.vl, ilk := s.ilk, w1cAt := s.w1cAt, w1cNow := s.w1cNow }) beside
end

/-! ### The work of each phase at a sample (R206 to R208, R212) -/

section
variable {s : State} {n : Nat} {code : Int} {v : Rat}

/-- A period judged leaves of the channel all but the pull-in point and what leads to it, and the banks (R208). -/
theorem State.judge_frame (hn : n < 16) (i : Rat) : (s.judge n i v).vl.bank = s.vl.bank ∧ ∃ motion pullAt piok nopi pitime,
    (s.judge n i v).vlCh n = { s.vlCh n with motion := motion, pullAt := pullAt, piok := piok, nopi := nopi, pitime := pitime } := by
  unfold State.judge
  extract_lets
  split
  · split
    · exact ⟨rfl, _, _, _, _, _, rfl⟩
    · extract_lets
      split
      · split
        · exact ⟨rfl, _, _, _, _, _, State.vlCh_onVl hn⟩
        · exact ⟨rfl, _, _, _, _, _, rfl⟩
      · split
        · rw [State.vlCh, State.raise_vl]
          exact ⟨rfl, _, _, _, _, _, State.vlCh_onVl hn⟩
        · exact ⟨rfl, _, _, _, _, _, rfl⟩
  · exact ⟨rfl, _, _, _, _, _, rfl⟩

/-- While PIBLANK lasts nothing is judged (R208). -/
theorem State.judge_blank {i : Rat} (h : tbSub s.tb (s.vlCh n).boostAt < 100 * (s.vlConf n).piblank) : s.judge n i v = s := by
  unfold State.judge
  dsimp only
  split
  · exact if_pos (by simp [h])
  · rfl

/-- The duty of R212 in closed form: what carry and clamp leave of it is the next period's, or carried on where its on-interval is
below 1 µs. -/
theorem VlChan.regulate_eq {c : VlChan} {iset i t k u : Rat} (hv : 0 < v) (hu : u = c.u + c.rnow.getD 20 / 8 * (iset - i))
    (hk : k = min 1 (max 0 (min 1 ((iset * c.rnow.getD 20 + c.lest.getD (5 / 100) / (4 * t) * (iset - i) + u) / v)) + c.carry)) :
    c.regulate iset i v t =
      if 0 < k ∧ k * t < 1 / 1000000 then { c with u := u, dnext := 0, carry := k } else { c with u := u, dnext := k, carry := 0 } := by
  have low : ∀ x : Rat, (if x > 1 then 1 else x) = min 1 x := fun x => by
    by_cases h : x > 1
    · rw [if_pos h, min_eq_left h.le]
    · rw [if_neg h, min_eq_right (not_lt.1 h)]
  have both : ∀ x : Rat, (if x < 0 then 0 else min 1 x) = max 0 (min 1 x) := fun x => by
    by_cases h : x < 0
    · rw [if_pos h, max_eq_left ((min_le_right 1 x).trans h.le)]
    · rw [if_neg h, max_eq_right (le_min zero_le_one (not_lt.1 h))]
  unfold VlChan.regulate
  simp only [if_neg (not_le.2 hv), low, both, ← hu, ← hk, Bool.and_eq_true, decide_eq_true_eq]

/-- A sample of HOLD counts in the means of R212's refit, and the next duty follows. -/
def VlChan.holdSample (shared : Bool) (ihold i v t : Rat) (c : VlChan) : VlChan :=
  (({ c with vdSum := c.vdSum + v * c.duty, iSum := c.iSum + i } : VlChan).track shared ihold i).regulate ihold i v t

/-- A hold without SAT regulates towards IHOLD, and is not judged for an open coil (R212, R227). -/
theorem State.phaseSample_hold (hn : n < 16) (h : (s.vlCh n).phase = .hold) (hs : (s.vlCh n).sat = false) : s.phaseSample n code v =
    s.onVl n (VlChan.holdSample (s.vlBk (n / 4)).shared (((s.vlCh n).ihold : Rat) / 200) ((code : Rat) / 10000) v (s.vlT n)) := by
  simp only [State.phaseSample, h]
  refine if_neg fun judged => ?_
  rw [State.vlCh_onVl hn] at judged
  obtain ⟨u, dnext, carry, regulated⟩ := VlChan.regulate_frame (({ s.vlCh n with
    vdSum := (s.vlCh n).vdSum + v * (s.vlCh n).duty, iSum := (s.vlCh n).iSum + (code : Rat) / 10000 } : VlChan).track
    (s.vlBk (n / 4)).shared (((s.vlCh n).ihold : Rat) / 200) ((code : Rat) / 10000)) (((s.vlCh n).ihold : Rat) / 200)
    ((code : Rat) / 10000) v (s.vlT n)
  rw [regulated] at judged
  exact absurd (hs.symm.trans (Bool.and_eq_true_iff.1 judged).1) (by simp)

/-- A sample of FALL at or below IHOLD enters HOLD (R206). -/
theorem State.phaseSample_fall (h : (s.vlCh n).phase = .fall) (low : (code : Rat) / 10000 ≤ ((s.vlCh n).ihold : Rat) / 200) :
    s.phaseSample n code v = (s.toHold n).onVl n fun c =>
      c.regulate (((s.vlCh n).ihold : Rat) / 200) ((code : Rat) / 10000) v (s.vlT n) := by
  simp only [State.phaseSample, h, if_pos low]

/-- A sample of a rise counts, and is kept for the fit from the third to the eighth (R207). -/
def VlChan.sampled (e : Rat × Rat × Rat) (c : VlChan) : VlChan :=
  { c with nsamp := c.nsamp + 1
           samples := if 3 ≤ c.nsamp + 1 && c.nsamp + 1 ≤ 8 then c.samples ++ [e] else c.samples }

/-- A rise once its sample has counted and been judged. -/
def State.riseJudged (n : Nat) (code : Int) (v : Rat) (s : State) : State :=
  (s.onVl n (VlChan.sampled ((code : Rat) / 10000, (code : Rat) / 10000 - ((s.vlCh n).prevI : Rat) / 10000, v))).judge n
    ((code : Rat) / 10000) v

/-- A sample at IPEAK ends the rise with its fit; the peak regulates (R206, R207). -/
theorem State.phaseSample_rise_ends (h : (s.vlCh n).phase = .rise) (high : ((s.vlConf n).ipeak : Rat) / 100 ≤ (code : Rat) / 10000) :
    s.phaseSample n code v = ((s.riseJudged n code v).onVl n fun c => c.fit (s.vlT n)).onVl n fun c =>
      ({ c.enter .peak (s.riseJudged n code v).tb with u := 0, carry := 0, hiRun := 0 } : VlChan).regulate
        (((s.vlConf n).ipeak : Rat) / 100) ((code : Rat) / 10000) v (s.vlT n) := by
  simp only [State.phaseSample, h, ge_iff_le, high, decide_true, Bool.or_true, if_true]
  rfl

/-- A sample below IPEAK goes on in the rise, fitted from its eighth sample on (R206, R207). -/
theorem State.phaseSample_rise_goesOn (h : (s.vlCh n).phase = .rise) (low : (code : Rat) / 10000 < ((s.vlConf n).ipeak : Rat) / 100) :
    s.phaseSample n code v = if 8 ≤ ((s.riseJudged n code v).vlCh n).nsamp then (s.riseJudged n code v).onVl n fun c => c.fit (s.vlT n)
      else s.riseJudged n code v := by
  simp only [State.phaseSample, h, ge_iff_le, not_le.2 low, decide_false, Bool.or_false, decide_eq_true_eq, Bool.false_eq_true, if_false]
  rfl

theorem State.phaseSample_peak (h : (s.vlCh n).phase = .peak) : s.phaseSample n code v =
    (s.judge n ((code : Rat) / 10000) v).onVl n fun c => (c.track (s.vlBk (n / 4)).shared (((s.vlConf n).ipeak : Rat) / 100)
      ((code : Rat) / 10000)).regulate (((s.vlConf n).ipeak : Rat) / 100) ((code : Rat) / 10000) v (s.vlT n) := by
  simp only [State.phaseSample, h]

end

/-! ### Samples that end a rise or a fall, fit, and regulate (R206, R207, R212) -/

section
variable {s : State} {n : Nat} {obs : VlObs}

theorem VlChan.energised_of_on {c : VlChan} {p : VPhase} (h : c.phase = p) (on : p.on = true) : c.energised = true := by
  simp [VlChan.energised, h, on]

/-- A rise judged keeps its channel but for the sample and the pull-in point, and the banks. -/
theorem State.riseJudged_frame (hn : n < 16) (code : Int) (v : Rat) : (s.riseJudged n code v).vl.bank = s.vl.bank ∧
    ∃ motion pullAt piok nopi pitime, (s.riseJudged n code v).vlCh n = { (s.vlCh n).sampled
      ((code : Rat) / 10000, (code : Rat) / 10000 - ((s.vlCh n).prevI : Rat) / 10000, v) with
      motion := motion, pullAt := pullAt, piok := piok, nopi := nopi, pitime := pitime } := by
  obtain ⟨bank, motion, pullAt, piok, nopi, pitime, chan⟩ := State.judge_frame (s := s.onVl n (VlChan.sampled
    ((code : Rat) / 10000, (code : Rat) / 10000 - ((s.vlCh n).prevI : Rat) / 10000, v))) (v := v) hn ((code : Rat) / 10000)
  rw [State.vlCh_onVl hn] at chan
  exact ⟨bank, motion, pullAt, piok, nopi, pitime, chan⟩

theorem regulationSample_peaks (hn : n < 16) (fresh : (nth s.sar.vl n {}).fresh = true) (rise : (s.vlCh n).phase = .rise)
    (idle : (s.vlBk (n / 4)).queue = [])
    (high : ((s.vlConf n).ipeak : Rat) / 100 ≤ ((nth s.sar.vl n {}).code : Rat) / 10000) :
    leads (exec (.vlRegulationSample n obs) s) fun t => (t.vlCh n).phase = .peak ∧ (t.vlCh n).prevI = (nth s.sar.vl n {}).code ∧
      (nth t.sar.vl n {}).fresh = false ∧
      { t with ev := s.ev, sar := s.sar, vl := s.vl, ilk := s.ilk, w1cAt := s.w1cAt, w1cNow := s.w1cNow } = s := by
  obtain ⟨msSum, msCnt, late, lateAt, taken⟩ := State.sampleTaken_vlCh (s := s) hn
  have work := State.phaseSample_rise_ends (s := s.sampleTaken n) (v := (obs.vactMv : Rat) / 1000)
    ((congrArg VlChan.phase taken).trans rise) high
  obtain ⟨bank, -⟩ := State.riseJudged_frame (s := s.sampleTaken n) hn (nth s.sar.vl n {}).code ((obs.vactMv : Rat) / 1000)
  generalize ht : (s.sampleTaken n).riseJudged n (nth s.sar.vl n {}).code ((obs.vactMv : Rat) / 1000) = t at work bank
  generalize hu : ((t.onVl n _).onVl n _) = u at work
  obtain ⟨phase, hiRun, banks⟩ : (u.vlCh n).phase = .peak ∧ (u.vlCh n).hiRun = 0 ∧ u.vl.bank = t.vl.bank := by
    subst hu
    rw [State.vlCh_onVl hn]
    obtain ⟨x, dnext, carry, regulated⟩ := VlChan.regulate_frame _ _ _ _ _
    rw [regulated]
    exact ⟨rfl, rfl, rfl⟩
  refine regulationSample_leads hn fresh (VlChan.energised_of_on rise rfl) work (by omega) ?_ fun t chan used _ _ frame =>
    ⟨(congrArg VlChan.phase chan).trans phase, congrArg VlChan.prevI chan, used, frame⟩
  rw [State.vlBk, banks, bank]
  exact idle

theorem regulationSample_holds (hn : n < 16) (fresh : (nth s.sar.vl n {}).fresh = true) (fall : (s.vlCh n).phase = .fall)
    (idle : (s.vlBk (n / 4)).queue = []) (low : ((nth s.sar.vl n {}).code : Rat) / 10000 ≤ ((s.vlCh n).ihold : Rat) / 200) :
    leads (exec (.vlRegulationSample n obs) s) fun t => (t.vlCh n).phase = .hold ∧ (t.vlCh n).prevI = (nth s.sar.vl n {}).code ∧
      (nth t.sar.vl n {}).fresh = false ∧
      { t with ev := s.ev, sar := s.sar, vl := s.vl, ilk := s.ilk, w1cAt := s.w1cAt, w1cNow := s.w1cNow } = s := by
  obtain ⟨msSum, msCnt, late, lateAt, taken⟩ := State.sampleTaken_vlCh (s := s) hn
  have work := State.phaseSample_fall (s := s.sampleTaken n) (v := (obs.vactMv : Rat) / 1000)
    (code := (nth s.sar.vl n {}).code) ((congrArg VlChan.phase taken).trans fall) (by rw [taken]; exact low)
  generalize hu : (((s.sampleTaken n).toHold n).onVl n _) = u at work
  obtain ⟨phase, hiRun, banks⟩ : (u.vlCh n).phase = .hold ∧ (u.vlCh n).hiRun = 0 ∧ u.vl.bank = (s.freeBoost n).vl.bank := by
    subst hu
    rw [State.vlCh_onVl hn, State.toHold, State.vlCh_onVl hn]
    obtain ⟨x, dnext, carry, regulated⟩ := VlChan.regulate_frame _ _ _ _ _
    rw [regulated]
    exact ⟨rfl, rfl, rfl⟩
  refine regulationSample_leads hn fresh (VlChan.energised_of_on fall rfl) work (by omega) ?_ fun t chan used _ _ frame =>
    ⟨(congrArg VlChan.phase chan).trans phase, congrArg VlChan.prevI chan, used, frame⟩
  rw [State.vlBk, banks]
  exact State.freeBoost_queue.trans idle

theorem State.sampleTaken_vlT (hn : n < 16) : (s.sampleTaken n).vlT n = s.vlT n := by
  obtain ⟨msSum, msCnt, late, lateAt, taken⟩ := State.sampleTaken_vlCh (s := s) hn
  unfold State.vlT
  rw [taken]
  rfl

/-- A sample of HOLD sets the next duty by R212. -/
theorem regulationSample_regulates {r l i e u d T k : Rat} (hn : n < 16) (fresh : (nth s.sar.vl n {}).fresh = true)
    (hold : (s.vlCh n).phase = .hold) (unsaturated : (s.vlCh n).sat = false) (few : (s.vlCh n).hiRun < 19)
    (idle : (s.vlBk (n / 4)).queue = []) (hv : 0 < obs.vactMv) (hT : T = s.vlT n) (hr : r = (s.vlCh n).rnow.getD 20)
    (hl : l = (s.vlCh n).lest.getD (5 / 100)) (hi : i = ((nth s.sar.vl n {}).code : Rat) / 10000)
    (he : e = ((s.vlCh n).ihold : Rat) / 200 - i) (hu : u = (s.vlCh n).u + r / 8 * e)
    (hd : d = (((s.vlCh n).ihold : Rat) / 200 * r + l / (4 * T) * e + u) / ((obs.vactMv : Rat) / 1000))
    (hk : k = min 1 (max 0 (min 1 d) + (s.vlCh n).carry)) :
    leads (exec (.vlRegulationSample n obs) s) fun t => (t.vlCh n).phase = .hold ∧ (t.vlCh n).u = u ∧
      (t.vlCh n).prevI = (nth s.sar.vl n {}).code ∧ (nth t.sar.vl n {}).fresh = false ∧
      (k ≤ 0 ∨ 1 / 1000000 ≤ k * T → (t.vlCh n).dnext = k ∧ (t.vlCh n).carry = 0) ∧
      (0 < k → k * T < 1 / 1000000 → (t.vlCh n).dnext = 0 ∧ (t.vlCh n).carry = k) ∧
      { t with ev := s.ev, sar := s.sar, vl := s.vl, ilk := s.ilk, w1cAt := s.w1cAt, w1cNow := s.w1cNow } = s := by
  obtain ⟨msSum, msCnt, late, lateAt, taken⟩ := State.sampleTaken_vlCh (s := s) hn
  have volts : (0 : Rat) < (obs.vactMv : Rat) / 1000 := by positivity
  have work := State.phaseSample_hold (s := s.sampleTaken n) (v := (obs.vactMv : Rat) / 1000)
    (code := (nth s.sar.vl n {}).code) hn ((congrArg VlChan.phase taken).trans hold) ((congrArg VlChan.sat taken).trans unsaturated)
  rw [State.sampleTaken_vlT hn, ← hT, ← hi] at work
  generalize hw : (s.sampleTaken n).onVl n _ = w at work
  obtain ⟨c, hiRun, low, keeps, chan⟩ : ∃ c : VlChan, ∃ hiRun ≤ (s.vlCh n).hiRun + 1,
      (c.phase = .hold ∧ c.hiRun = hiRun ∧ c.u = (s.vlCh n).u ∧ c.rnow = (s.vlCh n).rnow ∧ c.lest = (s.vlCh n).lest ∧
        c.carry = (s.vlCh n).carry) ∧
      w.vlCh n = c.regulate (((s.vlCh n).ihold : Rat) / 200) i ((obs.vactMv : Rat) / 1000) T := by
    subst hw
    rw [State.vlCh_onVl hn, taken, VlChan.holdSample]
    obtain ⟨hiRun, low, tracked⟩ := VlChan.track_frame _ _ _ _
    rw [tracked]
    refine ⟨_, hiRun, low, ?_, rfl⟩
    exact ⟨hold, rfl, rfl, rfl, rfl, rfl⟩
  obtain ⟨phase, run, hcu, hrnow, hlest, hcarry⟩ := keeps
  rw [VlChan.regulate_eq (k := k) (u := u) volts (by rw [hcu, hrnow, ← hr, ← he, hu])
    (by rw [hrnow, hlest, hcarry, ← hr, ← hl, ← he, ← hd, hk])] at chan
  have banks : w.vl.bank = s.vl.bank := by subst hw; rfl
  have hiRuns : (w.vlCh n).hiRun = hiRun := by rw [chan]; split <;> exact run
  refine regulationSample_leads hn fresh (VlChan.energised_of_on hold rfl) work (by omega) (by rw [State.vlBk, banks]; exact idle)
    fun t now used _ _ frame => ?_
  rw [now, chan]
  by_cases short : 0 < k ∧ k * T < 1 / 1000000
  · rw [if_pos short]
    exact ⟨phase, rfl, rfl, used, fun long => absurd short (not_and_or.2 (long.imp not_lt.2 not_lt.2)), fun _ _ => ⟨rfl, rfl⟩, frame⟩
  · rw [if_neg short]
    exact ⟨phase, rfl, rfl, used, fun _ => ⟨rfl, rfl⟩, fun pos below => absurd ⟨pos, below⟩ short, frame⟩

theorem VlChan.fit_of_fitCoil {c : VlChan} {t r l : Rat} (todo : c.fitDone = false) (many : 4 ≤ c.samples.length)
    (solved : fitCoil c.samples t = some (r, l)) (ok : estOk r l = true) :
    c.fit t = { c with fitDone := true, rest := some r, lest := some l, rnow := some r } := by
  simp only [VlChan.fit, todo, Bool.false_eq_true, if_false, if_neg (show ¬c.samples.length < 4 by omega), solved, ok, if_true]

/-- The eighth sample of a rise fits the coil (R207). -/
theorem regulationSample_fits {i r l : Rat} (hn : n < 16) (fresh : (nth s.sar.vl n {}).fresh = true)
    (rise : (s.vlCh n).phase = .rise) (idle : (s.vlBk (n / 4)).queue = []) (few : (s.vlCh n).hiRun < 20)
    (seventh : (s.vlCh n).nsamp = 7) (todo : (s.vlCh n).fitDone = false) (five : (s.vlCh n).samples.length = 5)
    (blank : tbSub s.tb (s.vlCh n).boostAt < 100 * (s.vlConf n).piblank) (hi : i = ((nth s.sar.vl n {}).code : Rat) / 10000)
    (low : i < ((s.vlConf n).ipeak : Rat) / 100)
    (solved : fitCoil ((s.vlCh n).samples ++ [(i, i - ((s.vlCh n).prevI : Rat) / 10000, (obs.vactMv : Rat) / 1000)]) (s.vlT n) =
      some (r, l)) (hl : 0 < l) (h1 : 1 ≤ r) (h1000 : r ≤ 1000) :
    leads (exec (.vlRegulationSample n obs) s) fun t => (t.vlCh n).phase = .rise ∧ (t.vlCh n).fitDone = true ∧
      (t.vlCh n).rest = some r ∧ (t.vlCh n).lest = some l ∧ (t.vlCh n).rnow = some r ∧ (t.vlCh n).noSeek = (s.vlCh n).noSeek ∧
      { t with ev := s.ev, sar := s.sar, vl := s.vl, ilk := s.ilk, w1cAt := s.w1cAt, w1cNow := s.w1cNow } = s := by
  obtain ⟨msSum, msCnt, late, lateAt, taken⟩ := State.sampleTaken_vlCh (s := s) hn
  have work := State.phaseSample_rise_goesOn (s := s.sampleTaken n) (v := (obs.vactMv : Rat) / 1000)
    ((congrArg VlChan.phase taken).trans rise) (hi ▸ low)
  generalize hj : (s.sampleTaken n).riseJudged n (nth s.sar.vl n {}).code ((obs.vactMv : Rat) / 1000) = j at work
  obtain ⟨chan, banks⟩ : j.vlCh n = ((s.sampleTaken n).vlCh n).sampled (i, i - ((s.vlCh n).prevI : Rat) / 10000,
      (obs.vactMv : Rat) / 1000) ∧ j.vl.bank = s.vl.bank := by
    rw [← hj, State.riseJudged, State.judge_blank]
    · rw [State.vlCh_onVl hn, taken, hi]
      exact ⟨rfl, rfl⟩
    · rw [State.vlCh_onVl hn, taken]
      exact blank
  have eighth : 8 ≤ (j.vlCh n).nsamp := by rw [chan, taken]; simp [VlChan.sampled, seventh]
  have ok : estOk r l = true := by simp [estOk, hl, h1, h1000]
  have fitted : (j.vlCh n).fit (s.vlT n) = { j.vlCh n with fitDone := true, rest := some r, lest := some l, rnow := some r } := by
    refine VlChan.fit_of_fitCoil ?_ ?_ ?_ ok
    all_goals rw [chan, taken]
    · exact todo
    · simp [VlChan.sampled, seventh, five]
    · simpa [VlChan.sampled, seventh] using solved
  rw [if_pos eighth, State.sampleTaken_vlT hn] at work
  have after := (State.vlCh_onVl (s := j) (f := fun c => c.fit (s.vlT n)) hn).trans fitted
  refine regulationSample_leads hn fresh (VlChan.energised_of_on rise rfl) work ?_ ?_ fun t now used _ _ frame => ?_
  · rw [after, chan, taken]
    exact few
  · rw [State.vlBk_onVl, State.vlBk, banks]
    exact idle
  · rw [now, after, chan, taken]
    exact ⟨rise, rfl, rfl, rfl, rfl, rfl, frame⟩

end

/-! ### The pull-in point (R208) -/

section
variable {s : State} {n : Nat} {obs : VlObs}

/-- What the search for the pull-in point makes of a period with an EMF of e, from one state to another (R208): motion found, nothing
found, or the pull-in point. -/
def State.Seeks (n : Nat) (e : Rat) (s t : State) : Prop :=
  ((s.vlCh n).motion = false → (t.vlCh n).motion = decide (((s.vlConf n).piemf : Rat) / 10 ≤ e) ∧ (t.vlCh n).pullAt = none ∧ t.ev = s.ev) ∧
  ((s.vlCh n).motion = true → ((s.vlConf n).piemf : Rat) / 40 < e → (t.vlCh n).pullAt = none ∧ t.ev = s.ev) ∧
  ((s.vlCh n).motion = true → e ≤ ((s.vlConf n).piemf : Rat) / 40 → (t.vlCh n).pullAt = some s.tb ∧ (t.vlCh n).piok = true ∧
    (t.vlCh n).pitime = min (tbSub s.tb (s.vlCh n).boostAt / 10) 0xFFFE ∧ t.vl.pinew = putBit s.vl.pinew n true ∧
    t.ev = s.ev.raise 64 s.tb)

theorem State.judge_seeks {i v r l e : Rat} (hn : n < 16) (awake : s.awake = true) (sought : (s.vlCh n).noSeek = false)
    (unfound : (s.vlCh n).pullAt = none) (hr : (s.vlCh n).rest = some r) (hl : (s.vlCh n).lest = some l) (ok : estOk r l = true)
    (seen : 100 * (s.vlConf n).piblank ≤ tbSub s.tb (s.vlCh n).boostAt)
    (he : e = v * (s.vlCh n).duty - i * r - l * (i - ((s.vlCh n).prevI : Rat) / 10000) / s.vlT n) : s.Seeks n e (s.judge n i v) := by
  have goes : ((s.vlCh n).noSeek || !estOk r l || (s.vlCh n).pullAt.isSome ||
      decide (tbSub s.tb (s.vlCh n).boostAt < 100 * (s.vlConf n).piblank)) = false := by
    simp [sought, ok, unfound, seen]
  have quarter : ((s.vlConf n).piemf : Rat) / 10 / 4 = ((s.vlConf n).piemf : Rat) / 40 := by ring
  unfold State.Seeks State.judge
  simp only [hr, hl, goes, Bool.false_eq_true, if_false, ← he, quarter]
  refine ⟨fun still => ?_, fun moving above => ?_, fun moving below => ?_⟩
  · simp only [still, Bool.not_false, if_true]
    by_cases moves : ((s.vlConf n).piemf : Rat) / 10 ≤ e
    · rw [if_pos moves, State.vlCh_onVl hn, decide_eq_true moves]
      exact ⟨rfl, unfound, rfl⟩
    · rw [if_neg moves, decide_eq_false moves]
      exact ⟨still, unfound, rfl⟩
  · simp only [moving, Bool.not_true, Bool.false_eq_true, if_false, if_neg (not_le.2 above)]
    exact ⟨unfound, trivial⟩
  · simp only [moving, Bool.not_true, Bool.false_eq_true, if_false, if_pos below]
    rw [State.raise_awake (by exact awake)]
    have chan := State.vlCh_onVl (s := s) (f := fun c =>
      { c with pullAt := some s.tb, piok := true, nopi := false, pitime := min (tbSub s.tb c.boostAt / 10) 0xFFFE }) hn
    exact ⟨congrArg VlChan.pullAt chan, congrArg VlChan.piok chan, congrArg VlChan.pitime chan, rfl,
      congrArg₂ (fun (e : Events) t => e.raise 64 t) rfl rfl⟩

/-- What work after the judging leaves of a pull-in point and what led to it. -/
structure State.KeepsPullIn (n : Nat) (s t : State) : Prop where
  ev : t.ev = s.ev
  pinew : t.vl.pinew = s.vl.pinew
  bank : t.vl.bank = s.vl.bank
  motion : (t.vlCh n).motion = (s.vlCh n).motion
  pullAt : (t.vlCh n).pullAt = (s.vlCh n).pullAt
  piok : (t.vlCh n).piok = (s.vlCh n).piok
  pitime : (t.vlCh n).pitime = (s.vlCh n).pitime
  hiRun : (t.vlCh n).hiRun ≤ (s.vlCh n).hiRun + 1

theorem State.KeepsPullIn.refl (n : Nat) (s : State) : s.KeepsPullIn n s := ⟨rfl, rfl, rfl, rfl, rfl, rfl, rfl, Nat.le_succ _⟩

/-- A change that a channel stands is none. -/
theorem State.onVl_eq_self {f : VlChan → VlChan} (hn : n < 16) (h : f (s.vlCh n) = s.vlCh n) : s.onVl n f = s := by
  have entry : f s.vl.ch[n] = s.vl.ch[n] := by simpa [State.vlCh, nth, hn] using h
  simp [State.onVl, upd, hn, entry]

/-- A channel changed in its regulation alone keeps its pull-in point. -/
theorem State.onVl_keepsPullIn {f : VlChan → VlChan} {c : VlChan} {iset i v t : Rat} (hn : n < 16)
    (h : f (s.vlCh n) = c.regulate iset i v t) (same : c.motion = (s.vlCh n).motion ∧ c.pullAt = (s.vlCh n).pullAt ∧
      c.piok = (s.vlCh n).piok ∧ c.pitime = (s.vlCh n).pitime) (low : c.hiRun ≤ (s.vlCh n).hiRun + 1) :
    s.KeepsPullIn n (s.onVl n f) := by
  obtain ⟨motion, pullAt, piok, pitime⟩ := same
  obtain ⟨u, dnext, carry, regulated⟩ := c.regulate_frame iset i v t
  have chan := ((State.vlCh_onVl hn).trans h).trans regulated
  exact ⟨rfl, rfl, rfl, (congrArg VlChan.motion chan).trans motion, (congrArg VlChan.pullAt chan).trans pullAt,
    (congrArg VlChan.piok chan).trans piok, (congrArg VlChan.pitime chan).trans pitime, (congrArg VlChan.hiRun chan).le.trans low⟩

/-- A sample that seeks is judged, in a rise once it has counted, and what follows keeps what was found. -/
theorem State.phaseSample_judges {code : Int} {v : Rat} (hn : n < 16)
    (h : (s.vlCh n).phase = .peak ∨ (s.vlCh n).phase = .rise ∧ (s.vlCh n).fitDone = true) :
    ∃ f : VlChan → VlChan, (∀ c, f c = { c with nsamp := (f c).nsamp, samples := (f c).samples }) ∧
      ((s.onVl n f).judge n ((code : Rat) / 10000) v).KeepsPullIn n (s.phaseSample n code v) := by
  obtain peak | ⟨rise, done⟩ := h
  · refine ⟨id, fun c => rfl, ?_⟩
    obtain ⟨hiRun, low, tracked⟩ := ((s.judge n ((code : Rat) / 10000) v).vlCh n).track_frame (s.vlBk (n / 4)).shared
      (((s.vlConf n).ipeak : Rat) / 100) ((code : Rat) / 10000)
    rw [State.onVl_eq_self hn rfl, State.phaseSample_peak peak]
    exact State.onVl_keepsPullIn hn (congrArg (VlChan.regulate · _ _ _ _) tracked) ⟨rfl, rfl, rfl, rfl⟩ low
  · refine ⟨VlChan.sampled ((code : Rat) / 10000, (code : Rat) / 10000 - ((s.vlCh n).prevI : Rat) / 10000, v), fun c => rfl, ?_⟩
    obtain ⟨-, motion, pullAt, piok, nopi, pitime, chan⟩ := State.riseJudged_frame (s := s) hn code v
    have fitted : ((s.riseJudged n code v).vlCh n).fit (s.vlT n) = (s.riseJudged n code v).vlCh n :=
      VlChan.fit_of_done _ (by rw [chan]; exact done)
    have stays : ((s.riseJudged n code v).onVl n fun c => c.fit (s.vlT n)) = s.riseJudged n code v := State.onVl_eq_self hn fitted
    by_cases high : ((s.vlConf n).ipeak : Rat) / 100 ≤ (code : Rat) / 10000
    · rw [State.phaseSample_rise_ends rise high, stays]
      exact State.onVl_keepsPullIn hn rfl ⟨rfl, rfl, rfl, rfl⟩ (Nat.zero_le _)
    · rw [State.phaseSample_rise_goesOn rise (not_le.1 high), stays, ite_self]
      exact .refl n _

/-- A sample in a peak, or in a rise that is fitted, seeks the pull-in point (R208). -/
theorem regulationSample_seeks {i r l e : Rat} (hn : n < 16) (fresh : (nth s.sar.vl n {}).fresh = true)
    (boost : (s.vlCh n).phase = .peak ∨ (s.vlCh n).phase = .rise ∧ (s.vlCh n).fitDone = true) (idle : (s.vlBk (n / 4)).queue = [])
    (awake : s.awake = true) (few : (s.vlCh n).hiRun < 19) (sought : (s.vlCh n).noSeek = false) (unfound : (s.vlCh n).pullAt = none)
    (hr : (s.vlCh n).rest = some r) (hl : (s.vlCh n).lest = some l) (ok : estOk r l = true)
    (seen : 100 * (s.vlConf n).piblank ≤ tbSub s.tb (s.vlCh n).boostAt) (hi : i = ((nth s.sar.vl n {}).code : Rat) / 10000)
    (he : e = (obs.vactMv : Rat) / 1000 * (s.vlCh n).duty - i * r - l * (i - ((s.vlCh n).prevI : Rat) / 10000) / s.vlT n) :
    leads (exec (.vlRegulationSample n obs) s) fun t => s.Seeks n e t ∧
      { t with ev := s.ev, sar := s.sar, vl := s.vl, ilk := s.ilk, w1cAt := s.w1cAt, w1cNow := s.w1cNow } = s := by
  obtain ⟨msSum, msCnt, late, lateAt, taken⟩ := State.sampleTaken_vlCh (s := s) hn
  obtain ⟨f, hf, keeps⟩ := State.phaseSample_judges (s := s.sampleTaken n) (code := (nth s.sar.vl n {}).code)
    (v := (obs.vactMv : Rat) / 1000) hn (by rw [taken]; exact boost)
  generalize hw : (s.sampleTaken n).phaseSample n (nth s.sar.vl n {}).code ((obs.vactMv : Rat) / 1000) = w at keeps
  obtain ⟨nsamp, samples, chan⟩ : ∃ nsamp samples, ((s.sampleTaken n).onVl n f).vlCh n = { s.vlCh n with
      msSum := msSum, msCnt := msCnt, late := late, lateAt := lateAt, missRun := 0, nsamp := nsamp, samples := samples } := by
    refine ⟨_, _, (State.vlCh_onVl hn).trans ((hf _).trans (congrArg (fun c : VlChan =>
      { c with nsamp := (f ((s.sampleTaken n).vlCh n)).nsamp, samples := (f ((s.sampleTaken n).vlCh n)).samples }) taken))⟩
  have period : ((s.sampleTaken n).onVl n f).vlT n = s.vlT n := by
    unfold State.vlT
    rw [chan]
    rfl
  have seeks := State.judge_seeks (s := (s.sampleTaken n).onVl n f) (e := e) (i := i) (v := (obs.vactMv : Rat) / 1000) hn awake
    (by rw [chan]; exact sought) (by rw [chan]; exact unfound) (by rw [chan]; exact hr) (by rw [chan]; exact hl) ok
    (by rw [chan]; exact seen) (by rw [chan, period]; exact he)
  obtain ⟨banks, motion, pullAt, piok, nopi, pitime, judged⟩ := State.judge_frame (s := (s.sampleTaken n).onVl n f)
    (v := (obs.vactMv : Rat) / 1000) hn i
  rw [← hi] at keeps
  have on : (s.vlCh n).energised = true := by
    obtain peak | ⟨rise, -⟩ := boost
    · exact VlChan.energised_of_on peak rfl
    · exact VlChan.energised_of_on rise rfl
  have low : (w.vlCh n).hiRun < 20 := by
    have grown := keeps.hiRun
    rw [judged, chan] at grown
    exact lt_of_le_of_lt grown (by dsimp only; omega)
  refine regulationSample_leads hn fresh on hw low (by rw [State.vlBk, keeps.bank, banks]; exact idle)
    fun t now _ ev pinew frame => ⟨?_, frame⟩
  unfold State.Seeks at seeks ⊢
  rw [chan] at seeks
  rw [now, ev, pinew, keeps.ev, keeps.pinew]
  simp only [keeps.motion, keeps.pullAt, keeps.piok, keeps.pitime]
  exact seeks

end

/-! ### The comparator of a channel (R227) -/

section
variable {s : State} {n : Nat}

/-- A fault latches in a channel without one, which is then in OFF (R227). -/
theorem State.latchVl_vlCh {fault ev : Nat} {m : Option Nat} (hn : n < 16) (sound : (s.vlCh n).fault = 0) :
    ((s.latchVl n fault ev m).vlCh n).fault = fault := by
  unfold State.latchVl
  rw [State.vlCh, State.raise_vl, ← State.vlCh, (State.turnOff_vlCh hn).2.1, State.vlCh_onVl hn]
  simp [sound]

theorem State.latchVl_queue {fault ev b : Nat} {m : Option Nat} (idle : (s.vlBk b).queue = []) :
    ((s.latchVl n fault ev m).vlBk b).queue = [] := by
  unfold State.latchVl
  rw [State.vlBk, State.raise_vl, ← State.vlBk]
  exact State.turnOff_queue idle

/-- A trip of the comparator latches fault 2 within 20 µs of the channel leaving WAIT, energised or not, and fault 3 else (Table 10-6). -/
theorem vlComparatorTrip_latches (hn : n < 16) (en : (s.vlConf n).en = true) (sound : (s.vlCh n).fault = 0)
    (idle : (s.vlBk (n / 4)).queue = []) : leads (exec (.vlComparatorTrip n) s) fun t =>
      (t.vlCh n).fault = if (s.vlCh n).leftWait.any fun d => decide (tbSub s.tb d < 20) then 2 else 3 := by
  have run : exec (.vlComparatorTrip n) s = .next (((if (s.vlCh n).leftWait.any fun d => decide (tbSub s.tb d < 20)
      then s.latchVl n 2 67 (some 3) else s.latchVl n 3 69 (some 3)).settleBank (n / 4)).noteIlk) := by
    simp only [exec, execVlComparatorTrip, if_neg (show ¬n ≥ 16 by omega), en, Bool.not_true, Bool.and_false, Bool.false_eq_true,
      if_false]
    refine congrArg (fun short : Bool => Host.Outcome.next (((if short then s.latchVl n 2 67 (some 3)
      else s.latchVl n 3 69 (some 3)).settleBank (n / 4)).noteIlk)) ?_
    cases (s.vlCh n).leftWait with
    | none => exact Option.any_none.symm
    | some _ => exact Option.any_some.symm
  by_cases short : ((s.vlCh n).leftWait.any fun d => decide (tbSub s.tb d < 20)) = true
  · rw [run, if_pos short]
    exact leads_settled_noted (State.latchVl_queue idle) fun _ _ => (State.latchVl_vlCh hn sound).trans (if_pos short).symm
  · rw [run, if_neg short]
    exact leads_settled_noted (State.latchVl_queue idle) fun _ _ => (State.latchVl_vlCh hn sound).trans (if_neg short).symm

end

end Sys2Proof.Machine

/-- Settles O39: an event moves TB to its quantum where it has one, its work is on its channel and bank, and with none waiting the bank
settles its mode alone. -/
theorem valveTimingEvents : Obligations.ValveTimingEvents := by
  unfold Obligations.ValveTimingEvents
  refine ⟨fun _ _ => vlCarrierStart_begins, ?_, fun _ _ _ => regulationSample_peaks,
    fun _ _ _ hn fresh fall _ => regulationSample_holds hn fresh fall, ?_, fun _ _ => vlTboostExpiry_ends,
    fun _ _ _ => vlPiextEnd_ends, fun _ _ => vlFallTimeout_ends, fun _ => vlMeanPost_posts,
    fun _ _ _ _ => vlBankSingleReturn_returns, fun _ _ => vlBankWindow_within, fun _ _ => vlBankWindow_above,
    fun _ _ _ hn due free _ => vlDutyWindowStart_begins hn due free, fun _ _ _ => vlDutyLimitReached_holds,
    fun _ _ _ _ _ _ _ _ _ _ _ => regulationSample_regulates, fun _ _ _ _ _ _ => regulationSample_fits, ?_⟩
  · intro s n obs hn
    simp only [exec, execVlCarrierStart, execVlRegulationSample, ge_iff_le, if_pos hn]
    exact ⟨trivial, trivial⟩
  · intro s n b hn hb head slot free sound unlimited runs alone _ hd
    exact vlBoostAdmit_boosts hn hb head slot free sound unlimited runs alone hd
  · intro s n obs i r l e hn fresh boost idle awake few sought unfound hr hl h0 h1 h1000 seen hi he
    have ok : estOk r l = true := by simp [estOk, h0, h1, h1000]
    obtain ⟨t, run, ⟨still, moves, finds⟩, frame⟩ :=
      regulationSample_seeks hn fresh boost idle awake few sought unfound hr hl ok seen hi he
    exact ⟨t, run, still, moves, finds, frame⟩

/-- Refutes O40: a comparator that trips within 20 µs of its channel leaving WAIT latches fault 2 (Table 10-6), whether the channel is still
energised or not; the last clause asks fault 3 of every channel that is not. Here channel 0 left WAIT in quantum 0 and is in OFF, its
decay over, when its comparator trips in quantum 10. -/
theorem not_valveFaultEvents : ¬ Obligations.ValveFaultEvents := by
  unfold Obligations.ValveFaultEvents
  rintro ⟨-, -, -, -, -, -, -, -, resting⟩
  obtain ⟨t, run, overcurrent, -⟩ := resting { State.reset with
    phase := .run, tb := 10, vl := { ch := Vector.replicate 16 { leftWait := some 0 } }
    applied := { State.reset.applied with vl := { chans := Vector.replicate 16 { en := true } } } } 0 (by decide) rfl rfl rfl rfl
  obtain ⟨u, run', short⟩ := vlComparatorTrip_latches (s := { State.reset with
    phase := .run, tb := 10, vl := { ch := Vector.replicate 16 { leftWait := some 0 } }
    applied := { State.reset.applied with vl := { chans := Vector.replicate 16 { en := true } } } }) (n := 0) (by decide) rfl rfl rfl
  obtain rfl : t = u := by simpa using run.symm.trans run'
  exact absurd (overcurrent.symm.trans short) (by decide)
end
